-- ==== Sys2Proof/Word.lean ====
section
/-! DEFINITION. The widths the manual counts in (00, Conventions): bytes, service, slot, extent and context numbers,
48-bit frame stamps. -/
namespace Sys2Proof

/-- A byte of host memory or of a chunk. -/
abbrev Byte := BitVec 8

/-- A service, 0 to 15 (00, Services). -/
abbrev Svc := Fin 16

/-- A docket slot of one service's board, 0 to 23 (R77). -/
abbrev Slot := Fin 24

/-- An extent number, 0 to 255 (R137). -/
abbrev ExtId := Fin 256

/-- A meter context of the pool, 0 to 35 (R41). -/
abbrev CtxId := Fin 36

/-- A frame stamp as a lane message carries it (00, Frame stamps). -/
abbrev Stamp := BitVec 48

/-- Every service, lowest first. -/
def allServices : List Svc := List.finRange 16

/-- Every slot of a board, lowest first. -/
def allSlots : List Slot := List.finRange 24

/-- Every extent, lowest first. -/
def allExtents : List ExtId := List.finRange 256

/-- Every meter context, lowest first. -/
def allContexts : List CtxId := List.finRange 36

end Sys2Proof
end

