-- ==== Sys2Proof/Config.lean ====
section
/-! DEFINITION. The constants the manual fixes for the part. Its free values
are what the four bytes of an absent revision and of an absent segment id hold (R203 shows their absence elsewhere and
names no bytes; assumption 16). -/
namespace Sys2Proof.Config

/-- R192, PART_IDENT bits 0 to 15. -/
def partNumber : Nat := 1624
/-- R192, PART_IDENT bits 16 to 23; R195 step 1 compares the header's version with it. -/
def layoutVersion : Nat := 1
/-- R192, PART_IDENT bits 24 to 31. -/
def siliconRevision : Nat := 1
/-- R195: the size of the exchange area in bytes. -/
def areaBytes : Nat := 299008
/-- R126: the unit slots of the spool. -/
def spoolSlots : Nat := 1048576
/-- R119: the payload bytes of a unit. -/
def payloadBytes : Nat := 1984
/-- 00, Units: header and payload together. -/
def unitBytes : Nat := 2048
/-- R137: one extent block in bytes. -/
def blockBytes : Nat := 65536
/-- R25: the sample sets of one audio block. -/
def blockSets : Nat := 4800
/-- R49: the count limit of a context's momentary count. -/
def countLimit : Nat := 1048575
/-- R44: the absolute gate in cL. -/
def absoluteGate : Int := -7000
/-- 00, Levels: the least and the greatest reported level. -/
def levelMin : Int := -9999
def levelMax : Int := 3999
/-- R15: the largest service time. -/
def timeMax : Nat := 2 ^ 48 - 1
/-- R150: the places of a pending-mark list. -/
def markPlaces : Nat := 64
/-- R151: the segment marks of one fill. -/
def marksPerFill : Nat := 6
/-- R187: the commits after which the store refuses STORE. -/
def commitLimit : Nat := 20000
/-- R198: the failures in a row that unlink the part. -/
def failureLimit : Nat := 8
/-- R33: the reload of the write countdown. -/
def writeReload : Nat := 10

/-- The filter coefficients of section 2.2 in units of 2^-14, stage 1 (b0, b1, b2, a1, a2). -/
def stage1 : Int × Int × Int × Int × Int := (24576, -43392, 19456, -27648, 11904)
/-- The same for stage 2. -/
def stage2 : Int × Int × Int × Int × Int := (16384, -32768, 16384, -32576, 16193)

/-- FREE VALUE (assumption 16): the bytes of the adopted (field 0) or refused (field 1) revision of a live block while it
is absent, at the periodic write that finds the write count at `count`. R203 gives no absence value for them. -/
opaque absentRevision (service count field : Nat) : BitVec 32
/-- FREE VALUE (assumption 16): the bytes of the outer (layer 0) or inner (layer 1) segment id in the header of unit `seq`
of a service while its presence flag is clear. -/
opaque absentSegmentId (service seq layer : Nat) : BitVec 32

end Sys2Proof.Config
end

