-- ==== Sys2Proof/Syntax.lean ====
section
/-! DEFINITION. The commands of the block: one constructor of `Instr` for each row of spec/opcode_table.json. The table
gives the rows no operands; each constructor carries what its rule needs from outside (assumption 1). -/
namespace Sys2Proof

/-- The three letters of a caption language (R61). -/
structure Lang where
  c0 : Byte
  c1 : Byte
  c2 : Byte
  deriving DecidableEq, Repr

/-- The kind of a CAPTION message (section 1.1). -/
inductive CaptionKind where
  | text
  | clear
  | idle
  deriving DecidableEq, Repr

/-- The kind of a CUE message: START or END (section 1.1). -/
inductive CueKind where
  | start
  | finish
  deriving DecidableEq, Repr

/-- A proxy chunk as the lane delivers it (section 7.1). -/
structure Chunk where
  /-- the payload length stated by the encoder -/
  stated : BitVec 16
  payload : List Byte
  proxyStamp : Stamp
  key : Bool
  malformed : Bool
  deriving DecidableEq, Repr

/-- The sixteen service conditions in index order (R160). -/
inductive SvcCond where
  | feedLoss
  | timeFault
  | audioSilence
  | audioClip
  | shortTermExcess
  | loudnessFail
  | captionLoss
  | captionIdle
  | captionFail
  | spoolOverflow
  | extentWarning
  | recordViolation
  | recordFatal
  | docketFault
  | meterShortage
  | sheetFault
  deriving DecidableEq, Repr

/-- The three device conditions in index order (R160). -/
inductive DevCond where
  | linkFault
  | storeFault
  | storeComplete
  deriving DecidableEq, Repr

/-- A condition of one of the seventeen panels (R161). -/
inductive CondRef where
  | device (c : DevCond)
  | service (n : Svc) (c : SvcCond)
  deriving DecidableEq, Repr

/-- What the two reads of a revision and the read of the body between them returned (R176). -/
structure SheetRead where
  before : BitVec 32
  body : List Byte
  after : BitVec 32
  deriving DecidableEq, Repr

/-- What the accesses of a link step returned (R195): the header of step 1, the sixteen sheets of step 2 (`none` where a
read failed; `after` says that a read of the step completed after the last one that failed), or the report that the writes
of step 3, 4 or 6 have completed. -/
inductive LinkReport where
  | header (bytes : List Byte)
  | sheets (reads : Vector (Option SheetRead) 16) (after : Bool)
  | written
  deriving DecidableEq, Repr

/-- An access that the Exchange Controller carries for a block (R196), as ACCESS_FAILURE and ACCESS_TIMEOUT name it.
`livePiece n i` is the piece of a periodic write that stands at place i of the writes queued for service n's live block. -/
inductive AccessRef where
  | commandWord (n : Svc) (k : Slot)
  | docketBody (n : Svc) (k : Slot)
  | slotWrite (n : Svc) (k : Slot)
  | sheetRead (n : Svc)
  | ackCount (c : CondRef)
  | captureAck (n : Svc)
  | devicePriorities
  | descriptorRead
  | descriptorUpdate (x : ExtId)
  | unitWrite
  | entryWrite (c : CondRef)
  | alertCause
  | livePiece (n : Svc) (piece : Nat)
  | writeCount (n : Svc)
  | commitCount
  | linkHeader
  | linkSheet (n : Svc)
  | linkWrite
  deriving DecidableEq, Repr

/-- The accesses that have completed since the last command without a command that reports them (R198, assumption 21):
whether a read is among them, how many of the writes queued for the header and for each live block, and how many of the
present link step's writes. -/
structure Completions where
  reads : Bool
  header : Nat
  live : Vector Nat 16
  link : Nat
  deriving DecidableEq, Repr

/-- A failed access: which one, and what completed before it. -/
structure Failure where
  access : AccessRef
  done : Completions
  deriving DecidableEq, Repr

/-- The commands. The docstring of each names its row's rule. -/
inductive Instr where
  /-- FRAME (R2): a stamp and a rate code on feed lane n. -/
  | frame (n : Svc) (stamp : Stamp) (rate : BitVec 16)
  /-- AUDIO (R3): one sample set of 16 channels. -/
  | audio (n : Svc) (samples : Vector (BitVec 24) 16)
  /-- CAPTION (R61). -/
  | caption (n : Svc) (page : Byte) (lang : Lang) (kind : CaptionKind) (seq : Byte)
  /-- CUE (R90). -/
  | cue (n : Svc) (id : BitVec 16) (kind : CueKind)
  /-- LOSS (R12); `late` says that it came later than one frame period after the last FRAME. -/
  | loss (n : Svc) (late : Bool)
  /-- RESTORE (R6). -/
  | restore (n : Svc)
  /-- DISCARDED_MESSAGE (R1). -/
  | discardedMessage (n : Svc)
  /-- LOSS_TIMER_EXPIRY (R11). -/
  | lossTimerExpiry (n : Svc)
  /-- FLYWHEEL_ADVANCE (R13). -/
  | flywheelAdvance (n : Svc)
  /-- COUNT_LIMIT (R49): the pool's notice for the docket of slot k. -/
  | countLimit (n : Svc) (k : Slot)
  /-- WRITE_COUNTDOWN_EXPIRY (R33). -/
  | writeCountdownExpiry (n : Svc)
  /-- WRITE_TIMER_EXPIRY (R33). -/
  | writeTimerExpiry (n : Svc)
  /-- LIVE_BLOCK_WRITE_COUNT (R204). -/
  | liveBlockWriteCount (n : Svc)
  /-- LIVENESS_EXPIRY (R62). -/
  | livenessExpiry (n : Svc)
  /-- CONTENT_EXPIRY (R63). -/
  | contentExpiry (n : Svc)
  /-- INTEGRATION_START (R54). -/
  | integrationStart
  /-- INTEGRATION_COMPLETION (R55). -/
  | integrationCompletion
  /-- SLOT_WRITE_COMPLETE (R77): the write in flight of slot k of service n. -/
  | slotWriteComplete (n : Svc) (k : Slot)
  /-- BOARD_SWEEP (R79). -/
  | boardSweep
  /-- COMMAND_WORD_READ (R80): the word read (posting number in bits 0 to 15, command in bits 16 to 23). -/
  | commandWordRead (n : Svc) (k : Slot) (word : BitVec 32)
  /-- POSTING_VALIDATION (R82): the first 64 bytes of the slot as read. -/
  | postingValidation (n : Svc) (k : Slot) (body : List Byte)
  /-- ARRIVAL (R121). -/
  | arrival (n : Svc) (chunk : Chunk)
  /-- MOVER_TURN (R141). -/
  | moverTurn
  /-- DESCRIPTOR_UPDATE_COMPLETE (R147). -/
  | descriptorUpdateComplete (x : ExtId)
  /-- UNIT_WRITE_COMPLETE (R146). -/
  | unitWriteComplete
  /-- CAPTURE_ACK_READ (R154). -/
  | captureAckRead (n : Svc) (ack : BitVec 16)
  /-- ACK_READ (R164). -/
  | ackRead (c : CondRef) (ack : BitVec 16)
  /-- DEVICE_PRIORITY_READ (R172): the three priority bytes of the header. -/
  | devicePriorityRead (linkFault storeFault storeComplete : Byte)
  /-- REMINDER_TIMER_EXPIRY (R165). -/
  | reminderTimerExpiry (n : Svc) (c : SvcCond)
  /-- ALERT_CAUSE_WRITTEN (R168). -/
  | alertCauseWritten
  /-- SHEET_STAGING (R176). -/
  | sheetStaging (n : Svc) (read : SheetRead)
  /-- LINK (R195). -/
  | link
  /-- LINK_STEP_COMPLETE (R195). -/
  | linkStepComplete (report : LinkReport)
  /-- UNLINK (R197). -/
  | unlink
  /-- UNLINK_COMPLETE (R197). -/
  | unlinkComplete
  /-- STORE (R188) with its service mask. -/
  | store (mask : BitVec 16)
  /-- COMMIT_COMPLETE (R189). -/
  | commitComplete
  /-- DEVICE_RESET (R200). -/
  | deviceReset
  /-- BAD_COMMAND (R194): the command code written. -/
  | badCommand (code : Byte)
  /-- EXCHANGE_BASE_WRITE (R193). -/
  | exchangeBaseWrite (value : BitVec 64)
  /-- ALERT_LEVEL_WRITE (R170). -/
  | alertLevelWrite (value : BitVec 64)
  /-- REGISTER_WRITE_IGNORED (R192): the offset written in the register window. -/
  | registerWriteIgnored (offset : BitVec 16) (value : BitVec 64)
  /-- ACCESS_FAILURE (R198), with the completions before it that no command reports. -/
  | accessFailure (a : Failure)
  /-- ACCESS_TIMEOUT (R196), with the completions before it that no command reports. -/
  | accessTimeout (a : Failure)
  /-- POWER_ON (R201). -/
  | powerOn
  /-- POWER_LOSS (R189): how many masked sheets of a commit were written whole, and whether one more was being written. -/
  | powerLoss (written : Nat) (torn : Bool)
  /-- DESCRIPTOR_READ_COMPLETE (R143): the first 16 bytes of descriptor x as read. -/
  | descriptorReadComplete (x : ExtId) (fields : List Byte)
  deriving DecidableEq, Repr

end Sys2Proof
end

