-- ==== Sys2Proof/WellFormed.lean ====
section
/-! DEFINITION. Which operands the outside world can send. A command outside these bounds still has a meaning (the
meaning is total); these are the checks the layouts of 11 and the message table of section 1.1 make. -/
namespace Sys2Proof

/-- R1: a CAPTION whose page is 0 or above 8 is a discarded message. -/
def pageOk (page : Byte) : Bool := decide (1 ≤ page.toNat) && decide (page.toNat ≤ 8)

/-- R203: the absence value of a rate code is not a rate code. -/
def rateCodeOk (rate : BitVec 16) : Bool := decide (rate ≠ 0xFFFF)

/-- R202: a service sheet is 4 KiB. -/
def sheetReadOk (r : SheetRead) : Bool := decide (r.body.length = 4096)

/-- R203: the header is read as far as its device priorities. -/
def linkReportOk : LinkReport → Bool
  | .header bytes => decide (bytes.length = 32)
  | .sheets reads _ => reads.toList.all fun r => (r.map sheetReadOk).getD true
  | .written => true

/-- R194: the codes 1 to 4 are commands of their own. -/
def unknownCode (code : Byte) : Bool := decide (code.toNat = 0 ∨ 4 < code.toNat)

/-- R192: the offsets of the registers that take a write. -/
def writableOffset (offset : BitVec 16) : Bool := decide (offset = 0x08 ∨ offset = 0x10 ∨ offset = 0x20)

/-- Well-formed commands. -/
def Instr.wf : Instr → Bool
  | .frame _ _ rate => rateCodeOk rate
  | .audio _ _ => true
  | .caption _ page _ _ _ => pageOk page
  | .cue _ _ _ => true
  | .loss _ _ => true
  | .restore _ => true
  | .discardedMessage _ => true
  | .lossTimerExpiry _ => true
  | .flywheelAdvance _ => true
  | .countLimit _ _ => true
  | .writeCountdownExpiry _ => true
  | .writeTimerExpiry _ => true
  | .liveBlockWriteCount _ => true
  | .livenessExpiry _ => true
  | .contentExpiry _ => true
  | .integrationStart => true
  | .integrationCompletion => true
  | .slotWriteComplete _ _ => true
  | .boardSweep => true
  | .commandWordRead _ _ _ => true
  | .postingValidation _ _ body => decide (body.length = 64)
  | .arrival _ _ => true
  | .moverTurn => true
  | .descriptorUpdateComplete _ => true
  | .unitWriteComplete => true
  | .captureAckRead _ _ => true
  | .ackRead _ _ => true
  | .devicePriorityRead _ _ _ => true
  | .reminderTimerExpiry _ _ => true
  | .alertCauseWritten => true
  | .sheetStaging _ read => sheetReadOk read
  | .link => true
  | .linkStepComplete report => linkReportOk report
  | .unlink => true
  | .unlinkComplete => true
  | .store _ => true
  | .commitComplete => true
  | .deviceReset => true
  | .badCommand code => unknownCode code
  | .exchangeBaseWrite _ => true
  | .alertLevelWrite _ => true
  | .registerWriteIgnored offset _ => !writableOffset offset
  | .accessFailure _ => true
  | .accessTimeout _ => true
  | .powerOn => true
  | .powerLoss written _ => decide (written ≤ 16)
  | .descriptorReadComplete _ fields => decide (fields.length = 16)

end Sys2Proof
end

