-- ==== Sys2Proof/Decode.lean ====
section
/-! DEFINITION. The table gives none of its rows any bits (spec/opcode_table.json: every "fields" is empty, no row has a
mask or a width), so no word spells a command. The bits that a rule does give are those of the register window (R192): a
write of a register is the command that its offset and its bits pick. -/
namespace Sys2Proof

/-- The command that a word spells by the table's bits: none, because no row has bits. -/
def decodeTableWord (_nbits _w : Nat) : Option Instr := none

/-- R192: the command that a write of COMMAND picks by its bits 0 to 7, with bits 16 to 31 as the mask of STORE; the other
bits are ignored. -/
def decodeCommandWrite (value : BitVec 64) : Instr :=
  match (value.setWidth 8).toNat with
  | 1 => .link
  | 2 => .unlink
  | 3 => .store ((value >>> 16).setWidth 16)
  | 4 => .deviceReset
  | _ => .badCommand (value.setWidth 8)

/-- R192, R193: the command that a host write of 64 bits at an offset of the register window is. -/
def decodeRegisterWrite (offset : BitVec 16) (value : BitVec 64) : Instr :=
  match offset.toNat with
  | 0x08 => .exchangeBaseWrite value
  | 0x10 => decodeCommandWrite value
  | 0x20 => .alertLevelWrite value
  | _ => .registerWriteIgnored offset value

end Sys2Proof
end

