-- ==== Sys2Proof/Machine/State.lean ====
section
/-! DEFINITION. The state of the block as plain data: every block's state of section 00's overview, each in one top-level
field, and the machine after reset. Counts that the manual says wrap are bit vectors; stamps, sequence numbers,
energies and saturating counts are naturals; levels are integers. -/
namespace Sys2Proof.Machine

/-- Why the machine stops. -/
inductive Fault where
  /-- Raised by UNIT_WRITE_COMPLETE when the write it reports lies past the 64-bit host address space (R137 gives the
  base 64 bits). Safe: a link cannot report such a write done. -/
  | hostAddress
  deriving DecidableEq, Repr

/-- Why a command has no meaning. -/
inductive Refusal where
  /-- A command not modelled. No arm answers it. Safe. -/
  | notModelled (mnemonic : String)
  deriving DecidableEq, Repr

/-! ### Feed Receiver (chapter 1) -/

/-- The lock states of section 1.2. -/
inductive Lock where
  | seeking
  | locked
  | held
  | flywheel
  deriving DecidableEq, Repr

/-- One service's Feed Receiver (R17). -/
structure Feed where
  lock : Lock
  /-- service time, at most 2^48 - 1 (R15) -/
  time : Nat
  /-- stopped, or running with the frame rate of its reload (R11) -/
  lossTimer : Option Nat
  /-- stopped, or running with the frame rate of the present period (R13) -/
  frameTimer : Option Nat
  lineDown : Bool
  lastRate : Option (BitVec 16)
  mismatch : Bool
  lastSeq : Option Byte
  received : BitVec 32
  advances : BitVec 32
  discarded : BitVec 32
  deriving DecidableEq, Repr

/-! ### Loudness Meter (chapter 2) -/

/-- The filter state of one mix channel, in units of 2^-32 (R23): stage 1's previous inputs and outputs, the latter
also stage 2's previous inputs, and stage 2's previous outputs. -/
structure Filter where
  x1 : Int
  x2 : Int
  y1 : Int
  y2 : Int
  z1 : Int
  z2 : Int
  deriving DecidableEq, Repr

/-- An accumulator (R25). -/
structure Accumulator where
  phase : Nat
  /-- one running sum for each mix position 0 to 7 -/
  sums : List Nat
  /-- the block energies of the run, newest last, at most 30 -/
  window : List Nat
  run : Nat
  deriving DecidableEq, Repr

/-- The clip run of one mix channel (R35). -/
structure Clip where
  run : Nat
  raised : Bool
  deriving DecidableEq, Repr

/-- One service's Loudness Meter (R40). -/
structure Meter where
  filters : List Filter
  rolling : Accumulator
  curMomentary : Option Int
  curShort : Option Int
  lastMomentary : Option Int
  peaks : List Nat
  countdown : Nat
  writeTimer : Bool
  silence : Nat
  clips : List Clip
  deriving DecidableEq, Repr

/-! ### Dockets (chapters 5 and 6) -/

/-- The layers of section 5.1. -/
inductive Layer where
  | outer
  | inner
  deriving DecidableEq, Repr

/-- The classes of R77. -/
inductive SegClass where
  | programme
  | continuity
  | commercial
  | promotion
  deriving DecidableEq, Repr

/-- The start modes of R77. -/
inductive StartMode where
  | atStamp (start : Nat)
  | onCue (id : BitVec 16) (earliest latest : Nat)
  deriving DecidableEq, Repr

/-- The end modes of R77. -/
inductive EndMode where
  | atStamp (stop : Nat)
  | onCue (id : BitVec 16) (cap : Nat)
  | onNext (cap : Nat)
  deriving DecidableEq, Repr

/-- The copy of a docket's host-written body (R78, R84). -/
structure Body where
  segId : BitVec 32
  cls : SegClass
  start : StartMode
  finish : EndMode
  includeInner : Bool
  /-- target and tolerance in cL -/
  loudness : Option (Int × Int)
  /-- requirement and required permille -/
  captions : Option (Bool × Nat)
  deriving DecidableEq, Repr

/-- The states of a docket (R77). -/
inductive Standing where
  | idle
  | pending
  | armed
  | opened
  | closing
  | closed
  | refused
  | withdrawn
  deriving DecidableEq, Repr

/-- The refusal causes of R82. -/
inductive RefusalCause where
  | serviceDisabled
  | badClass
  | badMode
  | badWindow
  | tooLong
  | tooLate
  | overlap
  deriving DecidableEq, Repr

/-- The rule snapshot (R92). -/
structure Snapshot where
  target : Int
  tolerance : Int
  ceiling : Option Int
  required : Bool
  permille : Nat
  deriving DecidableEq, Repr

/-- A caption tally (R70); it counts while its docket is open and it is not paused (R71). -/
structure Tally where
  paused : Bool
  counted : Nat
  covered : Nat
  idle : Nat
  feedLoss : Nat
  discontinuities : Nat
  mismatches : Nat
  required : Bool
  permille : Nat
  deriving DecidableEq, Repr

/-- The unit counts of a docket (R104). -/
structure UnitCounts where
  received : Nat
  dropped : Nat
  first : Option Nat
  last : Option Nat
  deriving DecidableEq, Repr

/-- The verdict flags (R105). -/
structure VerdictFlags where
  late : Bool
  cueMissed : Bool
  earlyClose : Bool
  unlinkClose : Bool
  truncated : Bool
  noMeter : Bool
  mixChanged : Bool
  timeFault : Bool
  flywheel : Bool
  spanLost : Bool
  paused : Bool
  deriving DecidableEq, Repr

/-- The loudness verdicts (R58). -/
inductive LoudVerdict where
  | pass
  | high
  | low
  | short
  | unmeasured
  deriving DecidableEq, Repr

/-- The caption verdicts (R73). -/
inductive CaptionVerdict where
  | pass
  | short
  | unmeasured
  | notRequired
  deriving DecidableEq, Repr

/-- The loudness result (R58). -/
structure LoudResult where
  verdict : LoudVerdict
  integrated : Option Int
  pass1 : Option Int
  threshold : Option Int
  n1 : Nat
  n2 : Nat
  momentary : Nat
  silent : Nat
  maxMomentary : Option Int
  maxShort : Option Int
  excess : Nat
  maxima : List Nat
  deriving DecidableEq, Repr

/-- The caption result (R73): the verdict and coverage; the counts are the frozen tally's. -/
structure CaptionResult where
  verdict : CaptionVerdict
  coverage : Nat
  deriving DecidableEq, Repr

/-- A verdict (R105). -/
structure Verdict where
  posting : BitVec 16
  segId : BitVec 32
  cls : SegClass
  loudness : LoudResult
  figures : Snapshot
  captions : CaptionResult
  tally : Tally
  units : UnitCounts
  openStamp : Option Nat
  closeStamp : Option Nat
  flags : VerdictFlags
  failing : Bool
  deriving DecidableEq, Repr

/-- What a slot write carries (R77). -/
inductive SlotContent where
  | standing (state : Standing) (posting : BitVec 16)
  | cause (c : RefusalCause)
  | verdict (v : Verdict)
  deriving DecidableEq, Repr

/-- A write of a slot, and whether it has become owed (R77). -/
structure SlotWrite where
  content : SlotContent
  owed : Bool
  deriving DecidableEq, Repr

/-- A docket list entry (R78). -/
structure Entry where
  posting : BitVec 16
  state : Standing
  /-- the command word as last read at a sweep -/
  lastWord : Option (BitVec 32)
  /-- the fault mark of R81 -/
  mark : Option (BitVec 16)
  /-- a posting accepted for validation whose body is being read (R79) -/
  validating : Option (BitVec 16)
  body : Option Body
  snapshot : Option Snapshot
  context : Option CtxId
  tally : Tally
  units : UnitCounts
  flags : VerdictFlags
  openStamp : Option Nat
  closeStamp : Option Nat
  /-- the slot's writes, in order; the first is in flight when `handed` -/
  writes : List SlotWrite
  handed : Bool
  /-- a write of the slot has failed twice in this unlink: it and every later write of the slot are dropped (R77) -/
  dropped : Bool
  deriving DecidableEq, Repr

/-- A pinned range (R113). -/
structure Pin where
  slot : Slot
  posting : BitVec 16
  first : Nat
  last : Nat
  deriving DecidableEq, Repr

/-- One service's Segment Scheduler (R78, R102). -/
structure Sched where
  entries : Vector Entry 24
  openOuter : Option Slot
  openInner : Option Slot
  unmatched : BitVec 32
  pins : List Pin
  deriving DecidableEq, Repr

/-! ### Meter contexts (chapter 3) -/

/-- The states of a context (R41). -/
inductive CtxState where
  | free
  | accumulating
  | paused
  | closing
  | integrating
  deriving DecidableEq, Repr

/-- The owner part of a context. -/
structure Owner where
  service : Svc
  slot : Slot
  posting : BitVec 16
  deriving DecidableEq, Repr

/-- The judging figures taken at close (R53). -/
structure CloseFigures where
  gate : Int
  minCount : Nat
  calibration : Int
  deriving DecidableEq, Repr

/-- A bin of the histogram that holds a count (R45). -/
structure Bin where
  index : Nat
  count : Nat
  energy : Nat
  deriving DecidableEq, Repr

/-- A meter context (section 3.1). The histogram lists the bins that hold a count, in rising order; the other bins of
the 750 hold count 0 and energy 0. -/
structure Context where
  owner : Option Owner
  state : CtxState
  acc : Accumulator
  target : Int
  tolerance : Int
  ceiling : Option Int
  figures : Option CloseFigures
  momentary : Nat
  silent : Nat
  maxMomentary : Option Int
  maxShort : Option Int
  excess : Nat
  above : Bool
  maxima : List Nat
  histogram : List Bin
  deriving DecidableEq, Repr

/-- The Integration Unit (R54): its queue, oldest close first, and the context it works on with the result formed. -/
structure Integ where
  queue : List CtxId
  busy : Option (CtxId × LoudResult)
  deriving DecidableEq, Repr

/-! ### Caption Watch (chapter 4) -/

inductive CapState where
  | lost
  | idle
  | live
  deriving DecidableEq, Repr

/-- The source of the requirement in force (R68). -/
inductive ReqSource where
  | unscheduled
  | outer
  | inner
  deriving DecidableEq, Repr

/-- One service's Caption Watch (section 4.1). -/
structure Caption where
  state : CapState
  liveness : Nat
  content : Nat
  lastSeq : Option Byte
  required : Bool
  source : ReqSource
  accepted : BitVec 32
  mismatches : BitVec 32
  discontinuities : BitVec 32
  deriving DecidableEq, Repr

/-! ### Proxy Port and Spool (chapter 7) -/

/-- The live conditions a unit header carries (R124). -/
structure LiveBits where
  feedLoss : Bool
  audioSilence : Bool
  captionLoss : Bool
  captionIdle : Bool
  recordFatal : Bool
  deriving DecidableEq, Repr

/-- A unit header (R122 to R124). -/
structure UnitHeader where
  service : Svc
  seq : Nat
  time : Option Nat
  proxyStamp : Stamp
  length : Nat
  key : Bool
  cut : Bool
  flywheel : Bool
  held : Bool
  outerId : Option (BitVec 32)
  innerId : Option (BitVec 32)
  level : Option Int
  caption : CapState
  required : Bool
  live : LiveBits
  deriving DecidableEq, Repr

/-- A unit: its header and its 1,984 payload bytes (R119). -/
structure SpoolUnit where
  header : UnitHeader
  payload : List Byte
  deriving DecidableEq, Repr

/-- One service's Proxy Port and spool queue (R135). -/
structure Proxy where
  /-- the unit sequence counter, also the received count (R120) -/
  seq : Nat
  /-- the spool queue, head first -/
  queue : List SpoolUnit
  archived : Nat
  dropped : Nat
  spoolFull : Nat
  truncated : BitVec 32
  discardedChunks : BitVec 32
  overflow : Bool
  deriving DecidableEq, Repr

/-! ### Archive Mover (chapter 8) -/

inductive RecState where
  | ready
  | recording
  | stalled
  deriving DecidableEq, Repr

inductive MarkKind where
  | start
  | finish
  deriving DecidableEq, Repr

/-- A mark request (R150). -/
structure MarkRequest where
  seq : Nat
  kind : MarkKind
  segId : BitVec 32
  slot : Slot
  deriving DecidableEq, Repr

inductive ViolationKind where
  | badExtent
  | ownerConflict
  | noWritableExtent
  deriving DecidableEq, Repr

/-- A violation capture (R154). -/
structure Capture where
  kind : ViolationKind
  extent : Option ExtId
  generation : BitVec 32
  other : Option Svc
  time : Option Nat
  firstLeft : Option Nat
  deriving DecidableEq, Repr

/-- One service's recorder (R141, R150, R154, R158). -/
structure Recorder where
  state : RecState
  current : Option ExtId
  cursor : Option ExtId
  /-- a block boundary whose re-read has not yet succeeded (R148) -/
  boundary : Bool
  /-- the extent whose descriptor update is owed (R147) -/
  owed : Option ExtId
  marks : List MarkRequest
  lostMarks : Nat
  stalls : BitVec 32
  opened : BitVec 32
  capture : Option Capture
  captureNo : BitVec 16
  acked : Bool
  since : Nat
  /-- the chain and the recorder policy as the latest walk began with them (R139) -/
  walkChain : List ExtId
  walkOverwrite : Bool
  deriving DecidableEq, Repr

inductive ExtState where
  | blank
  | filling
  | full
  deriving DecidableEq, Repr

inductive CloseCause where
  | filled
  | hold
  | draining
  | moved
  | unlink
  deriving DecidableEq, Repr

/-- A segment mark in an extent (R151). -/
structure SegMark where
  segId : BitVec 32
  offset : Nat
  slot : Slot
  kind : MarkKind
  deriving DecidableEq, Repr

/-- An extent record (R138) with the fill's latched base and size code (R145) and last-block mark (R152). -/
structure Extent where
  state : ExtState
  owner : Option Svc
  generation : BitVec 32
  units : Nat
  first : Option Nat
  last : Option Nat
  firstStamp : Option Nat
  lastStamp : Option Nat
  cause : Option CloseCause
  marks : List SegMark
  overflowed : Bool
  base : Nat
  code : Nat
  lastBlock : Bool
  deriving DecidableEq, Repr

/-- A descriptor update in flight: the record as handed, and whether it is the last try of an unlink (R157). -/
structure DescUpdate where
  extent : ExtId
  record : Extent
  again : Bool
  deriving DecidableEq, Repr

/-- What the Mover is at (R141): the service it serves and the access it waits for. -/
inductive MoverWork where
  /-- free to start a turn -/
  | idle
  /-- step 1 of a turn: the owed update of x -/
  | owedUpdate (n : Svc) (x : ExtId)
  /-- reading x again at a block boundary; `resume` when it is step 2 of a turn -/
  | boundaryRead (n : Svc) (x : ExtId) (resume : Bool)
  /-- a walk (R143) or re-test (R153) reading x, with the entries after it and the policy at its beginning -/
  | walk (n : Svc) (retest : Bool) (overwrite : Bool) (x : ExtId) (rest : List ExtId)
  /-- the descriptor update of an opening (R145) -/
  | openUpdate (n : Svc) (x : ExtId) (retest : Bool)
  /-- the last-block test (R152) of the fill of x reading y; `write` when the turn goes on to write -/
  | lastBlock (n : Svc) (x : ExtId) (y : ExtId) (rest : List ExtId) (found : Bool) (write : Bool)
  /-- step 4 of a turn: the head unit's write -/
  | unitWrite (n : Svc)
  /-- the update at a block boundary (R148) -/
  | boundaryUpdate (n : Svc) (x : ExtId)
  /-- the update at a close (R149) -/
  | closeUpdate (n : Svc) (x : ExtId)
  deriving DecidableEq, Repr

/-- The Mover's shared state (R140, R153, R196). -/
structure Mover where
  pointer : Option Svc
  work : MoverWork
  retests : List Svc
  updates : List DescUpdate
  /-- while UNLINKING: the descriptor whose read was in flight at the entry and has not ended -/
  late : Option ExtId
  deriving DecidableEq, Repr

/-! ### Conditions and alerts (chapter 9) -/

/-- A condition entry (R161) with its reminder timer (R165). -/
structure CondEntry where
  live : Bool
  raises : BitVec 16
  announced : BitVec 16
  acked : BitVec 16
  mark : Bool
  first : Option Nat
  last : Option Nat
  /-- stopped, or running with the interval it was loaded with, in seconds -/
  timer : Option Nat
  /-- a write of the entry has failed and none is queued (R171) -/
  owed : Bool
  deriving DecidableEq, Repr

/-- An alert in progress (R168): its level and the set it covers with the raise counts noted at its choice. -/
structure AlertRun where
  level : Nat
  cause : CondRef
  covered : List (CondRef × BitVec 16)
  /-- step 2: the entries whose writes were owed at the choice and have not completed since -/
  waits : List CondRef
  deriving DecidableEq, Repr

/-- The Alert Unit (R168 to R170, R174) and the messages it has sent, oldest first. -/
structure Alert where
  level : BitVec 3
  number : BitVec 16
  causeLevel : Nat
  causePanel : Nat
  causeIndex : Nat
  progress : Option AlertRun
  abandoned : Bool
  sent : List Nat
  deriving DecidableEq, Repr

/-! ### Sheets and the store (chapter 10) -/

structure MixChannel where
  feed : Fin 16
  weight : Nat
  deriving DecidableEq, Repr

structure ClassRule where
  target : Int
  tolerance : Int
  ceiling : Option Int
  required : Bool
  permille : Nat
  minCount : Nat
  deriving DecidableEq, Repr

/-- A sheet in the form in which it is adopted (section 10.1). -/
structure Sheet where
  revision : BitVec 32
  enable : Bool
  rate : Nat
  mix : List MixChannel
  calibration : Int
  gate : Int
  silenceThreshold : Int
  silenceHold : Nat
  clipRun : Nat
  programme : ClassRule
  continuity : ClassRule
  commercial : ClassRule
  promotion : ClassRule
  lateAllowance : Nat
  page : Nat
  lang : Lang
  livenessWindow : Nat
  contentWindow : Nat
  unscheduled : Bool
  overwrite : Bool
  chain : List ExtId
  quota : Nat
  priorities : Vector Nat 16
  reminder : Nat
  deriving DecidableEq, Repr

inductive SheetSource where
  | stored
  | factory
  | host
  deriving DecidableEq, Repr

inductive SheetCause where
  | badRate
  | badMixCount
  | badMixChannel
  | badChain
  | badQuota
  | quotaSum
  deriving DecidableEq, Repr

/-- The Sheet Unit of one service (R175, R186). -/
structure SheetUnit where
  adopted : Sheet
  source : SheetSource
  lastTaken : Option (BitVec 32)
  refused : Option (BitVec 32)
  cause : Option SheetCause
  clamped : Bool
  deriving DecidableEq, Repr

/-- A stored sheet and whether it passes its check word (R187). -/
structure Stored where
  sheet : Sheet
  good : Bool
  deriving DecidableEq, Repr

/-- A commit in progress: the masked services, lowest first, and the commit copy (R188). -/
structure Commit where
  services : List Svc
  copies : Vector Sheet 16
  deriving DecidableEq, Repr

/-- The Profile Store (R187); it is COMMITTING while `commit` is present. -/
structure Store where
  stored : Vector Stored 16
  commits : Nat
  commit : Option Commit
  deriving DecidableEq, Repr

/-! ### Exchange Controller (chapter 11) -/

inductive LinkState where
  | unlinked
  | linking
  | linked
  | unlinking
  deriving DecidableEq, Repr

/-- The steps of R195 that wait for accesses: 1, 2, 3, 4 and 6. -/
inductive LinkStep where
  | header
  | sheets
  | standings
  | descriptors
  | entries
  deriving DecidableEq, Repr

/-- Command results (R192). -/
inductive CmdResult where
  | accepted
  | busy
  | badState
  | badBase
  | badLayout
  | worn
  deriving DecidableEq, Repr

structure Ctl where
  link : LinkState
  step : LinkStep
  /-- services whose sheet read has failed in the present step 2 (R185) -/
  failedSheets : List Svc
  base : BitVec 64
  cmd : Byte
  result : CmdResult
  mask : BitVec 16
  faultMark : Bool
  consecutive : Nat
  total : Nat
  windowBase : Nat
  windowSize : Nat
  /-- how many writes of the present link step have completed (R195) -/
  stepDone : Nat
  deriving DecidableEq, Repr

/-- Bytes to be written from an address on. -/
structure Piece where
  addr : Nat
  bytes : List Byte
  deriving DecidableEq, Repr

/-- A write queued for a service's live block (R171, R196, R204). -/
inductive LiveItem where
  /-- fields that a block handed for a periodic write -/
  | fields (p : Piece)
  /-- a condition entry, with its fields as they stand when it is written; `part` when it is a piece of a periodic write,
  `due` when a change of the entry or a failed write of it waits for it -/
  | entry (c : SvcCond) (part due : Bool)
  /-- no write: the end of the pieces of a periodic write; `whole` while none of them has failed -/
  | mark (whole : Bool)
  /-- the write count -/
  | count (v : BitVec 32)
  /-- the write of a condition entry in flight at the entry to UNLINKING, with the fields it carries (R173, R196) -/
  | late (c : SvcCond) (ps : List Piece)
  deriving DecidableEq, Repr

/-- One service's live block (R204): the write count, and the writes queued for the record in the order in which they were
handed (R196). -/
structure LiveWrite where
  count : BitVec 32
  queue : List LiveItem
  deriving DecidableEq, Repr

/-- A write queued for the header (R171, R204): a device condition entry, with its fields as they stand when it is written,
or the commit count, or an alert cause. -/
inductive HeaderItem where
  | entry (c : DevCond)
  | commit (v : Nat)
  /-- the cause write of the alert in progress, handed when step 2 of R168 has no entry write left; ALERT_CAUSE_WRITTEN reports
  it (assumption 7) -/
  | alert
  /-- the write of an entry in flight at the entry to UNLINKING, with the fields it carries (R173, R196) -/
  | late (c : DevCond) (ps : List Piece)
  /-- the write of the cause of an alert abandoned at the entry to UNLINKING, in flight there (R169, R196) -/
  | cause (p : Piece)
  deriving DecidableEq, Repr

/-- The bytes that the block has written into host memory, addresses strictly rising. -/
abbrev Memory := List Host.Cell

/-- The state of the block. -/
structure State where
  /-- the part has power -/
  powered : Bool
  ctl : Ctl
  feed : Vector Feed 16
  meter : Vector Meter 16
  caption : Vector Caption 16
  sched : Vector Sched 16
  pool : Vector Context 36
  integ : Integ
  proxy : Vector Proxy 16
  recorder : Vector Recorder 16
  extents : Vector Extent 256
  mover : Mover
  panel : Vector (Vector CondEntry 16) 16
  devPanel : Vector CondEntry 3
  devPriority : Vector Nat 3
  alert : Alert
  sheet : Vector SheetUnit 16
  store : Store
  live : Vector LiveWrite 16
  /-- the writes queued for the header, in the order in which they were handed (R196) -/
  header : List HeaderItem
  host : Memory
  /-- the commands that wait, first in first out -/
  pending : List Instr
  deriving DecidableEq, Repr

/-! ### Reset values -/

/-- R17. -/
def Feed.reset : Feed :=
  { lock := .seeking, time := 0, lossTimer := none, frameTimer := none, lineDown := false, lastRate := none,
    mismatch := false, lastSeq := none, received := 0, advances := 0, discarded := 0 }

/-- R23: a zero filter state. -/
def Filter.zero : Filter := ⟨0, 0, 0, 0, 0, 0⟩

/-- One zero for each mix position. -/
def zeros8 : List Nat := List.replicate 8 0

/-- R28, R37: an accumulator at the start of a run. -/
def Accumulator.fresh : Accumulator := { phase := 0, sums := zeros8, window := [], run := 0 }

/-- R40. -/
def Meter.reset : Meter :=
  { filters := List.replicate 8 Filter.zero, rolling := Accumulator.fresh, curMomentary := none, curShort := none,
    lastMomentary := none, peaks := zeros8, countdown := Config.writeReload, writeTimer := true, silence := 0,
    clips := List.replicate 8 ⟨0, false⟩ }

/-- R70: a tally with every count at 0. -/
def Tally.zero : Tally := ⟨false, 0, 0, 0, 0, 0, 0, false, 0⟩

/-- R104: unit counts at an opening. -/
def UnitCounts.zero : UnitCounts := ⟨0, 0, none, none⟩

/-- No flag. -/
def VerdictFlags.none : VerdictFlags := ⟨false, false, false, false, false, false, false, false, false, false, false⟩

/-- R100: an entry as LINK sets it up. -/
def Entry.fresh : Entry :=
  { posting := 0, state := .idle, lastWord := none, mark := none, validating := none, body := none, snapshot := none,
    context := none, tally := Tally.zero, units := UnitCounts.zero, flags := VerdictFlags.none, openStamp := none,
    closeStamp := none, writes := [], handed := false, dropped := false }

/-- R102. -/
def Sched.reset : Sched :=
  { entries := Vector.replicate 24 Entry.fresh, openOuter := none, openInner := none, unmatched := 0, pins := [] }

/-- R59: a FREE context. What its other parts hold until the next claim sets them up is the model's choice (assumption 29). -/
def Context.free : Context :=
  { owner := none, state := .free, acc := Accumulator.fresh, target := 0, tolerance := 0, ceiling := none,
    figures := none, momentary := 0, silent := 0, maxMomentary := none, maxShort := none, excess := 0, above := false,
    maxima := zeros8, histogram := [] }

/-- R75, with the requirement taken from the sheet. -/
def Caption.reset (sh : Sheet) : Caption :=
  { state := .lost, liveness := 0, content := 0, lastSeq := none, required := sh.enable && sh.unscheduled,
    source := .unscheduled, accepted := 0, mismatches := 0, discontinuities := 0 }

/-- R135. -/
def Proxy.reset : Proxy :=
  { seq := 0, queue := [], archived := 0, dropped := 0, spoolFull := 0, truncated := 0, discardedChunks := 0,
    overflow := false }

/-- R158. -/
def Recorder.reset : Recorder :=
  { state := .ready, current := none, cursor := none, boundary := false, owed := none, marks := [], lostMarks := 0,
    stalls := 0, opened := 0, capture := none, captureNo := 0, acked := true, since := 0,
    walkChain := [], walkOverwrite := false }

/-- R156, R158: a BLANK record. -/
def Extent.blank : Extent :=
  { state := .blank, owner := none, generation := 0, units := 0, first := none, last := none, firstStamp := none,
    lastStamp := none, cause := none, marks := [], overflowed := false, base := 0, code := 0, lastBlock := false }

/-- R158. -/
def Mover.reset : Mover := { pointer := none, work := .idle, retests := [], updates := [], late := none }

/-- R174. -/
def CondEntry.reset : CondEntry :=
  { live := false, raises := 0, announced := 0, acked := 0, mark := false, first := none, last := none, timer := none,
    owed := false }

/-- A live-type entry that has gone live and been raised once in SEEKING (R69 at reset, R162). -/
def CondEntry.raisedAtReset : CondEntry := { CondEntry.reset with live := true, raises := 1 }

/-- R174, R69: a service panel after reset; CAPTION_LOSS, index 6, is live where captions are required. -/
def panelReset (required : Bool) : Vector CondEntry 16 :=
  (Vector.replicate 16 CondEntry.reset).set 6 (if required then CondEntry.raisedAtReset else CondEntry.reset)

/-- R174, with the messages sent so far. -/
def Alert.reset (sent : List Nat) : Alert :=
  { level := 0, number := 0, causeLevel := 0, causePanel := 0, causeIndex := 0, progress := none, abandoned := false,
    sent := sent }

/-- R204. -/
def LiveWrite.reset : LiveWrite := { count := 0, queue := [] }

/-- R201. -/
def Ctl.reset : Ctl :=
  { link := .unlinked, step := .header, failedSheets := [], base := 0, cmd := 0, result := .accepted, mask := 0,
    faultMark := false, consecutive := 0, total := 0, windowBase := 0, windowSize := 0, stepDone := 0 }

/-- R191. -/
def factorySheet : Sheet :=
  { revision := 0, enable := true, rate := 25, mix := [⟨0, 256⟩, ⟨1, 256⟩], calibration := -69, gate := 1000,
    silenceThreshold := -6000, silenceHold := 100, clipRun := 3,
    programme := ⟨-2300, 100, none, true, 980, 30⟩, continuity := ⟨-2300, 100, none, false, 980, 30⟩,
    commercial := ⟨-2300, 100, some (-1800), false, 980, 30⟩, promotion := ⟨-2300, 100, some (-1800), false, 980, 30⟩,
    lateAllowance := 50, page := 1, lang := ⟨0x75, 0x6E, 0x64⟩, livenessWindow := 50, contentWindow := 750,
    unscheduled := true, overwrite := false, chain := [], quota := 65536, priorities := Vector.replicate 16 4,
    reminder := 0 }

/-- R190: the Sheet Unit after a good load of sh. -/
def SheetUnit.loaded (sh : Sheet) : SheetUnit :=
  { adopted := sh, source := .stored, lastTaken := none, refused := none, cause := none, clamped := false }

/-- R187: the store as the part leaves manufacture. -/
def Store.factory : Store := { stored := Vector.replicate 16 ⟨factorySheet, true⟩, commits := 0, commit := none }

/-- The machine right after reset (R201): power-on of a part as it leaves manufacture, nothing waiting. -/
def State.reset : State :=
  { powered := true, ctl := Ctl.reset, feed := Vector.replicate 16 Feed.reset, meter := Vector.replicate 16 Meter.reset,
    caption := Vector.replicate 16 (Caption.reset factorySheet), sched := Vector.replicate 16 Sched.reset,
    pool := Vector.replicate 36 Context.free, integ := ⟨[], none⟩, proxy := Vector.replicate 16 Proxy.reset,
    recorder := Vector.replicate 16 Recorder.reset, extents := Vector.replicate 256 Extent.blank, mover := Mover.reset,
    panel := Vector.replicate 16 (panelReset true), devPanel := Vector.replicate 3 CondEntry.reset,
    devPriority := Vector.replicate 3 4, alert := Alert.reset [],
    sheet := Vector.replicate 16 (SheetUnit.loaded factorySheet), store := Store.factory,
    live := Vector.replicate 16 LiveWrite.reset, header := [], host := [], pending := [] }

end Sys2Proof.Machine
end

