-- ==== Sys2Proof/Machine/Ops.lean ====
section
/-! DEFINITION. The named operations over the state: updates of one element of a block, saturating counts, byte order,
host memory, and the gate that a command needs power. -/
namespace Sys2Proof.Machine

/-! ### One element of a vector -/

/-- The vector with its element i changed by f. -/
def upd {α : Type} {k : Nat} (v : Vector α k) (i : Fin k) (f : α → α) : Vector α k := v.set i (f v[i])

/-! ### Updates of one part of the state -/

def State.modCtl (s : State) (f : Ctl → Ctl) : State := { s with ctl := f s.ctl }
def State.modFeed (s : State) (n : Svc) (f : Feed → Feed) : State := { s with feed := upd s.feed n f }
def State.modMeter (s : State) (n : Svc) (f : Meter → Meter) : State := { s with meter := upd s.meter n f }
def State.modCaption (s : State) (n : Svc) (f : Caption → Caption) : State := { s with caption := upd s.caption n f }
def State.modSched (s : State) (n : Svc) (f : Sched → Sched) : State := { s with sched := upd s.sched n f }
def State.modPool (s : State) (c : CtxId) (f : Context → Context) : State := { s with pool := upd s.pool c f }
def State.modInteg (s : State) (f : Integ → Integ) : State := { s with integ := f s.integ }
def State.modProxy (s : State) (n : Svc) (f : Proxy → Proxy) : State := { s with proxy := upd s.proxy n f }
def State.modRecorder (s : State) (n : Svc) (f : Recorder → Recorder) : State :=
  { s with recorder := upd s.recorder n f }
def State.modExtent (s : State) (x : ExtId) (f : Extent → Extent) : State := { s with extents := upd s.extents x f }
def State.modMover (s : State) (f : Mover → Mover) : State := { s with mover := f s.mover }
def State.modPriorities (s : State) (f : Vector Nat 3 → Vector Nat 3) : State := { s with devPriority := f s.devPriority }
def State.modAlert (s : State) (f : Alert → Alert) : State := { s with alert := f s.alert }
def State.modSheet (s : State) (n : Svc) (f : SheetUnit → SheetUnit) : State := { s with sheet := upd s.sheet n f }
def State.modStore (s : State) (f : Store → Store) : State := { s with store := f s.store }
def State.modLive (s : State) (n : Svc) (f : LiveWrite → LiveWrite) : State := { s with live := upd s.live n f }

def State.modHeader (s : State) (f : List HeaderItem → List HeaderItem) : State := { s with header := f s.header }

/-- The docket list entry of slot k of service n. -/
def State.entry (s : State) (n : Svc) (k : Slot) : Entry := s.sched[n].entries[k]

def State.modEntry (s : State) (n : Svc) (k : Slot) (f : Entry → Entry) : State :=
  s.modSched n fun c => { c with entries := upd c.entries k f }

/-- The adopted sheet of service n (R175). -/
def State.sheetOf (s : State) (n : Svc) : Sheet := s.sheet[n].adopted

/-! ### The gate of power and the gate of the link -/

/-- A command has its effect while the part has power (assumption 12). -/
def onPower (s : State) (effect : State → State) : Host.Outcome State Fault Refusal :=
  if s.powered then .next (effect s) else .next s

/-- R196: the link states in which the controller carries the blocks' writes after LINKING. -/
def State.carries (s : State) : Bool := s.ctl.link = .linked || s.ctl.link = .unlinking

/-- The part is LINKED. -/
def State.isLinked (s : State) : Bool := s.ctl.link = .linked

/-- R198: a completed access. -/
def State.accessDone (s : State) : State := s.modCtl fun c => { c with consecutive := 0 }

/-- A read that a sweep, a staging or the Mover made has completed: it ends a row of failures, and while LINKED it has its
effect. While UNLINKING it is one that was in flight at the entry, and no block acts on it (R79, R197). -/
def State.onRead (s : State) (effect : State → State) : State :=
  if s.isLinked then effect s.accessDone else if s.carries then s.accessDone else s

/-! ### Counts -/

/-- One more, saturating at top. -/
def satInc (top n : Nat) : Nat := if n < top then n + 1 else n

/-- The 32-bit saturating counts of R67, R70, R104 and R150. -/
def sat32 (n : Nat) : Nat := satInc 4294967295 n

/-- x held between lo and hi. -/
def clampInt (lo hi x : Int) : Int := if x < lo then lo else if hi < x then hi else x
def clampNat (lo hi x : Nat) : Nat := if x < lo then lo else if hi < x then hi else x

/-! ### Byte order (R203: little-endian, signed fields two's complement) -/

/-- The w bytes of v, least significant first. -/
def le : Nat → Nat → List Byte
  | 0, _ => []
  | w + 1, v => BitVec.ofNat 8 v :: le w (v / 256)

/-- The w bytes of a signed value. -/
def leInt (w : Nat) (v : Int) : List Byte := le w (v % (256 ^ w : Nat)).toNat

/-- The value of little-endian bytes. -/
def ofLe : List Byte → Nat
  | [] => 0
  | b :: bs => b.toNat + 256 * ofLe bs

/-- The value of the w bytes at an offset of a record; bytes past its end read 0. -/
def field (bytes : List Byte) (offset w : Nat) : Nat := ofLe ((bytes.drop offset).take w)

/-- The signed 16-bit value at an offset of a record. -/
def fieldInt16 (bytes : List Byte) (offset : Nat) : Int := (BitVec.ofNat 16 (field bytes offset 2)).toInt

/-- w zero bytes. -/
def zeroBytes (w : Nat) : List Byte := List.replicate w 0

/-- R203: an optional level, 16-bit signed, absent as -32768. -/
def levelBytes (v : Option Int) : List Byte := leInt 2 (v.getD (-32768))
/-- R203: an optional stamp or sequence number, 64-bit, absent as all ones. -/
def stampBytes (v : Option Nat) : List Byte := le 8 (v.getD 0xFFFFFFFFFFFFFFFF)
/-- R203: an optional slot, extent, service, rate code or caption sequence in a 16-bit field, absent as 0xFFFF. -/
def shortBytes (v : Option Nat) : List Byte := le 2 (v.getD 0xFFFF)
/-- A mark byte: 1 set, 0 clear. -/
def boolByte (b : Bool) : Byte := if b then 1 else 0

/-! ### Host memory as the block has written it -/

/-- The byte at an address, if the block has written it. -/
def Memory.read (m : Memory) (a : Nat) : Option Byte := List.lookup a m

/-- The memory with byte b at address a. -/
def Memory.write : Memory → Nat → Byte → Memory
  | [], a, b => [(a, b)]
  | (a', b') :: m, a, b =>
    if a < a' then (a, b) :: (a', b') :: m
    else if a = a' then (a, b) :: m
    else (a', b') :: Memory.write m a b

/-- The memory with bytes from an address on. -/
def Memory.writeBytes (m : Memory) (a : Nat) : List Byte → Memory
  | [] => m
  | b :: bs => Memory.writeBytes (Memory.write m a b) (a + 1) bs

/-- The memory with pieces written in their order. -/
def Memory.writePieces (m : Memory) : List Piece → Memory
  | [] => m
  | p :: ps => Memory.writePieces (Memory.writeBytes m p.addr p.bytes) ps

/-- The canonical form: addresses strictly rising. -/
def Memory.wf : Memory → Bool
  | [] => true
  | [_] => true
  | c :: d :: m => decide (c.1 < d.1) && Memory.wf (d :: m)

/-- R196: a write reaches host memory. -/
def State.land (s : State) (ps : List Piece) : State := { s with host := s.host.writePieces ps }

/-- The host address of an offset of the exchange area (R202). -/
def State.area (s : State) (offset : Nat) : Nat := s.ctl.base.toNat + offset

/-! ### Service time as other blocks read it (R15) -/

/-- The service's time, absent in SEEKING (R122, R154, R162). -/
def State.stampOf (s : State) (n : Svc) : Option Nat := if s.feed[n].lock = .seeking then none else some s.feed[n].time

end Sys2Proof.Machine
end

