-- ==== Sys2Proof/Machine/Audio.lean ====
section
/-! DEFINITION. The arithmetic of measurement: the weighting filter, sample squares, blocks, momentary and short-term
values, levels (sections 2.2 to 2.4). -/
namespace Sys2Proof.Machine

/-! ### The weighting filter (R21 to R24) -/

/-- R22: a multiple of 2^-46 rounded to the nearest multiple of 2^-32, halves away from zero. -/
def roundAway (e : Int) : Int := if 0 ≤ e then (e + 8192) / 16384 else -((-e + 8192) / 16384)

/-- R22: clamped to -16 up to 16 - 2^-32, in units of 2^-32. -/
def clampOutput (y : Int) : Int := clampInt (-2 ^ 36) (2 ^ 36 - 1) y

/-- R21, R22: one stage's stored output; the exact sum is in units of 2^-46. -/
def stageOutput (c : Int × Int × Int × Int × Int) (x x1 x2 y1 y2 : Int) : Int :=
  clampOutput (roundAway (c.1 * x + c.2.1 * x1 + c.2.2.1 * x2 - c.2.2.2.1 * y1 - c.2.2.2.2 * y2))

/-- R21: the filter moved on by one sample; its stage 2 output is `z1` of the new state. -/
def Filter.step (f : Filter) (sample : BitVec 24) : Filter :=
  let x := sample.toInt * 512
  let y := stageOutput Config.stage1 x f.x1 f.x2 f.y1 f.y2
  let z := stageOutput Config.stage2 y f.y1 f.y2 f.z1 f.z2
  { x1 := x, x2 := f.x1, y1 := y, y2 := f.y1, z1 := z, z2 := f.z1 }

/-- R24: the square of a stage 2 output in whole units of 2^-40. -/
def sampleSquare (z : Int) : Nat := (z * z).toNat / 2 ^ 24

/-- R32: the magnitude of a raw sample. -/
def magnitude (sample : BitVec 24) : Nat := sample.toInt.natAbs

/-- R35: a full-scale sample. -/
def fullScale (sample : BitVec 24) : Bool := sample = 0x7FFFFF || sample = 0x800000

/-- R19: the raw sample of each mix position 0 to 7, `none` at positions that the mix does not name. -/
def mixSamples (mix : List MixChannel) (samples : Vector (BitVec 24) 16) : List (Option (BitVec 24)) :=
  (List.range 8).map fun i => (mix[i]?).map fun c => samples[c.feed]

/-- The filters moved on by one sample set. -/
def stepFilters (raw : List (Option (BitVec 24))) (fs : List Filter) : List Filter :=
  List.zipWith (fun r f => match r with | some x => Filter.step f x | none => f) raw fs

/-- R24: the sample squares of a set, from the filters after it; 0 at positions outside the mix. -/
def setSquares (raw : List (Option (BitVec 24))) (fs : List Filter) : List Nat :=
  List.zipWith (fun r f => match r with | some _ => sampleSquare f.z1 | none => 0) raw fs

/-- The magnitudes of a set, 0 at positions outside the mix. -/
def setMagnitudes (raw : List (Option (BitVec 24))) : List Nat :=
  raw.map fun r => match r with | some x => magnitude x | none => 0

/-! ### Accumulators (R25 to R28) -/

/-- R26: the block energy: each channel's term floored on its own. -/
def blockEnergy (mix : List MixChannel) (sums : List Nat) : Nat :=
  (List.zipWith (fun c sum => sum / Config.blockSets * c.weight / 256) mix sums).sum

/-- R26: a block energy appended to the window, which holds the newest 30. -/
def pushWindow (window : List Nat) (b : Nat) : List Nat :=
  if window.length < 30 then window ++ [b] else window.drop 1 ++ [b]

/-- R25: a sample set taken, before any completion of its block. -/
def Accumulator.take (a : Accumulator) (squares : List Nat) : Accumulator :=
  { a with phase := a.phase + 1, sums := List.zipWith (· + ·) a.sums squares }

/-- R25: the block is complete at its 4,800th set. -/
def Accumulator.blockFull (a : Accumulator) : Bool := Config.blockSets ≤ a.phase

/-- R25, R26: a completed block. -/
def Accumulator.completeBlock (mix : List MixChannel) (a : Accumulator) : Accumulator :=
  { phase := 0, sums := zeros8, window := pushWindow a.window (blockEnergy mix a.sums),
    run := satInc 4294967295 a.run }

/-- R27: the momentary energy, once the run holds 4 blocks. -/
def Accumulator.momentary (a : Accumulator) : Option Nat :=
  if 4 ≤ a.run then some ((a.window.drop (a.window.length - 4)).sum / 4) else none

/-- R27: the short-term energy, once the run holds 30 blocks. -/
def Accumulator.shortTerm (a : Accumulator) : Option Nat := if 30 ≤ a.run then some (a.window.sum / 30) else none

/-! ### Levels (R29) -/

/-- Whether 1000 · log10 of num / (den · 2^40) is at least n - 1/2, decided in whole numbers: raised to the power 2000,
the quotient is at least 10^(2n - 1). -/
def levelAtLeast (num den : Nat) (n : Int) : Bool :=
  let e := 2 * n - 1
  if 0 ≤ e then 10 ^ e.toNat * (den * 2 ^ 40) ^ 2000 ≤ num ^ 2000
  else (den * 2 ^ 40) ^ 2000 ≤ num ^ 2000 * 10 ^ (-e).toNat

/-- The greatest n from lo up to below hi with `levelAtLeast`, by halving. -/
def levelSearch (num den : Nat) : Nat → Int → Int → Int
  | 0, lo, _ => lo
  | fuel + 1, lo, hi =>
    if hi - lo ≤ 1 then lo
    else
      let mid := (lo + hi) / 2
      if levelAtLeast num den mid then levelSearch num den fuel mid hi else levelSearch num den fuel lo mid

/-- R29: the level of the energy num / den (units of 2^-40) with calibration offset C, clamped; -9999 for no energy. The
search covers every value that the clamp leaves apart for C from -200 to +200. -/
def level (c : Int) (num den : Nat) : Int :=
  if num = 0 then Config.levelMin
  else clampInt Config.levelMin Config.levelMax (levelSearch num den 14 (-10300) 4300 + c)

end Sys2Proof.Machine
end

