-- ==== Sys2Proof/Machine/Flags.lean ====
section
/-! DEFINITION. The verdict flags and the words in which records carry flags and codes (R105, R203). -/
namespace Sys2Proof.Machine

/-- A flag once added is not removed; one added twice stands once (section 6.3). -/
def VerdictFlags.union (a b : VerdictFlags) : VerdictFlags :=
  { late := a.late || b.late, cueMissed := a.cueMissed || b.cueMissed, earlyClose := a.earlyClose || b.earlyClose,
    unlinkClose := a.unlinkClose || b.unlinkClose, truncated := a.truncated || b.truncated,
    noMeter := a.noMeter || b.noMeter, mixChanged := a.mixChanged || b.mixChanged,
    timeFault := a.timeFault || b.timeFault, flywheel := a.flywheel || b.flywheel,
    spanLost := a.spanLost || b.spanLost, paused := a.paused || b.paused }

/-- The value of a bit at a place. -/
def bitAt (b : Bool) (place : Nat) : Nat := if b then 2 ^ place else 0

/-- The flags field at offset 82 of a docket slot (R203). -/
def VerdictFlags.toWord (f : VerdictFlags) : Nat :=
  bitAt f.late 0 + bitAt f.cueMissed 1 + bitAt f.earlyClose 2 + bitAt f.unlinkClose 3 + bitAt f.truncated 4 +
  bitAt f.noMeter 5 + bitAt f.mixChanged 6 + bitAt f.timeFault 7 + bitAt f.flywheel 8 + bitAt f.spanLost 9 +
  bitAt f.paused 10

/-- The single flags, as a close cause or an event adds them (R107, R108, R109). -/
def VerdictFlags.ofLate : VerdictFlags := { VerdictFlags.none with late := true }
def VerdictFlags.ofCueMissed : VerdictFlags := { VerdictFlags.none with cueMissed := true }
def VerdictFlags.ofEarlyClose : VerdictFlags := { VerdictFlags.none with earlyClose := true }
def VerdictFlags.ofUnlinkClose : VerdictFlags := { VerdictFlags.none with unlinkClose := true }
def VerdictFlags.ofTruncated : VerdictFlags := { VerdictFlags.none with truncated := true }
def VerdictFlags.ofNoMeter : VerdictFlags := { VerdictFlags.none with noMeter := true }
def VerdictFlags.ofMixChanged : VerdictFlags := { VerdictFlags.none with mixChanged := true }
def VerdictFlags.ofTimeFault : VerdictFlags := { VerdictFlags.none with timeFault := true }
def VerdictFlags.ofFlywheel : VerdictFlags := { VerdictFlags.none with flywheel := true }
def VerdictFlags.ofSpanLost : VerdictFlags := { VerdictFlags.none with spanLost := true }
def VerdictFlags.ofPaused : VerdictFlags := { VerdictFlags.none with paused := true }

/-! ### Codes of the layouts (R192, R203) -/

def Lock.code : Lock → Nat
  | .seeking => 0 | .locked => 1 | .held => 2 | .flywheel => 3
def Standing.code : Standing → Nat
  | .idle => 0 | .pending => 1 | .armed => 2 | .opened => 3 | .closing => 4 | .closed => 5 | .refused => 6
  | .withdrawn => 7
def RefusalCause.code : RefusalCause → Nat
  | .serviceDisabled => 1 | .badClass => 2 | .badMode => 3 | .badWindow => 4 | .tooLong => 5 | .tooLate => 6
  | .overlap => 7
def SegClass.code : SegClass → Nat
  | .programme => 1 | .continuity => 2 | .commercial => 3 | .promotion => 4
def LoudVerdict.code : LoudVerdict → Nat
  | .pass => 1 | .high => 2 | .low => 3 | .short => 4 | .unmeasured => 5
def CaptionVerdict.code : CaptionVerdict → Nat
  | .pass => 1 | .short => 2 | .unmeasured => 3 | .notRequired => 4
def CapState.code : CapState → Nat
  | .lost => 0 | .idle => 1 | .live => 2
def ReqSource.code : ReqSource → Nat
  | .unscheduled => 0 | .outer => 1 | .inner => 2
def RecState.code : RecState → Nat
  | .ready => 0 | .recording => 1 | .stalled => 2
def ExtState.code : ExtState → Nat
  | .blank => 0 | .filling => 1 | .full => 2
def CloseCause.code : CloseCause → Nat
  | .filled => 1 | .hold => 2 | .draining => 3 | .moved => 4 | .unlink => 5
def MarkKind.code : MarkKind → Nat
  | .start => 1 | .finish => 2
def ViolationKind.code : ViolationKind → Nat
  | .badExtent => 1 | .ownerConflict => 2 | .noWritableExtent => 3
def SheetSource.code : SheetSource → Nat
  | .stored => 1 | .factory => 2 | .host => 3
def SheetCause.code : SheetCause → Nat
  | .badRate => 1 | .badMixCount => 2 | .badMixChannel => 3 | .badChain => 4 | .badQuota => 5 | .quotaSum => 6
def LinkState.code : LinkState → Nat
  | .unlinked => 0 | .linking => 1 | .linked => 2 | .unlinking => 3
def CmdResult.code : CmdResult → Nat
  | .accepted => 0 | .busy => 1 | .badState => 2 | .badBase => 3 | .badLayout => 4 | .worn => 5

/-- R160: the index of a condition in its panel. -/
def svcIndex : SvcCond → Fin 16
  | .feedLoss => 0 | .timeFault => 1 | .audioSilence => 2 | .audioClip => 3 | .shortTermExcess => 4
  | .loudnessFail => 5 | .captionLoss => 6 | .captionIdle => 7 | .captionFail => 8 | .spoolOverflow => 9
  | .extentWarning => 10 | .recordViolation => 11 | .recordFatal => 12 | .docketFault => 13 | .meterShortage => 14
  | .sheetFault => 15
def devIndex : DevCond → Fin 3
  | .linkFault => 0 | .storeFault => 1 | .storeComplete => 2

/-- R160: the conditions in index order. -/
def allSvcConds : List SvcCond :=
  [.feedLoss, .timeFault, .audioSilence, .audioClip, .shortTermExcess, .loudnessFail, .captionLoss, .captionIdle,
   .captionFail, .spoolOverflow, .extentWarning, .recordViolation, .recordFatal, .docketFault, .meterShortage,
   .sheetFault]
def allDevConds : List DevCond := [.linkFault, .storeFault, .storeComplete]

/-- R168: every condition in the order that decides the cause: device panel first, then the services. -/
def allConds : List CondRef :=
  allDevConds.map CondRef.device ++ allServices.flatMap fun n => allSvcConds.map (CondRef.service n)

end Sys2Proof.Machine
end

