-- ==== Sys2Proof/Machine/Panels.lean ====
section
/-! DEFINITION. The condition panels and the Alert Unit: raises, live state, evaluation and alerts (chapter 9). -/
namespace Sys2Proof.Machine

/-- The entry of a condition (R161). -/
def State.cond (s : State) : CondRef → CondEntry
  | .device c => s.devPanel[devIndex c]
  | .service n c => s.panel[n][svcIndex c]

/-- The entry of a service condition. -/
def State.svcCond (s : State) (n : Svc) (c : SvcCond) : CondEntry := s.cond (.service n c)

def State.modCond (s : State) (r : CondRef) (f : CondEntry → CondEntry) : State :=
  match r with
  | .device c => { s with devPanel := upd s.devPanel (devIndex c) f }
  | .service n c => { s with panel := upd s.panel n fun p => upd p (svcIndex c) f }

/-! ### The queues of the live blocks and of the header (R171, R196) -/

/-- A queued write of the entry of c. -/
def LiveItem.isEntry (c : SvcCond) : LiveItem → Bool
  | .entry d _ _ => decide (d = c)
  | .late d _ => decide (d = c)
  | .fields _ => false
  | .mark _ => false
  | .count _ => false

/-- A queued write of the entry of a device condition. -/
def HeaderItem.isEntry (c : DevCond) : HeaderItem → Bool
  | .entry d => decide (d = c)
  | .late d _ => decide (d = c)
  | .commit _ => false
  | .alert => false
  | .cause _ => false

/-- The end of a periodic write none of whose pieces has failed. -/
def LiveItem.isMark (i : LiveItem) : Bool := decide (i = .mark true)

/-- The end of a periodic write. -/
def LiveItem.isEnd : LiveItem → Bool
  | .mark _ => true
  | .fields _ => false
  | .entry _ _ _ => false
  | .count _ => false
  | .late _ _ => false

/-- A queue holds a write. -/
def hasWrite (q : List LiveItem) : Bool := q.any fun i => !i.isEnd

/-- A queued entry write that a change or a failure waits for. -/
def LiveItem.isDue : LiveItem → Bool
  | .entry _ _ due => due
  | .fields _ => false
  | .mark _ => false
  | .count _ => false
  | .late _ _ => false

/-- R171: the first queued write of c's entry will carry its change; without one a write of it joins the queue. -/
def dueFirst (c : SvcCond) : List LiveItem → List LiveItem
  | [] => [.entry c false true]
  | .entry d part due :: q => if d = c then .entry d part true :: q else .entry d part due :: dueFirst c q
  | .fields p :: q => .fields p :: dueFirst c q
  | .mark w :: q => .mark w :: dueFirst c q
  | .count v :: q => .count v :: dueFirst c q
  | .late d ps :: q => .late d ps :: dueFirst c q

/-- R171: the same for a device condition in the header's queue. -/
def headerFirst (c : DevCond) (q : List HeaderItem) : List HeaderItem :=
  if q.contains (.entry c) then q else q ++ [.entry c]

/-- R168 step 2: the cause of the alert in progress is to be written: no entry write that the alert waited for is left, and it
has not been queued yet. -/
def State.causeReady (s : State) : Bool :=
  s.isLinked && (s.alert.progress.map fun a => a.waits.isEmpty).getD false && !s.header.contains .alert

/-- R168 step 2, R196: the writes handed for the header: those queued and, behind them, the cause that is to be written. -/
def State.handedHeader (s : State) : List HeaderItem := if s.causeReady then s.header ++ [.alert] else s.header

/-- R168 step 2: the cause write joins the header's queue when it is to be written. -/
def State.handCause (s : State) : State := s.modHeader fun _ => s.handedHeader

/-- R171: while LINKED the write that a change of an entry makes owed is queued for its record; the controller takes it up
at once. -/
def State.queueEntry (s : State) (r : CondRef) : State :=
  if s.isLinked then
    match r with
    | .device c => s.modHeader fun _ => headerFirst c s.handedHeader
    | .service n c => s.modLive n fun l => { l with queue := dueFirst c l.queue }
  else s

/-- R171: a queued write of an entry also makes up for one that failed before. -/
def CondEntry.touched (linked : Bool) (e : CondEntry) : CondEntry := if linked then { e with owed := false } else e

/-- A change of an entry's device-written fields (R171). -/
def State.changeCond (s : State) (r : CondRef) (f : CondEntry → CondEntry) : State :=
  (s.modCond r fun e => (f e).touched s.isLinked).queueEntry r

/-- R161, R172: the priority of a condition. -/
def State.priority (s : State) : CondRef → Nat
  | .device c => s.devPriority[devIndex c]
  | .service n c => (s.sheetOf n).priorities[svcIndex c]

/-- R164: outstanding while the raise count differs from the ack count. -/
def CondEntry.outstanding (e : CondEntry) : Bool := e.raises ≠ e.acked

/-- R167: pending while the priority is above 0 and there is a raise not announced or a reminder mark. -/
def State.isPending (s : State) (r : CondRef) : Bool :=
  decide (0 < s.priority r) && (decide ((s.cond r).raises ≠ (s.cond r).announced) || (s.cond r).mark)

/-- R167: the highest priority among all pending conditions, 0 when none is pending. -/
def State.topPending (s : State) : Nat :=
  allConds.foldl (fun p r => if s.isPending r then max p (s.priority r) else p) 0

/-- R168 step 1: the conditions pending at priority p, in the order that decides the cause. -/
def State.pendingAt (s : State) (p : Nat) : List CondRef :=
  allConds.filter fun r => s.isPending r && decide (s.priority r = p)

/-- R168 step 2, R171: a write of an entry is owed: queued for a change of it, or waiting after it has failed. -/
def State.entryOwes (s : State) (r : CondRef) : Bool :=
  (s.cond r).owed ||
  match r with
  | .device c => s.header.contains (.entry c)
  | .service n c => s.live[n].queue.any fun i => i.isEntry c && i.isDue

/-- R167, R168 step 1: an evaluation; it begins an alert when the highest pending priority is above ALERT_LEVEL. -/
def State.evaluate (s : State) : State :=
  if s.isLinked && s.alert.progress.isNone then
    let p := s.topPending
    if s.alert.level.toNat < p then
      match s.pendingAt p with
      | [] => s
      | r :: rs =>
        s.modAlert fun a =>
          { a with progress := some ⟨p, r, (r :: rs).map fun q => (q, (s.cond q).raises), allConds.filter s.entryOwes⟩ }
    else s
  else s

/-- R162: what a raise does to its entry, with the stamp it takes. -/
def CondEntry.raised (t : Option Nat) (e : CondEntry) : CondEntry :=
  { e with first := if e.outstanding then e.first else t, last := t, raises := e.raises + 1 }

/-- R162: a raise of a service condition. -/
def State.raise (s : State) (n : Svc) (c : SvcCond) : State :=
  (s.changeCond (.service n c) (CondEntry.raised (s.stampOf n))).evaluate

/-- R162, R172: a raise of a device condition takes no stamp. -/
def State.raiseDevice (s : State) (c : DevCond) : State :=
  (s.changeCond (.device c) (CondEntry.raised none)).evaluate

/-- R163: the owner sets or clears the live field of a live-type condition; a change to live is accompanied by exactly
one raise, taken after the live field is set. -/
def State.setLive (s : State) (n : Svc) (c : SvcCond) (live : Bool) : State :=
  if (s.svcCond n c).live = live then s
  else
    let s := s.changeCond (.service n c) fun e => { e with live := live }
    if live then s.raise n c else s

/-- R165: the timer of a condition loaded with its service's interval; device conditions have none (R172). -/
def State.loadReminder (s : State) (r : CondRef) : State :=
  match r with
  | .device _ => s
  | .service n _ =>
    if (s.sheetOf n).reminder = 0 then s
    else s.modCond r fun e => { e with timer := some (s.sheetOf n).reminder }

/-- R165: every reminder timer stops. -/
def State.stopReminders (s : State) : State :=
  allConds.foldl (fun s r => s.modCond r fun e => { e with timer := none }) s

/-- R165: at the entry to LINKED the timers of outstanding service conditions are loaded. -/
def State.startReminders (s : State) : State :=
  allConds.foldl (fun s r => if (s.cond r).outstanding then s.loadReminder r else s) s

/-! ### Entry writes (R171) -/

/-- The offset in the exchange area of a condition entry (R203). -/
def condOffset : CondRef → Nat
  | .device c => 128 + 32 * (devIndex c).val
  | .service n c => 0x31000 + n.val * 0x1000 + 512 + 32 * (svcIndex c).val

/-- The device-written pieces of an entry, the raise count last (R171, R203). -/
def State.entryPieces (s : State) (r : CondRef) : List Piece :=
  let a := s.area (condOffset r)
  let e := s.cond r
  [⟨a, [boolByte e.live, boolByte e.mark] ++ le 1 (s.priority r) ++ zeroBytes 1⟩,
   ⟨a + 10, zeroBytes 6 ++ stampBytes e.first ++ stampBytes e.last⟩,
   ⟨a + 6, le 2 e.announced.toNat⟩,
   ⟨a + 4, le 2 e.raises.toNat⟩]

/-- R204: the write count of a service's live block, written with the value it had when it was handed. -/
def liveOffset (n : Svc) : Nat := 0x31000 + n.val * 0x1000
def State.countPiece (s : State) (n : Svc) (v : BitVec 32) : Piece := ⟨s.area (liveOffset n + 16), le 4 v.toNat⟩

/-- R187: the commit count of the header. -/
def State.commitPiece (s : State) (v : Nat) : Piece := ⟨s.area 72, le 2 v⟩

/-- The panel number of the alert cause field: 0 to 15 service, 16 device (R203). -/
def panelCode : CondRef → Nat
  | .device _ => 16
  | .service n _ => n.val
def indexCode : CondRef → Nat
  | .device c => (devIndex c).val
  | .service _ c => (svcIndex c).val

/-- R168 step 2: the Alert Unit's cause part of an alert, under the number after the last one used. -/
def AlertRun.into (a : AlertRun) (u : Alert) : Alert :=
  { u with number := u.number + 1, causeLevel := a.level, causePanel := panelCode a.cause,
           causeIndex := indexCode a.cause }

/-- The alert cause field of the header, as the Alert Unit holds it (R168 step 2, R203). -/
def State.causePiece (s : State) : Piece :=
  ⟨s.area 64, le 2 s.alert.number.toNat ++ le 1 s.alert.causeLevel ++ le 1 s.alert.causePanel ++
    le 1 s.alert.causeIndex ++ zeroBytes 3⟩

/-- The same for the alert in progress. -/
def State.alertPieces (s : State) : List Piece :=
  (s.alert.progress.map fun a => { s with alert := a.into s.alert }.causePiece).toList

/-- What a queued write of a live block, and of the header, puts into host memory. -/
def State.itemPieces (s : State) (n : Svc) : LiveItem → List Piece
  | .fields p => [p]
  | .entry c _ _ => s.entryPieces (.service n c)
  | .mark _ => []
  | .count v => [s.countPiece n v]
  | .late _ ps => ps
def State.headerPieces (s : State) : HeaderItem → List Piece
  | .entry c => s.entryPieces (.device c)
  | .commit v => [s.commitPiece v]
  | .alert => s.alertPieces
  | .late _ ps => ps
  | .cause p => [p]

/-- The pieces of the first k writes queued for a live block. -/
def State.livePrefix (s : State) (n : Svc) (k : Nat) : List Piece :=
  (s.live[n].queue.take k).flatMap (s.itemPieces n)

/-- R196: the first k writes queued for a live block complete, in their order; the ends of periodic writes none of whose
pieces has failed stay until LIVE_BLOCK_WRITE_COUNT takes them. -/
def State.landLive (s : State) (n : Svc) (k : Nat) : State :=
  (s.land (s.livePrefix n k)).modLive n fun l =>
    { l with queue := (l.queue.take k).filter LiveItem.isMark ++ l.queue.drop k }

/-- R196: the first k writes queued for the header complete, in their order. -/
def State.landHeader (s : State) (k : Nat) : State :=
  (s.land ((s.header.take k).flatMap s.headerPieces)).modHeader (List.drop k)

/-- R195, R197, R199: no entry write remains owed. -/
def State.dropOwed (s : State) : State :=
  allConds.foldl (fun s r => s.modCond r fun e => { e with owed := false }) s

/-! ### Alerts (R168) -/

/-- R168 step 2, R171: an owed entry of those that the alert in progress waits for is made again. -/
def State.retryEntry (s : State) (r : CondRef) : State :=
  if s.isLinked && (s.cond r).owed && (s.alert.progress.map fun a => a.waits.contains r).getD false then s.changeCond r id
  else s

/-- R168 step 2: what the alert in progress can hand: the entry writes that had failed, behind those queued for their records,
or the cause once it waits for none (assumption 7). -/
def State.handAlert (s : State) : State := (allConds.foldl State.retryEntry s).handCause

/-- R168 step 2: the alert in progress waits for those of its entries whose writes have not completed. -/
def State.trimWaits (s : State) : State :=
  s.modAlert fun u => { u with progress := u.progress.map fun a => { a with waits := a.waits.filter s.entryOwes } }

/-- R168 step 3: one condition of the set is announced at the raise count noted at the choice. -/
def State.announce (s : State) (r : CondRef) (noted : BitVec 16) : State :=
  (s.changeCond r fun e => { e with announced := noted, mark := false }).loadReminder r

/-- How many places of a list there are up to the last that meets a test. -/
def lastPlace {α : Type} (p : α → Bool) : List α → Nat
  | [] => 0
  | i :: q => if p i || decide (0 < lastPlace p q) then lastPlace p q + 1 else 0

/-- R168 step 2: a queued write that an alert waits for. -/
def AlertRun.awaits (a : AlertRun) (n : Svc) (i : LiveItem) : Bool :=
  i.isDue && allSvcConds.any fun c => i.isEntry c && a.waits.contains (.service n c)

/-- R168 step 2, R196: how many of the writes queued for a live block have completed once those that the alert waits for
have. -/
def State.alertReach (s : State) (a : AlertRun) (n : Svc) : Nat := lastPlace (a.awaits n) s.live[n].queue

/-- R168 step 2: the entry writes that the alert waits for have completed, with the writes before them and with the header's,
behind which the cause is then handed. -/
def State.landWaits (s : State) (a : AlertRun) : State :=
  let s := allServices.foldl (fun s n => s.landLive n (s.alertReach a n)) s
  (s.landHeader s.header.length).modHeader fun _ => [.alert]

/-- R168 step 2: the cause write stands in the header's queue. -/
def State.readyCause (s : State) (a : AlertRun) : State := if a.waits.isEmpty then s else s.landWaits a

/-- R168 steps 2 to 5: the cause write has completed, with the writes handed before it (R196). -/
def State.finishAlert (s : State) (a : AlertRun) : State :=
  let s := s.handAlert.readyCause a
  let s := s.landHeader (s.header.idxOf .alert + 1)
  let s := s.modAlert fun u =>
    { a.into u with level := BitVec.ofNat 3 a.level, progress := none, sent := u.sent ++ [a.level] }
  let s := a.covered.foldl (fun s q => s.announce q.1 q.2) s
  s.evaluate

/-- R169: an alert in progress is abandoned by a failed write. -/
def State.abandonAlert (s : State) : State :=
  if s.alert.progress.isSome then s.modAlert fun a => { a with progress := none, abandoned := true } else s

end Sys2Proof.Machine
end

