-- ==== Sys2Proof/Machine/Pool.lean ====
section
/-! DEFINITION. The Meter Context Pool and the Integration Unit (chapter 3). -/
namespace Sys2Proof.Machine

/-! ### What a context keeps (R44 to R47) -/

/-- R45: the bin of a level at or above the absolute gate. -/
def binOf (level : Int) : Nat := min 749 ((level + 7000) / 10).toNat

/-- R45: one value added to a bin; the listed bins stay in rising order. -/
def binAdd : List Bin → Nat → Nat → List Bin
  | [], k, m => [⟨k, 1, m⟩]
  | b :: bs, k, m =>
    if k < b.index then ⟨k, 1, m⟩ :: b :: bs
    else if k = b.index then ⟨k, b.count + 1, b.energy + m⟩ :: bs
    else b :: binAdd bs k m

/-- The larger of a level and a maximum that may be absent. -/
def maxLevel (m : Option Int) (v : Int) : Option Int :=
  match m with
  | none => some v
  | some w => some (if w < v then v else w)

/-- R44: a momentary value taken. -/
def Context.takeMomentary (c : Context) (m : Nat) (lv : Int) : Context :=
  let c := { c with momentary := c.momentary + 1, maxMomentary := maxLevel c.maxMomentary lv }
  if lv < Config.absoluteGate then { c with silent := c.silent + 1 }
  else { c with histogram := binAdd c.histogram (binOf lv) m }

/-- R39: whether a short-term level is an excess that raises SHORT_TERM_EXCESS. -/
def Context.excessRaises (c : Context) (lv : Int) : Bool :=
  match c.ceiling with
  | none => false
  | some top => decide (top < lv) && !c.above

/-- R46, R39: a short-term value taken. -/
def Context.takeShort (c : Context) (lv : Int) : Context :=
  let c := { c with maxShort := maxLevel c.maxShort lv }
  match c.ceiling with
  | none => c
  | some top =>
    if top < lv then { c with excess := c.excess + 1, above := true } else { c with above := false }

/-- R38: the values of a block that the context has completed, in their order; true when SHORT_TERM_EXCESS is raised. -/
def Context.takeValues (cal : Int) (c : Context) : Context × Bool :=
  let c := match c.acc.momentary with
    | none => c
    | some m => c.takeMomentary m (level cal m 1)
  match c.acc.shortTerm with
  | none => (c, false)
  | some e =>
    let lv := level cal e 1
    (c.takeShort lv, c.excessRaises lv)

/-- R37, R47: a sample set handed to a context. -/
def Context.takeSet (mix : List MixChannel) (cal : Int) (squares mags : List Nat) (c : Context) : Context × Bool :=
  let c := { c with acc := c.acc.take squares, maxima := List.zipWith max c.maxima mags }
  if c.acc.blockFull then { c with acc := c.acc.completeBlock mix }.takeValues cal else (c, false)

/-! ### The pool (R41 to R43) -/

/-- R41: the free count. -/
def State.freeCount (s : State) : Nat := (allContexts.filter fun c => s.pool[c].state = .free).length

/-- A FREE context, if there is one (which one has no effect on any result, R42). -/
def State.freeContext (s : State) : Option CtxId := allContexts.find? fun c => s.pool[c].state = .free

/-- R42: a context set up at a claim. -/
def Context.claimed (owner : Owner) (sn : Snapshot) (paused : Bool) : Context :=
  { Context.free with owner := some owner, state := if paused then .paused else .accumulating, target := sn.target,
                      tolerance := sn.tolerance, ceiling := sn.ceiling }

/-- R42: context c is taken for an owner. -/
def State.claim (s : State) (c : CtxId) (owner : Owner) (sn : Snapshot) (paused : Bool) : State :=
  s.modPool c fun _ => Context.claimed owner sn paused

/-- R28: the run of an accumulator broken. -/
def Context.breakRun (c : Context) : Context :=
  if c.state = .accumulating then { c with acc := Accumulator.fresh } else c

/-- R50: a pause. -/
def Context.pause (c : Context) : Context :=
  if c.state = .accumulating then { c with state := .paused, acc := Accumulator.fresh } else c

/-- R51: a resume. -/
def Context.resume (c : Context) : Context :=
  if c.state = .paused then { c with state := .accumulating, acc := Accumulator.fresh } else c

/-- R53: a close, with the figures fixed by it. That the window and the run length of the accumulator are emptied with its
partial block is the model's choice (assumption 29). -/
def Context.close (fig : CloseFigures) (c : Context) : Context :=
  { c with state := .closing, acc := Accumulator.fresh, figures := some fig }

/-- Whether a context belongs to a service. -/
def Context.ownedBy (c : Context) (n : Svc) : Bool := (c.owner.map fun o => decide (o.service = n)).getD false

/-- The class rule of a class (R92). -/
def Sheet.rule (sh : Sheet) : SegClass → ClassRule
  | .programme => sh.programme
  | .continuity => sh.continuity
  | .commercial => sh.commercial
  | .promotion => sh.promotion

/-- R53: the figures fixed at a close of a segment of a class. -/
def Sheet.closeFigures (sh : Sheet) (cls : SegClass) : CloseFigures :=
  { gate := clampInt 10 2000 sh.gate, minCount := (sh.rule cls).minCount, calibration := sh.calibration }

/-- R53: the close of a context; no effect on one that is not ACCUMULATING or PAUSED. -/
def State.closeContext (s : State) (n : Svc) (c : CtxId) (cls : SegClass) : State :=
  if s.pool[c].state = .accumulating ∨ s.pool[c].state = .paused then
    (s.modPool c (Context.close ((s.sheetOf n).closeFigures cls))).modInteg fun u => { u with queue := u.queue ++ [c] }
  else s

/-- R28: the runs of every accumulating context of a service are broken. -/
def State.breakContextRuns (s : State) (n : Svc) : State :=
  allContexts.foldl (fun s c => if s.pool[c].ownedBy n then s.modPool c Context.breakRun else s) s

/-! ### Gated integration (R56 to R58) -/

/-- The counts and the energies of a list of bins summed. -/
def binCounts (bs : List Bin) : Nat := (bs.map Bin.count).sum
def binEnergies (bs : List Bin) : Nat := (bs.map Bin.energy).sum

/-- R56: the first bin kept, ceil((T + 7000) / 10) clamped to 0 ... 749. -/
def firstBin (threshold : Int) : Nat := (clampInt 0 749 ((threshold + 7000 + 9) / 10)).toNat

/-- R57: the bins of pass 2; when none at or above g holds a count, the highest bin that holds one. -/
def keptBins (h : List Bin) (g : Nat) : List Bin :=
  match h.filter fun b => g ≤ b.index with
  | [] => h.drop (h.length - 1)
  | b :: bs => b :: bs

/-- R58: the loudness verdict of an integrated level. -/
def judgeLevel (target tolerance li : Int) : LoudVerdict :=
  if target + tolerance < li then .high else if li < target - tolerance then .low else .pass

/-- R56 to R58: the loudness result of a closed context. -/
def integrate (c : Context) (fig : CloseFigures) : LoudResult :=
  let n1 := binCounts c.histogram
  let short := decide (c.momentary < fig.minCount)
  let base : LoudResult :=
    { verdict := if short then .short else .unmeasured, integrated := none, pass1 := none, threshold := none, n1 := n1,
      n2 := 0, momentary := c.momentary, silent := c.silent, maxMomentary := c.maxMomentary, maxShort := c.maxShort,
      excess := c.excess, maxima := c.maxima }
  if n1 = 0 then base
  else
    let l1 := level fig.calibration (binEnergies c.histogram) n1
    let t := clampInt Config.levelMin Config.levelMax (l1 - fig.gate)
    let kept := keptBins c.histogram (firstBin t)
    let l2 := level fig.calibration (binEnergies kept) (binCounts kept)
    let li := if l2 < l1 then l1 else l2
    { base with verdict := if short then .short else judgeLevel c.target c.tolerance li, integrated := some li,
                pass1 := some l1, threshold := some t, n2 := binCounts kept }

/-- R54: when idle, the unit takes the context at the head of its queue, which becomes INTEGRATING. -/
def State.startIntegration (s : State) : State :=
  match s.integ.busy, s.integ.queue with
  | none, c :: rest =>
    let fig := s.pool[c].figures.getD ⟨10, 0, 0⟩
    let result := integrate s.pool[c] fig
    (s.modPool c fun x => { x with state := .integrating }).modInteg fun _ => ⟨rest, some (c, result)⟩
  | _, _ => s

end Sys2Proof.Machine
end

