-- ==== Sys2Proof/Machine/Captions.lean ====
section
/-! DEFINITION. The Caption Watch and the caption tallies (chapter 4). -/
namespace Sys2Proof.Machine

/-! ### Requirement in force and conditions (R68, R69) -/

/-- The requirement a docket's segment took at its opening. -/
def State.segmentRequires (s : State) (n : Svc) (k : Slot) : Bool :=
  ((s.entry n k).snapshot.map Snapshot.required).getD false

/-- R68: the requirement in force and its source. -/
def State.requirement (s : State) (n : Svc) : Bool × ReqSource :=
  if (s.sheetOf n).enable then
    match s.sched[n].openInner, s.sched[n].openOuter with
    | some k, _ => (s.segmentRequires n k, .inner)
    | none, some k => (s.segmentRequires n k, .outer)
    | none, none => ((s.sheetOf n).unscheduled, .unscheduled)
  else (false, .unscheduled)

/-- R69: CAPTION_LOSS and CAPTION_IDLE brought to what the caption state and the requirement in force make them; the
one that ends is ended before the other goes live. -/
def State.judgeCaptions (s : State) (n : Svc) : State :=
  let c := s.caption[n]
  let loss := c.required && decide (c.state = .lost)
  let idle := c.required && decide (c.state = .idle)
  let s := if loss then s else s.setLive n .captionLoss false
  let s := s.setLive n .captionIdle idle
  if loss then s.setLive n .captionLoss true else s

/-- R68: the requirement in force taken afresh. -/
def State.refreshRequirement (s : State) (n : Svc) : State :=
  let r := s.requirement n
  (s.modCaption n fun c => { c with required := r.1, source := r.2 }).judgeCaptions n

/-! ### Tallies (R67, R71) -/

/-- R71, R72: a tally counts while its docket is open and it is not paused. -/
def Entry.counting (e : Entry) : Bool := decide (e.state = .opened) && !e.tally.paused

/-- Every entry of a service for which p holds is changed. -/
def State.modEntriesWhere (s : State) (n : Svc) (p : Entry → Bool) (f : Entry → Entry) : State :=
  allSlots.foldl (fun s k => if p (s.entry n k) then s.modEntry n k f else s) s

/-- Every counting tally of a service is changed. -/
def State.modTallies (s : State) (n : Svc) (f : Tally → Tally) : State :=
  s.modEntriesWhere n Entry.counting fun e => { e with tally := f e.tally }

/-- R71: one frame judgement counted. -/
def Tally.judged (st : CapState) (t : Tally) : Tally :=
  if t.counted < 4294967295 then
    { t with counted := t.counted + 1, covered := if st = .lost then t.covered else t.covered + 1,
             idle := if st = .idle then t.idle + 1 else t.idle }
  else t

/-- R71: one flywheel advance counted. -/
def Tally.advanced (t : Tally) : Tally := { t with feedLoss := sat32 t.feedLoss }

/-! ### Frame judgement (R62, R63, R65) -/

/-- R65: steps 1 to 4 of the judgement of a received frame. -/
def Caption.judge (c : Caption) : Caption :=
  let liveExpired := decide (c.liveness = 1)
  let contentExpired := decide (c.content = 1)
  let c := { c with liveness := c.liveness - 1, content := c.content - 1 }
  if liveExpired then
    if c.state = .lost then c else { c with state := .lost, content := 0, lastSeq := none }
  else if contentExpired && decide (c.state = .live) then { c with state := .idle }
  else c

/-- R65: the judgement of a received frame, handed to the tallies (R71), and the conditions it changes (R69). -/
def State.judgeFrame (s : State) (n : Svc) : State :=
  let s := (s.modCaption n Caption.judge).judgeCaptions n
  s.modTallies n (Tally.judged s.caption[n].state)

/-! ### Packets (R61, R64, R66, R67) -/

/-- R64, R62, R63: the state and counters after an accepted packet, with the windows of the adopted sheet. -/
def Caption.accept (sh : Sheet) (kind : CaptionKind) (seq : Byte) (c : Caption) : Caption :=
  let c := { c with accepted := c.accepted + 1, lastSeq := some seq, liveness := sh.livenessWindow }
  match kind with
  | .text => { c with state := .live, content := sh.contentWindow }
  | .clear => { c with state := .live, content := sh.contentWindow }
  | .idle => { c with state := if c.state = .lost then .idle else c.state }

/-- R66: whether an accepted packet is a discontinuity. -/
def Caption.discontinuous (c : Caption) (seq : Byte) : Bool :=
  match c.lastSeq with
  | none => false
  | some last => decide (c.state ≠ .lost) && decide (seq ≠ last + 1)

/-- R66, R67: a discontinuity counted in the service and in the counting tallies. -/
def State.countDiscontinuity (s : State) (n : Svc) : State :=
  (s.modCaption n fun c => { c with discontinuities := c.discontinuities + 1 }).modTallies n
    fun t => { t with discontinuities := sat32 t.discontinuities }

/-- R61, R67: a mismatched packet counted in the service and in the counting tallies. -/
def State.countMismatch (s : State) (n : Svc) : State :=
  (s.modCaption n fun c => { c with mismatches := c.mismatches + 1 }).modTallies n
    fun t => { t with mismatches := sat32 t.mismatches }

/-- R61: a CAPTION sorted against the adopted sheet. -/
def State.sortPacket (s : State) (n : Svc) (page : Byte) (lang : Lang) (kind : CaptionKind) (seq : Byte) : State :=
  let sh := s.sheetOf n
  if sh.enable && decide (page.toNat = sh.page) then
    if lang = sh.lang then
      let s := if s.caption[n].discontinuous seq then s.countDiscontinuity n else s
      (s.modCaption n (Caption.accept sh kind seq)).judgeCaptions n
    else s.countMismatch n
  else s

/-- R74: another stream, or enable switched off: LOST, both counters 0, no last accepted sequence. -/
def State.loseStream (s : State) (n : Svc) : State :=
  s.modCaption n fun c => { c with state := .lost, liveness := 0, content := 0, lastSeq := none }

/-! ### The caption result (R73) -/

/-- R73: coverage in permille. -/
def Tally.coverage (t : Tally) : Nat := if t.counted = 0 then 0 else 1000 * t.covered / t.counted

/-- R73: the caption result of a frozen tally. -/
def Tally.result (t : Tally) : CaptionResult :=
  { coverage := t.coverage
    verdict :=
      if !t.required then .notRequired
      else if t.counted = 0 then .unmeasured
      else if t.permille ≤ t.coverage then .pass
      else .short }

end Sys2Proof.Machine
end

