-- ==== Sys2Proof/Machine/Scheduler.lean ====
section
/-! DEFINITION. The Segment Scheduler: slot writes, boundaries, openings and closings, verdicts, pins and releases
(chapters 5 and 6). -/
namespace Sys2Proof.Machine

/-! ### Slot writes (R77) -/

/-- R77: a write handed for a slot: in flight when it is the slot's only one; a write behind an owed one is owed, and one
behind a dropped one is dropped with it. -/
def Entry.push (e : Entry) (w : SlotContent) : Entry :=
  if e.dropped then e
  else
    match e.writes with
    | [] => { e with writes := [⟨w, false⟩], handed := true }
    | ws => { e with writes := ws ++ [⟨w, !e.handed⟩] }

/-- An entry cleared, with what stands of its slot's writes. -/
def Entry.cleared (e : Entry) : Entry :=
  { Entry.fresh with writes := e.writes, handed := e.handed, dropped := e.dropped }

/-- R77, R196: the Scheduler writes only while the controller carries its writes. -/
def State.pushWrite (s : State) (n : Svc) (k : Slot) (w : SlotContent) : State :=
  if s.carries then s.modEntry n k fun e => e.push w else s

/-- The standing of a slot written as the entry holds it. -/
def State.writeStanding (s : State) (n : Svc) (k : Slot) : State :=
  s.pushWrite n k (.standing (s.entry n k).state (s.entry n k).posting)

/-! ### Bodies and boundaries (R83, R87) -/

def SegClass.layer : SegClass → Layer
  | .programme => .outer
  | .continuity => .outer
  | .commercial => .inner
  | .promotion => .inner

/-- R83: first start, last start and end. -/
def Body.firstStart (b : Body) : Nat :=
  match b.start with
  | .atStamp t => t
  | .onCue _ e _ => e
def Body.lastStart (b : Body) : Nat :=
  match b.start with
  | .atStamp t => t
  | .onCue _ _ l => l
def Body.endStamp (b : Body) : Nat :=
  match b.finish with
  | .atStamp t => t
  | .onCue _ c => c
  | .onNext c => c
def Body.isOnNext (b : Body) : Bool :=
  match b.finish with
  | .onNext _ => true
  | _ => false

/-- The boundaries of R87. -/
inductive BoundaryKind where
  | start
  | arm
  | latest
  | stop
  | cap
  deriving DecidableEq, Repr

/-- R88: at one stamp, closes before ARMs and ARMs before opens. -/
def BoundaryKind.rank : BoundaryKind → Nat
  | .stop => 0
  | .cap => 0
  | .arm => 1
  | .start => 2
  | .latest => 2

/-- A boundary of a slot at a stamp. -/
structure Boundary where
  stamp : Nat
  kind : BoundaryKind
  slot : Slot
  deriving DecidableEq, Repr

/-- R87: the boundaries of a body. -/
def Body.boundaries (b : Body) (k : Slot) : List Boundary :=
  (match b.start with
    | .atStamp t => [⟨t, .start, k⟩]
    | .onCue _ e l => [⟨e, .arm, k⟩, ⟨l, .latest, k⟩]) ++
  (match b.finish with
    | .atStamp t => [⟨t, .stop, k⟩]
    | .onCue _ c => [⟨c, .cap, k⟩]
    | .onNext c => [⟨c, .cap, k⟩])

/-- R88: the order in which the boundaries of one event are taken. -/
def Boundary.before (a b : Boundary) : Bool :=
  decide (a.stamp < b.stamp) ||
  (decide (a.stamp = b.stamp) &&
    (decide (a.kind.rank < b.kind.rank) || (decide (a.kind.rank = b.kind.rank) && decide (a.slot < b.slot))))

def insertBoundary (a : Boundary) : List Boundary → List Boundary
  | [] => [a]
  | b :: bs => if b.before a then b :: insertBoundary a bs else a :: b :: bs

def sortBoundaries : List Boundary → List Boundary
  | [] => []
  | b :: bs => insertBoundary b (sortBoundaries bs)

/-- The boundaries of a service's entries of the slots ks with a stamp for which p holds, in the order of R88. -/
def State.boundariesOf (s : State) (n : Svc) (ks : List Slot) (p : Nat → Bool) : List Boundary :=
  sortBoundaries ((ks.flatMap fun k =>
    match (s.entry n k).body with
    | none => []
    | some b => b.boundaries k).filter fun b => p b.stamp)

/-! ### Segment marks and pins -/

/-- R150: a mark request handed to the Mover's pending-mark list, or counted lost when the list is full. -/
def State.requestMark (s : State) (n : Svc) (m : MarkRequest) : State :=
  s.modRecorder n fun r =>
    if r.marks.length < Config.markPlaces then { r with marks := r.marks ++ [m] }
    else { r with lostMarks := sat32 r.lostMarks }

/-- R144: two ranges meet. -/
def rangesMeet (first last first' last' : Nat) : Bool := decide (first ≤ last') && decide (first' ≤ last)

/-- R115, R144: a range meets a pin of a service. -/
def State.pinMeets (s : State) (n : Svc) (first last : Nat) : Bool :=
  s.sched[n].pins.any fun p => rangesMeet first last p.first p.last

/-! ### Verdicts (R105, R106, R110, R111) -/

/-- R106: the loudness part of a NO_METER verdict. -/
def noMeterResult : LoudResult :=
  { verdict := .unmeasured, integrated := none, pass1 := none, threshold := none, n1 := 0, n2 := 0, momentary := 0,
    silent := 0, maxMomentary := none, maxShort := none, excess := 0, maxima := zeros8 }

/-- R111: the grounds on which LOUDNESS_FAIL is raised. -/
def LoudResult.fails (r : LoudResult) : Bool :=
  decide (r.verdict = .high) || decide (r.verdict = .low) || decide (0 < r.excess)

/-- R110: a failing verdict. -/
def isFailing (loud : LoudResult) (cap : CaptionResult) : Bool := loud.fails || decide (cap.verdict = .short)

/-- R105: the verdict assembled from an entry and a loudness result. -/
def Entry.assemble (e : Entry) (b : Body) (sn : Snapshot) (loud : LoudResult) : Verdict :=
  let cap := e.tally.result
  { posting := e.posting, segId := b.segId, cls := b.cls, loudness := loud, figures := sn, captions := cap,
    tally := e.tally, units := e.units, openStamp := e.openStamp, closeStamp := e.closeStamp, flags := e.flags,
    failing := isFailing loud cap }

/-- R113: the pin that a verdict installs, when it is failing and has a unit range. -/
def Verdict.pin (v : Verdict) (k : Slot) : List Pin :=
  match v.failing, v.units.first, v.units.last with
  | true, some first, some last => [⟨k, v.posting, first, last⟩]
  | _, _, _ => []

/-- R111: the raises of a verdict, LOUDNESS_FAIL first. -/
def State.raiseVerdict (s : State) (n : Svc) (v : Verdict) : State :=
  let s := if v.loudness.fails then s.raise n .loudnessFail else s
  if v.captions.verdict = .short then s.raise n .captionFail else s

/-- R98, R111: a verdict's writes handed and its docket CLOSED; for a failing verdict the raises and the pin follow at the
same transition, when the two writes are handed and not when they have completed (assumption 29). -/
def State.deliverVerdict (s : State) (n : Svc) (k : Slot) (v : Verdict) : State :=
  let s := (s.pushWrite n k (.verdict v)).modEntry n k fun e => { e with state := .closed }
  ((s.writeStanding n k).raiseVerdict n v).modSched n fun c => { c with pins := c.pins ++ v.pin k }

/-- R98: the verdict of a docket assembled and delivered. -/
def State.finishVerdict (s : State) (n : Svc) (k : Slot) (loud : LoudResult) : State :=
  match (s.entry n k).body, (s.entry n k).snapshot with
  | some b, some sn => s.deliverVerdict n k ((s.entry n k).assemble b sn loud)
  | _, _ => s

/-! ### Pause and resume (R94) -/

/-- A change of the context of an entry, where it has one. -/
def State.modContextOf (s : State) (e : Entry) (f : Context → Context) : State :=
  match e.context with
  | some c => s.modPool c f
  | none => s

/-- Slot k holds an OPEN docket of a layer. -/
def State.standsOpen (s : State) (n : Svc) (l : Layer) (k : Slot) : Bool :=
  decide ((s.entry n k).state = .opened) && decide ((s.entry n k).body.map (fun b => b.cls.layer) = some l)

/-- Every slot that holds an OPEN docket of a layer is acted on, the lowest first. -/
def State.forOpen (s : State) (n : Svc) (l : Layer) (f : State → Slot → State) : State :=
  allSlots.foldl (fun s k => if s.standsOpen n l k then f s k else s) s

/-- R94: an outer segment is paused, unless its docket's INCLUDE_INNER is set. -/
def State.pauseSegment (n : Svc) (s : State) (k : Slot) : State :=
  if ((s.entry n k).body.map Body.includeInner).getD false then s
  else
    (s.modContextOf (s.entry n k) Context.pause).modEntry n k fun e =>
      { e with tally := { e.tally with paused := true }, flags := e.flags.union .ofPaused }

/-- R94: an outer segment is resumed. -/
def State.resumeSegment (n : Svc) (s : State) (k : Slot) : State :=
  (s.modContextOf (s.entry n k) Context.resume).modEntry n k fun e =>
    { e with tally := { e.tally with paused := false } }

/-- R94: an inner opening pauses what is open in the outer layer. -/
def State.pauseOuter (s : State) (n : Svc) : State := s.forOpen n .outer (State.pauseSegment n)

/-- R94: an inner close resumes what is open in the outer layer, once no inner segment is open (assumption 28). -/
def State.resumeOuter (s : State) (n : Svc) : State :=
  if s.sched[n].openInner.isSome then s else s.forOpen n .outer (State.resumeSegment n)

/-! ### Closing (R95, R96) -/

/-- The open slot of a layer. -/
def Sched.openSlot (c : Sched) : Layer → Option Slot
  | .outer => c.openOuter
  | .inner => c.openInner

/-- The open slot of a layer set. -/
def Sched.setOpen (c : Sched) (l : Layer) (k : Option Slot) : Sched :=
  match l with
  | .outer => { c with openOuter := k }
  | .inner => { c with openInner := k }

/-- The segment of slot k is no longer the open one of its layer; where another docket of the layer still stands OPEN, the open
slot names the lowest such (assumption 28). -/
def State.leaveLayer (s : State) (n : Svc) (l : Layer) (k : Slot) : State :=
  if s.sched[n].openSlot l = some k then s.modSched n fun c => c.setOpen l (allSlots.find? (s.standsOpen n l)) else s

/-- R150: the END request of a close, when the docket has a unit range. -/
def State.markEnd (s : State) (n : Svc) (k : Slot) (b : Body) : State :=
  match (s.entry n k).units.last with
  | none => s
  | some last => s.requestMark n ⟨last + 1, .finish, b.segId, k⟩

/-- R96 step 2: the close of the context of an entry, where it has one. -/
def State.closeContextOf (s : State) (n : Svc) (e : Entry) (cls : SegClass) : State :=
  match e.context with
  | some c => s.closeContext n c cls
  | none => s

/-- R96, R106: the docket is CLOSING; one without a context has its NO_METER verdict at once. At a fault unlink nothing is written
(R102), and there a NO_METER docket's verdict is not assembled, so it raises no condition (assumption 29). -/
def State.announceClose (s : State) (n : Svc) (k : Slot) (metered : Bool) : State :=
  if metered then s.writeStanding n k
  else if s.carries then s.finishVerdict n k noMeterResult
  else s

/-- R96: a close of an OPEN segment, with the flags its cause adds; no effect on a docket that is not OPEN (R95). -/
def State.closeSegment (s : State) (n : Svc) (k : Slot) (add : VerdictFlags) : State :=
  let e := s.entry n k
  match e.state, e.body with
  | .opened, some b =>
    let s := s.modEntry n k fun e =>
      { e with state := .closing, closeStamp := some s.feed[n].time, flags := e.flags.union add }
    let s := (s.closeContextOf n e b.cls).leaveLayer n b.cls.layer k
    let s := if b.cls.layer = .inner then s.resumeOuter n else s
    (s.markEnd n k b).announceClose n k e.context.isSome
  | _, _ => s

/-! ### Opening (R91 to R93) -/

/-- The flags that a firing carries (R91 step 5): LATE, CUE_MISSED and FLYWHEEL. -/
structure Firing where
  late : Bool
  cueMissed : Bool
  flywheel : Bool
  deriving DecidableEq, Repr

/-- A firing that carries no flag. -/
def Firing.plain : Firing := ⟨false, false, false⟩

def Firing.flags (f : Firing) : VerdictFlags :=
  { VerdictFlags.none with late := f.late, cueMissed := f.cueMissed, flywheel := f.flywheel }

/-- R92: the rule snapshot of a body under a sheet. -/
def Sheet.snapshot (sh : Sheet) (b : Body) : Snapshot :=
  let r := sh.rule b.cls
  { target := (b.loudness.map Prod.fst).getD r.target, tolerance := (b.loudness.map Prod.snd).getD r.tolerance,
    ceiling := r.ceiling, required := (b.captions.map Prod.fst).getD r.required,
    permille := min 1000 ((b.captions.map Prod.snd).getD r.permille) }

/-- R91 step 1, R97: an OPEN ON_NEXT docket of the layer is closed with the LATE or FLYWHEEL of the opening, whether or not
the open slot names it. -/
def State.closeOnNext (s : State) (n : Svc) (l : Layer) (f : Firing) : State :=
  s.forOpen n l fun s k =>
    if ((s.entry n k).body.map Body.isOnNext).getD false then
      s.closeSegment n k { f with cueMissed := false }.flags
    else s

/-- R91 step 3, R93: the claim of an opening: the context, or NO_METER and METER_SHORTAGE. -/
def State.claimFor (s : State) (n : Svc) (k : Slot) (sn : Snapshot) (paused : Bool) : State :=
  match s.freeContext with
  | some c =>
    (s.claim c ⟨n, k, (s.entry n k).posting⟩ sn paused).modEntry n k fun e => { e with context := some c }
  | none => (s.modEntry n k fun e => { e with context := none, flags := e.flags.union .ofNoMeter }).raise n .meterShortage

/-- R91: a docket's segment opens. Where another docket of the layer that is not ON_NEXT still stands OPEN, the open slot of the
layer names the later opening and both stand OPEN (assumption 28). -/
def State.openSegment (s : State) (n : Svc) (k : Slot) (f : Firing) : State :=
  match (s.entry n k).body with
  | none => s
  | some b =>
    let s := s.closeOnNext n b.cls.layer f
    let sn := (s.sheetOf n).snapshot b
    let paused := decide (b.cls.layer = .outer) && s.sched[n].openInner.isSome && !b.includeInner
    let s := s.claimFor n k sn paused
    let s := s.modEntry n k fun e =>
      { e with snapshot := some sn, openStamp := some s.feed[n].time, state := .opened,
               tally := { Tally.zero with paused := paused, required := sn.required, permille := sn.permille },
               flags := (e.flags.union f.flags).union (if paused then .ofPaused else .none) }
    let s := s.modSched n fun c => c.setOpen b.cls.layer (some k)
    let s := if b.cls.layer = .inner then s.pauseOuter n else s
    s.writeStanding n k

/-! ### Firing (R87 to R89) -/

/-- What fires boundaries: a STEP, a JUMP or a FLYWHEEL advance, or the passing of a boundary found at an acceptance or a
time seed. -/
inductive FireCause where
  | step
  | jump
  | flywheel
  | passed
  deriving DecidableEq, Repr

/-- R88, R84, R89: the flags of a boundary fired by a cause. -/
def FireCause.firing : FireCause → Firing
  | .step => Firing.plain
  | .jump => ⟨true, false, false⟩
  | .flywheel => ⟨false, false, true⟩
  | .passed => ⟨true, false, false⟩

/-- R87: one boundary fires; without effect in a state other than its own. -/
def State.fireBoundary (s : State) (n : Svc) (f : Firing) (b : Boundary) : State :=
  let e := s.entry n b.slot
  match b.kind, e.state with
  | .start, .pending => s.openSegment n b.slot f
  | .arm, .pending => (s.modEntry n b.slot fun e => { e with state := .armed }).writeStanding n b.slot
  | .latest, .armed => s.openSegment n b.slot { f with cueMissed := true }
  | .stop, .opened => s.closeSegment n b.slot f.flags
  | .cap, .opened =>
    s.closeSegment n b.slot { f with cueMissed := !(e.body.map Body.isOnNext).getD false }.flags
  | _, _ => s

/-- R88: boundaries fired one after the other. -/
def State.fireAll (s : State) (n : Svc) (c : FireCause) (bs : List Boundary) : State :=
  bs.foldl (fun s b => s.fireBoundary n c.firing b) s

/-- R88: the boundaries of a time advance from t0 to t1; the openings and closings reach the Caption Watch together
(R91). -/
def State.advanceBoundaries (s : State) (n : Svc) (c : FireCause) (t0 t1 : Nat) : State :=
  (s.fireAll n c (s.boundariesOf n allSlots fun t => decide (t0 < t) && decide (t ≤ t1))).refreshRequirement n

/-- R89: the boundaries already passed at a time seed, of the PENDING and ARMED entries. -/
def State.seedBoundaries (s : State) (n : Svc) (t : Nat) : State :=
  let ks := allSlots.filter fun k => decide ((s.entry n k).state = .pending) || decide ((s.entry n k).state = .armed)
  (s.fireAll n .passed (s.boundariesOf n ks fun u => decide (u ≤ t))).refreshRequirement n

/-! ### Release (R86, R114) -/

/-- R86: RELEASE: the pin lifted, the entry cleared but for its posting and command word, the standing IDLE written. -/
def State.release (s : State) (n : Svc) (k : Slot) : State :=
  let s := s.modSched n fun c => { c with pins := c.pins.filter fun p => p.slot ≠ k }
  let s := s.modEntry n k fun e =>
    { e.cleared with posting := e.posting, lastWord := e.lastWord }
  s.writeStanding n k

/-! ### Command words (R77, R203) -/

def wordPosting (w : BitVec 32) : BitVec 16 := w.setWidth 16
def wordCommand (w : BitVec 32) : Nat := ((w >>> 16).setWidth 8).toNat

/-- R203: the command codes. -/
def cmdPost : Nat := 1
def cmdWithdraw : Nat := 2
def cmdRelease : Nat := 3

/-- R80: a RELEASE held for a docket under its posting. -/
def Entry.releaseHeld (e : Entry) : Bool :=
  match e.lastWord with
  | none => false
  | some w => decide (wordPosting w = e.posting) && decide (wordCommand w = cmdRelease)

/-! ### Events of the service that mark its open dockets (R108) -/

/-- Flags added to every docket of a service that stands OPEN. -/
def State.flagOpen (s : State) (n : Svc) (f : VerdictFlags) : State :=
  s.modEntriesWhere n (fun e => e.state = .opened) fun e => { e with flags := e.flags.union f }

/-- R18, R108: a raise of TIME_FAULT, which also marks the open dockets. -/
def State.raiseTimeFault (s : State) (n : Svc) : State := (s.raise n .timeFault).flagOpen n .ofTimeFault

/-- What is open in a layer closes. -/
def State.closeLayer (s : State) (n : Svc) (l : Layer) (f : VerdictFlags) : State :=
  s.forOpen n l fun s k => s.closeSegment n k f

/-- R99, R101, R102: every OPEN segment of a service closes, the outer layer first (assumption 23). -/
def State.closeOpen (s : State) (n : Svc) (f : VerdictFlags) : State :=
  ((s.closeLayer n .outer f).closeLayer n .inner f).refreshRequirement n

/-- R101: PENDING and ARMED entries forgotten; slot writes already handed stay. -/
def Entry.forget (e : Entry) : Entry :=
  if e.state = .pending ∨ e.state = .armed then e.cleared else e

def State.forgetWaiting (s : State) (n : Svc) : State := s.modEntriesWhere n (fun _ => true) Entry.forget

/-- R101, R102, R116: a service's docket list and pinned-range list emptied; the unmatched cue count stays. -/
def State.emptyDockets (s : State) (n : Svc) : State :=
  (s.modSched n fun c =>
    { c with entries := Vector.replicate 24 Entry.fresh, openOuter := none, openInner := none,
             pins := [] }).refreshRequirement n

end Sys2Proof.Machine
end

