-- ==== Sys2Proof/Machine/Operands.lean ====
section
/-! DEFINITION. The host-written records as the block reads them: docket bodies and their validation, service sheets and
their checks, extent descriptors, the header (layouts of R203; R82, R137, R177 to R179, R195). -/
namespace Sys2Proof.Machine

/-- A bit of a byte. -/
def bitOf (v place : Nat) : Bool := decide (v / 2 ^ place % 2 = 1)

/-- A 48-bit value in a 64-bit field (R203). -/
def stampField (b : List Byte) (offset : Nat) : Nat := field b offset 8 % 2 ^ 48

/-- A field with the range into which it is brought (section 10.1, R179). -/
structure Ranged where
  lo : Int
  hi : Int
  raw : Int
  deriving DecidableEq, Repr

/-- The value brought into range. -/
def Ranged.value (r : Ranged) : Int := clampInt r.lo r.hi r.raw
/-- The value brought into range, of an unsigned field. -/
def Ranged.nat (r : Ranged) : Nat := r.value.toNat
/-- Whether the field is out of its range. -/
def Ranged.out (r : Ranged) : Bool := decide (r.raw < r.lo) || decide (r.hi < r.raw)

/-! ### Docket bodies (R77, R203) -/

def parseClass : Nat → Option SegClass
  | 1 => some .programme
  | 2 => some .continuity
  | 3 => some .commercial
  | 4 => some .promotion
  | _ => none

/-- The start mode of a body. -/
def parseStart (b : List Byte) : Option StartMode :=
  match field b 9 1 with
  | 1 => some (.atStamp (stampField b 16))
  | 2 => some (.onCue (BitVec.ofNat 16 (field b 12 2)) (stampField b 16) (stampField b 24))
  | _ => none

/-- The end mode of a body. -/
def parseEnd (b : List Byte) : Option EndMode :=
  match field b 10 1 with
  | 1 => some (.atStamp (stampField b 32))
  | 2 => some (.onCue (BitVec.ofNat 16 (field b 14 2)) (stampField b 32))
  | 3 => some (.onNext (stampField b 32))
  | _ => none

/-- R82: the override target and tolerance, clamped. -/
def parseLoudness (b : List Byte) : Option (Int × Int) :=
  if bitOf (field b 11 1) 1 then some (clampInt Config.levelMin Config.levelMax (fieldInt16 b 40), clampInt 0 2000 (fieldInt16 b 42))
  else none

/-- R82: the caption override, its permille at most 1,000. The layout (R203) names only 0 NOT_REQUIRED; every other byte is taken
as REQUIRED (assumption 19). -/
def parseCaptions (b : List Byte) : Option (Bool × Nat) :=
  if bitOf (field b 11 1) 2 then some (decide (field b 44 1 ≠ 0), min 1000 (field b 46 2)) else none

/-- A body of a class with its modes. -/
def parseBody (b : List Byte) (cls : SegClass) (start : StartMode) (finish : EndMode) : Body :=
  { segId := BitVec.ofNat 32 (field b 4 4), cls := cls, start := start, finish := finish,
    includeInner := bitOf (field b 11 1) 0, loudness := parseLoudness b, captions := parseCaptions b }

/-- R82 check 4. -/
def Body.badWindow (b : Body) : Bool :=
  (match b.start with
    | .onCue _ earliest latest => decide (latest < earliest)
    | .atStamp _ => false) ||
  decide (b.endStamp ≤ b.lastStart)

/-- R82 check 5: more than 24 hours of frames. -/
def Body.tooLong (rate : Nat) (b : Body) : Bool := decide (b.firstStart + 86400 * rate < b.endStamp)

/-- R82 check 6. -/
def State.tooLate (s : State) (n : Svc) (b : Body) : Bool :=
  decide (s.feed[n].lock = .locked) && decide (b.lastStart + (s.sheetOf n).lateAllowance < s.feed[n].time)

/-- R83: the end of a body for the overlap test against another. -/
def Body.endAgainst (b other : Body) : Nat :=
  if b.isOnNext && decide (b.firstStart < other.firstStart) then other.firstStart else b.endStamp

/-- R83: the intervals of two bodies meet. -/
def Body.meets (a b : Body) : Bool :=
  decide (a.firstStart < b.endAgainst a) && decide (b.firstStart < a.endAgainst b)

/-- R82 check 7 against one entry. -/
def Entry.overlaps (e : Entry) (b : Body) : Bool :=
  match e.body with
  | none => false
  | some c =>
    decide (c.cls.layer = b.cls.layer) &&
    ((decide (e.state = .pending) || decide (e.state = .armed) || decide (e.state = .opened)) && b.meets c ||
      decide (e.state = .opened) && decide (b.firstStart ≤ c.firstStart))

/-- R82, R83: the checks of a posting's body in their order. -/
def State.validate (s : State) (n : Svc) (bytes : List Byte) : RefusalCause ⊕ Body :=
  if (s.sheetOf n).enable then
    match parseClass (field bytes 8 1) with
    | none => .inl .badClass
    | some cls =>
      match parseStart bytes, parseEnd bytes with
      | some start, some finish =>
        let b := parseBody bytes cls start finish
        if b.badWindow then .inl .badWindow
        else if b.tooLong (s.sheetOf n).rate then .inl .tooLong
        else if s.tooLate n b then .inl .tooLate
        else if allSlots.any fun k => (s.entry n k).overlaps b then .inl .overlap
        else .inr b
      | _, _ => .inl .badMode
  else .inl .serviceDisabled

/-! ### Service sheets (section 10.1, R177, R179, R203) -/

def rawRate (b : List Byte) : Nat := field b 5 1
def rawMixCount (b : List Byte) : Nat := field b 6 1
def rawChainCount (b : List Byte) : Nat := field b 7 1
/-- The feed channels that the first mix-count entries name. -/
def rawFeeds (b : List Byte) : List Nat := (List.range (rawMixCount b)).map fun i => field b (8 + 4 * i) 1
/-- The weights of the first mix-count entries. -/
def rawWeights (b : List Byte) : List Ranged :=
  (List.range (rawMixCount b)).map fun i => ⟨0, 511, field b (10 + 4 * i) 2⟩
def rawChain (b : List Byte) : List Nat := (List.range (rawChainCount b)).map fun i => field b (64 + 2 * i) 2
def rawQuota (b : List Byte) : Nat := field b 60 4

def rawC (b : List Byte) : Ranged := ⟨-200, 200, fieldInt16 b 40⟩
def rawG (b : List Byte) : Ranged := ⟨10, 2000, fieldInt16 b 42⟩
def rawSilence (b : List Byte) : Ranged := ⟨Config.levelMin, Config.levelMax, fieldInt16 b 44⟩
def rawHold (b : List Byte) : Ranged := ⟨1, 6000, field b 46 2⟩
def rawClip (b : List Byte) : Ranged := ⟨1, 16, field b 48 1⟩
def rawPage (b : List Byte) : Ranged := ⟨1, 8, field b 49 1⟩
def rawLiveness (b : List Byte) : Ranged := ⟨1, 250, field b 50 1⟩
def rawLate (b : List Byte) : Ranged := ⟨0, 1500, field b 54 2⟩
def rawPriority (b : List Byte) (i : Nat) : Ranged := ⟨0, 7, field b (96 + i) 1⟩
def rawReminder (b : List Byte) : Ranged := ⟨0, 3600, field b 112 2⟩

/-- The fields of the class rule that begins at an offset. -/
def rawTarget (b : List Byte) (o : Nat) : Ranged := ⟨Config.levelMin, Config.levelMax, fieldInt16 b o⟩
def rawTolerance (b : List Byte) (o : Nat) : Ranged := ⟨0, 2000, fieldInt16 b (o + 2)⟩
def rawCeiling (b : List Byte) (o : Nat) : Ranged := ⟨Config.levelMin, Config.levelMax, fieldInt16 b (o + 6)⟩
def rawPermille (b : List Byte) (o : Nat) : Ranged := ⟨0, 1000, field b (o + 8) 2⟩
def rawMinCount (b : List Byte) (o : Nat) : Ranged := ⟨0, 1048575, field b (o + 12) 4⟩

/-- The offsets of the four class rules. -/
def ruleOffsets : List Nat := [128, 144, 160, 176]

def parseRule (b : List Byte) (o : Nat) : ClassRule :=
  { target := (rawTarget b o).value, tolerance := (rawTolerance b o).value,
    ceiling := if field b (o + 4) 1 = 0 then none else some (rawCeiling b o).value,
    required := decide (field b (o + 5) 1 ≠ 0), permille := (rawPermille b o).nat, minCount := (rawMinCount b o).nat }

/-- Two entries of a list are equal. -/
def hasDuplicate : List Nat → Bool
  | [] => false
  | x :: xs => xs.contains x || hasDuplicate xs

/-- R177, causes 1 to 5: the first structural check that fails. -/
def sheetStructure (b : List Byte) : Option SheetCause :=
  if ¬ (rawRate b = 25 ∨ rawRate b = 30 ∨ rawRate b = 50 ∨ rawRate b = 60) then some .badRate
  else if rawMixCount b = 0 ∨ 8 < rawMixCount b then some .badMixCount
  else if (rawFeeds b).any (fun f => decide (15 < f)) || hasDuplicate (rawFeeds b) then some .badMixChannel
  else if rawChainCount b = 0 ∨ 16 < rawChainCount b ∨ (rawChain b).any (fun x => decide (255 < x)) ∨ hasDuplicate (rawChain b)
  then some .badChain
  else if Config.spoolSlots < rawQuota b then some .badQuota
  else none

/-- R179: the sheet of a structurally sound record, its fields brought into range. -/
def parseSheet (revision : BitVec 32) (b : List Byte) : Sheet :=
  { revision := revision, enable := decide (field b 4 1 ≠ 0), rate := rawRate b,
    mix := List.zipWith (fun f w => ⟨Fin.ofNat 16 f, w.nat⟩) (rawFeeds b) (rawWeights b),
    calibration := (rawC b).value, gate := (rawG b).value, silenceThreshold := (rawSilence b).value,
    silenceHold := (rawHold b).nat, clipRun := (rawClip b).nat, programme := parseRule b 128,
    continuity := parseRule b 144, commercial := parseRule b 160, promotion := parseRule b 176,
    lateAllowance := (rawLate b).nat, page := (rawPage b).nat,
    lang := ⟨BitVec.ofNat 8 (field b 56 1), BitVec.ofNat 8 (field b 57 1), BitVec.ofNat 8 (field b 58 1)⟩,
    livenessWindow := (rawLiveness b).nat, contentWindow := field b 52 2, unscheduled := decide (field b 51 1 ≠ 0),
    overwrite := decide (field b 59 1 = 1), chain := (rawChain b).map (Fin.ofNat 256), quota := rawQuota b,
    priorities := Vector.ofFn fun i => (rawPriority b i.val).nat, reminder := (rawReminder b).nat }

/-- R179: the numeric fields that can be clamped. -/
def sheetRanged (b : List Byte) : List Ranged :=
  [rawC b, rawG b, rawSilence b, rawHold b, rawClip b, rawPage b, rawLiveness b, rawLate b, rawReminder b] ++
  rawWeights b ++ (List.range 16).map (rawPriority b) ++
  ruleOffsets.flatMap fun o =>
    [rawTarget b o, rawTolerance b o, rawPermille b o, rawMinCount b o] ++
    if field b (o + 4) 1 = 0 then [] else [rawCeiling b o]

/-- R179: the flag fields; their named codes are 0 and 1. -/
def sheetFlags (b : List Byte) : List Nat :=
  [field b 4 1, field b 51 1, field b 59 1] ++ ruleOffsets.flatMap fun o => [field b (o + 4) 1, field b (o + 5) 1]

/-- R179: whether the clamp indication is set at the adoption. -/
def sheetClamps (b : List Byte) : Bool :=
  (sheetRanged b).any Ranged.out || (sheetFlags b).any fun f => decide (1 < f)

/-! ### Extent descriptors (R137, R203) -/

/-- The host-written fields of an extent descriptor. -/
structure Descriptor where
  base : Nat
  code : Nat
  hold : Bool
  draining : Bool
  drained : BitVec 32
  deriving DecidableEq, Repr

def parseDescriptor (b : List Byte) : Descriptor :=
  { base := field b 0 8, code := field b 8 1, hold := bitOf (field b 9 1) 0, draining := bitOf (field b 9 1) 1,
    drained := BitVec.ofNat 32 (field b 12 4) }

/-! ### The header (R195, R203) -/

def headerVersion (b : List Byte) : Nat := field b 0 4
def headerWindowBase (b : List Byte) : Nat := field b 8 8
def headerWindowSize (b : List Byte) : Nat := field b 16 8
/-- R172: a device priority as taken; above 7 it is taken as 7. -/
def takePriority (b : Byte) : Nat := min 7 b.toNat
def headerPriorities (b : List Byte) : Vector Nat 3 := Vector.ofFn fun i => takePriority (BitVec.ofNat 8 (field b (24 + i.val) 1))

end Sys2Proof.Machine
end

