-- ==== Sys2Proof/Machine/Layout.lean ====
section
/-! DEFINITION. The device-written records as the block lays them out in host memory, the unit header, and the registers
as they read (R192, R202, R203). -/
namespace Sys2Proof.Machine

/-! ### Docket slots -/

def slotOffset (n : Svc) (k : Slot) : Nat := 0x11000 + n.val * 0x2000 + k.val * 0x100

/-- The verdict, offsets 72 to 255 of a slot. -/
def Verdict.bytes (v : Verdict) : List Byte :=
  le 2 v.posting.toNat ++ le 1 v.cls.code ++ le 1 v.loudness.verdict.code ++ le 4 v.segId.toNat ++
  le 1 v.captions.verdict.code ++ [boolByte v.failing] ++ le 2 v.flags.toWord ++
  levelBytes v.loudness.integrated ++ levelBytes v.loudness.pass1 ++ levelBytes v.loudness.threshold ++
  levelBytes v.loudness.maxMomentary ++ levelBytes v.loudness.maxShort ++
  leInt 2 v.figures.target ++ leInt 2 v.figures.tolerance ++ levelBytes v.figures.ceiling ++
  [boolByte v.tally.required] ++ zeroBytes 1 ++ le 2 v.tally.permille ++ le 2 v.captions.coverage ++ zeroBytes 2 ++
  le 4 v.loudness.n1 ++ le 4 v.loudness.n2 ++ le 4 v.loudness.momentary ++ le 4 v.loudness.silent ++
  le 4 v.loudness.excess ++ v.loudness.maxima.flatMap (le 4) ++
  le 4 v.tally.counted ++ le 4 v.tally.covered ++ le 4 v.tally.idle ++ le 4 v.tally.feedLoss ++
  le 4 v.tally.discontinuities ++ le 4 v.tally.mismatches ++ le 4 v.units.received ++ le 4 v.units.dropped ++
  stampBytes v.units.first ++ stampBytes v.units.last ++ stampBytes v.openStamp ++ stampBytes v.closeStamp ++ zeroBytes 32

/-- The piece of a slot write. -/
def State.slotPiece (s : State) (n : Svc) (k : Slot) : SlotContent → Piece
  | .standing st p => ⟨s.area (slotOffset n k + 64), le 1 st.code ++ zeroBytes 1 ++ le 2 p.toNat⟩
  | .cause c => ⟨s.area (slotOffset n k + 68), le 1 c.code ++ zeroBytes 3⟩
  | .verdict v => ⟨s.area (slotOffset n k + 72), v.bytes⟩

/-! ### Extent descriptors -/

def descOffset (x : ExtId) : Nat := 0x41000 + x.val * 0x80

/-- One segment mark, and the six places of a descriptor. -/
def SegMark.bytes (m : SegMark) : List Byte :=
  le 4 m.segId.toNat ++ le 2 m.offset ++ le 1 m.slot.val ++ le 1 m.kind.code
def markBytes (ms : List SegMark) : List Byte :=
  (List.range 6).flatMap fun i => match ms[i]? with | some m => m.bytes | none => zeroBytes 8

/-- The device-written fields of a descriptor after the state, offsets 33 to 127. -/
def Extent.bodyBytes (e : Extent) : List Byte :=
  le 1 ((e.owner.map Fin.val).getD 0xFF) ++ le 1 ((e.cause.map CloseCause.code).getD 0) ++
  le 1 (e.marks.length + bitAt e.overflowed 7) ++ le 4 e.generation.toNat ++ le 2 e.units ++ zeroBytes 6 ++
  stampBytes e.first ++ stampBytes e.last ++ stampBytes e.firstStamp ++ stampBytes e.lastStamp ++ markBytes e.marks

/-- R138: a descriptor update, the state written after every other field. -/
def State.descPieces (s : State) (x : ExtId) (e : Extent) : List Piece :=
  [⟨s.area (descOffset x + 33), e.bodyBytes⟩, ⟨s.area (descOffset x + 32), le 1 e.state.code⟩]

/-! ### Unit header (R122 to R125) -/

def LiveBits.toNat (l : LiveBits) : Nat :=
  bitAt l.feedLoss 0 + bitAt l.audioSilence 1 + bitAt l.captionLoss 2 + bitAt l.captionIdle 3 + bitAt l.recordFatal 4

/-- The flags byte of a unit header. -/
def UnitHeader.flagBits (h : UnitHeader) : Nat :=
  bitAt h.key 0 + bitAt h.cut 1 + bitAt h.flywheel 2 + bitAt h.held 3 + bitAt h.outerId.isSome 4 + bitAt h.innerId.isSome 5

/-- The 64 bytes of a unit header; an absent segment id is shown by its presence flag. -/
def UnitHeader.bytes (h : UnitHeader) : List Byte :=
  le 1 h.service.val ++ le 1 h.flagBits ++ le 2 h.length ++ le 1 (h.caption.code + bitAt h.required 2) ++
  le 1 h.live.toNat ++ levelBytes h.level ++ le 8 h.seq ++ stampBytes h.time ++ le 8 h.proxyStamp.toNat ++
  le 4 (h.outerId.getD (Config.absentSegmentId h.service.val h.seq 0)).toNat ++
  le 4 (h.innerId.getD (Config.absentSegmentId h.service.val h.seq 1)).toNat ++ zeroBytes 24

/-- The 2,048 bytes of a unit, header first. -/
def SpoolUnit.bytes (u : SpoolUnit) : List Byte := u.header.bytes ++ u.payload

/-! ### Live block (R204) -/

/-- R126: the spool's free count. -/
def State.spoolFree (s : State) : Nat :=
  Config.spoolSlots - (allServices.map fun n => s.proxy[n].queue.length).sum

/-- The segment id of an open slot. -/
def State.segIdOf (s : State) (n : Svc) : Option Slot → Option (BitVec 32)
  | none => none
  | some k => (s.entry n k).body.map Body.segId

/-- The Feed Receiver's fields, offsets 32 to 63 (R18). -/
def State.feedBytes (s : State) (n : Svc) : List Byte :=
  let f := s.feed[n]
  le 1 f.lock.code ++ [boolByte f.lineDown] ++ shortBytes (f.lastRate.map BitVec.toNat) ++
  shortBytes (f.lastSeq.map BitVec.toNat) ++ zeroBytes 2 ++ le 8 f.time ++ le 4 f.received.toNat ++
  le 4 f.advances.toNat ++ le 4 f.discarded.toNat ++ zeroBytes 4

/-- R33: the peaks handed, 0 at positions at or above the mix count. -/
def State.handedPeaks (s : State) (n : Svc) : List Nat :=
  (List.range 8).map fun i => if i < (s.sheetOf n).mix.length then s.meter[n].peaks.getD i 0 else 0

/-- The Loudness Meter's fields, offsets 64 to 111 (R33). -/
def State.meterBytes (s : State) (n : Svc) : List Byte :=
  let m := s.meter[n]
  le 1 (s.sheetOf n).mix.length ++ zeroBytes 1 ++ levelBytes m.curMomentary ++ levelBytes m.curShort ++ le 2 m.silence ++
  le 4 m.rolling.run ++ zeroBytes 4 ++ (s.handedPeaks n).flatMap (le 4)

/-- R60: how many contexts of a service stand in a state for which p holds. -/
def State.contextsIn (s : State) (n : Svc) (p : CtxState → Bool) : Nat :=
  (allContexts.filter fun c => s.pool[c].ownedBy n && p s.pool[c].state).length

/-- R60: the depth of the integration queue, counting the context being integrated. -/
def State.queueDepth (s : State) : Nat := s.integ.queue.length + (if s.integ.busy.isSome then 1 else 0)

/-- The pool's fields, offsets 112 to 119 (R60). -/
def State.poolBytes (s : State) (n : Svc) : List Byte :=
  le 1 (s.contextsIn n fun c => decide (c = .accumulating)) ++ le 1 (s.contextsIn n fun c => decide (c = .paused)) ++
  le 1 (s.contextsIn n fun c => decide (c = .closing) || decide (c = .integrating)) ++ le 1 s.freeCount ++
  le 1 s.queueDepth ++ zeroBytes 3

/-- The Caption Watch's fields, offsets 120 to 143 (R76). -/
def State.captionBytes (s : State) (n : Svc) : List Byte :=
  let c := s.caption[n]
  le 1 c.state.code ++ [boolByte c.required] ++ le 1 c.source.code ++ zeroBytes 1 ++ le 2 c.liveness ++ le 2 c.content ++
  shortBytes (c.lastSeq.map BitVec.toNat) ++ zeroBytes 2 ++ le 4 c.accepted.toNat ++ le 4 c.mismatches.toNat ++
  le 4 c.discontinuities.toNat

/-- R103: how many entries of a service stand in a state. -/
def State.entriesIn (s : State) (n : Svc) (st : Standing) : Nat :=
  (allSlots.filter fun k => (s.entry n k).state = st).length

/-- R117: the lowest pinned first unit sequence. -/
def lowestPinned : List Pin → Option Nat
  | [] => none
  | p :: ps => match lowestPinned ps with
    | none => some p.first
    | some m => some (min p.first m)

/-- The Scheduler's fields, offsets 144 to 175 (R103, R117). -/
def State.schedBytes (s : State) (n : Svc) : List Byte :=
  let c := s.sched[n]
  shortBytes (c.openOuter.map Fin.val) ++ shortBytes (c.openInner.map Fin.val) ++
  le 4 ((s.segIdOf n c.openOuter).getD 0).toNat ++ le 4 ((s.segIdOf n c.openInner).getD 0).toNat ++
  le 1 (s.entriesIn n .pending) ++ le 1 (s.entriesIn n .armed) ++ le 1 (s.entriesIn n .opened) ++
  le 1 (s.entriesIn n .closing) ++ le 1 c.pins.length ++ zeroBytes 3 ++ le 4 c.unmatched.toNat ++
  stampBytes (lowestPinned c.pins)

/-- The Proxy Port's fields, offsets 176 to 239 (R136). -/
def State.proxyBytes (s : State) (n : Svc) : List Byte :=
  let p := s.proxy[n]
  le 8 p.seq ++ le 8 p.archived ++ le 8 p.dropped ++ le 8 p.spoolFull ++ le 4 p.truncated.toNat ++
  le 4 p.discardedChunks.toNat ++ le 4 p.queue.length ++ le 4 (s.sheetOf n).quota ++ le 4 s.spoolFree ++
  [boolByte p.overflow] ++ zeroBytes 3 ++ stampBytes (p.queue.head?.map fun u => u.header.seq)

/-- The violation capture, offsets 269 to 295 with the kind first (R154); an empty capture has every optional field absent
and the generation 0. -/
def captureBytes (c : Option Capture) : List Byte :=
  le 1 ((c.map fun v => v.kind.code).getD 0) ++ shortBytes ((c.bind Capture.extent).map Fin.val) ++
  shortBytes ((c.bind Capture.other).map Fin.val) ++ zeroBytes 2 ++ le 4 ((c.map fun v => v.generation.toNat).getD 0) ++
  stampBytes (c.bind Capture.time) ++ stampBytes (c.bind Capture.firstLeft)

/-- The Mover's fields, offsets 240 to 295 (R159). -/
def State.moverBytes (s : State) (n : Svc) : List Byte :=
  let r := s.recorder[n]
  le 1 r.state.code ++ le 1 r.marks.length ++ shortBytes (r.current.map Fin.val) ++ shortBytes (r.cursor.map Fin.val) ++
  le 2 ((r.current.map fun x => s.extents[x].units).getD 0) ++
  le 4 ((r.current.map fun x => s.extents[x].generation.toNat).getD 0) ++ le 4 r.lostMarks ++ le 4 r.stalls.toNat ++
  le 4 r.opened.toNat ++ le 2 r.captureNo.toNat ++ le 2 r.since ++ [boolByte r.acked] ++ captureBytes r.capture

/-- R186: the adopted revision as handed: absent until a host sheet has been adopted. -/
def State.adoptedRevision (s : State) (n : Svc) : BitVec 32 :=
  if s.sheet[n].source = .host then (s.sheetOf n).revision else Config.absentRevision n.val s.live[n].count.toNat 0

/-- R186: the refused revision as handed. -/
def State.refusedRevision (s : State) (n : Svc) : BitVec 32 :=
  s.sheet[n].refused.getD (Config.absentRevision n.val s.live[n].count.toNat 1)

/-- The Sheet Unit's fields, offsets 300 to 311 (R186). -/
def State.sheetBytes (s : State) (n : Svc) : List Byte :=
  let u := s.sheet[n]
  le 4 (s.adoptedRevision n).toNat ++ le 1 u.source.code ++ [boolByte u.clamped] ++
  le 1 ((u.cause.map SheetCause.code).getD 0) ++ zeroBytes 1 ++ le 4 (s.refusedRevision n).toNat

/-- R203, R204: the fields that the blocks hand for a periodic write, as they stand, and the unused parts of the block's
device-written fields, written 0 (assumption 27). -/
def State.livePieces (s : State) (n : Svc) : List Piece :=
  let a := s.area (liveOffset n)
  [⟨a + 20, zeroBytes 12⟩, ⟨a + 32, s.feedBytes n⟩, ⟨a + 64, s.meterBytes n⟩, ⟨a + 112, s.poolBytes n⟩,
   ⟨a + 120, s.captionBytes n⟩, ⟨a + 144, s.schedBytes n⟩, ⟨a + 176, s.proxyBytes n⟩, ⟨a + 240, s.moverBytes n⟩,
   ⟨a + 296, zeroBytes 4⟩, ⟨a + 300, s.sheetBytes n⟩, ⟨a + 312, zeroBytes 200⟩, ⟨a + 1024, zeroBytes 3072⟩]

/-! ### Regions of the exchange area (R202) -/

def sheetOffset (n : Svc) : Nat := 0x01000 + n.val * 0x1000

/-- A region of the exchange area: where it begins, how many records it holds and how far apart they begin. -/
structure Region where
  offset : Nat
  records : Nat
  stride : Nat
  deriving DecidableEq, Repr

def Region.size (r : Region) : Nat := r.records * r.stride

/-- R202: the header, the service sheets, the docket boards, the live blocks and the extent table. -/
def areaRegions : List Region :=
  [⟨0x00000, 1, 0x1000⟩, ⟨0x01000, 16, 0x1000⟩, ⟨0x11000, 16, 0x2000⟩, ⟨0x31000, 16, 0x1000⟩, ⟨0x41000, 256, 0x80⟩]

/-! ### Registers (R192) -/

def partIdent : BitVec 64 :=
  BitVec.ofNat 64 (Config.partNumber + Config.layoutVersion * 2 ^ 16 + Config.siliconRevision * 2 ^ 24)

/-- R192, R194: the readback of COMMAND. -/
def State.commandReadback (s : State) : BitVec 64 :=
  BitVec.ofNat 64 (s.ctl.cmd.toNat + s.ctl.result.code * 2 ^ 8 + s.ctl.mask.toNat * 2 ^ 16)

/-- R192, R193. -/
def State.deviceState (s : State) : BitVec 64 :=
  BitVec.ofNat 64 (s.ctl.link.code + bitAt s.store.commit.isSome 2 + bitAt s.ctl.faultMark 3 + s.ctl.consecutive * 2 ^ 8 +
    s.ctl.total * 2 ^ 16)

/-- What a register of the memory window reads; bits not named read 0. -/
def State.readRegister (s : State) (offset : Nat) : BitVec 64 :=
  match offset with
  | 0x00 => partIdent
  | 0x08 => s.ctl.base
  | 0x10 => s.commandReadback
  | 0x18 => s.deviceState
  | 0x20 => s.alert.level.setWidth 64
  | _ => 0

end Sys2Proof.Machine
end

