-- ==== Sys2Proof/Machine/Feed.lean ====
section
/-! DEFINITION. The Feed Receiver (chapter 1), with the run break that its flywheel entry and exit make in the Loudness
Meter (R28). -/
namespace Sys2Proof.Machine

/-! ### Run breaks (R28) -/

/-- R28, R31, R34, R35: what a run break does to a service's Loudness Meter; `silent` is whether AUDIO_SILENCE is live. -/
def Meter.breakRun (silent : Bool) (m : Meter) : Meter :=
  { m with rolling := Accumulator.fresh, curMomentary := none, curShort := none,
           silence := if silent then m.silence else 0, clips := List.replicate 8 ⟨0, false⟩ }

/-- R28: a run break of the rolling accumulator and of every accumulating context of the service. -/
def State.runBreak (s : State) (n : Svc) : State :=
  (s.modMeter n (Meter.breakRun (s.svcCond n .audioSilence).live)).breakContextRuns n

/-! ### Time advances (R8, R9, R13, R15) -/

/-- R15: a time advance from the present service time to t1, handed to the Scheduler. -/
def State.advanceTo (s : State) (n : Svc) (c : FireCause) (t1 : Nat) : State :=
  let t0 := s.feed[n].time
  (s.modFeed n fun f => { f with time := t1 }).advanceBoundaries n c t0 t1

/-- R13, R15, R71: one flywheel advance; none is made at 2^48 - 1. -/
def State.flyAdvance (s : State) (n : Svc) : State :=
  if s.feed[n].time < Config.timeMax then
    let s := s.modFeed n fun f => { f with advances := f.advances + 1 }
    let s := s.advanceTo n .flywheel (s.feed[n].time + 1)
    (s.flagOpen n .ofFlywheel).modTallies n Tally.advanced
  else s

/-- R12: entry to FLYWHEEL, with the advances already due. The period already running at the entry is timed at the rate of the
sheet as it stands at the entry, whatever sheet its begin fell under, and FEED_LOSS is raised before the advances already due, so
its stamps are the service time before them (assumption 28). -/
def State.enterFlywheel (s : State) (n : Svc) (due : Nat) : State :=
  let s := s.modFeed n fun f =>
    { f with lock := .flywheel, lossTimer := none, frameTimer := some (s.sheetOf n).rate }
  let s := (s.setLive n .feedLoss true).runBreak n
  (List.range due).foldl (fun s _ => s.flyAdvance n) s

/-- R13, R16: exit from FLYWHEEL; without effect in another lock state. -/
def State.leaveFlywheel (s : State) (n : Svc) : State :=
  if s.feed[n].lock = .flywheel then
    ((s.modFeed n fun f => { f with frameTimer := none }).setLive n .feedLoss false).runBreak n
  else s

/-! ### FRAME (R2, R6 to R11, R13, R14) -/

/-- R7: the time seed of a FRAME in SEEKING while enabled. -/
def State.seedTime (s : State) (n : Svc) (t : Nat) : State :=
  (s.modFeed n fun f => { f with lock := .locked, time := t }).seedBoundaries n t

/-- R9, R108: a forward jump: TIME_FAULT is raised, before the time advance and so under the service time that the advance
leaves (R162), and service time takes the stamp in one advance. -/
def State.jumpTo (s : State) (n : Svc) (t : Nat) : State :=
  ((s.modFeed n fun f => { f with lock := .locked }).raiseTimeFault n).advanceTo n .jump t

/-- R8 to R10, R13: a FRAME's stamp judged in LOCKED, HELD or FLYWHEEL. -/
def State.judgeStamp (s : State) (n : Svc) (t : Nat) : State :=
  let time := s.feed[n].time
  if t = time + 1 then (s.modFeed n fun f => { f with lock := .locked }).advanceTo n .step t
  else if time + 1 < t then s.jumpTo n t
  else if s.feed[n].lock = .held then s
  else (s.modFeed n fun f => { f with lock := .held }).raiseTimeFault n

/-- R11: the loss timer reloaded at the rate of the adopted sheet. -/
def State.reloadLoss (s : State) (n : Svc) : State := s.modFeed n fun f => { f with lossTimer := some (s.sheetOf n).rate }

/-- R7 to R13: a FRAME's stamp applied by the lock state. -/
def State.applyStamp (s : State) (n : Svc) (t : Nat) : State :=
  match s.feed[n].lock with
  | .seeking => if (s.sheetOf n).enable then (s.seedTime n t).reloadLoss n else s
  | .locked => (s.judgeStamp n t).reloadLoss n
  | .held => (s.judgeStamp n t).reloadLoss n
  | .flywheel => ((s.leaveFlywheel n).judgeStamp n t).reloadLoss n

/-- R14: whether a mismatching code raises TIME_FAULT. -/
def Feed.rateRaises (f : Feed) (code : BitVec 16) : Bool := !f.mismatch || decide (f.lastRate ≠ some code)

/-- R14: the rate code judged and kept. -/
def State.judgeRate (s : State) (n : Svc) (code : BitVec 16) : State :=
  let f := s.feed[n]
  if code.toNat = (s.sheetOf n).rate then s.modFeed n fun f => { f with mismatch := false, lastRate := some code }
  else
    let s := s.modFeed n fun f => { f with mismatch := true, lastRate := some code }
    if f.rateRaises code then s.raiseTimeFault n else s

/-- R2: a FRAME taken. The rate code (R14) is judged after the stamp (R108), and before the received-frame notice
(assumption 28). -/
def State.takeFrame (s : State) (n : Svc) (t : Nat) (code : BitVec 16) : State :=
  let s := s.modFeed n fun f => { f with lineDown := false }
  let s := (s.applyStamp n t).judgeRate n code
  (s.modFeed n fun f => { f with received := f.received + 1 }).judgeFrame n

/-- R1: a message discarded. -/
def State.discardMessage (s : State) (n : Svc) : State := s.modFeed n fun f => { f with discarded := f.discarded + 1 }

/-- R6, R12: LOSS. -/
def State.takeLoss (s : State) (n : Svc) (late : Bool) : State :=
  let s := s.modFeed n fun f => { f with lineDown := true }
  match s.feed[n].lock with
  | .locked => s.enterFlywheel n (if late then 1 else 0)
  | .held => s.enterFlywheel n (if late then 1 else 0)
  | .seeking => s
  | .flywheel => s

/-- R11, R12: the loss timer runs out; it runs in LOCKED and HELD. -/
def State.lossTimerOut (s : State) (n : Svc) : State :=
  if s.feed[n].lossTimer.isSome then s.enterFlywheel n 2 else s

/-- R13: the frame timer falls due; the next period is timed at the rate as it stands. -/
def State.frameTimerDue (s : State) (n : Svc) : State :=
  if s.feed[n].frameTimer.isSome then
    (s.modFeed n fun f => { f with frameTimer := some (s.sheetOf n).rate }).flyAdvance n
  else s

/-! ### CUE (R90) -/

/-- R90: the slots that a cue opens (START), in the order of R88, or closes (END), the lowest first too (assumption 23). -/
def State.cueSlots (s : State) (n : Svc) (id : BitVec 16) (kind : CueKind) : List Slot :=
  allSlots.filter fun k =>
    let e := s.entry n k
    match kind, e.body.map Body.start, e.body.map Body.finish with
    | .start, some (.onCue i _ _), _ => decide (e.state = .armed) && decide (i = id)
    | .finish, _, some (.onCue i _) => decide (e.state = .opened) && decide (i = id)
    | _, _, _ => false

/-- R90: what a cue does to the dockets it matches. -/
def State.cueSlot (s : State) (n : Svc) (kind : CueKind) (k : Slot) : State :=
  match kind with
  | .start => s.openSegment n k Firing.plain
  | .finish => s.closeSegment n k .none

/-- R90: a CUE taken. -/
def State.takeCue (s : State) (n : Svc) (id : BitVec 16) (kind : CueKind) : State :=
  let ks := if (s.sheetOf n).enable then s.cueSlots n id kind else []
  if ks.isEmpty then s.modSched n fun c => { c with unmatched := c.unmatched + 1 }
  else (ks.foldl (fun s k => s.cueSlot n kind k) s).refreshRequirement n

/-! ### CAPTION (R1, R4, R61) -/

/-- R4, R61: a CAPTION taken; with a page of 0 or above 8 it is a discarded message (R1). -/
def State.takeCaption (s : State) (n : Svc) (page : Byte) (lang : Lang) (kind : CaptionKind) (seq : Byte) : State :=
  if pageOk page then (s.modFeed n fun f => { f with lastSeq := some seq }).sortPacket n page lang kind seq
  else s.discardMessage n

end Sys2Proof.Machine
end

