-- ==== Sys2Proof/Machine/Meter.lean ====
section
/-! DEFINITION. The Loudness Meter's events: a sample set, a mix change, the periodic live-block write (chapter 2, R204). -/
namespace Sys2Proof.Machine

/-! ### Filters, peaks and clips (R19 to R24, R32, R35) -/

/-- R21, R32: the filters moved on and the peaks taken. -/
def Meter.takeRaw (raw : List (Option (BitVec 24))) (m : Meter) : Meter :=
  { m with filters := stepFilters raw m.filters, peaks := List.zipWith max m.peaks (setMagnitudes raw) }

/-- R35: one channel's clip run after a sample, and whether AUDIO_CLIP is raised. -/
def Clip.take (hold : Nat) (raw : Option (BitVec 24)) (c : Clip) : Clip × Bool :=
  match raw with
  | none => (c, false)
  | some x =>
    if fullScale x then
      let run := satInc 65535 c.run
      if decide (hold ≤ run) && !c.raised then (⟨run, true⟩, true) else (⟨run, c.raised⟩, false)
    else (⟨0, false⟩, false)

/-- R35: the clip check of a set, one raise for each channel that raises. -/
def State.takeClips (s : State) (n : Svc) (raw : List (Option (BitVec 24))) : State :=
  let rs := List.zipWith (Clip.take (s.sheetOf n).clipRun) raw s.meter[n].clips
  let s := s.modMeter n fun m => { m with clips := rs.map Prod.fst }
  rs.foldl (fun s r => if r.2 then s.raise n .audioClip else s) s

/-! ### The rolling accumulator (R30, R31, R34) -/

/-- R34: AUDIO_SILENCE judged at a short-term level. -/
def State.judgeSilence (s : State) (n : Svc) (lv : Int) : State :=
  let sh := s.sheetOf n
  if (s.svcCond n .audioSilence).live then
    if lv < sh.silenceThreshold then s
    else (s.setLive n .audioSilence false).modMeter n fun m => { m with silence := 0 }
  else if lv < sh.silenceThreshold then
    let s := s.modMeter n fun m => { m with silence := satInc 6000 m.silence }
    if sh.silenceHold ≤ s.meter[n].silence then s.setLive n .audioSilence true else s
  else s.modMeter n fun m => { m with silence := 0 }

/-- R31: the momentary value of a rolling block. -/
def State.rollingMomentary (s : State) (n : Svc) : State :=
  match s.meter[n].rolling.momentary with
  | none => s
  | some e =>
    let lv := level (s.sheetOf n).calibration e 1
    s.modMeter n fun m => { m with curMomentary := some lv, lastMomentary := some lv }

/-- R31, R34: the short-term value of a rolling block. -/
def State.rollingShort (s : State) (n : Svc) : State :=
  match s.meter[n].rolling.shortTerm with
  | none => s
  | some e =>
    let lv := level (s.sheetOf n).calibration e 1
    (s.modMeter n fun m => { m with curShort := some lv }).judgeSilence n lv

/-! ### The periodic live-block write (R33, R204) -/

/-- R171, R204: the writes of a periodic write: the fields as the blocks hand them, the sixteen entries, the end. -/
def State.periodicItems (s : State) (n : Svc) : List LiveItem :=
  (s.livePieces n).map LiveItem.fields ++
  allSvcConds.map (fun c => LiveItem.entry c true (s.svcCond n c).owed) ++ [.mark true]

/-- R204, R171: the write of the fields as they stand and of the service's sixteen entries handed to the controller. -/
def State.handLive (s : State) (n : Svc) : State :=
  if s.isLinked then
    let items := s.periodicItems n
    let s := s.modLive n fun l => { l with queue := l.queue ++ items }
    allSvcConds.foldl (fun s c => s.modCond (.service n c) fun e => { e with owed := false }) s
  else s

/-- R33: a due write: handed while LINKED; in every link state the countdown is reloaded, the timer restarted and the
peaks restart. -/
def State.dueWrite (s : State) (n : Svc) : State :=
  (s.handLive n).modMeter n fun m => { m with countdown := Config.writeReload, writeTimer := true, peaks := zeros8 }

/-! ### A sample set (R3, R19, R25, R37) -/

/-- R25 to R31: the rolling accumulator takes a set; true when it completed a block. -/
def State.rollingTake (s : State) (n : Svc) (squares : List Nat) : State × Bool :=
  let a := s.meter[n].rolling.take squares
  if a.blockFull then
    let s := s.modMeter n fun m => { m with rolling := a.completeBlock (s.sheetOf n).mix }
    ((s.rollingMomentary n).rollingShort n, true)
  else (s.modMeter n fun m => { m with rolling := a }, false)

/-- R37, R49: a context of the service takes a set, unless it has reached the count limit. -/
def State.contextTake (s : State) (n : Svc) (squares mags : List Nat) (c : CtxId) : State :=
  let x := s.pool[c]
  if x.ownedBy n && decide (x.state = .accumulating) && decide (x.momentary < Config.countLimit) then
    let r := x.takeSet (s.sheetOf n).mix (s.sheetOf n).calibration squares mags
    let s := s.modPool c fun _ => r.1
    if r.2 then s.raise n .shortTermExcess else s
  else s

/-- R33: a completed rolling block takes 1 from the countdown; the write falls due at 0. -/
def State.countBlock (s : State) (n : Svc) : State :=
  let s := s.modMeter n fun m => { m with countdown := m.countdown - 1 }
  if s.meter[n].countdown = 0 then s.dueWrite n else s

/-- R3: a sample set taken by the service's Loudness Meter. Its raises come in the order AUDIO_CLIP, AUDIO_SILENCE,
SHORT_TERM_EXCESS (assumption 28). -/
def State.takeAudio (s : State) (n : Svc) (samples : Vector (BitVec 24) 16) : State :=
  let raw := mixSamples (s.sheetOf n).mix samples
  let s := (s.modMeter n (Meter.takeRaw raw)).takeClips n raw
  let squares := setSquares raw s.meter[n].filters
  let r := s.rollingTake n squares
  let s := allContexts.foldl (fun s c => s.contextTake n squares (setMagnitudes raw) c) r.1
  if r.2 then s.countBlock n else s

/-! ### Mix change (R20) and the count limit (R49) -/

/-- R20: a mix change, after the new mix has been adopted. -/
def State.mixChange (s : State) (n : Svc) : State :=
  let s := s.runBreak n
  let s := s.modMeter n fun m => { m with filters := List.replicate 8 Filter.zero, peaks := zeros8 }
  s.flagOpen n .ofMixChanged

/-- R49: the count-limit notice for the docket of slot k: its context has reached the limit. -/
def State.atCountLimit (s : State) (n : Svc) (k : Slot) : Bool :=
  match (s.entry n k).context with
  | none => false
  | some c => decide ((s.entry n k).state = .opened) && decide (Config.countLimit ≤ s.pool[c].momentary)

def State.takeCountLimit (s : State) (n : Svc) (k : Slot) : State :=
  if s.atCountLimit n k then (s.closeSegment n k .ofTruncated).refreshRequirement n else s

/-! ### The two timers of the periodic write (R33, R204) -/

/-- R33: the countdown runs out: the write falls due when the block that is completing brings it to 0. -/
def State.countdownOut (s : State) (n : Svc) : State := if s.meter[n].countdown ≤ 1 then s.dueWrite n else s

/-- R33: the write timer runs out. -/
def State.writeTimerOut (s : State) (n : Svc) : State := if s.meter[n].writeTimer then s.dueWrite n else s

/-- R204: every piece of the service's oldest periodic write has completed: the write count goes up by 1 and its write is
handed, behind the writes already queued for the live block (R196). The report ends a row of failures where a piece completes
with it. -/
def State.completeLive (s : State) (n : Svc) : State :=
  match s.isLinked, s.live[n].queue.dropWhile (fun i => !i.isMark) with
  | true, _ :: rest =>
    let done := s.live[n].queue.takeWhile fun i => !i.isMark
    let t := (s.land (done.flatMap (s.itemPieces n))).modLive n fun l =>
      { l with count := l.count + 1, queue := rest ++ [.count (l.count + 1)] }
    (if hasWrite done then t.accessDone else t).trimWaits
  | _, _ => s

end Sys2Proof.Machine
end

