-- ==== Sys2Proof/Machine/Spool.lean ====
section
/-! DEFINITION. The Proxy Port and the spool (chapter 7). -/
namespace Sys2Proof.Machine

/-- R118: a chunk that is discarded. -/
def chunkBad (c : Chunk) : Bool := c.malformed || decide (c.payload.length ≠ c.stated.toNat)

/-- R119: the 1,984 payload bytes of a chunk. -/
def unitPayload (c : Chunk) : List Byte :=
  c.payload.take Config.payloadBytes ++ zeroBytes (Config.payloadBytes - c.payload.length)

/-- R119: whether a chunk is truncated. -/
def chunkCut (c : Chunk) : Bool := decide (Config.payloadBytes < c.payload.length)

/-- R124: the live conditions of a service. -/
def State.liveBits (s : State) (n : Svc) : LiveBits :=
  { feedLoss := (s.svcCond n .feedLoss).live, audioSilence := (s.svcCond n .audioSilence).live,
    captionLoss := (s.svcCond n .captionLoss).live, captionIdle := (s.svcCond n .captionIdle).live,
    recordFatal := (s.svcCond n .recordFatal).live }

/-- R122 to R124: the header composed at an arrival. -/
def State.composeHeader (s : State) (n : Svc) (seq : Nat) (c : Chunk) : UnitHeader :=
  { service := n, seq := seq, time := s.stampOf n, proxyStamp := c.proxyStamp,
    length := min Config.payloadBytes c.payload.length, key := c.key, cut := chunkCut c,
    flywheel := decide (s.feed[n].lock = .flywheel), held := decide (s.feed[n].lock = .held),
    outerId := s.segIdOf n s.sched[n].openOuter, innerId := s.segIdOf n s.sched[n].openInner,
    level := s.meter[n].lastMomentary, caption := s.caption[n].state, required := s.caption[n].required,
    live := s.liveBits n }

/-- R128: whether an arriving unit joins its queue. -/
def State.joins (s : State) (n : Svc) : Bool :=
  decide (s.proxy[n].queue.length < (s.sheetOf n).quota) && decide (0 < s.spoolFree)

/-- R128: whether a drop is a spool-full drop. -/
def State.fullDrop (s : State) (n : Svc) : Bool := decide (s.proxy[n].queue.length < (s.sheetOf n).quota)

/-- R128, R129: a unit judged for its queue. -/
def State.judgeUnit (s : State) (n : Svc) (u : SpoolUnit) : State :=
  if s.joins n then s.modProxy n fun p => { p with queue := p.queue ++ [u], overflow := false }
  else
    let full := s.fullDrop n
    let ran := s.proxy[n].overflow
    let s := s.modProxy n fun p =>
      { p with dropped := p.dropped + 1, spoolFull := if full then p.spoolFull + 1 else p.spoolFull, overflow := true }
    if ran then s else s.raise n .spoolOverflow

/-- R104, R121 step 4: a unit counted in an open docket. -/
def UnitCounts.add (u : UnitCounts) (seq : Nat) (dropped : Bool) : UnitCounts :=
  { received := sat32 u.received, dropped := if dropped then sat32 u.dropped else u.dropped,
    first := some (u.first.getD seq), last := some seq }

/-- R150: the START request of the first unit of a docket, whose entry before it is e. -/
def State.markStart (s : State) (n : Svc) (k : Slot) (seq : Nat) (e : Entry) : State :=
  match e.units.first, e.body with
  | none, some b => s.requestMark n ⟨seq, .start, b.segId, k⟩
  | _, _ => s

/-- R121 step 4, R150: an arrival handed to one docket; its first unit hands a START request. -/
def State.countUnit (s : State) (n : Svc) (seq : Nat) (dropped : Bool) (k : Slot) : State :=
  if (s.entry n k).state = .opened then
    (s.modEntry n k fun e => { e with units := e.units.add seq dropped }).markStart n k seq (s.entry n k)
  else s

/-- R118 to R121: a chunk taken. An arrival that is the first unit of two dockets hands their START requests (R150) lower slot
first (assumption 28). -/
def State.takeChunk (s : State) (n : Svc) (c : Chunk) : State :=
  if chunkBad c then s.modProxy n fun p => { p with discardedChunks := p.discardedChunks + 1 }
  else
    let seq := s.proxy[n].seq
    let s := s.modProxy n fun p =>
      { p with seq := p.seq + 1, truncated := if chunkCut c then p.truncated + 1 else p.truncated }
    let u : SpoolUnit := ⟨s.composeHeader n seq c, unitPayload c⟩
    let dropped := !s.joins n
    let s := s.judgeUnit n u
    allSlots.foldl (fun s k => s.countUnit n seq dropped k) s

/-- R132 step 3: the head unit of a queue removed. -/
def Proxy.remove (p : Proxy) : Proxy := { p with queue := p.queue.drop 1, archived := p.archived + 1 }

end Sys2Proof.Machine
end

