-- ==== Sys2Proof/Machine/Mover.lean ====
section
/-! DEFINITION. The Archive Mover (chapter 8): turns, walks, the writable test, fills, marks, violations and what an unlink
does to it. `MoverWork` says which access the Mover waits for; each function here goes on from a completed access to the
next one. -/
namespace Sys2Proof.Machine

/-! ### Extents and the writable test (R137, R142, R144) -/

/-- R137: the capacity in units of a size code. -/
def capacityOf (code : Nat) : Nat := 32 * (code + 1)

/-- R137: a valid extent lies wholly inside the archive window of the last LINK. -/
def State.validExtent (s : State) (d : Descriptor) : Bool :=
  decide (d.base % Config.blockBytes = 0) && decide (s.ctl.windowBase ≤ d.base) &&
  decide (d.base + (d.code + 1) * Config.blockBytes ≤ s.ctl.windowBase + s.ctl.windowSize)

/-- R144: the recorder policy of an extent's owner as a walk of service n takes it: its own as at the walk's beginning. -/
def State.ownerOverwrites (s : State) (n : Svc) (overwrite : Bool) (o : Svc) : Bool :=
  if o = n then overwrite else (s.sheetOf o).overwrite

/-- R144: a held range meets no pin of its owner; an absent range meets none. -/
def State.rangeFree (s : State) (o : Svc) (e : Extent) : Bool :=
  match e.first, e.last with
  | some first, some last => !s.pinMeets o first last
  | _, _ => true

/-- R144: an overwritable extent, in a test made for service n. -/
def State.overwritable (s : State) (n : Svc) (overwrite : Bool) (e : Extent) (d : Descriptor) : Bool :=
  match e.owner with
  | none => true
  | some o => (s.ownerOverwrites n overwrite o || decide (d.drained = e.generation)) && s.rangeFree o e

/-- The outcomes of the writable test. -/
inductive TestResult where
  | writable
  | skipped
  | violation (k : ViolationKind)
  deriving DecidableEq, Repr

/-- R142: the writable test of extent x for service n. -/
def State.writableTest (s : State) (n : Svc) (overwrite : Bool) (x : ExtId) (d : Descriptor) : TestResult :=
  let e := s.extents[x]
  if !s.validExtent d then .violation .badExtent
  else if decide (e.state = .filling) && decide (e.owner ≠ some n) then .violation .ownerConflict
  else if d.hold then .skipped
  else if d.draining then .skipped
  else if e.state = .blank then .writable
  else if decide (e.state = .full) && !s.overwritable n overwrite e d then .skipped
  else .writable

/-- R139: the order in which a walk examines a chain. -/
def walkOrder (chain : List ExtId) (cursor : Option ExtId) : List ExtId :=
  match cursor with
  | none => chain
  | some x =>
    if chain.contains x then (chain.dropWhile (· ≠ x)).drop 1 ++ chain.takeWhile (· ≠ x) ++ [x] else chain

/-! ### Work of the Mover -/

def State.setWork (s : State) (w : MoverWork) : State := s.modMover fun m => { m with work := w }

/-- R138, R147: a descriptor update of x handed from its record. -/
def State.handUpdate (s : State) (x : ExtId) (again : Bool) : State :=
  s.modMover fun m => { m with updates := m.updates ++ [⟨x, s.extents[x], again⟩] }

/-- R139: a walk begins with the chain and the recorder policy of the adopted sheet as they stand; the last-block test of the
fill that it opens goes by the same. -/
def State.beginWalk (s : State) (n : Svc) (retest : Bool) (x : ExtId) (rest : List ExtId) : State :=
  let sh := s.sheetOf n
  (s.modRecorder n fun r => { r with walkChain := sh.chain, walkOverwrite := sh.overwrite }).setWork
    (.walk n retest sh.overwrite x rest)

/-- R153: the next STALLED service of the list is re-tested; without one the Mover is free. -/
def State.nextRetest (s : State) : List Svc → State
  | [] => s.modMover fun m => { m with work := .idle, retests := [] }
  | n :: ns =>
    match decide (s.recorder[n].state = .stalled), walkOrder (s.sheetOf n).chain s.recorder[n].cursor with
    | true, x :: rest => (s.modMover fun m => { m with retests := ns }).beginWalk n true x rest
    | _, _ => s.nextRetest ns

/-- A turn or re-test ends; re-tests are made between turns (R153). -/
def State.turnEnd (s : State) : State := s.nextRetest s.mover.retests

/-- R141 step 4: the head unit's write. -/
def State.writeHead (s : State) (n : Svc) : State := s.setWork (.unitWrite n)

/-- What follows a last-block test or an opening: the turn's write, or its end. -/
def State.goOn (s : State) (n : Svc) (write : Bool) : State := if write then s.writeHead n else s.turnEnd

/-! ### The last-block test (R152) -/

/-- R152: the end of the test. -/
def State.endLastBlock (s : State) (n : Svc) (x : ExtId) (found write : Bool) : State :=
  let s := s.modExtent x fun e => { e with lastBlock := true }
  let s := if found then s else s.raise n .extentWarning
  s.goOn n write

/-- R152: the test goes on with the entries left. -/
def State.stepLastBlock (s : State) (n : Svc) (x : ExtId) (rest : List ExtId) (found write : Bool) : State :=
  match rest with
  | [] => s.endLastBlock n x found write
  | y :: ys => s.setWork (.lastBlock n x y ys found write)

/-- R139, R152: the test begins, over every other entry of the chain with which the fill's walk began. -/
def State.startLastBlock (s : State) (n : Svc) (x : ExtId) (write : Bool) : State :=
  s.stepLastBlock n x (s.recorder[n].walkChain.filter (· ≠ x)) false write

/-! ### Opening (R145, R109) -/

/-- R109: SPAN_LOST for the OPEN and CLOSING dockets of a service whose unit range meets an overwritten range. -/
def Entry.meetsRange (first last : Nat) (e : Entry) : Bool :=
  (decide (e.state = .opened) || decide (e.state = .closing)) &&
  match e.units.first, e.units.last with
  | some f, some l => rangesMeet f l first last
  | _, _ => false

def State.spanLost (s : State) (o : Svc) (first last : Nat) : State :=
  s.modEntriesWhere o (Entry.meetsRange first last) fun e => { e with flags := e.flags.union .ofSpanLost }

/-- R145 step 1: the overwritten range handed to its owner. The test and the opening are one event of the model, so the
range never meets a pin here (assumption 17). -/
def State.handRange (s : State) (e : Extent) : State :=
  match e.owner, e.first, e.last with
  | some o, some first, some last => s.spanLost o first last
  | _, _, _ => s

/-- R145 step 3: the record of an opening. -/
def Extent.opened (n : Svc) (d : Descriptor) (e : Extent) : Extent :=
  { Extent.blank with state := .filling, owner := some n, generation := e.generation + 1, base := d.base, code := d.code }

/-- R145: extent x is opened for service n; the Mover waits for the descriptor update. Step 5 (RECORDING, the current extent,
the opened count) is taken when step 4's update is handed, not when it completes (assumption 28). -/
def State.openExtent (s : State) (n : Svc) (x : ExtId) (d : Descriptor) (retest : Bool) : State :=
  let s := s.handRange s.extents[x]
  let s := s.modExtent x (Extent.opened n d)
  let s := s.modRecorder n fun r =>
    { r with cursor := some x, state := .recording, current := some x, boundary := false, opened := r.opened + 1 }
  (s.handUpdate x false).setWork (.openUpdate n x retest)

/-- R145 steps 5 and 6: the opening's update has completed, or failed (then no unit is written in this turn, R141). -/
def State.afterOpen (s : State) (n : Svc) (x : ExtId) (write : Bool) : State :=
  if s.extents[x].code = 0 then s.startLastBlock n x write else s.goOn n write

/-! ### Closing (R149) -/

/-- R149: the record and the recorder at a close. -/
def State.closeRecord (s : State) (n : Svc) (x : ExtId) (c : CloseCause) : State :=
  let s := s.modExtent x fun e => { e with state := .full, cause := some c }
  s.modRecorder n fun r => { r with state := .ready, current := none, boundary := false }

/-- R149: a fill closes; the Mover waits for the descriptor update. -/
def State.closeFill (s : State) (n : Svc) (x : ExtId) (c : CloseCause) : State :=
  ((s.closeRecord n x c).handUpdate x false).setWork (.closeUpdate n x)

/-! ### Violations (R143, R154, R155) -/

/-- R154: the fields of a violation. -/
def State.violation (s : State) (n : Svc) (kind : ViolationKind) (x : Option ExtId) : Capture :=
  { kind := kind, extent := x, generation := (x.map fun y => s.extents[y].generation).getD 0,
    other := if kind = .ownerConflict then x.bind fun y => s.extents[y].owner else none, time := s.stampOf n,
    firstLeft := s.proxy[n].queue.head?.map fun u => u.header.seq }

/-- R155: a violation handled by the state of the capture. -/
def State.takeViolation (s : State) (n : Svc) (v : Capture) : State :=
  if s.recorder[n].acked then
    (s.modRecorder n fun r =>
      { r with capture := some v, captureNo := r.captureNo + 1, acked := false, since := 0 }).raise n .recordViolation
  else (s.setLive n .recordFatal true).modRecorder n fun r => { r with since := satInc 65535 r.since }

/-- R153: the recorder becomes STALLED. -/
def State.stall (s : State) (n : Svc) : State :=
  s.modRecorder n fun r => { r with state := .stalled, stalls := r.stalls + 1 }

/-- R143: a walk of a turn ends in a violation. -/
def State.violate (s : State) (n : Svc) (kind : ViolationKind) (x : Option ExtId) : State :=
  ((s.takeViolation n (s.violation n kind x)).stall n).turnEnd

/-! ### Walks (R143, R153) -/

/-- The walk goes on with the entries left; when every entry has been passed over it ends. -/
def State.stepWalk (s : State) (n : Svc) (retest overwrite : Bool) (rest : List ExtId) : State :=
  match rest with
  | y :: ys => s.setWork (.walk n retest overwrite y ys)
  | [] => if retest then s.turnEnd else s.violate n .noWritableExtent s.recorder[n].cursor

/-- R143, R153: the entry x has been read in a walk. -/
def State.walkRead (s : State) (n : Svc) (retest overwrite : Bool) (x : ExtId) (rest : List ExtId) (d : Descriptor) :
    State :=
  match s.writableTest n overwrite x d with
  | .writable => s.openExtent n x d retest
  | .skipped => s.stepWalk n retest overwrite rest
  | .violation k => if retest then s.stepWalk n retest overwrite rest else s.violate n k (some x)

/-! ### Turns (R140, R141) -/

/-- R140: an eligible service. -/
def State.eligible (s : State) (n : Svc) : Bool :=
  !s.proxy[n].queue.isEmpty && decide (s.recorder[n].state ≠ .stalled) &&
  (s.recorder[n].current.isSome || !(s.sheetOf n).chain.isEmpty)

/-- R140: the services in the order in which a turn is offered: above the turn pointer first; while it is absent, from the lowest
number up (assumption 29). -/
def turnOrder : Option Svc → List Svc
  | none => allServices
  | some p => allServices.filter (p < ·) ++ allServices.filter (· ≤ p)

/-- R141 step 3: a walk when the service has no current extent, else the write. -/
def State.turnChoose (s : State) (n : Svc) : State :=
  match s.recorder[n].current with
  | some _ => s.writeHead n
  | none =>
    match walkOrder (s.sheetOf n).chain s.recorder[n].cursor with
    | x :: rest => s.beginWalk n false x rest
    | [] => s.turnEnd

/-- R141 step 2: the re-read of an open block boundary. -/
def State.turnBoundary (s : State) (n : Svc) : State :=
  match s.recorder[n].boundary, s.recorder[n].current with
  | true, some x => s.setWork (.boundaryRead n x true)
  | _, _ => s.turnChoose n

/-- R141 step 1: the owed descriptor update. -/
def State.turnOwed (s : State) (n : Svc) : State :=
  match s.recorder[n].owed with
  | some x => (s.handUpdate x false).setWork (.owedUpdate n x)
  | none => s.turnBoundary n

/-- The Mover is free to start a turn (R140, R153). -/
def State.moverFree (s : State) : Bool :=
  s.isLinked && decide (s.mover.work = .idle) && s.mover.retests.isEmpty

/-- R140, R141: a turn begins. -/
def State.startTurn (s : State) : State :=
  if s.moverFree then
    match (turnOrder s.mover.pointer).find? s.eligible with
    | some n => (s.modMover fun m => { m with pointer := some n }).turnOwed n
    | none => s
  else s

/-! ### Block boundaries (R148) -/

/-- R148 steps 4 and 5: the fill e of x closes at its boundary, is tested for its last block, or goes on. -/
def State.boundaryJudge (s : State) (n : Svc) (x : ExtId) (resume : Bool) (d : Descriptor) (e : Extent) : State :=
  if d.hold then s.closeFill n x .hold
  else if d.draining then s.closeFill n x .draining
  else if d.base ≠ e.base ∨ d.code ≠ e.code then s.closeFill n x .moved
  else if e.units + 32 = capacityOf e.code ∧ e.lastBlock = false then s.startLastBlock n x resume
  else s.goOn n resume

/-- R148 steps 4 and 5: the boundary's re-read of x has succeeded. -/
def State.boundaryRead (s : State) (n : Svc) (x : ExtId) (resume : Bool) (d : Descriptor) : State :=
  (s.modRecorder n fun r => { r with boundary := false }).boundaryJudge n x resume d s.extents[x]

/-- R148 steps 1 and 2: the units count of x has reached a multiple of 32. -/
def State.blockBoundary (s : State) (n : Svc) (x : ExtId) : State :=
  if s.extents[x].units = capacityOf s.extents[x].code then s.closeFill n x .filled
  else
    ((s.modRecorder n fun r => { r with boundary := true }).handUpdate x false).setWork (.boundaryUpdate n x)

/-! ### Descriptor reads (R137) -/

/-- The extent whose descriptor the Mover waits for a read of. -/
def MoverWork.reading (w : MoverWork) : Option ExtId :=
  match w with
  | .walk _ _ _ x _ => some x
  | .boundaryRead _ x _ => some x
  | .lastBlock _ _ y _ _ _ => some y
  | .idle => none
  | .owedUpdate _ _ => none
  | .openUpdate _ _ _ => none
  | .unitWrite _ => none
  | .boundaryUpdate _ _ => none
  | .closeUpdate _ _ => none

/-- The Mover's next step when the descriptor of x that it waits for has been read. A HOLD or DRAINING read set in a walk or
a last-block test passes the extent over (R142); it does not end another service's fill of that extent before that fill's
own boundary (R144, R148; assumption 28). -/
def State.descriptorTaken (s : State) (x : ExtId) (d : Descriptor) : State :=
  match s.mover.work with
  | .walk n retest ow _ rest => s.walkRead n retest ow x rest d
  | .boundaryRead n _ resume => s.boundaryRead n x resume d
  | .lastBlock n c _ rest found write =>
    let ok := decide (s.writableTest n s.recorder[n].walkOverwrite x d = .writable)
    s.stepLastBlock n c rest (found || ok) write
  | .idle => s
  | .owedUpdate _ _ => s
  | .openUpdate _ _ _ => s
  | .unitWrite _ => s
  | .boundaryUpdate _ _ => s
  | .closeUpdate _ _ => s

/-- The descriptor whose read is in flight: the Mover's while LINKED, a late one while UNLINKING (R197). -/
def State.readingOf (s : State) : Option ExtId := if s.isLinked then s.mover.work.reading else s.mover.late

/-- A read of the descriptor of x has completed. -/
def State.descriptorRead (s : State) (x : ExtId) (d : Descriptor) : State :=
  if s.readingOf = some x then
    if s.isLinked then s.accessDone.descriptorTaken x d
    else if s.carries then s.accessDone.modMover fun m => { m with late := none }
    else s
  else s

/-- R143, R148, R152, R153: the read of a descriptor fails. -/
def State.walkFailed (s : State) : State :=
  match s.mover.work with
  | .lastBlock n c _ rest found write => s.stepLastBlock n c rest found write
  | .walk _ _ _ _ _ => s.turnEnd
  | .boundaryRead _ _ _ => s.turnEnd
  | .idle => s
  | .owedUpdate _ _ => s
  | .openUpdate _ _ _ => s
  | .unitWrite _ => s
  | .boundaryUpdate _ _ => s
  | .closeUpdate _ _ => s

/-- The read of a descriptor in flight fails; a late one ends without any effect on the Mover's records. -/
def State.descriptorReadFailed (s : State) : State :=
  if s.isLinked then s.walkFailed else s.modMover fun m => { m with late := none }

/-! ### Descriptor updates (R138, R147) -/

/-- The oldest update of x in flight, and the others. -/
def takeUpdate (x : ExtId) : List DescUpdate → Option (DescUpdate × List DescUpdate)
  | [] => none
  | u :: us => if u.extent = x then some (u, us) else (takeUpdate x us).map fun r => (r.1, u :: r.2)

/-- The Mover's next step when the update of x that it waits for has completed (`done`) or failed. -/
def State.updateEnded (s : State) (x : ExtId) (ended : Bool) : State :=
  match s.mover.work with
  | .owedUpdate n y =>
    if x = y then
      if ended then (s.modRecorder n fun r => { r with owed := none }).turnBoundary n else s.turnEnd
    else s
  | .openUpdate n y retest =>
    if x = y then
      (if ended then s else s.modRecorder n fun r => { r with owed := some x }).afterOpen n x (ended && !retest)
    else s
  | .boundaryUpdate n y =>
    if x = y then
      (if ended then s else s.modRecorder n fun r => { r with owed := some x }).setWork (.boundaryRead n x false)
    else s
  | .closeUpdate n y =>
    if x = y then (if ended then s else s.modRecorder n fun r => { r with owed := some x }).turnEnd else s
  | .idle => s
  | .boundaryRead _ _ _ => s
  | .walk _ _ _ _ _ => s
  | .lastBlock _ _ _ _ _ _ => s
  | .unitWrite _ => s

/-- R147, R196: an update of x completes. -/
def State.updateComplete (s : State) (x : ExtId) : State :=
  match s.carries, takeUpdate x s.mover.updates with
  | true, some (u, us) =>
    let s := (s.land (s.descPieces x u.record)).accessDone
    let s := s.modMover fun m => { m with updates := us }
    if s.isLinked then s.updateEnded x true else s
  | _, _ => s

/-- R147, R157: an update of x fails: owed while LINKED; made once more from the record as it then stands while UNLINKING, then
dropped. -/
def State.updateFailed (s : State) (x : ExtId) : State :=
  match takeUpdate x s.mover.updates with
  | some (u, us) =>
    let s := s.modMover fun m => { m with updates := us }
    if s.isLinked then s.updateEnded x false
    else if u.again then s
    else s.handUpdate x true
  | none => s

/-! ### Unit writes (R132, R146, R151) -/

/-- R151: the requests due at unit u taken from the list, each making a mark at an offset or MARKS_OVERFLOWED. -/
def makeMarks (u offset : Nat) : List MarkRequest → Extent → List MarkRequest × Extent
  | [], e => ([], e)
  | m :: ms, e =>
    if m.seq ≤ u then
      makeMarks u offset ms
        (if e.marks.length < Config.marksPerFill then
          { e with marks := e.marks ++ [⟨m.segId, offset, m.slot, m.kind⟩] }
        else { e with overflowed := true })
    else (m :: ms, e)

/-- R146: the record after unit h has been written. -/
def Extent.took (h : UnitHeader) (e : Extent) : Extent :=
  { e with units := e.units + 1, last := some h.seq, lastStamp := h.time,
           first := if e.units = 0 then some h.seq else e.first, firstStamp := if e.units = 0 then h.time else e.firstStamp }

/-- R146: where the next unit of a fill is written. -/
def Extent.nextAddress (e : Extent) : Nat := e.base + Config.unitBytes * e.units

/-- R132, R146, R151: the write of unit u of service n into x has completed. -/
def State.unitWritten (s : State) (n : Svc) (x : ExtId) (u : SpoolUnit) : State :=
  let e := s.extents[x]
  let s := (s.land [⟨e.nextAddress, u.bytes⟩]).accessDone
  let s := s.modProxy n Proxy.remove
  let r := makeMarks u.header.seq e.units s.recorder[n].marks (e.took u.header)
  let s := s.modExtent x fun _ => r.2
  s.modRecorder n fun c => { c with marks := r.1 }

/-! ### Unlink (R157) -/

/-- R157: one service's current fill closes with cause UNLINK in its record. -/
def State.closeCurrent (s : State) (n : Svc) : State :=
  match s.recorder[n].current with
  | some x => s.closeRecord n x .unlink
  | none => s

/-- R157: one service's fill closes with cause UNLINK in its record, and its recorder becomes READY without a cursor. -/
def State.unlinkRecorder (s : State) (n : Svc) : State :=
  (s.closeCurrent n).modRecorder n fun r =>
    { r with state := .ready, current := none, cursor := none, boundary := false, owed := none }

/-- R157: whether an update of x is in flight. -/
def Mover.updating (m : Mover) (x : ExtId) : Bool := m.updates.any fun u => u.extent = x

/-- R157: an owed update made once more, unless an update of the same extent is in flight. -/
def State.retryOwed (s : State) : Option ExtId → State
  | some x => if s.mover.updating x then s else s.handUpdate x true
  | none => s

/-- The update of an extent handed, where there is one. -/
def State.handFor (s : State) : Option ExtId → State
  | some x => s.handUpdate x false
  | none => s

/-- R157: one service's fill closed and updated, then its owed update made once more. -/
def State.unlinkFill (s : State) (n : Svc) : State :=
  ((s.unlinkRecorder n).handFor s.recorder[n].current).retryOwed s.recorder[n].owed

/-- R157: every fill closes, once no unit write is in flight; a read in flight is late. -/
def State.unlinkFills (s : State) : State :=
  allServices.foldl (fun s n => s.unlinkFill n)
    (s.modMover fun m => { m with work := .idle, retests := [], late := m.work.reading })

/-- R157: the Mover at the entry to UNLINKING: a unit write in flight is let end. A turn that has not come to its unit write ends
there: no unit is written in it and no last-block test is made (assumption 29). -/
def State.moverUnlink (s : State) : State :=
  match s.mover.work with
  | .unitWrite _ => s.modMover fun m => { m with retests := [] }
  | .idle => s.unlinkFills
  | .owedUpdate _ _ => s.unlinkFills
  | .boundaryRead _ _ _ => s.unlinkFills
  | .walk _ _ _ _ _ => s.unlinkFills
  | .openUpdate _ _ _ => s.unlinkFills
  | .lastBlock _ _ _ _ _ _ => s.unlinkFills
  | .boundaryUpdate _ _ => s.unlinkFills
  | .closeUpdate _ _ => s.unlinkFills

/-- R157, R199: the Mover at a fault unlink: the same in its records, without any write. -/
def State.moverFault (s : State) : State :=
  (allServices.foldl (fun s n => s.unlinkRecorder n) s).modMover fun _ => { s.mover with work := .idle, retests := [], updates := [], late := none }

/-- R157: the Mover's part of an unlink is done. -/
def State.moverDone (s : State) : Bool := decide (s.mover.work = .idle) && s.mover.updates.isEmpty

/-- R146, R148: what follows a completed unit write; while UNLINKING the block boundary skips its re-read (R157), and with it
the last-block test of R148 step 5 (assumption 29). -/
def State.afterUnit (s : State) (n : Svc) (x : ExtId) : State :=
  if s.isLinked then
    if s.extents[x].units % 32 = 0 then s.blockBoundary n x else s.turnEnd
  else
    (if s.extents[x].units % 32 = 0 then
      if s.extents[x].units = capacityOf s.extents[x].code then (s.closeRecord n x .filled).handUpdate x false
      else s.handUpdate x false
    else s).unlinkFills

/-- R132, R134: the unit write fails: the unit stays at the head. -/
def State.unitWriteFailed (s : State) : State := if s.isLinked then s.turnEnd else s.unlinkFills

/-- The unit write in flight: its service, extent and unit. -/
def State.unitInFlight (s : State) : Option (Svc × ExtId × SpoolUnit) :=
  match s.mover.work with
  | .unitWrite n =>
    match s.recorder[n].current, s.proxy[n].queue with
    | some x, u :: _ => some (n, x, u)
    | _, _ => none
  | .idle => none
  | .owedUpdate _ _ => none
  | .boundaryRead _ _ _ => none
  | .walk _ _ _ _ _ => none
  | .openUpdate _ _ _ => none
  | .lastBlock _ _ _ _ _ _ => none
  | .boundaryUpdate _ _ => none
  | .closeUpdate _ _ => none

/-! ### Capture acknowledgement (R154), LINK (R156) -/

/-- R154: a capture ack read. -/
def State.takeCaptureAck (s : State) (n : Svc) (ack : BitVec 16) : State :=
  let r := s.recorder[n]
  if !r.acked && decide (ack = r.captureNo) then
    (s.modRecorder n fun r => { r with acked := true }).setLive n .recordFatal false
  else s

/-- R156: one recorder at LINK. -/
def Recorder.atLink (r : Recorder) : Recorder :=
  { r with state := .ready, current := none, cursor := none, boundary := false, owed := none }

/-- R156: the extent records, the recorders and the turn pointer at LINK. -/
def State.moverLink (s : State) : State :=
  allServices.foldl (fun s n => s.modRecorder n Recorder.atLink)
    { s with extents := Vector.replicate 256 Extent.blank, mover := Mover.reset }

end Sys2Proof.Machine
end

