-- ==== Sys2Proof/Machine/Sheets.lean ====
section
/-! DEFINITION. The Sheet Unit and the Profile Store (chapter 10): refusals, adoptions by group, staging, the decision at
LINK, the load of the store, commits. -/
namespace Sys2Proof.Machine

/-! ### Refusal and the quota sum (R177, R178) -/

/-- R177: a refusal. -/
def State.refuseSheet (s : State) (n : Svc) (rev : BitVec 32) (c : SheetCause) : State :=
  (s.modSheet n fun u => { u with lastTaken := some rev, refused := some rev, cause := some c }).raise n .sheetFault

/-- The adopted quotas of all services summed (R178, R190). -/
def State.quotaSum (s : State) : Nat := (allServices.map fun m => (s.sheetOf m).quota).sum

/-- The adopted quotas of the services other than n. -/
def State.quotaOthers (s : State) (n : Svc) : Nat :=
  ((allServices.filter (· ≠ n)).map fun m => (s.sheetOf m).quota).sum

/-- R178: the quota-sum check of a staged sheet. -/
def State.quotaFits (s : State) (n : Svc) (quota : Nat) : Bool :=
  decide (quota ≤ (s.sheetOf n).quota) || decide (quota + s.quotaOthers n ≤ Config.spoolSlots)

/-! ### Adoption by group (R180) -/

/-- R181: the enable group switched off: the Feed Receiver, the Caption Watch and the Scheduler, in this order, so that a
raise that a close makes takes an absent stamp (R16, R162; assumption 28). -/
def State.disable (s : State) (n : Svc) : State :=
  let s := s.leaveFlywheel n
  let s := s.modFeed n fun f => { f with lock := .seeking, lossTimer := none, frameTimer := none }
  (s.loseStream n).closeOpen n .ofEarlyClose

/-- The mix group of a sheet (R20). -/
def Sheet.mixGroup (sh : Sheet) : List MixChannel × Int := (sh.mix, sh.calibration)

/-- R166: an interval changed to 0: the service's timers stop and its marks are cleared. -/
def State.stopServiceReminders (s : State) (n : Svc) : State :=
  allSvcConds.foldl (fun s c =>
    let s := s.modCond (.service n c) fun e => { e with timer := none }
    if (s.svcCond n c).mark then s.changeCond (.service n c) fun e => { e with mark := false } else s) s

/-- R166, R171: the entries whose priority the adoption changed become owed. -/
def State.touchPriorities (s : State) (n : Svc) (old : Sheet) : State :=
  allSvcConds.foldl (fun s c =>
    if old.priorities[svcIndex c] = (s.sheetOf n).priorities[svcIndex c] then s
    else s.changeCond (.service n c) id) s

/-- R166: the alerting group: the priorities and the reminder interval are taken, with all that follows from them in the
panel, as one change, and then the Alert Unit evaluates. -/
def State.adoptAlerting (s : State) (n : Svc) (old new : Sheet) : State :=
  let s := s.modSheet n fun u => { u with adopted := new }
  let s := if old.reminder ≠ new.reminder ∧ new.reminder = 0 then s.stopServiceReminders n else s
  if old.priorities ≠ new.priorities then (s.touchPriorities n old).evaluate else s

/-- R180 to R183: every changed group handed to its blocks, enable first. The gating, class rule, minimum count, late
allowance, caption window, silence, recorder and quota groups are read from the adopted sheet where they are used. That all
blocks take one adoption at one point is the model's choice (assumption 28). -/
def State.handGroups (s : State) (n : Svc) (old : Sheet) : State :=
  let new := s.sheetOf n
  let s := if old.enable && !new.enable then s.disable n else s
  let s := if old.mixGroup ≠ new.mixGroup then s.mixChange n else s
  let s := if old.rate ≠ new.rate then s.modFeed n fun f => { f with mismatch := false } else s
  let s := if old.page ≠ new.page ∨ old.lang ≠ new.lang then s.loseStream n else s
  s.refreshRequirement n

/-- A sheet with the alerting group of another. -/
def Sheet.withAlerting (sh other : Sheet) : Sheet := { sh with priorities := other.priorities, reminder := other.reminder }

/-- R179, R180: an adoption: the sheet is replaced and its groups handed on, the alerting group last and as one change (R166).
Its revision is the one that the reads before and after the body gave, whatever the body holds at its offset (assumption 29).
A close that the same adoption makes by switching enable off fixes C of the new sheet and is not flagged MIX_CHANGED (R53,
R181; assumption 28). -/
def State.adoptSheet (s : State) (n : Svc) (rev : BitVec 32) (body : List Byte) : State :=
  let old := s.sheetOf n
  let new := parseSheet rev body
  let s := s.modSheet n fun u =>
    { u with adopted := new.withAlerting old, source := .host, lastTaken := some rev, clamped := sheetClamps body }
  (s.handGroups n old).adoptAlerting n old new

/-! ### Staging (R176) -/

/-- R176 to R178: a staging's reads have been made. -/
def State.stage (s : State) (n : Svc) (r : SheetRead) : State :=
  if some r.before = s.sheet[n].lastTaken then s
  else if r.before ≠ r.after then s
  else
    match sheetStructure r.body with
    | some c => s.refuseSheet n r.before c
    | none =>
      if s.quotaFits n (rawQuota r.body) then s.adoptSheet n r.before r.body else s.refuseSheet n r.before .quotaSum

/-! ### The decision at LINK (R185) -/

/-- R185: the sheet of a service that can be decided. -/
def State.decidable (s : State) (reads : Vector (Option SheetRead) 16) (n : Svc) : Option SheetRead :=
  match reads[n] with
  | none => none
  | some r => if r.before = r.after ∧ n ∉ s.ctl.failedSheets then some r else none

/-- R185: the quota at which a service counts in the sum. -/
def State.countedQuota (s : State) (reads : Vector (Option SheetRead) 16) (n : Svc) : Nat :=
  match s.decidable reads n with
  | none => (s.sheetOf n).quota
  | some r => if sheetStructure r.body = none then rawQuota r.body else (s.sheetOf n).quota

/-- R185: one service's sheet decided; `excess` says that the sum is above the spool. -/
def State.decideOne (s : State) (excess : Bool) (read : Option SheetRead) (n : Svc) : State :=
  match read with
  | none => s.modSheet n fun u => { u with lastTaken := none }
  | some r =>
    match sheetStructure r.body with
    | some c => s.refuseSheet n r.before c
    | none =>
      if excess && decide ((s.sheetOf n).quota < rawQuota r.body) then s.refuseSheet n r.before .quotaSum
      else s.adoptSheet n r.before r.body

/-- R185: every sheet decided, as a set. -/
def State.decideSheets (s : State) (reads : Vector (Option SheetRead) 16) : State :=
  let excess := decide (Config.spoolSlots < (allServices.map fun n => s.countedQuota reads n).sum)
  let decided := allServices.map fun n => (n, s.decidable reads n)
  decided.foldl (fun s d => s.decideOne excess d.2 d.1) s

/-! ### The load of the store (R190) -/

/-- R190: one stored sheet loaded at a quota sum reached so far. -/
def loadOne (st : Stored) (sum : Nat) : SheetUnit :=
  let sh := if st.good then st.sheet else factorySheet
  let src := if st.good then SheetSource.stored else SheetSource.factory
  let room := Config.spoolSlots - sum
  if sh.quota ≤ room then
    { adopted := sh, source := src, lastTaken := none, refused := none, cause := none, clamped := false }
  else
    { adopted := { sh with quota := room }, source := .factory, lastTaken := none, refused := some sh.revision,
      cause := some .quotaSum, clamped := true }

/-- R190: the stored sheets loaded in service order. -/
def loadAll : List Stored → Nat → List SheetUnit
  | [], _ => []
  | st :: rest, sum =>
    let u := loadOne st sum
    u :: loadAll rest (sum + u.adopted.quota)

/-- R190: the Sheet Units after the load. -/
def Store.load (st : Store) : Vector SheetUnit 16 :=
  let us := loadAll (allServices.map fun n => st.stored[n]) 0
  Vector.ofFn fun n : Svc => us.getD n.val (SheetUnit.loaded factorySheet)

/-! ### STORE and commits (R188, R189) -/

/-- The services of a mask, lowest first. -/
def maskServices (mask : BitVec 16) : List Svc := allServices.filter fun n => mask.getLsbD n.val

/-- R188: the result of STORE. -/
def State.storeResult (s : State) : CmdResult :=
  if s.ctl.link = .linking ∨ s.ctl.link = .unlinking then .busy
  else if s.store.commit.isSome then .busy
  else if s.store.commits = Config.commitLimit then .worn
  else .accepted

/-- R188: the effect of an accepted STORE. -/
def State.beginStore (s : State) (mask : BitVec 16) : State :=
  if mask = 0 then s.raiseDevice .storeComplete
  else s.modStore fun st =>
    { st with commit := some ⟨maskServices mask, Vector.ofFn fun n : Svc => s.sheetOf n⟩ }

/-- R189: the sheets of some services written whole with their check words. -/
def Store.writeSheets (st : Store) (copies : Vector Sheet 16) (ns : List Svc) : Store :=
  { st with stored := ns.foldl (fun v n => upd v n fun _ => ⟨copies[n], true⟩) st.stored }

/-- R189, R187, R204: the commit completes. -/
def State.completeCommit (s : State) : State :=
  match s.store.commit with
  | none => s
  | some c =>
    let s := s.modStore fun st => { st.writeSheets c.copies c.services with commits := st.commits + 1, commit := none }
    let s := if s.isLinked then s.modHeader fun _ => s.handedHeader ++ [.commit s.store.commits] else s
    s.raiseDevice .storeComplete

/-- R189: a loss of power during a commit: `written` masked sheets are whole; with `torn` the next one was being
written. -/
def Store.losePower (st : Store) (written : Nat) (torn : Bool) : Store :=
  match st.commit with
  | none => st
  | some c =>
    let st := st.writeSheets c.copies (c.services.take written)
    let stored := match torn, c.services.drop written with
      | true, n :: _ => upd st.stored n fun x => { x with good := false }
      | _, _ => st.stored
    { st with stored := stored, commit := none }

end Sys2Proof.Machine
end

