-- ==== Sys2Proof/Machine/Boards.lean ====
section
/-! DEFINITION. The docket boards: slot writes ending, sweeps, command words, postings, integration results (R55, R77,
R79 to R86, R98). -/
namespace Sys2Proof.Machine

/-! ### Slot writes ending (R77) -/

/-- R77: a write marked as owed, or no longer. -/
def SlotWrite.mark (owed : Bool) (w : SlotWrite) : SlotWrite := { w with owed := owed }

/-- R77: the slot's next write is handed when the one before it has completed. -/
def Entry.advance (e : Entry) : Entry :=
  match e.writes with
  | [] => e
  | _ :: [] => { e with writes := [], handed := false }
  | _ :: ws => { e with writes := ws, handed := true }

/-- R80, R86, R98: a RELEASE held for a docket acts once its standing CLOSED has been written. -/
def State.heldRelease (s : State) (n : Svc) (k : Slot) (w : SlotContent) : State :=
  match w with
  | .standing st p =>
    let e := s.entry n k
    if decide (st = .closed) && decide (e.state = .closed) && decide (p = e.posting) && e.releaseHeld then s.release n k
    else s
  | .cause _ => s
  | .verdict _ => s

/-- R77, R196: the write in flight of a slot completes. -/
def State.slotWriteDone (s : State) (n : Svc) (k : Slot) : State :=
  match s.carries && (s.entry n k).handed, (s.entry n k).writes with
  | true, w :: _ =>
    let s := (s.land [s.slotPiece n k w.content]).accessDone
    (s.modEntry n k Entry.advance).heldRelease n k w.content
  | _, _ => s

/-- R77: the write in flight of a slot fails: owed until the next sweep while LINKED; while UNLINKING handed again at once
one time, then dropped with every later write of the slot, those not yet handed too. A write that stood behind the failed one is
owed like it and so has one try left; one that the Scheduler makes during the retry has two (assumption 9). -/
def Entry.writeFailed (linked : Bool) (e : Entry) : Entry :=
  if linked then { e with writes := e.writes.map (SlotWrite.mark true), handed := false }
  else
    match e.writes with
    | w :: _ =>
      if w.owed then { e with writes := [], handed := false, dropped := true }
      else { e with writes := e.writes.map (SlotWrite.mark true) }
    | [] => e

/-- R77: the owed writes of a slot handed again at a sweep. -/
def Entry.rehand (e : Entry) : Entry :=
  if e.writes.isEmpty then e else { e with writes := e.writes.map (SlotWrite.mark false), handed := true }

/-- R77: the owed writes of a slot handed again at the entry to UNLINKING, one time. -/
def Entry.rehandOnce (e : Entry) : Entry := if e.writes.isEmpty then e else { e with handed := true }

/-! ### The board sweep (R79, R153, R167, R171) -/

/-- R153: the STALLED recorders are re-tested, at once when the Mover is between turns. -/
def State.sweepMover (s : State) : State :=
  let t := s.modMover fun m => { m with retests := allServices.filter fun n => s.recorder[n].state = .stalled }
  if s.mover.work = .idle then t.turnEnd else t

/-- R167, R169: the Alert Unit evaluates at the sweep after an abandoned alert. -/
def State.sweepAlert (s : State) : State :=
  if s.alert.abandoned then (s.modAlert fun a => { a with abandoned := false }).evaluate else s

/-- R171: an owed device entry is queued again at a sweep. -/
def State.rehandEntry (s : State) (c : DevCond) : State :=
  if (s.cond (.device c)).owed then s.changeCond (.device c) id else s

/-- R79: a board sweep: owed slot writes and owed device entries are handed, STALLED recorders are re-tested, and the
Alert Unit evaluates after an abandoned alert. The reads of the sweep are the commands that report them. -/
def State.sweep (s : State) : State :=
  if s.isLinked then
    let s := allServices.foldl (fun s n => s.modEntriesWhere n (fun e => !e.handed) Entry.rehand) s
    (allDevConds.foldl (fun s c => s.rehandEntry c) s).sweepMover.sweepAlert
  else s

/-! ### Command words (R79 to R81) -/

/-- The posting number and the command of a command word; its last byte is not read (R203). -/
def commandPart (w : BitVec 32) : BitVec 24 := w.setWidth 24

/-- R80: a command value other than POST, WITHDRAW or RELEASE. -/
def wordUnknown (w : BitVec 32) : Bool :=
  decide (wordCommand w ≠ cmdPost) && decide (wordCommand w ≠ cmdWithdraw) && decide (wordCommand w ≠ cmdRelease)

/-- R80: a command under the held posting, in the present state. -/
def State.validCommand (s : State) (n : Svc) (k : Slot) (cmd : Nat) : State :=
  let st := (s.entry n k).state
  if cmd = cmdWithdraw then
    if st = .pending ∨ st = .armed then
      (s.modEntry n k fun e => { e with state := .withdrawn }).writeStanding n k
    else if st = .opened then (s.closeSegment n k .ofEarlyClose).refreshRequirement n
    else s
  else if cmd = cmdRelease then
    if st = .closed ∨ st = .refused ∨ st = .withdrawn then s.release n k else s
  else s

/-- R80, R81: the grounds on which a command word raises DOCKET_FAULT, given the word read before it. -/
def Entry.wordFault (e : Entry) (before : Option (BitVec 32)) (w : BitVec 32) : Bool :=
  let unknown := wordUnknown w && decide (before.map commandPart ≠ some (commandPart w))
  let p := wordPosting w
  if e.state = .idle then unknown && decide (p ≠ 0)
  else unknown || (decide (p ≠ e.posting) && decide (e.mark ≠ some p))

/-- R79 to R81: what a command word read writes into the entry. A word read takes the place of the one before, so a WITHDRAW
read after a RELEASE leaves no RELEASE held at the transition to WITHDRAWN (R80; assumption 28). While the body of an accepted
posting is being read, a POST of another posting takes that one's place, and a WITHDRAW or RELEASE of it is not acted on at the
acceptance or refusal but when a sweep reads it again (R81, R82; assumption 29). -/
def Entry.readWord (w : BitVec 32) (e : Entry) : Entry :=
  let p := wordPosting w
  { e with lastWord := some w,
           mark := if p = e.posting then none else if e.state = .idle then e.mark else some p,
           validating :=
             if e.state = .idle ∧ p ≠ e.posting ∧ p ≠ 0 ∧ wordCommand w = cmdPost then some p else e.validating }

/-- R79 to R81: a command word read completes. -/
def State.readCommandWord (s : State) (n : Svc) (k : Slot) (w : BitVec 32) : State :=
  s.onRead fun s =>
    let e := s.entry n k
    let s := s.modEntry n k (Entry.readWord w)
    let s := if e.wordFault e.lastWord w then s.raise n .docketFault else s
    if wordPosting w = e.posting ∧ e.posting ≠ 0 then s.validCommand n k (wordCommand w) else s

/-! ### Postings (R82, R84) -/

/-- R82: the entry of a refused posting. -/
def Entry.refuse (p : BitVec 16) (e : Entry) : Entry :=
  { e.cleared with posting := p, state := .refused, lastWord := e.lastWord }

/-- R84: the entry of an accepted posting. -/
def Entry.accept (p : BitVec 16) (b : Body) (e : Entry) : Entry :=
  { e.cleared with posting := p, state := .pending, body := some b, lastWord := e.lastWord }

/-- R84: the boundaries of a new docket already passed fire, each marked LATE; none fires in SEEKING. -/
def State.firePassed (s : State) (n : Svc) (k : Slot) : State :=
  if s.feed[n].lock = .seeking then s
  else
    let t := s.feed[n].time
    (s.fireAll n .passed (s.boundariesOf n [k] fun u => decide (u ≤ t))).refreshRequirement n

/-- R82, R84: a posting refused with its cause, or accepted with its body. -/
def State.settlePosting (s : State) (n : Svc) (k : Slot) (p : BitVec 16) : RefusalCause ⊕ Body → State
  | .inl c => ((s.modEntry n k (Entry.refuse p)).pushWrite n k (.cause c)).writeStanding n k
  | .inr b => ((s.modEntry n k (Entry.accept p b)).writeStanding n k).firePassed n k

/-- R82, R84: the body of a posting accepted for validation has been read; while UNLINKING nothing is posted. -/
def State.validatePosting (s : State) (n : Svc) (k : Slot) (bytes : List Byte) : State :=
  match (s.entry n k).validating with
  | none => s
  | some p =>
    if s.isLinked then s.accessDone.settlePosting n k p (s.validate n bytes)
    else if s.carries then s.accessDone.modEntry n k fun e => { e with validating := none }
    else s

/-! ### Integration results (R55, R98) -/

/-- R98: a loudness result handed to the Scheduler for its owner; discarded when no such entry is CLOSING. -/
def State.handResult (s : State) (o : Owner) (r : LoudResult) : State :=
  let e := s.entry o.service o.slot
  if e.state = .closing ∧ e.posting = o.posting then
    (s.modEntry o.service o.slot fun e => { e with context := none }).finishVerdict o.service o.slot r
  else s

/-- R54, R55: an integration completes. -/
def State.completeIntegration (s : State) : State :=
  match s.integ.busy with
  | none => s
  | some (c, r) =>
    let s' := match s.pool[c].owner with
      | some o => s.handResult o r
      | none => s
    ((s'.modPool c fun _ => Context.free).modInteg fun u => { u with busy := none }).startIntegration

/-! ### Link and unlink (R100 to R102) -/

/-- R195 step 3: the standings of all slots written IDLE with posting 0. -/
def State.idlePieces (s : State) : List Piece :=
  allServices.flatMap fun n => allSlots.map fun k => s.slotPiece n k (.standing .idle 0)

/-- R101: one service's Scheduler at the entry to UNLINKING. -/
def State.schedUnlink (s : State) (n : Svc) : State :=
  ((s.closeOpen n .ofUnlinkClose).forgetWaiting n).modEntriesWhere n (fun e => !e.handed) Entry.rehandOnce

/-- R102: one service's Scheduler at a fault unlink. -/
def State.schedFault (s : State) (n : Svc) : State := (s.closeOpen n .ofUnlinkClose).emptyDockets n

/-- R101: no CLOSING entry remains and every slot write has completed or been dropped. -/
def State.schedDone (s : State) (n : Svc) : Bool :=
  allSlots.all fun k => decide ((s.entry n k).state ≠ .closing) && (s.entry n k).writes.isEmpty

end Sys2Proof.Machine
end

