-- ==== Sys2Proof/Machine/Link.lean ====
section
/-! DEFINITION. The Exchange Controller: command results, linking, unlinking, failed accesses and the fault unlink
(R192 to R199). -/
namespace Sys2Proof.Machine

/-! ### The COMMAND register (R192, R194) -/

def codeLink : Byte := 1
def codeUnlink : Byte := 2
def codeStore : Byte := 3
def codeReset : Byte := 4

/-- R194: the readback of a command write. -/
def State.setReadback (s : State) (code : Byte) (r : CmdResult) : State :=
  s.modCtl fun c => { c with cmd := code, result := r }

/-- R195: the base of a LINK: a non-zero multiple of 65,536, the area within 2^64. -/
def baseGood (base : BitVec 64) : Bool :=
  decide (base ≠ 0) && decide (base.toNat % 65536 = 0) && decide (base.toNat + Config.areaBytes ≤ 2 ^ 64)

/-- R194: the result of LINK. -/
def State.linkResult (s : State) : CmdResult :=
  match s.ctl.link with
  | .unlinked => if baseGood s.ctl.base then .accepted else .badBase
  | .linking => .busy
  | .linked => .badState
  | .unlinking => .busy

/-- R194: the result of UNLINK. -/
def State.unlinkResult (s : State) : CmdResult :=
  match s.ctl.link with
  | .unlinked => .badState
  | .linking => .busy
  | .linked => .accepted
  | .unlinking => .busy

/-- R195: a LINK taken. -/
def State.beginLink (s : State) : State :=
  s.modCtl fun c =>
    { c with link := .linking, step := .header, failedSheets := [], consecutive := 0, stepDone := 0 }

def State.commandLink (s : State) : State :=
  let r := s.linkResult
  let t := s.setReadback codeLink r
  if r = .accepted then t.beginLink else t

/-! ### The steps of LINKING (R195) -/

/-- The writes of steps 3, 4 and 6, each with its pieces, in the order in which the model takes them (assumption 20). -/
def State.stepWrites (s : State) : List (List Piece) :=
  match s.ctl.step with
  | .header => []
  | .sheets => []
  | .standings => s.idlePieces.map fun p => [p]
  | .descriptors => allExtents.map fun x => s.descPieces x Extent.blank
  | .entries => allConds.map s.entryPieces ++ [[s.causePiece], [s.commitPiece s.store.commits]]

/-- The writes of the present link step that have not completed. -/
def State.stepLeft (s : State) : List (List Piece) :=
  if s.ctl.link = .linking then s.stepWrites.drop s.ctl.stepDone else []

/-- R195: the next k writes of a link step complete. -/
def State.landStep (s : State) (k : Nat) : State :=
  (s.land (s.stepLeft.take k).flatten).modCtl fun c => { c with stepDone := c.stepDone + min k s.stepLeft.length }

/-- R195: the writes of a link step have all completed. -/
def State.finishStep (s : State) : State :=
  if s.stepLeft.isEmpty then s else (s.landStep s.stepLeft.length).accessDone

/-- R195: the next step begins. -/
def State.nextStep (s : State) (step : LinkStep) : State := s.modCtl fun c => { c with step := step, stepDone := 0 }

/-- R195 step 1: the header has been read. -/
def State.linkHeader (s : State) (b : List Byte) : State :=
  if headerVersion b = Config.layoutVersion then
    ((s.modCtl fun c =>
      { c with windowBase := headerWindowBase b, windowSize := headerWindowSize b,
               failedSheets := [] }).nextStep .sheets).modPriorities fun _ => headerPriorities b
  else s.modCtl fun c => { c with result := .badLayout, link := .unlinked }

/-- R195 step 2: the sheets have been read. -/
def State.linkSheets (s : State) (reads : Vector (Option SheetRead) 16) : State := (s.decideSheets reads).nextStep .standings

/-- R198: the reads of step 2 end a row of failures where one of them completed after the last that failed. -/
def State.sheetsDone (s : State) (after : Bool) : State :=
  if after || s.ctl.failedSheets.isEmpty then s.accessDone else s

/-- R195 step 3: the standings have been written; the Scheduler sets up its entries (R100). -/
def State.linkStandings (s : State) : State :=
  (allServices.foldl (fun s n => s.emptyDockets n) s.finishStep).nextStep .descriptors

/-- R195 step 5: LINK_FAULT raised once when the link-fault mark is set, and the mark cleared. -/
def State.linkFaultRaise (s : State) : State :=
  if s.ctl.faultMark then (s.modCtl fun c => { c with faultMark := false }).raiseDevice .linkFault else s

/-- R195 steps 4 and 5: the descriptors have been written BLANK. -/
def State.linkDescriptors (s : State) : State := s.finishStep.moverLink.linkFaultRaise.nextStep .entries

/-- R195 steps 6 and 7: the entries, the alert cause and the commit count have been written; the entry to LINKED. -/
def State.linkEntries (s : State) : State :=
  let s := s.finishStep.dropOwed.modCtl fun c => { c with link := .linked, stepDone := 0 }
  s.startReminders.evaluate

/-- R195: the accesses of a link step have completed; a report of another step has no effect. -/
def State.linkStep (s : State) (r : LinkReport) : State :=
  match s.ctl.link, s.ctl.step, r with
  | .linking, .header, .header b => s.accessDone.linkHeader b
  | .linking, .sheets, .sheets reads after => (s.sheetsDone after).linkSheets reads
  | .linking, .standings, .written => s.linkStandings
  | .linking, .descriptors, .written => s.linkDescriptors
  | .linking, .entries, .written => s.linkEntries
  | _, _, _ => s

/-! ### UNLINK (R197, R101, R157, R165, R169) -/

/-- What becomes of a queued write at an unlink: the writes already handed go on, an entry's with the fields it has then
(assumption 26); the ends of periodic writes go. -/
def LiveItem.carry (s : State) (n : Svc) : LiveItem → Option LiveItem
  | .fields p => some (.fields p)
  | .count v => some (.count v)
  | .entry c _ _ => some (.late c (s.entryPieces (.service n c)))
  | .late c ps => some (.late c ps)
  | .mark _ => none

/-- The same in the header's queue; the cause write of an alert in progress is carried with what it holds then. -/
def HeaderItem.carry (s : State) : HeaderItem → List HeaderItem
  | .commit v => [.commit v]
  | .entry c => [.late c (s.entryPieces (.device c))]
  | .alert => s.alertPieces.map .cause
  | .late c ps => [.late c ps]
  | .cause p => [.cause p]

/-- R197: periodic live-block writes stop and no further condition entry is written; the writes already handed are still
carried. -/
def State.stopWrites (s : State) : State :=
  let t := allServices.foldl (fun t n => t.modLive n fun l => { l with queue := l.queue.filterMap (LiveItem.carry s n) }) s
  (t.modHeader fun q => q.flatMap (HeaderItem.carry s)).dropOwed

/-- R169: an alert in progress whose step 2 has not completed is abandoned. -/
def State.dropAlert (s : State) : State := s.modAlert fun a => { a with progress := none, abandoned := false }

/-- R197: the entry to UNLINKING. The closes that the Scheduler makes join the integration queue with the lowest service's
first (R54; assumption 29). -/
def State.beginUnlink (s : State) : State :=
  let s := s.handAlert.modCtl fun c => { c with link := .unlinking }
  let s := s.stopReminders.stopWrites.dropAlert
  let s := allServices.foldl (fun s n => s.schedUnlink n) s
  s.moverUnlink

def State.commandUnlink (s : State) : State :=
  let r := s.unlinkResult
  let t := s.setReadback codeUnlink r
  if r = .accepted then t.beginUnlink else t

/-! ### Writes that no command reports (R171, R195, R196, R204) -/

/-- R196: how many of the writes queued for the header can complete without a report of their own: while LINKED those before
the cause of an alert, which ALERT_CAUSE_WRITTEN reports. -/
def State.headerFree (s : State) : Nat := if s.isLinked then s.header.idxOf .alert else s.header.length

/-- Every queued write that has no report of its own completes. -/
def State.landQueues (s : State) : State :=
  let s := allServices.foldl (fun s n => s.landLive n s.live[n].queue.length) s
  s.landHeader s.headerFree

/-- Whether such a write is in flight. -/
def State.silentWrites (s : State) : Bool :=
  allServices.any (fun n => hasWrite s.live[n].queue) || decide (0 < s.headerFree)

/-- The queued writes of the live blocks and of the header complete, and the alert in progress hands what it then can. -/
def State.settleQueues (s : State) : State :=
  let s := s.handAlert
  if s.silentWrites then s.landQueues.accessDone.trimWaits.handCause else s

/-- The writes in flight that no command of the table reports one by one complete: the queued writes of the live blocks and
of the header while the controller carries them, the writes of a link step in LINKING (assumption 5). -/
def State.settle (s : State) : State := if s.carries then s.settleQueues else s.finishStep

/-! ### The end of an unlink (R197, R101, R116) -/

/-- R197: the Scheduler and the Mover have reported their part done. -/
def State.unlinkReady (s : State) : Bool :=
  decide (s.ctl.link = .unlinking) && allServices.all s.schedDone && s.moverDone

/-- R197: the link state becomes UNLINKED; the docket lists and the pinned-range lists are then empty. -/
def State.completeUnlink (s : State) : State :=
  if s.unlinkReady then
    let s := allServices.foldl (fun s n => s.emptyDockets n) s.settle
    s.modCtl fun c => { c with link := .unlinked }
  else s

/-! ### The fault unlink (R199) -/

/-- R199: the unlink on a link fault; the closes of different services join the integration queue as at an UNLINK. -/
def State.faultUnlink (s : State) : State :=
  let s := s.modCtl fun c => { c with link := .unlinked, faultMark := true }
  let s := allServices.foldl (fun s n => s.schedFault n) s
  let s := s.moverFault.stopReminders.dropOwed.dropAlert
  (allServices.foldl (fun s n => s.modLive n fun l => { l with queue := [] }) s).modHeader fun _ => []

/-! ### What is in flight (R196, R202) -/

/-- The write of the entry of a condition is queued. -/
def State.entryQueued (s : State) : CondRef → Bool
  | .device c => s.header.any (HeaderItem.isEntry c)
  | .service n c => s.live[n].queue.any (LiveItem.isEntry c)

/-- A piece of a periodic write. -/
def LiveItem.isFields : LiveItem → Bool
  | .fields _ => true
  | .entry _ _ _ => false
  | .mark _ => false
  | .count _ => false
  | .late _ _ => false

/-- A write of the write count. -/
def LiveItem.isCount : LiveItem → Bool
  | .count _ => true
  | .fields _ => false
  | .entry _ _ _ => false
  | .mark _ => false
  | .late _ _ => false

/-- A write of the commit count. -/
def HeaderItem.isCommit : HeaderItem → Bool
  | .commit _ => true
  | .entry _ => false
  | .alert => false
  | .late _ _ => false
  | .cause _ => false

/-- A write of an alert's cause. -/
def HeaderItem.isCause : HeaderItem → Bool
  | .alert => true
  | .cause _ => true
  | .entry _ => false
  | .commit _ => false
  | .late _ _ => false

/-- R196: whether an access is in flight. Reads of a sweep may be in flight whenever the part is LINKED, and while UNLINKING
those of before the entry (assumption 4). -/
def State.inFlight (s : State) (a : AccessRef) : Bool :=
  match a with
  | .commandWord _ _ => s.carries
  | .docketBody n k => s.carries && (s.entry n k).validating.isSome
  | .slotWrite n k => s.carries && (s.entry n k).handed && !(s.entry n k).writes.isEmpty
  | .sheetRead _ => s.carries
  | .ackCount _ => s.carries
  | .captureAck _ => s.carries
  | .devicePriorities => s.carries
  | .descriptorRead => s.carries && s.readingOf.isSome
  | .descriptorUpdate x => s.carries && (takeUpdate x s.mover.updates).isSome
  | .unitWrite => s.carries && s.unitInFlight.isSome
  | .entryWrite c => s.carries && s.entryQueued c
  | .alertCause => s.carries && s.header.any HeaderItem.isCause
  | .livePiece n i => s.carries && (s.live[n].queue[i]?.map LiveItem.isFields).getD false
  | .writeCount n => s.carries && s.live[n].queue.any LiveItem.isCount
  | .commitCount => s.carries && s.header.any HeaderItem.isCommit
  | .linkHeader => decide (s.ctl.link = .linking) && decide (s.ctl.step = .header)
  | .linkSheet n => decide (s.ctl.link = .linking) && decide (s.ctl.step = .sheets) && decide (n ∉ s.ctl.failedSheets)
  | .linkWrite => !s.stepLeft.isEmpty

/-- R196, R202: the host address at which a read of the exchange area begins. -/
def State.readAddress (s : State) : AccessRef → Option Nat
  | .commandWord n k => some (s.area (slotOffset n k))
  | .docketBody n k => some (s.area (slotOffset n k))
  | .sheetRead n => some (s.area (sheetOffset n))
  | .linkSheet n => some (s.area (sheetOffset n))
  | .ackCount c => some (s.area (condOffset c + 8))
  | .captureAck n => some (s.area (liveOffset n))
  | .devicePriorities => some (s.area 24)
  | .linkHeader => some (s.area 0)
  | .descriptorRead => s.mover.work.reading.map fun x => s.area (descOffset x)
  | .slotWrite _ _ => none
  | .descriptorUpdate _ => none
  | .unitWrite => none
  | .entryWrite _ => none
  | .alertCause => none
  | .livePiece _ _ => none
  | .writeCount _ => none
  | .commitCount => none
  | .linkWrite => none

/-! ### Failures of queued writes (R171, R204) -/

/-- A periodic write one of whose pieces has failed is no longer whole: its end is the first in the queue behind the piece. -/
def breakMark : List LiveItem → List LiveItem
  | [] => []
  | i :: q => if i.isEnd then .mark false :: q else i :: breakMark q

/-- R204: write k of a queue fails; the periodic write of which it is a piece is no longer whole. -/
def failItem (k : Nat) (q : List LiveItem) : List LiveItem :=
  match q[k]? with
  | some (.fields _) => q.take k ++ breakMark (q.drop (k + 1))
  | some (.entry _ true _) => q.take k ++ breakMark (q.drop (k + 1))
  | some (.entry _ false _) => q.take k ++ q.drop (k + 1)
  | some (.count _) => q.take k ++ q.drop (k + 1)
  | some (.late _ _) => q.take k ++ q.drop (k + 1)
  | some (.mark _) => q
  | none => q

/-- R169: a failed entry write is one of step 2 of the alert in progress when the alert waits for it: one that was owed at the
choice (assumption 7). -/
def State.entryAbandons (s : State) (r : CondRef) : Bool :=
  s.isLinked && (s.alert.progress.map fun a => a.waits.contains r).getD false

/-- The write of an entry leaves its queue. -/
def State.dropEntryWrite (s : State) : CondRef → State
  | .device c => s.modHeader (List.filter fun i => !i.isEntry c)
  | .service n c => s.modLive n fun l => { l with queue := failItem (l.queue.findIdx (LiveItem.isEntry c)) l.queue }

/-- R171: a failed entry write leaves the entry owed: a write of it that is queued behind takes it over, else it waits. While
UNLINKING it is not made again (R197). -/
def State.entryWriteLost (s : State) (r : CondRef) : State :=
  let s := s.dropEntryWrite r
  if s.isLinked then
    if s.entryQueued r then s.queueEntry r else s.modCond r fun e => { e with owed := true }
  else s

/-- R169, R171: the write of an entry fails. -/
def State.entryWriteFailed (s : State) (r : CondRef) : State :=
  (if s.entryAbandons r then s.abandonAlert else s).entryWriteLost r

/-- R198: what the block that handed a failed access does. -/
def State.failOwner (s : State) (a : AccessRef) : State :=
  match a with
  | .commandWord _ _ => s
  | .docketBody n k => s.modEntry n k fun e => { e with validating := none }
  | .slotWrite n k => s.modEntry n k (Entry.writeFailed s.isLinked)
  | .sheetRead _ => s
  | .ackCount _ => s
  | .captureAck _ => s
  | .devicePriorities => s
  | .descriptorRead => s.descriptorReadFailed
  | .descriptorUpdate x => s.updateFailed x
  | .unitWrite => s.unitWriteFailed
  | .entryWrite c => s.entryWriteFailed c
  | .alertCause => (s.modHeader (List.filter fun i => !i.isCause)).abandonAlert
  | .livePiece n i => s.modLive n fun l => { l with queue := failItem i l.queue }
  | .writeCount n => s.modLive n fun l => { l with queue := failItem (l.queue.findIdx LiveItem.isCount) l.queue }
  | .commitCount => s.modHeader fun q => q.eraseP HeaderItem.isCommit
  | .linkHeader => s
  | .linkSheet n => s.modCtl fun c => { c with failedSheets := c.failedSheets ++ [n] }
  | .linkWrite => s

/-! ### Failed accesses (R196, R198) -/

/-- The queued writes among the completions stated before a failure reach host memory, those of one record in their order. -/
def State.landQueued (s : State) (d : Completions) : State :=
  (allServices.foldl (fun s n => s.landLive n d.live[n]) s).landHeader (min d.header s.headerFree)

/-- R198: whether one of the completions stated before a failure is that of an access in flight. -/
def State.anyCompleted (s : State) (d : Completions) : Bool :=
  if s.carries then
    d.reads || (decide (0 < d.header) && decide (0 < s.headerFree)) ||
    allServices.any fun n => hasWrite (s.live[n].queue.take d.live[n])
  else if s.ctl.link = .linking then
    (d.reads && decide (s.ctl.step = .sheets)) || (decide (0 < d.link) && !s.stepLeft.isEmpty)
  else false

/-- The writes among the completions stated before a failure reach host memory. -/
def State.landCompleted (s : State) (d : Completions) : State :=
  if s.carries then s.landQueued d else s.landStep d.link

/-- R198: the completions that no command reports, taken before a failure: they end a row of failures. The alert in progress
hands what it can before them and after them. -/
def State.completed (s : State) (d : Completions) : State :=
  let s := s.handAlert
  if s.anyCompleted d then (s.landCompleted d).accessDone.trimWaits.handCause else s

/-- R198: the two counts at a failure. -/
def State.countFailure (s : State) : State :=
  s.modCtl fun c => { c with consecutive := satInc 8 c.consecutive, total := satInc 65535 c.total }

/-- R198, R199: an access in flight fails; the eighth failure in a row unlinks the part. -/
def State.failFlying (s : State) (a : AccessRef) : State :=
  let s := s.countFailure
  if s.ctl.consecutive = Config.failureLimit then s.faultUnlink else s.failOwner a

/-- R196, R198: an access fails, after the completions stated; without such an access in flight nothing happens. -/
def State.failAccess (s : State) (a : AccessRef) (d : Completions) : State :=
  if (s.completed d).inFlight a then (s.completed d).failFlying a else s

end Sys2Proof.Machine
end

