-- ==== Sys2Proof/Machine/Power.lean ====
section
/-! DEFINITION. Power-on, device reset and power loss (R189, R190, R200, R201 and the reset tables of every chapter). -/
namespace Sys2Proof.Machine

/-- Every block but the store and the controller at its reset values, from the sheets loaded (R17, R40, R59, R75, R102,
R135, R158, R174, R190); the raises of the reset are not yet taken. -/
def State.blocksReset (s : State) : State :=
  let sheets := s.store.load
  { s with feed := Vector.replicate 16 Feed.reset, meter := Vector.replicate 16 Meter.reset,
           caption := Vector.ofFn fun n : Svc => Caption.reset sheets[n].adopted,
           sched := Vector.replicate 16 Sched.reset, pool := Vector.replicate 36 Context.free, integ := ⟨[], none⟩,
           proxy := Vector.replicate 16 Proxy.reset, recorder := Vector.replicate 16 Recorder.reset,
           extents := Vector.replicate 256 Extent.blank, mover := Mover.reset,
           panel := Vector.replicate 16 (panelReset false), devPanel := Vector.replicate 3 CondEntry.reset,
           devPriority := Vector.replicate 3 4, alert := Alert.reset s.alert.sent, sheet := sheets,
           live := Vector.replicate 16 LiveWrite.reset, header := [] }

/-- R190: STORE_FAULT raised for a service whose stored sheet is bad, SHEET_FAULT for one whose quota was cut. -/
def State.raiseLoad (s : State) (n : Svc) : State :=
  let s := if s.store.stored[n].good then s else s.raiseDevice .storeFault
  if s.sheet[n].cause = some .quotaSum then s.raise n .sheetFault else s

/-- R190, R69: the raises made by owners at the reset. -/
def State.raiseReset (s : State) : State :=
  allServices.foldl (fun s n => s.judgeCaptions n) (allServices.foldl (fun s n => s.raiseLoad n) s)

/-- R201: power-on. -/
def State.turnOn (s : State) : State :=
  let s := { s with powered := true, ctl := Ctl.reset, store := { s.store with commit := none } }
  s.blocksReset.raiseReset

/-- R200: the Exchange Controller at DEVICE_RESET: the base and the mask of the last STORE are kept. -/
def Ctl.deviceReset (c : Ctl) : Ctl :=
  { Ctl.reset with base := c.base, mask := c.mask, cmd := codeReset }

/-- R188, R194, R200: a DEVICE_RESET written. -/
def State.commandReset (s : State) : State :=
  if s.store.commit.isSome then s.setReadback codeReset .busy
  else (s.modCtl Ctl.deviceReset).blocksReset.raiseReset

/-- R188, R194: a STORE written. -/
def State.commandStore (s : State) (mask : BitVec 16) : State :=
  let r := s.storeResult
  let t := (s.setReadback codeStore r).modCtl fun c => { c with mask := mask }
  if r = .accepted then t.beginStore mask else t

/-- R194: a command write of an unknown code. -/
def State.commandUnknown (s : State) (code : Byte) : State :=
  if unknownCode code then s.setReadback code .badState else s

/-- R189: a loss of power. -/
def State.turnOff (s : State) (written : Nat) (torn : Bool) : State :=
  { s.modStore (fun st => st.losePower written torn) with powered := false }

end Sys2Proof.Machine
end

