-- ==== Sys2Proof/Machine/FeedLane.lean ====
section
/-! DEFINITION. The commands of the feed lanes and of the feed timers (chapters 1, 2, 4 and R90). -/
namespace Sys2Proof.Machine

/-- FRAME (R2). -/
def execFrame (n : Svc) (stamp : Stamp) (rate : BitVec 16) (s : State) : Host.Outcome State Fault Refusal :=
  onPower s fun s => s.takeFrame n stamp.toNat rate

/-- AUDIO (R3). -/
def execAudio (n : Svc) (samples : Vector (BitVec 24) 16) (s : State) : Host.Outcome State Fault Refusal :=
  onPower s fun s => s.takeAudio n samples

/-- CAPTION (R4, R61). -/
def execCaption (n : Svc) (page : Byte) (lang : Lang) (kind : CaptionKind) (seq : Byte) (s : State) :
    Host.Outcome State Fault Refusal :=
  onPower s fun s => s.takeCaption n page lang kind seq

/-- CUE (R5, R90). -/
def execCue (n : Svc) (id : BitVec 16) (kind : CueKind) (s : State) : Host.Outcome State Fault Refusal :=
  onPower s fun s => s.takeCue n id kind

/-- LOSS (R6, R12). -/
def execLoss (n : Svc) (late : Bool) (s : State) : Host.Outcome State Fault Refusal :=
  onPower s fun s => s.takeLoss n late

/-- RESTORE (R6). -/
def execRestore (n : Svc) (s : State) : Host.Outcome State Fault Refusal :=
  onPower s fun s => s.modFeed n fun f => { f with lineDown := false }

/-- DISCARDED_MESSAGE (R1). -/
def execDiscardedMessage (n : Svc) (s : State) : Host.Outcome State Fault Refusal :=
  onPower s fun s => s.discardMessage n

/-- LOSS_TIMER_EXPIRY (R11, R12). -/
def execLossTimerExpiry (n : Svc) (s : State) : Host.Outcome State Fault Refusal :=
  onPower s fun s => s.lossTimerOut n

/-- FLYWHEEL_ADVANCE (R13). -/
def execFlywheelAdvance (n : Svc) (s : State) : Host.Outcome State Fault Refusal :=
  onPower s fun s => s.frameTimerDue n

end Sys2Proof.Machine
end

