-- ==== Sys2Proof/Machine/Measure.lean ====
section
/-! DEFINITION. The commands of the meter, the live block, the caption counters and the Integration Unit (chapters 2, 3
and 4, R204). -/
namespace Sys2Proof.Machine

/-- COUNT_LIMIT (R49). -/
def execCountLimit (n : Svc) (k : Slot) (s : State) : Host.Outcome State Fault Refusal :=
  onPower s fun s => s.takeCountLimit n k

/-- WRITE_COUNTDOWN_EXPIRY (R33). -/
def execWriteCountdownExpiry (n : Svc) (s : State) : Host.Outcome State Fault Refusal :=
  onPower s fun s => s.countdownOut n

/-- WRITE_TIMER_EXPIRY (R33). -/
def execWriteTimerExpiry (n : Svc) (s : State) : Host.Outcome State Fault Refusal :=
  onPower s fun s => s.writeTimerOut n

/-- LIVE_BLOCK_WRITE_COUNT (R204). -/
def execLiveBlockWriteCount (n : Svc) (s : State) : Host.Outcome State Fault Refusal :=
  onPower s fun s => s.completeLive n

/-- R62, R65: the received frame that brings the liveness counter from 1 to 0. -/
def State.livenessOut (s : State) (n : Svc) : State := if s.caption[n].liveness = 1 then s.judgeFrame n else s

/-- R63, R65: the received frame that brings the content counter from 1 to 0. -/
def State.contentOut (s : State) (n : Svc) : State := if s.caption[n].content = 1 then s.judgeFrame n else s

/-- LIVENESS_EXPIRY (R62). -/
def execLivenessExpiry (n : Svc) (s : State) : Host.Outcome State Fault Refusal := onPower s fun s => s.livenessOut n

/-- CONTENT_EXPIRY (R63). -/
def execContentExpiry (n : Svc) (s : State) : Host.Outcome State Fault Refusal := onPower s fun s => s.contentOut n

/-- INTEGRATION_START (R54). -/
def execIntegrationStart (s : State) : Host.Outcome State Fault Refusal := onPower s fun s => s.startIntegration

/-- INTEGRATION_COMPLETION (R55). -/
def execIntegrationCompletion (s : State) : Host.Outcome State Fault Refusal :=
  onPower s fun s => s.completeIntegration

end Sys2Proof.Machine
end

