-- ==== Sys2Proof/Machine/DocketBoard.lean ====
section
/-! DEFINITION. The commands of the docket boards (chapter 5). -/
namespace Sys2Proof.Machine

/-- SLOT_WRITE_COMPLETE (R77). -/
def execSlotWriteComplete (n : Svc) (k : Slot) (s : State) : Host.Outcome State Fault Refusal :=
  onPower s fun s => s.slotWriteDone n k

/-- BOARD_SWEEP (R79). -/
def execBoardSweep (s : State) : Host.Outcome State Fault Refusal := onPower s fun s => s.sweep

/-- COMMAND_WORD_READ (R80, R81). -/
def execCommandWordRead (n : Svc) (k : Slot) (word : BitVec 32) (s : State) : Host.Outcome State Fault Refusal :=
  onPower s fun s => s.readCommandWord n k word

/-- POSTING_VALIDATION (R82, R84). -/
def execPostingValidation (n : Svc) (k : Slot) (body : List Byte) (s : State) : Host.Outcome State Fault Refusal :=
  onPower s fun s => s.validatePosting n k body

end Sys2Proof.Machine
end

