-- ==== Sys2Proof/Machine/Archive.lean ====
section
/-! DEFINITION. The commands of the proxy lanes and of the Archive Mover (chapters 7 and 8). -/
namespace Sys2Proof.Machine

/-- ARRIVAL (R118 to R121). -/
def execArrival (n : Svc) (chunk : Chunk) (s : State) : Host.Outcome State Fault Refusal :=
  onPower s fun s => s.takeChunk n chunk

/-- MOVER_TURN (R140, R141). -/
def execMoverTurn (s : State) : Host.Outcome State Fault Refusal := onPower s fun s => s.startTurn

/-- DESCRIPTOR_UPDATE_COMPLETE (R147). -/
def execDescriptorUpdateComplete (x : ExtId) (s : State) : Host.Outcome State Fault Refusal :=
  onPower s fun s => s.updateComplete x

/-- R132, R146: the unit write in flight completes, with the work attached to it. -/
def State.unitDone (s : State) : State :=
  match s.carries, s.unitInFlight with
  | true, some (n, x, u) => (s.unitWritten n x u).afterUnit n x
  | _, _ => s

/-- The unit write in flight lies past the 64-bit host address space. -/
def State.unitPastSpace (s : State) : Bool :=
  match s.unitInFlight with
  | some (_, x, _) => decide (2 ^ 64 < s.extents[x].nextAddress + Config.unitBytes)
  | none => false

/-- UNIT_WRITE_COMPLETE (R146). A report for a write past the address space is the fault of Machine/State.lean. -/
def execUnitWriteComplete (s : State) : Host.Outcome State Fault Refusal :=
  if s.powered && s.carries && s.unitPastSpace then .fault .hostAddress else onPower s fun s => s.unitDone

/-- DESCRIPTOR_READ_COMPLETE (R143, R148, R152, R153). -/
def execDescriptorReadComplete (x : ExtId) (fields : List Byte) (s : State) : Host.Outcome State Fault Refusal :=
  onPower s fun s => s.descriptorRead x (parseDescriptor fields)

end Sys2Proof.Machine
end

