-- ==== Sys2Proof/Machine/Attention.lean ====
section
/-! DEFINITION. The commands of the captures, the panels, the Alert Unit and the Sheet Unit's stagings (R154, chapter 9,
R176). -/
namespace Sys2Proof.Machine

/-- R154: a capture ack read at a sweep. -/
def State.captureAckRead (s : State) (n : Svc) (ack : BitVec 16) : State :=
  s.onRead fun s => s.takeCaptureAck n ack

/-- CAPTURE_ACK_READ (R154). -/
def execCaptureAckRead (n : Svc) (ack : BitVec 16) (s : State) : Host.Outcome State Fault Refusal :=
  onPower s fun s => s.captureAckRead n ack

/-- R164, R165: whether an ack count read ends the outstanding state of an entry. -/
def CondEntry.settles (ack : BitVec 16) (e : CondEntry) : Bool := e.outstanding && decide (e.raises = ack)

/-- R164: the ack count of an entry, its reminder timer stopped by the read that ends its outstanding state. -/
def CondEntry.takeAck (ack : BitVec 16) (e : CondEntry) : CondEntry :=
  { e with acked := ack, timer := if e.settles ack then none else e.timer }

/-- R164: an ack count read at a sweep; the read that ends the outstanding state clears the reminder mark too. -/
def State.ackRead (s : State) (c : CondRef) (ack : BitVec 16) : State :=
  s.onRead fun s =>
    let t := s.modCond c (CondEntry.takeAck ack)
    if (s.cond c).settles ack && (s.cond c).mark then t.changeCond c fun e => { e with mark := false } else t

/-- ACK_READ (R164). -/
def execAckRead (c : CondRef) (ack : BitVec 16) (s : State) : Host.Outcome State Fault Refusal :=
  onPower s fun s => s.ackRead c ack

/-- R172, R171: the entry of a device condition whose priority changes is owed. -/
def State.setDevPriority (s : State) (c : DevCond) (p : Nat) : State :=
  if s.devPriority[devIndex c] = p then s
  else (s.modPriorities fun v => v.set (devIndex c) p).changeCond (.device c) id

/-- R172: the device priorities read at a sweep; the Alert Unit evaluates on a change. -/
def State.devPriorityRead (s : State) (p0 p1 p2 : Byte) : State :=
  s.onRead fun s =>
    let t := ((s.setDevPriority .linkFault (takePriority p0)).setDevPriority .storeFault
      (takePriority p1)).setDevPriority .storeComplete (takePriority p2)
    if t.devPriority = s.devPriority then t else t.evaluate

/-- DEVICE_PRIORITY_READ (R172). -/
def execDevicePriorityRead (linkFault storeFault storeComplete : Byte) (s : State) : Host.Outcome State Fault Refusal :=
  onPower s fun s => s.devPriorityRead linkFault storeFault storeComplete

/-- R165: a running reminder timer expires; timers run only while LINKED. -/
def State.reminderOut (s : State) (r : CondRef) : State :=
  if s.isLinked && (s.cond r).timer.isSome then
    let s := s.modCond r fun e => { e with timer := none }
    if (s.cond r).outstanding then (s.changeCond r fun e => { e with mark := true }).evaluate else s
  else s

/-- REMINDER_TIMER_EXPIRY (R165). -/
def execReminderTimerExpiry (n : Svc) (c : SvcCond) (s : State) : Host.Outcome State Fault Refusal :=
  onPower s fun s => s.reminderOut (.service n c)

/-- R169, R196: while UNLINKING, the cause write of the alert abandoned at the entry has completed, and with it the writes
handed before it for the header; no step of the alert follows, and the Alert Unit keeps the number, level, panel and index of the
alert before it, which the next LINK writes (R195; assumption 26). -/
def State.lateCauseWritten (s : State) : State :=
  if s.carries && s.header.any HeaderItem.isCause then
    (s.landHeader (s.header.findIdx HeaderItem.isCause + 1)).accessDone
  else s

/-- R168: the owed entry writes and the alert cause have been written. -/
def State.alertWritten (s : State) : State :=
  match s.isLinked, s.alert.progress with
  | true, some a => s.accessDone.finishAlert a
  | true, none => s
  | false, _ => s.lateCauseWritten

/-- ALERT_CAUSE_WRITTEN (R168). -/
def execAlertCauseWritten (s : State) : Host.Outcome State Fault Refusal := onPower s fun s => s.alertWritten

/-- R176: the reads of a staging have been made. -/
def State.sheetRead (s : State) (n : Svc) (r : SheetRead) : State := s.onRead fun s => s.stage n r

/-- SHEET_STAGING (R176). -/
def execSheetStaging (n : Svc) (read : SheetRead) (s : State) : Host.Outcome State Fault Refusal :=
  onPower s fun s => s.sheetRead n read

end Sys2Proof.Machine
end

