-- ==== Sys2Proof/Machine/Control.lean ====
section
/-! DEFINITION. The register commands, the link's reports and the power events (chapters 10 and 11, R170). -/
namespace Sys2Proof.Machine

/-- LINK (R194, R195). -/
def execLink (s : State) : Host.Outcome State Fault Refusal := onPower s fun s => s.commandLink

/-- LINK_STEP_COMPLETE (R195). -/
def execLinkStepComplete (report : LinkReport) (s : State) : Host.Outcome State Fault Refusal :=
  onPower s fun s => s.linkStep report

/-- UNLINK (R194, R197). -/
def execUnlink (s : State) : Host.Outcome State Fault Refusal := onPower s fun s => s.commandUnlink

/-- UNLINK_COMPLETE (R197). -/
def execUnlinkComplete (s : State) : Host.Outcome State Fault Refusal := onPower s fun s => s.completeUnlink

/-- STORE (R188, R194). -/
def execStore (mask : BitVec 16) (s : State) : Host.Outcome State Fault Refusal :=
  onPower s fun s => s.commandStore mask

/-- COMMIT_COMPLETE (R189). -/
def execCommitComplete (s : State) : Host.Outcome State Fault Refusal := onPower s fun s => s.completeCommit

/-- DEVICE_RESET (R194, R200). -/
def execDeviceReset (s : State) : Host.Outcome State Fault Refusal := onPower s fun s => s.commandReset

/-- BAD_COMMAND (R194). -/
def execBadCommand (code : Byte) (s : State) : Host.Outcome State Fault Refusal :=
  onPower s fun s => s.commandUnknown code

/-- R193: a write of EXCHANGE_BASE is held while UNLINKED. -/
def State.writeBase (s : State) (value : BitVec 64) : State :=
  if s.ctl.link = .unlinked then s.modCtl fun c => { c with base := value } else s

/-- EXCHANGE_BASE_WRITE (R193). -/
def execExchangeBaseWrite (value : BitVec 64) (s : State) : Host.Outcome State Fault Refusal :=
  onPower s fun s => s.writeBase value

/-- R170: a host write of ALERT_LEVEL takes bits 0 to 2, and the Alert Unit evaluates. -/
def State.writeLevel (s : State) (value : BitVec 64) : State :=
  (s.modAlert fun a => { a with level := value.setWidth 3 }).evaluate

/-- ALERT_LEVEL_WRITE (R170). -/
def execAlertLevelWrite (value : BitVec 64) (s : State) : Host.Outcome State Fault Refusal :=
  onPower s fun s => s.writeLevel value

/-- REGISTER_WRITE_IGNORED (R192). -/
def execRegisterWriteIgnored (_offset : BitVec 16) (_value : BitVec 64) (s : State) :
    Host.Outcome State Fault Refusal :=
  onPower s fun s => s

/-- ACCESS_FAILURE (R198): the link reports error. -/
def execAccessFailure (a : Failure) (s : State) : Host.Outcome State Fault Refusal :=
  onPower s fun s => s.failAccess a.access a.done

/-- ACCESS_TIMEOUT (R196): no report has come within 50 ms; the access fails as at an error. -/
def execAccessTimeout (a : Failure) (s : State) : Host.Outcome State Fault Refusal :=
  onPower s fun s => s.failAccess a.access a.done

/-- POWER_ON (R201): taken with and without power. -/
def execPowerOn (s : State) : Host.Outcome State Fault Refusal := .next s.turnOn

/-- POWER_LOSS (R189). -/
def execPowerLoss (written : Nat) (torn : Bool) (s : State) : Host.Outcome State Fault Refusal :=
  onPower s fun s => s.turnOff written torn

end Sys2Proof.Machine
end

