-- ==== Sys2Proof/Machine/Dispatch.lean ====
section
/-! DEFINITION. The dispatch of a command to its meaning: one arm per constructor. -/
namespace Sys2Proof.Machine

def exec (i : Instr) (s : State) : Host.Outcome State Fault Refusal :=
  match i with
  | .frame n stamp rate => Sys2Proof.Machine.execFrame n stamp rate s
  | .audio n samples => Sys2Proof.Machine.execAudio n samples s
  | .caption n page lang kind seq => Sys2Proof.Machine.execCaption n page lang kind seq s
  | .cue n id kind => Sys2Proof.Machine.execCue n id kind s
  | .loss n late => Sys2Proof.Machine.execLoss n late s
  | .restore n => Sys2Proof.Machine.execRestore n s
  | .discardedMessage n => Sys2Proof.Machine.execDiscardedMessage n s
  | .lossTimerExpiry n => Sys2Proof.Machine.execLossTimerExpiry n s
  | .flywheelAdvance n => Sys2Proof.Machine.execFlywheelAdvance n s
  | .countLimit n k => Sys2Proof.Machine.execCountLimit n k s
  | .writeCountdownExpiry n => Sys2Proof.Machine.execWriteCountdownExpiry n s
  | .writeTimerExpiry n => Sys2Proof.Machine.execWriteTimerExpiry n s
  | .liveBlockWriteCount n => Sys2Proof.Machine.execLiveBlockWriteCount n s
  | .livenessExpiry n => Sys2Proof.Machine.execLivenessExpiry n s
  | .contentExpiry n => Sys2Proof.Machine.execContentExpiry n s
  | .integrationStart => Sys2Proof.Machine.execIntegrationStart s
  | .integrationCompletion => Sys2Proof.Machine.execIntegrationCompletion s
  | .slotWriteComplete n k => Sys2Proof.Machine.execSlotWriteComplete n k s
  | .boardSweep => Sys2Proof.Machine.execBoardSweep s
  | .commandWordRead n k word => Sys2Proof.Machine.execCommandWordRead n k word s
  | .postingValidation n k body => Sys2Proof.Machine.execPostingValidation n k body s
  | .arrival n chunk => Sys2Proof.Machine.execArrival n chunk s
  | .moverTurn => Sys2Proof.Machine.execMoverTurn s
  | .descriptorUpdateComplete x => Sys2Proof.Machine.execDescriptorUpdateComplete x s
  | .unitWriteComplete => Sys2Proof.Machine.execUnitWriteComplete s
  | .captureAckRead n ack => Sys2Proof.Machine.execCaptureAckRead n ack s
  | .ackRead c ack => Sys2Proof.Machine.execAckRead c ack s
  | .devicePriorityRead linkFault storeFault storeComplete => Sys2Proof.Machine.execDevicePriorityRead linkFault storeFault storeComplete s
  | .reminderTimerExpiry n c => Sys2Proof.Machine.execReminderTimerExpiry n c s
  | .alertCauseWritten => Sys2Proof.Machine.execAlertCauseWritten s
  | .sheetStaging n read => Sys2Proof.Machine.execSheetStaging n read s
  | .link => Sys2Proof.Machine.execLink s
  | .linkStepComplete report => Sys2Proof.Machine.execLinkStepComplete report s
  | .unlink => Sys2Proof.Machine.execUnlink s
  | .unlinkComplete => Sys2Proof.Machine.execUnlinkComplete s
  | .store mask => Sys2Proof.Machine.execStore mask s
  | .commitComplete => Sys2Proof.Machine.execCommitComplete s
  | .deviceReset => Sys2Proof.Machine.execDeviceReset s
  | .badCommand code => Sys2Proof.Machine.execBadCommand code s
  | .exchangeBaseWrite value => Sys2Proof.Machine.execExchangeBaseWrite value s
  | .alertLevelWrite value => Sys2Proof.Machine.execAlertLevelWrite value s
  | .registerWriteIgnored offset value => Sys2Proof.Machine.execRegisterWriteIgnored offset value s
  | .accessFailure a => Sys2Proof.Machine.execAccessFailure a s
  | .accessTimeout a => Sys2Proof.Machine.execAccessTimeout a s
  | .powerOn => Sys2Proof.Machine.execPowerOn s
  | .powerLoss written torn => Sys2Proof.Machine.execPowerLoss written torn s
  | .descriptorReadComplete x fields => Sys2Proof.Machine.execDescriptorReadComplete x fields s

end Sys2Proof.Machine
end

