-- ==== Sys2Proof/Machine/Step.lean ====
section
/-! DEFINITION. One step of the block: the command at the front of the queue, or, on an empty queue, the completion of
the writes that no command reports. -/
namespace Sys2Proof.Machine

/-- A host write of a register (R192) puts its command at the back of the queue. -/
def State.hostWrite (s : State) (offset : BitVec 16) (value : BitVec 64) : State :=
  { s with pending := s.pending ++ [decodeRegisterWrite offset value] }

/-- The block idles: while it has power, the writes that no command of the table reports complete (assumption 5). -/
def State.idle (s : State) : State := if s.powered then s.settle else s

/-- One step. -/
def step (s : State) : Host.Outcome State Fault Refusal :=
  match s.pending with
  | [] => .next s.idle
  | c :: rest => exec c { s with pending := rest }

/-- The state with the command that a table word spells at the front of its queue; no row of the table has bits, so no
word spells a command. -/
def State.withFetchWord (s : State) (nbits w : Nat) : State :=
  match decodeTableWord nbits w with
  | some c => { s with pending := c :: s.pending }
  | none => s

end Sys2Proof.Machine
end

