-- ==== Sys2Proof/Safety.lean ====
section
/-! DEFINITION. What the statements speak of: the parts of the state and what a command may change, the services apart from
one, bytes of host memory, and the invariants that every step keeps. -/
namespace Sys2Proof.Machine

/-! ### Parts and frames -/

/-- The parts of the state, one for each top-level field. -/
inductive Part where
  | powered | ctl | feed | meter | caption | sched | pool | integ | proxy | recorder | extents | mover | panel | devPanel
  | devPriority | alert | sheet | store | live | header | host | pending
  deriving DecidableEq, Repr

/-- Two states agree in a part. -/
def sameIn : Part → State → State → Prop
  | .powered, s, t => t.powered = s.powered
  | .ctl, s, t => t.ctl = s.ctl
  | .feed, s, t => t.feed = s.feed
  | .meter, s, t => t.meter = s.meter
  | .caption, s, t => t.caption = s.caption
  | .sched, s, t => t.sched = s.sched
  | .pool, s, t => t.pool = s.pool
  | .integ, s, t => t.integ = s.integ
  | .proxy, s, t => t.proxy = s.proxy
  | .recorder, s, t => t.recorder = s.recorder
  | .extents, s, t => t.extents = s.extents
  | .mover, s, t => t.mover = s.mover
  | .panel, s, t => t.panel = s.panel
  | .devPanel, s, t => t.devPanel = s.devPanel
  | .devPriority, s, t => t.devPriority = s.devPriority
  | .alert, s, t => t.alert = s.alert
  | .sheet, s, t => t.sheet = s.sheet
  | .store, s, t => t.store = s.store
  | .live, s, t => t.live = s.live
  | .header, s, t => t.header = s.header
  | .host, s, t => t.host = s.host
  | .pending, s, t => t.pending = s.pending

/-- The state t differs from s at most in the parts T: every other part of the state is unchanged. -/
def Touches (T : List Part) (s t : State) : Prop := ∀ p, p ∉ T → sameIn p s t

/-- The parts that the openings and closings of segments can change (R91, R96): dockets, contexts, the integration queue,
the mark requests, the service panels with the writes of their copies, the Alert Unit and the requirement in force. -/
def segmentParts : List Part := [.sched, .pool, .integ, .recorder, .panel, .live, .alert, .caption]

/-- The parts of the Mover's own work (chapter 8): SPAN_LOST flags, extent records, recorders, the panels and alerts. -/
def moverParts : List Part := [.sched, .extents, .recorder, .mover, .panel, .live, .alert]

/-- The parts that a command may change; every other part is as before. -/
def commandParts : Instr → List Part
  | .frame _ _ _ => segmentParts ++ [.feed, .meter]
  | .audio _ _ => [.meter, .panel, .alert, .pool, .live]
  | .caption _ _ _ _ _ => [.feed, .caption, .sched, .panel, .live, .alert]
  | .cue _ _ _ => segmentParts
  | .loss _ _ => segmentParts ++ [.feed, .meter]
  | .restore _ => [.feed]
  | .discardedMessage _ => [.feed]
  | .lossTimerExpiry _ => segmentParts ++ [.feed, .meter]
  | .flywheelAdvance _ => segmentParts ++ [.feed]
  | .countLimit _ _ => segmentParts
  | .writeCountdownExpiry _ => [.meter, .live, .panel]
  | .writeTimerExpiry _ => [.meter, .live, .panel]
  | .liveBlockWriteCount _ => [.ctl, .host, .live, .alert]
  | .livenessExpiry _ => [.caption, .panel, .live, .alert, .sched]
  | .contentExpiry _ => [.caption, .panel, .live, .alert, .sched]
  | .integrationStart => [.pool, .integ]
  | .integrationCompletion => [.sched, .panel, .live, .alert, .pool, .integ]
  | .slotWriteComplete _ _ => [.sched, .ctl, .host]
  | .boardSweep => [.sched, .devPanel, .header, .recorder, .mover, .alert]
  | .commandWordRead _ _ _ => segmentParts ++ [.ctl]
  | .postingValidation _ _ _ => segmentParts ++ [.ctl]
  | .arrival _ _ => [.proxy, .panel, .live, .alert, .sched, .recorder]
  | .moverTurn => [.mover, .recorder]
  | .descriptorUpdateComplete _ => [.recorder, .extents, .mover, .panel, .live, .alert, .ctl, .host]
  | .unitWriteComplete => [.host, .ctl, .proxy, .extents, .recorder, .mover]
  | .captureAckRead _ _ => [.ctl, .recorder, .panel, .live, .alert]
  | .ackRead _ _ => [.ctl, .panel, .live, .devPanel, .header]
  | .devicePriorityRead _ _ _ => [.ctl, .devPriority, .devPanel, .header, .alert]
  | .reminderTimerExpiry _ _ => [.panel, .live, .alert]
  | .alertCauseWritten => [.ctl, .panel, .live, .devPanel, .header, .host, .alert]
  | .sheetStaging _ _ => segmentParts ++ [.feed, .meter, .sheet, .ctl]
  | .link => [.ctl]
  | .linkStepComplete _ =>
    segmentParts ++ [.feed, .meter, .sheet, .ctl, .devPriority, .host, .extents, .mover, .devPanel, .header]
  | .unlink => segmentParts ++ [.extents, .mover, .devPanel, .header, .ctl]
  | .unlinkComplete => [.host, .live, .header, .panel, .devPanel, .ctl, .sched, .caption, .alert]
  | .store _ => [.ctl, .store, .devPanel, .header, .alert]
  | .commitComplete => [.store, .devPanel, .header, .alert]
  | .deviceReset =>
    [.ctl, .feed, .meter, .caption, .sched, .pool, .integ, .proxy, .recorder, .extents, .mover, .panel, .devPanel,
     .devPriority, .alert, .sheet, .live, .header]
  | .badCommand _ => [.ctl]
  | .exchangeBaseWrite _ => [.ctl]
  | .alertLevelWrite _ => [.alert]
  | .registerWriteIgnored _ _ => []
  | .accessFailure _ => segmentParts ++ [.extents, .mover, .devPanel, .header, .ctl, .host]
  | .accessTimeout _ => segmentParts ++ [.extents, .mover, .devPanel, .header, .ctl, .host]
  | .powerOn =>
    [.powered, .ctl, .feed, .meter, .caption, .sched, .pool, .integ, .proxy, .recorder, .extents, .mover, .panel,
     .devPanel, .devPriority, .alert, .sheet, .store, .live, .header]
  | .powerLoss _ _ => [.powered, .store]
  | .descriptorReadComplete _ _ => moverParts ++ [.ctl]

/-- The service of a command of a feed lane, a proxy lane or a service's own timers and counters. -/
def laneOf : Instr → Option Svc
  | .frame n _ _ => some n
  | .audio n _ => some n
  | .caption n _ _ _ _ => some n
  | .cue n _ _ => some n
  | .loss n _ => some n
  | .restore n => some n
  | .discardedMessage n => some n
  | .lossTimerExpiry n => some n
  | .flywheelAdvance n => some n
  | .countLimit n _ => some n
  | .writeCountdownExpiry n => some n
  | .writeTimerExpiry n => some n
  | .liveBlockWriteCount n => some n
  | .livenessExpiry n => some n
  | .contentExpiry n => some n
  | .slotWriteComplete n _ => some n
  | .commandWordRead n _ _ => some n
  | .postingValidation n _ _ => some n
  | .arrival n _ => some n
  | .captureAckRead n _ => some n
  | .reminderTimerExpiry n _ => some n
  | .sheetStaging n _ => some n
  | .integrationStart => none
  | .integrationCompletion => none
  | .boardSweep => none
  | .moverTurn => none
  | .descriptorUpdateComplete _ => none
  | .unitWriteComplete => none
  | .ackRead _ _ => none
  | .devicePriorityRead _ _ _ => none
  | .alertCauseWritten => none
  | .link => none
  | .linkStepComplete _ => none
  | .unlink => none
  | .unlinkComplete => none
  | .store _ => none
  | .commitComplete => none
  | .deviceReset => none
  | .badCommand _ => none
  | .exchangeBaseWrite _ => none
  | .alertLevelWrite _ => none
  | .registerWriteIgnored _ _ => none
  | .accessFailure _ => none
  | .accessTimeout _ => none
  | .powerOn => none
  | .powerLoss _ _ => none
  | .descriptorReadComplete _ _ => none

/-- Every service but n is as before in everything that the state keeps per service. -/
def OthersSame (n : Svc) (s t : State) : Prop :=
  ∀ m : Svc, m ≠ n →
    t.feed[m] = s.feed[m] ∧ t.meter[m] = s.meter[m] ∧ t.caption[m] = s.caption[m] ∧ t.sched[m] = s.sched[m] ∧
    t.proxy[m] = s.proxy[m] ∧ t.recorder[m] = s.recorder[m] ∧ t.panel[m] = s.panel[m] ∧ t.sheet[m] = s.sheet[m] ∧
    t.live[m] = s.live[m]

/-- Every slot of service n but k is as before. -/
def OtherSlotsSame (n : Svc) (k : Slot) (s t : State) : Prop := ∀ j : Slot, j ≠ k → t.entry n j = s.entry n j

/-- Every condition of service n outside a list is as before. -/
def OtherCondsSame (n : Svc) (cs : List SvcCond) (s t : State) : Prop :=
  ∀ c, c ∉ cs → t.svcCond n c = s.svcCond n c

/-- The raise count of a service condition. -/
def State.raises (s : State) (n : Svc) (c : SvcCond) : BitVec 16 := (s.svcCond n c).raises

/-! ### Bytes of host memory -/

/-- An address lies among the bytes of a piece. -/
def Piece.covers (p : Piece) (a : Nat) : Prop := p.addr ≤ a ∧ a < p.addr + p.bytes.length

/-- The byte that the block has last written at an address of host memory, if any. -/
def State.byte (s : State) (a : Nat) : Option Byte := s.host.read a

/-- Host memory holds every byte of a piece. -/
def State.holds (s : State) (p : Piece) : Prop :=
  ∀ i (h : i < p.bytes.length), s.byte (p.addr + i) = some p.bytes[i]

/-- Every byte of host memory outside some pieces is as before. -/
def SameOutside (ps : List Piece) (s t : State) : Prop := ∀ a, (∀ p ∈ ps, ¬ p.covers a) → t.byte a = s.byte a

/-- The pieces of the writes in flight that no command of the table reports one by one, in the order in which an idle step
lets them land (assumption 5): those queued for the live blocks and those queued for the header before the cause of an alert in
progress, with the entry writes that the alert hands again; in LINKING those of the link step. -/
def State.silentPieces (s : State) : List Piece :=
  if s.carries then
    let s := s.handAlert
    (allServices.flatMap fun n => s.livePrefix n s.live[n].queue.length) ++
    (s.header.take s.headerFree).flatMap s.headerPieces
  else s.stepLeft.flatten

/-- The pieces of the writes that have landed when the cause of an alert is written (R168 step 2, R171, R196): those that stand
before it in the header's queue; and where the alert still waits for entries, their writes with those before them. -/
def State.alertLanding (s : State) (a : AlertRun) : List Piece :=
  let s := s.handAlert
  if a.waits.isEmpty then (s.header.take (s.header.idxOf .alert)).flatMap s.headerPieces
  else (allServices.flatMap fun n => s.livePrefix n (s.alertReach a n)) ++ s.header.flatMap s.headerPieces

/-- The pieces of the writes that a failure's command states complete before it, in the order in which the model lets them
land (assumption 21); none where it states the completion of no access in flight. -/
def State.completedPieces (s : State) (d : Completions) : List Piece :=
  let s := s.handAlert
  if s.anyCompleted d then
    if s.carries then
      (allServices.flatMap fun n => s.livePrefix n d.live[n]) ++
      (s.header.take (min d.header s.headerFree)).flatMap s.headerPieces
    else (s.stepLeft.take d.link).flatten
  else []

/-- Some pieces write the value v, modulo its width, into the w bytes at offset o of the record at address a. -/
def Puts (ps : List Piece) (a o w v : Nat) : Prop :=
  ∃ p ∈ ps, p.addr ≤ a + o ∧ a + o + w ≤ p.addr + p.bytes.length ∧ field p.bytes (a + o - p.addr) w = v % 256 ^ w

/-- Some pieces hold a record's fields: each of a list of offsets, widths and values. -/
def PutsAll (ps : List Piece) (a : Nat) (fields : List (Nat × Nat × Nat)) : Prop :=
  ∀ f ∈ fields, Puts ps a f.1 f.2.1 f.2.2

/-- What a field of a record holds for a level, a stamp or sequence number, and a 16-bit number, present or absent (R203). -/
def levelField (v : Option Int) : Nat := (v.getD (-32768) % 65536).toNat
def wideField (v : Option Nat) : Nat := v.getD 0xFFFFFFFFFFFFFFFF
def shortField (v : Option Nat) : Nat := v.getD 0xFFFF
/-- A mark or a flag in a byte of its own (R203). -/
def markField (b : Bool) : Nat := if b then 1 else 0

/-- A queued write of a live block is that of a condition entry. -/
def LiveItem.isCond : LiveItem → Bool
  | .entry _ _ _ => true
  | .fields _ => false
  | .mark _ => false
  | .count _ => false
  | .late _ _ => false

/-- A write that stands in a queue only while LINKED: a condition entry's, and the end of a periodic write. -/
def LiveItem.needsLink : LiveItem → Bool
  | .entry _ _ _ => true
  | .mark _ => true
  | .fields _ => false
  | .count _ => false
  | .late _ _ => false
def HeaderItem.needsLink : HeaderItem → Bool
  | .entry _ => true
  | .alert => true
  | .commit _ => false
  | .late _ _ => false
  | .cause _ => false

/-- A write that stands in a queue only while UNLINKING: one in flight at the entry to it. -/
def LiveItem.isLate : LiveItem → Bool
  | .late _ _ => true
  | .entry _ _ _ => false
  | .fields _ => false
  | .mark _ => false
  | .count _ => false
def HeaderItem.isLate : HeaderItem → Bool
  | .late _ _ => true
  | .cause _ => true
  | .entry _ => false
  | .alert => false
  | .commit _ => false

/-! ### Time and the boundaries that it fires (R8, R9, R10, R13, R7, R88, R89) -/

/-- The command c moves the time of service n to `now` and fires the boundaries whose stamps are `due`, with the flags f: a STEP
and a JUMP (R8 to R10, R13), a flywheel advance (R13), a time seed (R7, R89). -/
inductive TimeEvent (s : State) (n : Svc) : (c : Instr) → (due : Nat → Prop) → (now : Nat) → (f : Firing) → Prop where
  | step (stamp : Stamp) (rate : BitVec 16) (locked : s.feed[n].lock ≠ .seeking)
      (next : stamp.toNat = s.feed[n].time + 1) :
      TimeEvent s n (.frame n stamp rate) (fun u => u = stamp.toNat) stamp.toNat ⟨false, false, false⟩
  | jump (stamp : Stamp) (rate : BitVec 16) (locked : s.feed[n].lock ≠ .seeking)
      (beyond : s.feed[n].time + 1 < stamp.toNat) :
      TimeEvent s n (.frame n stamp rate) (fun u => s.feed[n].time < u ∧ u ≤ stamp.toNat) stamp.toNat ⟨true, false, false⟩
  | flywheel (running : s.feed[n].frameTimer.isSome = true) (room : s.feed[n].time < 2 ^ 48 - 1) :
      TimeEvent s n (.flywheelAdvance n) (fun u => u = s.feed[n].time + 1) (s.feed[n].time + 1) ⟨false, false, true⟩
  | seed (stamp : Stamp) (rate : BitVec 16) (seeking : s.feed[n].lock = .seeking)
      (enabled : (s.sheetOf n).enable = true) :
      TimeEvent s n (.frame n stamp rate) (fun u => u ≤ stamp.toNat) stamp.toNat ⟨true, false, false⟩

/-- Boundary x is taken before y in one event (R88): by stamp, closes before ARMs and ARMs before opens, by slot. -/
def Boundary.precedes (x y : Boundary) : Prop :=
  x.stamp < y.stamp ∨ x.stamp = y.stamp ∧ (x.kind.rank < y.kind.rank ∨ x.kind.rank = y.kind.rank ∧ x.slot < y.slot)

/-! ### The Mover between turns (R153) -/

/-- A turn or re-test has ended, with the Mover at m: the first service of the re-test list that is STALLED and has a chain is
walked next; without one the Mover is free. -/
def TurnEnded (m : Mover) (t : State) : Prop :=
  ((∀ n ∈ m.retests, t.recorder[n].state ≠ .stalled ∨ (t.sheetOf n).chain = []) →
    t.mover = { m with work := .idle, retests := [] }) ∧
  ∀ (as : List Svc) (n : Svc) (ms : List Svc) (x : ExtId) (xs : List ExtId),
    m.retests = as ++ n :: ms → (∀ a ∈ as, t.recorder[a].state ≠ .stalled ∨ (t.sheetOf a).chain = []) →
    t.recorder[n].state = .stalled → walkOrder (t.sheetOf n).chain t.recorder[n].cursor = x :: xs →
    t.mover = { m with work := .walk n true (t.sheetOf n).overwrite x xs, retests := ms } ∧
    t.recorder[n].walkChain = (t.sheetOf n).chain ∧ t.recorder[n].walkOverwrite = (t.sheetOf n).overwrite

/-! ### Orders that the manual fixes by number -/

/-- The place of a service in the order in which a turn is offered: round-robin from above the turn pointer (R140). -/
def turnRank (p : Option Svc) (n : Svc) : Nat := (p.map fun q => (n.val + 15 - q.val) % 16).getD n.val

/-- The place of a condition in the order that decides an alert's cause: the device panel, then the services, each panel by
index (R168). -/
def causeRank : CondRef → Nat
  | .device c => (devIndex c).val
  | .service n c => 3 + 16 * n.val + (svcIndex c).val

/-! ### Evaluations (R167, R168 step 1) -/

/-- The alert in progress is the one that an evaluation of the panels begins as they stand: none where no condition is pending
above ALERT_LEVEL, else one at the highest pending priority, which covers every condition pending at it with its raise count,
names the first of them as its cause and waits for the entries whose writes are owed. -/
def State.Evaluated (t : State) : Prop :=
  ((∀ r, t.isPending r = true → t.priority r ≤ t.alert.level.toNat) → t.alert.progress = none) ∧
  ∀ r, t.isPending r = true → t.alert.level.toNat < t.priority r →
    (∀ q, t.isPending q = true → t.priority q < t.priority r ∨ t.priority q = t.priority r ∧ causeRank r ≤ causeRank q) →
    ∃ a, t.alert.progress = some a ∧ a.level = t.priority r ∧ a.cause = r ∧
      (∀ q noted,
        (q, noted) ∈ a.covered ↔ t.isPending q = true ∧ t.priority q = t.priority r ∧ noted = (t.cond q).raises) ∧
      ∀ q, q ∈ a.waits ↔ t.entryOwes q = true

/-- An event that ends at t with an evaluation: outside LINKED, and while an alert is in progress, nothing begins. -/
def Evaluates (s t : State) : Prop :=
  (t.isLinked = false ∨ s.alert.progress.isSome = true → t.alert.progress = s.alert.progress) ∧
  (t.isLinked = true → s.alert.progress = none → t.Evaluated)

/-- From s to t the Alert Unit changes only in that an alert in progress no longer waits for the entries whose writes are owed no
more (R168 step 2). -/
def AlertTrimmed (s t : State) : Prop :=
  t.alert =
    { s.alert with progress := s.alert.progress.map fun a => { a with waits := a.waits.filter t.entryOwes } }

/-! ### Resets -/

/-- R190 and the reset tables of R17, R40, R59, R75, R102, R135, R158, R174 and R204: in t every block stands at its reset
values, from the sheets that the store of s loads; the raises of the reset stand in the panels. -/
def BlocksAtReset (s t : State) : Prop :=
  t.sheet = s.store.load ∧ t.integ = ⟨[], none⟩ ∧ t.mover = Mover.reset ∧ t.devPriority = #v[4, 4, 4] ∧
  t.alert = Alert.reset s.alert.sent ∧ t.header = [] ∧ (∀ c : CtxId, t.pool[c] = Context.free) ∧
  (∀ x : ExtId, t.extents[x] = Extent.blank) ∧
  (∀ n : Svc,
    t.feed[n] = Feed.reset ∧ t.meter[n] = Meter.reset ∧ t.caption[n] = Caption.reset (t.sheetOf n) ∧
    t.sched[n] = Sched.reset ∧ t.proxy[n] = Proxy.reset ∧ t.recorder[n] = Recorder.reset ∧
    t.live[n] = LiveWrite.reset ∧
    t.svcCond n .captionLoss = (if t.caption[n].required then CondEntry.raisedAtReset else CondEntry.reset) ∧
    t.svcCond n .sheetFault =
      { CondEntry.reset with raises := if t.sheet[n].cause = some .quotaSum then 1 else 0 } ∧
    ∀ c : SvcCond, c ≠ .captionLoss → c ≠ .sheetFault → t.svcCond n c = CondEntry.reset) ∧
  t.cond (.device .linkFault) = CondEntry.reset ∧ t.cond (.device .storeComplete) = CondEntry.reset ∧
  t.cond (.device .storeFault) =
    { CondEntry.reset with
      raises := BitVec.ofNat 16 (allServices.filter fun n => !s.store.stored[n].good).length }

/-! ### Invariants -/

/-- The list of written bytes is in its canonical form. -/
def HostOrdered (s : State) : Prop := s.host.wf = true

/-- R11, R13, R15, R18: the loss timer runs exactly in LOCKED and HELD, the frame timer and the live field of FEED_LOSS
stand exactly in FLYWHEEL, and service time is at most 2^48 - 1. -/
def FeedSound (s : State) : Prop :=
  ∀ n : Svc,
    (s.feed[n].lossTimer.isSome = true ↔ s.feed[n].lock = .locked ∨ s.feed[n].lock = .held) ∧
    (s.feed[n].frameTimer.isSome = true ↔ s.feed[n].lock = .flywheel) ∧
    ((s.svcCond n .feedLoss).live = true ↔ s.feed[n].lock = .flywheel) ∧
    s.feed[n].time ≤ Config.timeMax

/-- R62 to R66, R69: in LOST both counters stand at 0 and there is no last accepted sequence, the content counter runs only
in LIVE, and CAPTION_LOSS and CAPTION_IDLE are live exactly while captions are required and the state is LOST or IDLE. -/
def CaptionSound (s : State) : Prop :=
  ∀ n : Svc,
    (s.caption[n].state = .lost →
      s.caption[n].liveness = 0 ∧ s.caption[n].content = 0 ∧ s.caption[n].lastSeq = none) ∧
    (s.caption[n].content ≠ 0 → s.caption[n].state = .live) ∧
    ((s.svcCond n .captionLoss).live = true ↔ s.caption[n].required = true ∧ s.caption[n].state = .lost) ∧
    ((s.svcCond n .captionIdle).live = true ↔ s.caption[n].required = true ∧ s.caption[n].state = .idle)

/-- R70: covered frames never exceed counted frames, and idle frames never exceed covered frames. -/
def TallySound (s : State) : Prop :=
  ∀ (n : Svc) (k : Slot),
    (s.entry n k).tally.idle ≤ (s.entry n k).tally.covered ∧ (s.entry n k).tally.covered ≤ (s.entry n k).tally.counted

/-- R45, R49, R58: in every context, and in the result being integrated, the binned and the silent values make up the
momentary count, which stays within the count limit; the listed bins hold a count each and stand in rising order below 750. -/
def CountsSound (s : State) : Prop :=
  (∀ c : CtxId,
    binCounts s.pool[c].histogram + s.pool[c].silent = s.pool[c].momentary ∧
    s.pool[c].momentary ≤ Config.countLimit ∧
    (s.pool[c].histogram.map Bin.index).Pairwise (· < ·) ∧
    ∀ b ∈ s.pool[c].histogram, 1 ≤ b.count ∧ b.index < 750) ∧
  ∀ c r, s.integ.busy = some (c, r) → r.n1 + r.silent = r.momentary

/-- R41, R42, R53, R54: the queue holds exactly the CLOSING contexts, each once, the context being integrated is the one
that stands INTEGRATING, and the context of an OPEN docket is its own, ACCUMULATING or PAUSED. -/
def QueueSound (s : State) : Prop :=
  s.integ.queue.Nodup ∧
  (∀ c : CtxId, c ∈ s.integ.queue ↔ s.pool[c].state = .closing) ∧
  (∀ c : CtxId, s.pool[c].state = .integrating ↔ s.integ.busy.map Prod.fst = some c) ∧
  ∀ (n : Svc) (k : Slot) (x : CtxId), (s.entry n k).state = .opened → (s.entry n k).context = some x →
    (s.pool[x].state = .accumulating ∨ s.pool[x].state = .paused) ∧ s.pool[x].owner = some ⟨n, k, (s.entry n k).posting⟩

/-- R126, R127, R131: the counts of every service balance, its queue stands in ascending order of sequence number below
the counter, and the queues together fit the spool. -/
def SpoolSound (s : State) : Prop :=
  (∀ n : Svc,
    s.proxy[n].seq = s.proxy[n].queue.length + s.proxy[n].archived + s.proxy[n].dropped ∧
    (s.proxy[n].queue.map fun u => u.header.seq).Pairwise (· < ·) ∧
    ∀ u ∈ s.proxy[n].queue, u.header.seq < s.proxy[n].seq) ∧
  (allServices.map fun n => s.proxy[n].queue.length).sum ≤ Config.spoolSlots

/-- R128, R178, R185, R190: the adopted quotas of all services sum to at most the spool. -/
def QuotaSound (s : State) : Prop := s.quotaSum ≤ Config.spoolSlots

/-- R77, R78, R81, R113: the open slot of a layer stands OPEN with a body of that layer, and there is one while a docket of the
layer is OPEN; a posting is under validation only in IDLE; a slot's writes are dropped only while UNLINKING; every pin belongs
to a slot standing CLOSED under the pin's posting, with its unit range, and no slot has two. -/
def DocketsSound (s : State) : Prop :=
  ∀ n : Svc,
    (∀ (l : Layer) (k : Slot), s.sched[n].openSlot l = some k →
      (s.entry n k).state = .opened ∧ (s.entry n k).body.map (fun b => b.cls.layer) = some l) ∧
    (s.sched[n].pins.map Pin.slot).Nodup ∧
    (∀ p ∈ s.sched[n].pins,
      (s.entry n p.slot).state = .closed ∧ (s.entry n p.slot).posting = p.posting ∧
      (s.entry n p.slot).units.first = some p.first ∧ (s.entry n p.slot).units.last = some p.last) ∧
    (∀ k : Slot, (s.entry n k).state = .opened →
      ∃ b, (s.entry n k).body = some b ∧ (s.sched[n].openSlot b.cls.layer).isSome = true) ∧
    (∀ k : Slot, (s.entry n k).validating.isSome = true → (s.entry n k).state = .idle) ∧
    ∀ k : Slot, (s.entry n k).dropped = true → s.ctl.link = .unlinking ∧ (s.entry n k).writes = []

/-- The extent that the Mover's work is about, as the recorder of its service holds it. -/
def MoverWork.sound (s : State) : MoverWork → Prop
  | .idle => True
  | .owedUpdate _ _ => True
  | .boundaryRead n x _ => s.recorder[n].current = some x
  | .walk n _ _ _ _ => s.recorder[n].current = none
  | .openUpdate n x _ => s.recorder[n].current = some x
  | .lastBlock n x _ _ _ _ => s.recorder[n].current = some x
  | .unitWrite n => s.recorder[n].current.isSome = true
  | .boundaryUpdate n x => s.recorder[n].current = some x
  | .closeUpdate n _ => s.recorder[n].current = none

/-- R138, R141: an extent is FILLING exactly while it is the current extent of its owner, so for no more than one service,
and a recorder is RECORDING exactly while it has a current extent. -/
def FillSound (s : State) : Prop :=
  (∀ (n : Svc) (x : ExtId),
    s.recorder[n].current = some x ↔ s.extents[x].state = .filling ∧ s.extents[x].owner = some n) ∧
  (∀ x : ExtId, s.extents[x].state = .filling → s.extents[x].owner.isSome = true) ∧
  (∀ n : Svc, s.recorder[n].state = .recording ↔ s.recorder[n].current.isSome = true) ∧
  s.mover.work.sound s

/-- R165, R167, R171, R173, R196, R198: an alert is in progress, a reminder timer runs and an entry write is owed or queued
only while the part is LINKED; an entry is owed only while no write of it is queued; a write is queued only while the
controller carries writes, one left over from before an unlink only while UNLINKING; the cause of an alert stands in the
header's queue one time and only while an alert is in progress that waits for no entry; and the two failure counts stay within
8 and 65,535. -/
def AttentionSound (s : State) : Prop :=
  s.ctl.consecutive ≤ 8 ∧ s.ctl.total ≤ 65535 ∧
  (s.alert.progress.isSome = true → s.isLinked = true) ∧
  (∀ r, ((s.cond r).timer.isSome = true → s.isLinked = true) ∧
    ((s.cond r).owed = true → s.isLinked = true ∧ s.entryQueued r = false)) ∧
  (∀ n : Svc, ∀ i ∈ s.live[n].queue, s.carries = true ∧
    (i.needsLink = true → s.isLinked = true) ∧ (i.isLate = true → s.isLinked = false)) ∧
  (HeaderItem.alert ∈ s.header →
    s.header.count .alert = 1 ∧ (s.alert.progress.map fun a => a.waits) = some []) ∧
  ∀ i ∈ s.header, s.carries = true ∧
    (i.needsLink = true → s.isLinked = true) ∧ (i.isLate = true → s.isLinked = false)

/-! ### Runs of the meter (R28, R31, R34, R35, R48) -/

/-- A Loudness Meter whose run has been broken: the rolling accumulator starts afresh, the current levels are absent, the silence
count is 0 unless AUDIO_SILENCE is live, and the clip runs and their marks are cleared. -/
def State.brokenMeter (s : State) (n : Svc) : Meter :=
  { s.meter[n] with
    rolling := Accumulator.fresh, curMomentary := none, curShort := none
    silence := if (s.svcCond n .audioSilence).live then s.meter[n].silence else 0
    clips := List.replicate 8 ⟨0, false⟩ }

/-- The run of every ACCUMULATING context of a service has been broken: its accumulator is fresh, and everything else that it
keeps is as it was, but for its state and figures, which a pause, a resume or a close may set at the same event. -/
def ContextRunsBroken (n : Svc) (s t : State) : Prop :=
  ∀ c : CtxId, s.pool[c].ownedBy n = true → s.pool[c].state = .accumulating →
    ∃ (st : CtxState) (fig : Option CloseFigures),
      t.pool[c] = { s.pool[c] with state := st, acc := Accumulator.fresh, figures := fig }

/-! ### The requirement in force (R68, R69) -/

/-- The requirement in force of a service and its source are those of its open inner segment, else of its open outer one, else
of its adopted sheet; NOT_REQUIRED and UNSCHEDULED while it is disabled. -/
def InForce (n : Svc) (t : State) : Prop :=
  ((t.sheetOf n).enable = false → t.caption[n].required = false ∧ t.caption[n].source = .unscheduled) ∧
  ((t.sheetOf n).enable = true →
    (∀ k, t.sched[n].openInner = some k →
      t.caption[n].required = ((t.entry n k).snapshot.map Snapshot.required).getD false ∧ t.caption[n].source = .inner) ∧
    (∀ k, t.sched[n].openInner = none → t.sched[n].openOuter = some k →
      t.caption[n].required = ((t.entry n k).snapshot.map Snapshot.required).getD false ∧ t.caption[n].source = .outer) ∧
    (t.sched[n].openInner = none → t.sched[n].openOuter = none →
      t.caption[n].required = (t.sheetOf n).unscheduled ∧ t.caption[n].source = .unscheduled))

/-- From s to t CAPTION_LOSS and CAPTION_IDLE have come to be live exactly as the caption state and the requirement in force make
them, each raised once where it was not live before and is now. -/
def CaptionCondsFollow (n : Svc) (s t : State) : Prop :=
  let goes := fun c : SvcCond => (t.svcCond n c).live = true ∧ (s.svcCond n c).live = false
  ((t.svcCond n .captionLoss).live = true ↔ t.caption[n].required = true ∧ t.caption[n].state = .lost) ∧
  ((t.svcCond n .captionIdle).live = true ↔ t.caption[n].required = true ∧ t.caption[n].state = .idle) ∧
  ∀ c ∈ [SvcCond.captionLoss, .captionIdle], t.raises n c = s.raises n c + if goes c then 1 else 0

/-! ### The end of a segment (R53, R150) -/

/-- From s to t the segment of slot k ends with body b under sheet sh: its context is CLOSING with the figures of the close and
stands among those that have joined the integration queue, and with a unit range its END mark is requested, or counted lost
when 64 requests wait. -/
def SegmentEnds (n : Svc) (k : Slot) (b : Body) (sh : Sheet) (s t : State) : Prop :=
  (∀ x : CtxId, (s.entry n k).context = some x → s.pool[x].state = .accumulating ∨ s.pool[x].state = .paused →
    t.pool[x].state = .closing ∧ x ∈ t.integ.queue.drop s.integ.queue.length ∧
    t.integ.queue.take s.integ.queue.length = s.integ.queue ∧ t.pool[x].figures = some (sh.closeFigures b.cls) ∧
    t.pool[x].histogram = s.pool[x].histogram ∧ t.pool[x].momentary = s.pool[x].momentary) ∧
  ∀ last, (s.entry n k).units.last = some last →
    ⟨last + 1, .finish, b.segId, k⟩ ∈ t.recorder[n].marks ∨
    64 ≤ t.recorder[n].marks.length ∧
      (s.recorder[n].lostMarks < t.recorder[n].lostMarks ∨ 4294967295 ≤ s.recorder[n].lostMarks)

/-! ### Slot writes (R77, R96) -/

/-- From s to t some writes have been handed for slot k of service n, in their order behind those that stood, the first of them in
flight where none stood; none while the controller carries no writes, and none of a slot whose writes a second failure has dropped
(assumption 9). -/
def SlotHands (n : Svc) (k : Slot) (ws : List SlotContent) (s t : State) : Prop :=
  let sent := if s.carries = true ∧ (s.entry n k).dropped = false then ws else []
  (t.entry n k).writes.map SlotWrite.content = (s.entry n k).writes.map SlotWrite.content ++ sent ∧
  (t.entry n k).handed = ((s.entry n k).handed || (s.entry n k).writes.isEmpty && !sent.isEmpty)

/-- R105, R106: the verdict of a docket that has closed without a context, from the counts, stamps and flags that it holds then. -/
def noMeterVerdict (n : Svc) (k : Slot) (t : State) : Option Verdict :=
  match (t.entry n k).context, (t.entry n k).body, (t.entry n k).snapshot with
  | none, some b, some sn => some ((t.entry n k).assemble b sn noMeterResult)
  | _, _, _ => none

/-- R96 step 6, R106, R111: what the close of a docket hands: the standing CLOSING, or without a context its NO_METER verdict and
then the standing CLOSED. -/
def closeWrites (n : Svc) (k : Slot) (t : State) : List SlotContent :=
  if (t.entry n k).context.isSome then [.standing .closing (t.entry n k).posting]
  else
    match noMeterVerdict n k t with
    | some v => [.verdict v, .standing .closed (t.entry n k).posting]
    | none => []

/-- R111, R113: the pin that the close of a docket without a context installs: its verdict is failing and has a unit range. -/
def closePins (n : Svc) (k : Slot) (t : State) : List Pin :=
  match noMeterVerdict n k t, (t.entry n k).units.first, (t.entry n k).units.last with
  | some v, some first, some last => if v.failing then [⟨k, (t.entry n k).posting, first, last⟩] else []
  | _, _, _ => []

/-- R110, R111: whether the close of a docket without a context raises CAPTION_FAIL. -/
def closeShort (n : Svc) (k : Slot) (t : State) : Bool :=
  ((noMeterVerdict n k t).map fun v => decide (v.captions.verdict = .short)).getD false

/-! ### Adoption by group (R20, R68, R74, R99, R166, R180 to R182) -/

/-- A service whose sheet `old` gives way to `new` has every group that differs handed to its blocks: enable switched off, the mix
group, the caption stream, the frame rate, the requirement in force and the reminder interval; the blocks whose groups are
equal are as they were. -/
def GroupsHanded (n : Svc) (old new : Sheet) (s t : State) : Prop :=
  let off := old.enable = true ∧ new.enable = false
  let mixed := old.mix ≠ new.mix ∨ old.calibration ≠ new.calibration
  let stream := old.page ≠ new.page ∨ old.lang ≠ new.lang
  let broken := s.brokenMeter n
  (off →
    t.feed[n].lock = .seeking ∧ t.feed[n].lossTimer = none ∧ t.feed[n].frameTimer = none ∧
    (s.feed[n].lock = .flywheel → (t.svcCond n .feedLoss).live = false) ∧
    (DocketsSound s → t.sched[n].openOuter = none ∧ t.sched[n].openInner = none) ∧
    ∀ k : Slot, (s.entry n k).state = .opened → (s.entry n k).body.isSome = true →
      ((t.entry n k).state = .closing ∨ (t.entry n k).state = .closed) ∧
      (t.entry n k).flags.earlyClose = true ∧ (t.entry n k).closeStamp = some s.feed[n].time ∧
      SlotHands n k (closeWrites n k t) s t ∧
      (QueueSound s → ∀ b, (s.entry n k).body = some b → SegmentEnds n k b new s t)) ∧
  (¬off →
    t.feed[n].lock = s.feed[n].lock ∧ t.feed[n].lossTimer = s.feed[n].lossTimer ∧
    t.feed[n].frameTimer = s.feed[n].frameTimer ∧ (t.svcCond n .feedLoss).live = (s.svcCond n .feedLoss).live ∧
    t.sched[n].openOuter = s.sched[n].openOuter ∧ t.sched[n].openInner = s.sched[n].openInner ∧
    ∀ k : Slot, (t.entry n k).state = (s.entry n k).state ∧ (t.entry n k).tally = (s.entry n k).tally) ∧
  t.feed[n].time = s.feed[n].time ∧ t.feed[n].mismatch = (s.feed[n].mismatch && decide (old.rate = new.rate)) ∧
  t.meter[n] =
    (if mixed then { broken with filters := List.replicate 8 Filter.zero, peaks := zeros8 }
      else if off ∧ s.feed[n].lock = .flywheel then broken else s.meter[n]) ∧
  (mixed ∨ off ∧ s.feed[n].lock = .flywheel → ContextRunsBroken n s t) ∧
  (∀ k : Slot, (t.entry n k).state = .opened →
    ((t.entry n k).flags.mixChanged = true ↔ (s.entry n k).flags.mixChanged = true ∨ mixed)) ∧
  t.caption[n] =
    { s.caption[n] with
      state := if off ∨ stream then .lost else s.caption[n].state
      liveness := if off ∨ stream then 0 else s.caption[n].liveness
      content := if off ∨ stream then 0 else s.caption[n].content
      lastSeq := if off ∨ stream then none else s.caption[n].lastSeq
      required := t.caption[n].required, source := t.caption[n].source } ∧
  InForce n t ∧ CaptionCondsFollow n s t ∧
  ∀ c : SvcCond,
    (new.reminder = 0 → old.reminder ≠ 0 → (t.svcCond n c).timer = none ∧ (t.svcCond n c).mark = false) ∧
    (new.reminder ≠ 0 ∨ old.reminder = 0 →
      (t.svcCond n c).timer = (s.svcCond n c).timer ∧ (t.svcCond n c).mark = (s.svcCond n c).mark)

end Sys2Proof.Machine
end

