-- ==== Sys2Proof/Certificates/Slice0/Obligations.lean ====
section
/-! DEFINITION. The statements for the provers, family by family. `s` is the state before a command and `t` the state after
it; a service's other parts, other services and host memory are spoken of with the words of Safety.lean. -/

open Sys2Proof Sys2Proof.Machine

/-! ### Steps, frames and resets -/

/-- A step takes the command at the front of the queue and answers what `exec` answers for it on the queue's rest. -/
def Obligations.StepRunsFront : Prop :=
  ∀ (c : Instr) (s : State), step { s with pending := c :: s.pending } = exec c s

/-- The model's choice (assumptions 5, 12 and 20): on an empty queue the writes in flight that no command of the table
reports one by one reach host memory, each record's in the order in which they were handed (R196): while LINKED or
UNLINKING those queued for the live blocks and for the header, while LINKED those before the cause of an alert in progress
(assumption 7), in LINKING those of the link step; the alert then waits for no entry written, and its cause joins the
header's queue once it waits for none; the ends of periodic writes stay queued for LIVE_BLOCK_WRITE_COUNT, and a completed
write ends a row of failures. Nothing else happens; a part without power ignores every command but POWER_ON. -/
def Obligations.IdleStep : Prop :=
  (∀ s : State, s.pending = [] →
    ∃ t, step s = .next t ∧ Touches [.host, .live, .header, .panel, .devPanel, .alert, .ctl] s t ∧
      (s.powered = false ∨ s.ctl.link = .unlinked → t = s) ∧
      (s.powered = true → t.host = s.host.writePieces s.silentPieces ∧ SameOutside s.silentPieces s t) ∧
      (s.powered = true → s.carries = true → s.handAlert.silentWrites = false → t = s.handAlert) ∧
      (s.powered = true → s.carries = true → s.handAlert.silentWrites = true →
        (∀ n : Svc, t.live[n] = { s.live[n] with queue := s.handAlert.live[n].queue.filter LiveItem.isMark }) ∧
        (s.isLinked = false → t.header = []) ∧
        (s.isLinked = true → .alert ∈ s.handAlert.header →
          t.header = s.handAlert.header.drop (s.handAlert.header.idxOf .alert)) ∧
        (s.isLinked = true → .alert ∉ s.handAlert.header →
          t.header = if (t.alert.progress.map AlertRun.waits) = some [] then [.alert] else []) ∧
        (∀ r, t.cond r = s.handAlert.cond r) ∧ AlertTrimmed s t ∧ t.ctl = { s.ctl with consecutive := 0 }) ∧
      (s.powered = true → s.ctl.link = .linking →
        t.live = s.live ∧ t.header = s.header ∧ t.panel = s.panel ∧ t.devPanel = s.devPanel ∧ t.alert = s.alert ∧
        t.ctl =
          if s.stepLeft = [] then s.ctl
          else { s.ctl with stepDone := s.ctl.stepDone + s.stepLeft.length, consecutive := 0 })) ∧
  ∀ (s : State) (c : Instr), s.powered = false → c ≠ .powerOn → exec c s = .next s

/-- Whatever a command answers as its next state differs from the state before only in the parts that `commandParts` names
for it; every other part of the state, host memory among them, is unchanged. -/
def Obligations.EveryCommandFrame : Prop :=
  ∀ (c : Instr) (s t : State), exec c s = .next t → Touches (commandParts c) s t

/-- A command of one service's lanes, timers, board or sheet leaves every other service as it was in its feed, meter,
caption watch, dockets, spool queue, recorder, panel, sheet and live block (R1, R118: no relation between lanes). -/
def Obligations.ServicesApart : Prop :=
  ∀ (c : Instr) (n : Svc) (s t : State), laneOf c = some n → exec c s = .next t → OthersSame n s t

/-- The machine after reset stands as the reset tables of R17, R40, R59, R75, R102, R135, R158, R174, R187, R190, R201 and
R204 give, value by value, with the factory sheet of R191 adopted by every service; CAPTION_LOSS, which that sheet
requires, is live and raised once without a stamp (R69, R162). The docket list held as 24 IDLE entries of posting 0
(assumption 8), no byte of host memory written (assumption 2) and the empty list of messages sent (assumption 14) are the
model's. -/
def Obligations.ResetValues : Prop :=
  State.reset.ctl.link = .unlinked ∧ State.reset.ctl.base = 0 ∧ State.reset.ctl.cmd = 0 ∧
  State.reset.ctl.result = .accepted ∧ State.reset.ctl.faultMark = false ∧
  State.reset.ctl.consecutive = 0 ∧ State.reset.ctl.total = 0 ∧
  State.reset.alert =
    { level := 0, number := 0, causeLevel := 0, causePanel := 0, causeIndex := 0, progress := none, abandoned := false,
      sent := [] } ∧
  State.reset.freeCount = 36 ∧ State.reset.integ = { queue := [], busy := none } ∧ State.reset.spoolFree = 1048576 ∧
  State.reset.store.commits = 0 ∧ State.reset.store.commit = none ∧ State.reset.quotaSum = 1048576 ∧
  State.reset.mover.pointer = none ∧ State.reset.mover.work = .idle ∧ State.reset.mover.updates = [] ∧
  State.reset.mover.retests = [] ∧ State.reset.devPriority = #v[4, 4, 4] ∧ State.reset.header = [] ∧
  State.reset.host = [] ∧
  (∀ n : Svc,
    State.reset.feed[n] =
      { lock := .seeking, time := 0, lossTimer := none, frameTimer := none, lineDown := false, lastRate := none
        mismatch := false, lastSeq := none, received := 0, advances := 0, discarded := 0 } ∧
    State.reset.meter[n] =
      { filters := List.replicate 8 { x1 := 0, x2 := 0, y1 := 0, y2 := 0, z1 := 0, z2 := 0 }
        rolling := { phase := 0, sums := List.replicate 8 0, window := [], run := 0 }, curMomentary := none
        curShort := none, lastMomentary := none, peaks := List.replicate 8 0, countdown := 10, writeTimer := true
        silence := 0, clips := List.replicate 8 { run := 0, raised := false } } ∧
    State.reset.caption[n] =
      { state := .lost, liveness := 0, content := 0, lastSeq := none, required := true, source := .unscheduled
        accepted := 0, mismatches := 0, discontinuities := 0 } ∧
    State.reset.sched[n].openOuter = none ∧ State.reset.sched[n].openInner = none ∧
    State.reset.sched[n].pins = [] ∧ State.reset.sched[n].unmatched = 0 ∧
    (∀ k : Slot, (State.reset.entry n k).state = .idle ∧ (State.reset.entry n k).posting = 0 ∧
      (State.reset.entry n k).body = none ∧ (State.reset.entry n k).writes = [] ∧
      (State.reset.entry n k).dropped = false) ∧
    State.reset.proxy[n] =
      { seq := 0, queue := [], archived := 0, dropped := 0, spoolFull := 0, truncated := 0, discardedChunks := 0
        overflow := false } ∧
    State.reset.recorder[n].state = .ready ∧ State.reset.recorder[n].current = none ∧
    State.reset.recorder[n].cursor = none ∧ State.reset.recorder[n].boundary = false ∧
    State.reset.recorder[n].owed = none ∧ State.reset.recorder[n].marks = [] ∧
    State.reset.recorder[n].lostMarks = 0 ∧ State.reset.recorder[n].stalls = 0 ∧ State.reset.recorder[n].opened = 0 ∧
    State.reset.recorder[n].capture = none ∧ State.reset.recorder[n].captureNo = 0 ∧
    State.reset.recorder[n].acked = true ∧ State.reset.recorder[n].since = 0 ∧
    State.reset.live[n] = { count := 0, queue := [] } ∧
    State.reset.sheet[n] =
      { adopted := State.reset.sheetOf n, source := .stored, lastTaken := none, refused := none, cause := none
        clamped := false } ∧
    State.reset.sheetOf n =
      { revision := 0, enable := true, rate := 25, mix := [⟨0, 256⟩, ⟨1, 256⟩], calibration := -69, gate := 1000
        silenceThreshold := -6000, silenceHold := 100, clipRun := 3, programme := ⟨-2300, 100, none, true, 980, 30⟩
        continuity := ⟨-2300, 100, none, false, 980, 30⟩, commercial := ⟨-2300, 100, some (-1800), false, 980, 30⟩
        promotion := ⟨-2300, 100, some (-1800), false, 980, 30⟩, lateAllowance := 50, page := 1
        lang := ⟨0x75, 0x6E, 0x64⟩, livenessWindow := 50, contentWindow := 750, unscheduled := true, overwrite := false
        chain := [], quota := 65536, priorities := Vector.replicate 16 4, reminder := 0 } ∧
    State.reset.store.stored[n] = ⟨State.reset.sheetOf n, true⟩ ∧
    State.reset.svcCond n .captionLoss =
      { live := true, raises := 1, announced := 0, acked := 0, mark := false, first := none, last := none, timer := none
        owed := false } ∧
    ∀ c : SvcCond, c ≠ .captionLoss →
      State.reset.svcCond n c =
        { live := false, raises := 0, announced := 0, acked := 0, mark := false, first := none, last := none
          timer := none, owed := false }) ∧
  (∀ c : DevCond,
    State.reset.cond (.device c) =
      { live := false, raises := 0, announced := 0, acked := 0, mark := false, first := none, last := none, timer := none
        owed := false }) ∧
  (∀ c : CtxId, State.reset.pool[c].state = .free) ∧
  ∀ x : ExtId,
    State.reset.extents[x].state = .blank ∧ State.reset.extents[x].generation = 0 ∧
    State.reset.extents[x].owner = none ∧ State.reset.extents[x].first = none ∧ State.reset.extents[x].last = none ∧
    State.reset.extents[x].firstStamp = none ∧ State.reset.extents[x].lastStamp = none ∧
    State.reset.extents[x].cause = none ∧ State.reset.extents[x].marks = []

/-- POWER_ON in every state, and DEVICE_RESET while the store is READY, load the sheets and set every block to its reset
values; CAPTION_LOSS is live and raised once where the loaded sheet requires captions, SHEET_FAULT is raised where the
load cut a quota, STORE_FAULT once for each bad stored sheet. DEVICE_RESET keeps EXCHANGE_BASE and writes nothing (R190,
R200, R201); while the store is COMMITTING it is refused BUSY without any other effect. POWER_ON in a part that has power,
what the two keep of the mask of the last STORE, of the messages sent and of the waiting commands, and what a FREE context
holds, are the model's choices (assumptions 12, 14, 15 and 29). -/
def Obligations.Resets : Prop :=
  (∀ s : State, ∃ t, exec .powerOn s = .next t ∧ BlocksAtReset s t ∧ t.powered = true ∧ t.ctl = Ctl.reset ∧
    t.store.stored = s.store.stored ∧ t.store.commits = s.store.commits ∧ t.store.commit = none ∧ t.host = s.host ∧
    t.pending = s.pending) ∧
  (∀ s : State, s.powered = true → s.store.commit = none →
    ∃ t, exec .deviceReset s = .next t ∧ BlocksAtReset s t ∧ t.powered = true ∧ t.ctl.base = s.ctl.base ∧
      t.ctl.link = .unlinked ∧ t.ctl.cmd = 4 ∧ t.ctl.result = .accepted ∧ t.ctl.faultMark = false ∧
      t.ctl.consecutive = 0 ∧ t.ctl.total = 0 ∧ t.store = s.store ∧ t.host = s.host ∧ t.pending = s.pending) ∧
  ∀ s : State, s.powered = true → s.store.commit.isSome = true →
    exec .deviceReset s = .next { s with ctl := { s.ctl with cmd := 4, result := .busy } }

/-- The load of the store (R190), service by service: a bad stored sheet is replaced by the factory sheet; a quota is cut
to what the services before it leave of the spool. -/
def Obligations.StoreLoad : Prop :=
  ∀ (st : Store) (n : Svc),
    let sh := if st.stored[n].good then st.stored[n].sheet else factorySheet
    let before := ((allServices.filter (· < n)).map fun m => st.load[m].adopted.quota).sum
    st.load[n].lastTaken = none ∧
    (before + sh.quota ≤ Config.spoolSlots →
      st.load[n].adopted = sh ∧ st.load[n].clamped = false ∧ st.load[n].refused = none ∧ st.load[n].cause = none ∧
      st.load[n].source = (if st.stored[n].good then .stored else .factory)) ∧
    (Config.spoolSlots < before + sh.quota →
      st.load[n].adopted = { sh with quota := Config.spoolSlots - before } ∧ st.load[n].clamped = true ∧
      st.load[n].refused = some sh.revision ∧ st.load[n].cause = some .quotaSum ∧ st.load[n].source = .factory)

/-- POWER_LOSS (R189; assumption 13: a torn sheet's old contents stand under the failing check): without a commit only the
power goes. In a commit the first `written` masked sheets hold their new contents, the sheet being written when power
failed fails its check at the next load, every other stored sheet is as it was, and the commit count is not advanced. -/
def Obligations.PowerLoss : Prop :=
  (∀ (s : State) (w : Nat) (torn : Bool), s.powered = true → s.store.commit = none →
    exec (.powerLoss w torn) s = .next { s with powered := false }) ∧
  ∀ (s : State) (w : Nat) (torn : Bool) (c : Commit), s.powered = true → s.store.commit = some c → c.services.Nodup →
    ∃ t, exec (.powerLoss w torn) s = .next t ∧ t.powered = false ∧ Touches [.powered, .store] s t ∧
      t.store.commits = s.store.commits ∧ t.store.commit = none ∧
      (∀ n ∈ c.services.take w, t.store.stored[n] = ⟨c.copies[n], true⟩) ∧
      (∀ n ∈ c.services.drop w,
        t.store.stored[n].sheet = s.store.stored[n].sheet ∧
        (t.store.stored[n].good = false ↔
          (torn = true ∧ c.services[w]? = some n) ∨ s.store.stored[n].good = false)) ∧
      ∀ n : Svc, n ∉ c.services → t.store.stored[n] = s.store.stored[n]

/-! ### Feed Receiver (chapter 1) -/

/-- FRAME, lock state by lock state (R2, R6 to R11, R13, R14): what it does to the service's Feed Receiver record, all of
it. A FRAME that ends FLYWHEEL breaks the run of the service's Loudness Meter and of its accumulating contexts (R3, R28,
R31, R34, R35, R48); any other FRAME leaves that meter as it was. -/
def Obligations.FrameServiceTime : Prop :=
  ∀ (s : State) (n : Svc) (stamp : Stamp) (rate : BitVec 16), s.powered = true →
    ∃ t, exec (.frame n stamp rate) s = .next t ∧
      (s.feed[n].lock = .seeking → (s.sheetOf n).enable = true →
        t.feed[n].lock = .locked ∧ t.feed[n].time = stamp.toNat ∧ t.feed[n].lossTimer = some (s.sheetOf n).rate) ∧
      (s.feed[n].lock = .seeking → (s.sheetOf n).enable = false →
        t.feed[n].lock = .seeking ∧ t.feed[n].time = s.feed[n].time ∧ t.feed[n].lossTimer = s.feed[n].lossTimer) ∧
      (s.feed[n].lock ≠ .seeking →
        (if s.feed[n].time < stamp.toNat then t.feed[n].lock = .locked ∧ t.feed[n].time = stamp.toNat
          else t.feed[n].lock = .held ∧ t.feed[n].time = s.feed[n].time) ∧
        t.feed[n].lossTimer = some (s.sheetOf n).rate) ∧
      t.feed[n].frameTimer = (if s.feed[n].lock = .flywheel then none else s.feed[n].frameTimer) ∧
      t.feed[n].lineDown = false ∧ t.feed[n].lastRate = some rate ∧
      (t.feed[n].mismatch = true ↔ rate.toNat ≠ (s.sheetOf n).rate) ∧ t.feed[n].lastSeq = s.feed[n].lastSeq ∧
      t.feed[n].received = s.feed[n].received + 1 ∧ t.feed[n].advances = s.feed[n].advances ∧
      t.feed[n].discarded = s.feed[n].discarded ∧
      (s.feed[n].lock ≠ .flywheel → t.meter[n] = s.meter[n]) ∧
      (s.feed[n].lock = .flywheel → t.meter[n] = s.brokenMeter n ∧ ContextRunsBroken n s t)

/-- The raises of TIME_FAULT that a FRAME makes (R7 to R10, R13, R14): one for a stamp that jumps, repeats or steps back
(in HELD only for one that jumps), and one of its own for a rate code that mismatches afresh. The raise for the stamp is
taken before the time advance that the FRAME makes (R108): its stamp is the service time before it (R162), and it adds
TIME_FAULT to every docket then OPEN, so that one closed by the advance carries it and one opened by it does not. The
raise for the rate code is taken after the advance and its boundaries: one opened by the advance carries it and one closed
by it does not. -/
def Obligations.FrameTimeFault : Prop :=
  ∀ (s : State) (n : Svc) (stamp : Stamp) (rate : BitVec 16), s.powered = true →
    let byStamp :=
      s.feed[n].lock ≠ .seeking ∧
        (s.feed[n].time + 1 < stamp.toNat ∨ stamp.toNat ≤ s.feed[n].time ∧ s.feed[n].lock ≠ .held)
    let byRate := rate.toNat ≠ (s.sheetOf n).rate ∧ (s.feed[n].mismatch = false ∨ s.feed[n].lastRate ≠ some rate)
    ∃ t, exec (.frame n stamp rate) s = .next t ∧
      t.raises n .timeFault = s.raises n .timeFault + (if byStamp then 1 else 0) + (if byRate then 1 else 0) ∧
      (t.svcCond n .timeFault).last =
        (if byRate then (if t.feed[n].lock = .seeking then none else some t.feed[n].time)
          else if byStamp then some s.feed[n].time else (s.svcCond n .timeFault).last) ∧
      ((s.svcCond n .timeFault).raises = (s.svcCond n .timeFault).acked →
        (t.svcCond n .timeFault).first =
          (if byStamp then some s.feed[n].time
            else if byRate then (if t.feed[n].lock = .seeking then none else some t.feed[n].time)
            else (s.svcCond n .timeFault).first)) ∧
      (∀ k : Slot,
        (t.entry n k).flags.timeFault = true ↔
          (s.entry n k).flags.timeFault = true ∨ byStamp ∧ (s.entry n k).state = .opened ∨
            byRate ∧ (t.entry n k).state = .opened) ∧
      (t.svcCond n .timeFault).live = (s.svcCond n .timeFault).live ∧
      (t.svcCond n .feedLoss).live = ((s.svcCond n .feedLoss).live && decide (s.feed[n].lock ≠ .flywheel)) ∧
      t.raises n .feedLoss = s.raises n .feedLoss

/-- The judgement of a received frame (R62, R63, R65, R71), as FRAME makes it and as LIVENESS_EXPIRY and CONTENT_EXPIRY
name its two expiries: both counters go down by 1 where not 0; an expired liveness counter makes LOST, else an expired
content counter makes IDLE of LIVE. CAPTION_LOSS and CAPTION_IDLE follow the state and the requirement in force, one raise
at each change to live (R69). Every docket that stands OPEN and is not paused counts the judgement, one opened by this
very FRAME from 0 on, and one that its time advance closes counts nothing of it (R2, R73); for the two expiries no other
entry changes. That an expiry on its own makes the whole judgement and counts it is the model's choice (assumption 11). -/
def Obligations.FrameJudgement : Prop :=
  ∀ (s : State) (n : Svc) (c : Instr), s.powered = true →
    ((∃ stamp rate, c = .frame n stamp rate) ∨ (c = .livenessExpiry n ∧ s.caption[n].liveness = 1) ∨
      (c = .contentExpiry n ∧ s.caption[n].content = 1)) →
    ∃ t, exec c s = .next t ∧ t.caption[n].liveness = s.caption[n].liveness - 1 ∧
      (s.caption[n].liveness = 1 →
        t.caption[n].state = .lost ∧
        (s.caption[n].state ≠ .lost → t.caption[n].content = 0 ∧ t.caption[n].lastSeq = none)) ∧
      (s.caption[n].liveness ≠ 1 →
        t.caption[n].content = s.caption[n].content - 1 ∧ t.caption[n].lastSeq = s.caption[n].lastSeq ∧
        t.caption[n].state =
          (if s.caption[n].content = 1 ∧ s.caption[n].state = .live then .idle else s.caption[n].state)) ∧
      t.caption[n].accepted = s.caption[n].accepted ∧ t.caption[n].mismatches = s.caption[n].mismatches ∧
      t.caption[n].discontinuities = s.caption[n].discontinuities ∧
      (CaptionSound s →
        ((t.svcCond n .captionLoss).live = true ↔ t.caption[n].required = true ∧ t.caption[n].state = .lost) ∧
        ((t.svcCond n .captionIdle).live = true ↔ t.caption[n].required = true ∧ t.caption[n].state = .idle) ∧
        t.raises n .captionLoss =
          s.raises n .captionLoss +
            (if t.caption[n].required = true ∧ s.caption[n].required = false ∧ s.caption[n].state = .lost then 1
              else 0) +
            (if t.caption[n].required = true ∧ s.caption[n].state ≠ .lost ∧ t.caption[n].state = .lost then 1
              else 0) ∧
        t.raises n .captionIdle =
          s.raises n .captionIdle +
            (if t.caption[n].required = true ∧ s.caption[n].required = false ∧ s.caption[n].state = .idle then 1
              else 0) +
            (if t.caption[n].required = true ∧ s.caption[n].state ≠ .idle ∧ t.caption[n].state = .idle then 1
              else 0)) ∧
      ((∃ stamp rate, c = .frame n stamp rate) →
        ∀ k : Slot, (t.entry n k).state ≠ .opened →
          ((s.entry n k).state = .opened →
            (t.entry n k).tally = { (s.entry n k).tally with paused := (t.entry n k).tally.paused }) ∧
          ((s.entry n k).state = .pending ∨ (s.entry n k).state = .armed →
            (t.entry n k).state = .closing ∨ (t.entry n k).state = .closed →
            (t.entry n k).tally.counted = 0 ∧ (t.entry n k).tally.covered = 0 ∧ (t.entry n k).tally.idle = 0)) ∧
      ((∃ stamp rate, c = .frame n stamp rate) →
        ∀ k : Slot, (t.entry n k).state = .opened →
          let was := if (s.entry n k).state = .opened then (s.entry n k).tally else Tally.zero
          let now := (t.entry n k).tally
          now.feedLoss = was.feedLoss ∧ now.discontinuities = was.discontinuities ∧ now.mismatches = was.mismatches ∧
          if now.paused = false ∧ was.counted < 4294967295 then
            now.counted = was.counted + 1 ∧
            now.covered = was.covered + (if t.caption[n].state = .lost then 0 else 1) ∧
            now.idle = was.idle + (if t.caption[n].state = .idle then 1 else 0)
          else now.counted = was.counted ∧ now.covered = was.covered ∧ now.idle = was.idle) ∧
      ((∀ stamp rate, c ≠ .frame n stamp rate) →
        ∀ k : Slot,
          if (s.entry n k).state = .opened ∧ (s.entry n k).tally.paused = false ∧
              (s.entry n k).tally.counted < 4294967295 then
            (t.entry n k).tally.counted = (s.entry n k).tally.counted + 1 ∧
            (t.entry n k).tally.covered =
              (s.entry n k).tally.covered + (if t.caption[n].state = .lost then 0 else 1) ∧
            (t.entry n k).tally.idle = (s.entry n k).tally.idle + (if t.caption[n].state = .idle then 1 else 0)
          else t.entry n k = s.entry n k)

/-- LOSS and the running-out of the loss timer in LOCKED and HELD (R11, R12): FLYWHEEL is entered with the advances
already due, two by timeout and none or one by LOSS, each of which does all that a FLYWHEEL_ADVANCE does: it fires
boundaries, flags and counts (R13, R71). FEED_LOSS goes live and is raised once; the run of the rolling accumulator and of
every accumulating context of the service is broken (R3, R28, R31, R34, R35, R48). LOSS in SEEKING and FLYWHEEL changes
the line indication only; a report of a loss timer that does not run has no effect (the model's choice, assumption 1).
That the period already running at the entry is timed at the rate as it stands, and that FEED_LOSS is raised, and so
stamped, before the advances already due, are the model's choices (assumption 28). -/
def Obligations.EnterFlywheel : Prop :=
  (∀ (s : State) (n : Svc) (c : Instr) (due : Nat), s.powered = true → FeedSound s →
    s.feed[n].lock = .locked ∨ s.feed[n].lock = .held →
    (c = .lossTimerExpiry n ∧ due = 2 ∨ c = .loss n false ∧ due = 0 ∨ c = .loss n true ∧ due = 1) →
    ∃ t, exec c s = .next t ∧ t.feed[n].lock = .flywheel ∧ t.feed[n].lossTimer = none ∧
      t.feed[n].frameTimer = some (s.sheetOf n).rate ∧
      t.feed[n].time = min (s.feed[n].time + due) (2 ^ 48 - 1) ∧
      t.feed[n].advances =
        s.feed[n].advances + BitVec.ofNat 32 (min (s.feed[n].time + due) (2 ^ 48 - 1) - s.feed[n].time) ∧
      t.feed[n].lineDown = (s.feed[n].lineDown || decide (c ≠ .lossTimerExpiry n)) ∧
      t.feed[n].received = s.feed[n].received ∧ (t.svcCond n .feedLoss).live = true ∧
      t.raises n .feedLoss = s.raises n .feedLoss + 1 ∧ (t.svcCond n .feedLoss).last = some s.feed[n].time ∧
      t.raises n .timeFault = s.raises n .timeFault ∧
      t.meter[n] = s.brokenMeter n ∧ ContextRunsBroken n s t ∧
      (due = 0 → ∀ x : CtxId,
        t.pool[x] =
          if s.pool[x].ownedBy n = true ∧ s.pool[x].state = .accumulating then
            { s.pool[x] with acc := Accumulator.fresh }
          else s.pool[x])) ∧
  (∀ (s : State) (n : Svc), s.powered = true → FeedSound s → s.feed[n].lock = .locked ∨ s.feed[n].lock = .held →
    ∃ t u v, exec (.loss n false) s = .next t ∧ exec (.loss n true) s = exec (.flywheelAdvance n) t ∧
      u = t.modFeed n (fun f => { f with lineDown := s.feed[n].lineDown }) ∧
      exec (.flywheelAdvance n) u = .next v ∧ exec (.lossTimerExpiry n) s = exec (.flywheelAdvance n) v) ∧
  (∀ (s : State) (n : Svc) (late : Bool), s.powered = true →
    s.feed[n].lock = .seeking ∨ s.feed[n].lock = .flywheel →
    exec (.loss n late) s = .next (s.modFeed n fun f => { f with lineDown := true })) ∧
  ∀ (s : State) (n : Svc), s.powered = true → s.feed[n].lossTimer = none → exec (.lossTimerExpiry n) s = .next s

/-- FLYWHEEL_ADVANCE (R13, R15, R71, R108): while the frame timer runs, service time advances by one up to 2^48 - 1, the
advance is counted, the next period is timed at the sheet's rate, no received frame is made, and every docket OPEN once
the boundaries have fired carries FLYWHEEL and, unless paused, counts one feed-loss frame; one that the advance closes
counts none, and no counted frames move. A report without a running frame timer has no effect (the model's choice,
assumption 1). What time fires (R7, R13, R87 to R89, R97): at a STEP, a JUMP, a flywheel advance or a time seed, each
docket whose boundaries are due arms, opens or closes at the new service time, with LATE, CUE_MISSED and FLYWHEEL as the
event and the boundary give them, one none of whose boundaries is due stands as before, an OPEN one that ends ON_NEXT is
closed by the next opening of its layer with no CUE_MISSED (R91 step 1, R97), the contexts of the segments that close join
the integration queue and their END marks are requested (R53, R150), the standings ARMED, OPEN and CLOSING, or for a
docket without a context its verdict and CLOSED, are handed in that order (R77, R87, R91, R96, R106), and the requirement
in force is that of the segments then open (R68, R69). The boundaries of a body are those of R87, those of one event are
fired in the order of R88, and one of a docket in another state has no effect. That a docket without a context stands
CLOSED when its writes are handed (assumption 29), that a dropped slot takes no write (assumption 9), and that an opening
closes every OPEN ON_NEXT docket of its layer, where two are (assumption 28), are the model's choices. -/
def Obligations.FlywheelAdvance : Prop :=
  (∀ (s : State) (n : Svc), s.powered = true → s.feed[n].frameTimer.isSome = true →
    ∃ t, exec (.flywheelAdvance n) s = .next t ∧ t.feed[n].frameTimer = some (s.sheetOf n).rate ∧
      t.feed[n].lock = s.feed[n].lock ∧ t.feed[n].received = s.feed[n].received ∧
      t.caption[n].state = s.caption[n].state ∧ t.caption[n].liveness = s.caption[n].liveness ∧
      t.caption[n].content = s.caption[n].content ∧
      (s.feed[n].time < 2 ^ 48 - 1 →
        t.feed[n].time = s.feed[n].time + 1 ∧ t.feed[n].advances = s.feed[n].advances + 1 ∧
        InForce n t ∧ CaptionCondsFollow n s t ∧
        (∀ k : Slot, (t.entry n k).state = .opened →
          (t.entry n k).flags.flywheel = true ∧
          let was := if (s.entry n k).state = .opened then (s.entry n k).tally else Tally.zero
          let now := (t.entry n k).tally
          now.feedLoss = (if now.paused then was.feedLoss else sat32 was.feedLoss) ∧ now.counted = was.counted ∧
          now.covered = was.covered ∧ now.idle = was.idle ∧ now.discontinuities = was.discontinuities ∧
          now.mismatches = was.mismatches) ∧
        ∀ k : Slot, (s.entry n k).state = .opened → (t.entry n k).state ≠ .opened →
          (t.entry n k).tally = { (s.entry n k).tally with paused := (t.entry n k).tally.paused }) ∧
      (2 ^ 48 - 1 ≤ s.feed[n].time →
        t = s.modFeed n fun f => { f with frameTimer := some (s.sheetOf n).rate })) ∧
  (∀ (s : State) (n : Svc), s.powered = true → s.feed[n].frameTimer = none → exec (.flywheelAdvance n) s = .next s) ∧
  (∀ (s : State) (n : Svc) (c : Instr) (due : Nat → Prop) (now : Nat) (f : Firing), s.powered = true →
    DocketsSound s → TimeEvent s n c due now f →
    ∃ t, exec c s = .next t ∧ t.feed[n].time = now ∧ InForce n t ∧
      ∀ (k : Slot) (b : Body), (s.entry n k).body = some b → b.firstStart ≤ b.lastStart → b.lastStart < b.endStamp →
        let e := s.entry n k
        let e' := t.entry n k
        let cued := ∃ id first last, b.start = .onCue id first last
        let cuedEnd := ∃ id cap, b.finish = .onCue id cap
        let arm : List SlotContent :=
          match b.start with
          | .atStamp _ => []
          | .onCue _ _ _ => [.standing .armed e.posting]
        (e.state = .pending → ¬due b.firstStart → e' = e) ∧
        (e.state = .pending → due b.firstStart → ¬due b.lastStart → e'.state = .armed ∧ e'.flags = e.flags ∧
          SlotHands n k [.standing .armed e.posting] s t) ∧
        (e.state = .armed → ¬due b.lastStart → e' = e) ∧
        ((e.state = .pending ∧ due b.firstStart ∨ e.state = .armed ∧ cued) → due b.lastStart →
          e'.openStamp = some now ∧ (e'.flags.late = true ↔ e.flags.late = true ∨ f.late = true) ∧
          (e'.flags.flywheel = true ↔ e.flags.flywheel = true ∨ f.flywheel = true) ∧
          (e'.flags.cueMissed = true ↔ e.flags.cueMissed = true ∨ cued ∨ due b.endStamp ∧ cuedEnd) ∧
          SlotHands n k
            ((if e.state = .pending then arm else []) ++ [.standing .opened e.posting] ++
              if e'.state = .opened then [] else closeWrites n k t) s t ∧
          (due b.endStamp →
            (e'.state = .closing ∨ e'.state = .closed) ∧ e'.closeStamp = some now ∧
            (QueueSound s → ∀ x : CtxId, e'.context = some x →
              t.pool[x].state = .closing ∧ x ∈ t.integ.queue ∧
              t.pool[x].figures = some ((s.sheetOf n).closeFigures b.cls))) ∧
          (¬due b.endStamp → b.isOnNext = false → e'.state = .opened)) ∧
        (e.state = .opened → s.feed[n].lock ≠ .seeking → due b.endStamp →
          (e'.state = .closing ∨ e'.state = .closed) ∧ e'.closeStamp = some now ∧ e'.openStamp = e.openStamp ∧
          (e'.flags.late = true ↔ e.flags.late = true ∨ f.late = true) ∧
          (e'.flags.flywheel = true ↔ e.flags.flywheel = true ∨ f.flywheel = true) ∧
          (e'.flags.cueMissed = true ↔ e.flags.cueMissed = true ∨ cuedEnd) ∧
          SlotHands n k (closeWrites n k t) s t ∧
          (QueueSound s → SegmentEnds n k b (s.sheetOf n) s t)) ∧
        (e.state = .opened → ¬due b.endStamp → b.isOnNext = true →
          (let opens := fun (j : Slot) (o : Body) =>
             (s.entry n j).body = some o ∧ o.firstStart ≤ o.lastStart ∧ o.cls.layer = b.cls.layer ∧ due o.lastStart ∧
             ((s.entry n j).state = .pending ∧ due o.firstStart ∨
               (s.entry n j).state = .armed ∧ ∃ id first last, o.start = .onCue id first last)
           ((∀ (j : Slot) (o : Body), (s.entry n j).body = some o → o.firstStart ≤ o.lastStart) → (∀ j o, ¬opens j o) →
             e'.state = .opened ∧ e'.openStamp = e.openStamp ∧ e'.flags.late = e.flags.late ∧
             e'.flags.cueMissed = e.flags.cueMissed ∧ SlotHands n k [] s t ∧
             (e'.flags.flywheel = true ↔ e.flags.flywheel = true ∨ f.flywheel = true)) ∧
           ((∃ j o, opens j o) →
             (e'.state = .closing ∨ e'.state = .closed) ∧ e'.closeStamp = some now ∧ e'.openStamp = e.openStamp ∧
             (e'.flags.late = true ↔ e.flags.late = true ∨ f.late = true) ∧
             (e'.flags.flywheel = true ↔ e.flags.flywheel = true ∨ f.flywheel = true) ∧
             e'.flags.cueMissed = e.flags.cueMissed ∧ SlotHands n k (closeWrites n k t) s t ∧
             (QueueSound s → SegmentEnds n k b (s.sheetOf n) s t)))) ∧
        (e.state = .opened → ¬due b.endStamp → b.isOnNext = false →
          e'.state = .opened ∧ e'.openStamp = e.openStamp ∧ e'.flags.late = e.flags.late ∧
          e'.flags.cueMissed = e.flags.cueMissed ∧ SlotHands n k [] s t ∧
          (e'.flags.flywheel = true ↔ e.flags.flywheel = true ∨ f.flywheel = true))) ∧
  (∀ (b : Body) (k : Slot) (x : Boundary),
    x ∈ b.boundaries k ↔
      x.slot = k ∧
      (x.kind = .start ∧ b.start = .atStamp x.stamp ∨ x.kind = .arm ∧ (∃ id last, b.start = .onCue id x.stamp last) ∨
        x.kind = .latest ∧ (∃ id first, b.start = .onCue id first x.stamp) ∨
        x.kind = .stop ∧ b.finish = .atStamp x.stamp ∨
        x.kind = .cap ∧ ((∃ id, b.finish = .onCue id x.stamp) ∨ b.finish = .onNext x.stamp))) ∧
  (∀ (s : State) (n : Svc) (ks : List Slot) (p : Nat → Bool), ks.Nodup →
    (s.boundariesOf n ks p).Pairwise Boundary.precedes ∧
    ∀ x : Boundary,
      x ∈ s.boundariesOf n ks p ↔
        p x.stamp = true ∧ x.slot ∈ ks ∧ ∃ b, (s.entry n x.slot).body = some b ∧ x ∈ b.boundaries x.slot) ∧
  ∀ (s : State) (n : Svc) (f : Firing) (x : Boundary),
    ((x.kind = .start ∨ x.kind = .arm) ∧ (s.entry n x.slot).state ≠ .pending ∨
      x.kind = .latest ∧ (s.entry n x.slot).state ≠ .armed ∨
      (x.kind = .stop ∨ x.kind = .cap) ∧ (s.entry n x.slot).state ≠ .opened) →
    s.fireBoundary n f x = s

/-- R6, whole: LOSS sets the line indication DOWN, RESTORE and FRAME set it UP; RESTORE changes nothing else, the lock
state and FEED_LOSS among it; the live block reports the indication at offset 33. -/
def Obligations.LineIndication : Prop :=
  (∀ (s : State) (n : Svc) (late : Bool), s.powered = true →
    ∃ t, exec (.loss n late) s = .next t ∧ t.feed[n].lineDown = true) ∧
  (∀ (s : State) (n : Svc), s.powered = true →
    exec (.restore n) s = .next (s.modFeed n fun f => { f with lineDown := false })) ∧
  (∀ (s : State) (n : Svc) (stamp : Stamp) (rate : BitVec 16), s.powered = true →
    ∃ t, exec (.frame n stamp rate) s = .next t ∧ t.feed[n].lineDown = false) ∧
  ∀ (s : State) (n : Svc),
    ⟨s.area (liveOffset n) + 32, s.feedBytes n⟩ ∈ s.livePieces n ∧
    (s.feedBytes n)[1]? = some (if s.feed[n].lineDown then 1 else 0)

/-- A discarded message adds 1 to the service's discarded-message count and has no other effect (R1); a CAPTION whose page
is 0 or above 8 is one. -/
def Obligations.DiscardedMessage : Prop :=
  (∀ (s : State) (n : Svc), s.powered = true →
    exec (.discardedMessage n) s = .next (s.modFeed n fun f => { f with discarded := f.discarded + 1 })) ∧
  ∀ (s : State) (n : Svc) (page : Byte) (lang : Lang) (kind : CaptionKind) (seq : Byte), s.powered = true →
    page.toNat = 0 ∨ 8 < page.toNat →
    exec (.caption n page lang kind seq) s = .next (s.modFeed n fun f => { f with discarded := f.discarded + 1 })

/-! ### Caption Watch (chapter 4) -/

/-- CAPTION with a page of 1 to 8 (R4, R61 to R64, R66, R67): the sequence becomes the last caption sequence; an accepted
packet retriggers the counters and changes the state by its kind, and CAPTION_LOSS and CAPTION_IDLE follow it (R69); a
mismatched one is only counted, an ignored one does nothing more. -/
def Obligations.CaptionPackets : Prop :=
  ∀ (s : State) (n : Svc) (page : Byte) (lang : Lang) (kind : CaptionKind) (seq : Byte), s.powered = true →
    1 ≤ page.toNat → page.toNat ≤ 8 →
    let sh := s.sheetOf n
    let c := s.caption[n]
    ∃ t, exec (.caption n page lang kind seq) s = .next t ∧
      t.feed[n] = { s.feed[n] with lastSeq := some seq } ∧
      (sh.enable = false ∨ page.toNat ≠ sh.page → t = s.modFeed n fun f => { f with lastSeq := some seq }) ∧
      (sh.enable = true → page.toNat = sh.page → lang ≠ sh.lang →
        t.caption[n] = { c with mismatches := c.mismatches + 1 } ∧ t.panel = s.panel ∧ t.alert = s.alert ∧
        ∀ k : Slot,
          t.entry n k =
            if (s.entry n k).state = .opened ∧ (s.entry n k).tally.paused = false then
              { s.entry n k with
                tally := { (s.entry n k).tally with mismatches := sat32 (s.entry n k).tally.mismatches } }
            else s.entry n k) ∧
      (sh.enable = true → page.toNat = sh.page → lang = sh.lang →
        t.caption[n] =
          { c with
            accepted := c.accepted + 1, lastSeq := some seq, liveness := sh.livenessWindow
            content := if kind = .idle then c.content else sh.contentWindow
            state := if kind = .idle then (if c.state = .lost then .idle else c.state) else .live
            discontinuities :=
              if c.state ≠ .lost ∧ c.lastSeq.isSome = true ∧ c.lastSeq ≠ some (seq - 1) then c.discontinuities + 1
              else c.discontinuities } ∧
        (CaptionSound s →
          ((t.svcCond n .captionLoss).live = true ↔ c.required = true ∧ t.caption[n].state = .lost) ∧
          ((t.svcCond n .captionIdle).live = true ↔ c.required = true ∧ t.caption[n].state = .idle) ∧
          t.raises n .captionLoss = s.raises n .captionLoss ∧
          t.raises n .captionIdle =
            s.raises n .captionIdle +
              (if c.required = true ∧ c.state = .lost ∧ kind = .idle then 1 else 0)) ∧
        ∀ k : Slot,
          t.entry n k =
            if (c.state ≠ .lost ∧ c.lastSeq.isSome = true ∧ c.lastSeq ≠ some (seq - 1)) ∧
                (s.entry n k).state = .opened ∧ (s.entry n k).tally.paused = false then
              { s.entry n k with
                tally := { (s.entry n k).tally with discontinuities := sat32 (s.entry n k).tally.discontinuities } }
            else s.entry n k)

/-! ### Segments (chapters 5 and 6) -/

/-- CUE that matches nothing, or while the service is disabled (R90): the unmatched cue count goes up by 1 and nothing
else happens. -/
def Obligations.CueUnmatched : Prop :=
  ∀ (s : State) (n : Svc) (id : BitVec 16) (kind : CueKind), s.powered = true →
    ((s.sheetOf n).enable = false ∨
      ∀ (k : Slot) (b : Body), (s.entry n k).body = some b →
        (kind = .start → (s.entry n k).state = .armed → ∀ e l, b.start ≠ .onCue id e l) ∧
        (kind = .finish → (s.entry n k).state = .opened → ∀ c, b.finish ≠ .onCue id c)) →
    exec (.cue n id kind) s = .next (s.modSched n fun c => { c with unmatched := c.unmatched + 1 })

/-- A START CUE that matches the one ARMED docket k (R90 to R94): its segment opens at service time, with the standing
OPEN handed, with the rules of the adopted sheet and the docket's overrides; it holds a context of the pool, fresh and its
own, or, when none is FREE, NO_METER with one raise of METER_SHORTAGE. Its flags are those it had, with NO_METER or PAUSED
where the opening sets them and no flag of the firing. An inner opening pauses what is open in the outer layer, tally and
context, with PAUSED, unless that docket's INCLUDE_INNER is set; an outer one under an open inner segment starts paused by
the same rule, every other one accumulating (R50, R52, R72). Every docket of its layer that stands OPEN and ends ON_NEXT
is closed first, at service time and with no flag of the close (R91 step 1, R97): with a context it stands CLOSING,
without one it has its NO_METER verdict and stands CLOSED while the controller carries writes, which takes no wait for the
writes (assumption 29); its context joins the queue and its END mark is requested (R53, R150). A cue that matches an outer
and an inner docket opens both, in either slot order the outer one paused unless its INCLUDE_INNER is set (R88, R94); the
claims go by slot. The requirement in force is then that of the segment then open, and CAPTION_LOSS and CAPTION_IDLE
follow it (R68, R69). That an inner opening pauses every OPEN outer docket, and an opening closes every ON_NEXT one of its
layer, where two are (assumption 28), and that a dropped slot takes no write (assumption 9), are the model's choices. -/
def Obligations.CueOpens : Prop :=
  (∀ (s : State) (n : Svc) (id : BitVec 16) (k : Slot) (b : Body), s.powered = true →
    s.cueSlots n id .start = [k] → (s.sheetOf n).enable = true → (s.entry n k).body = some b →
    ∃ t, exec (.cue n id .start) s = .next t ∧ (t.entry n k).state = .opened ∧
      (t.entry n k).posting = (s.entry n k).posting ∧ (t.entry n k).body = some b ∧
      (t.entry n k).openStamp = some s.feed[n].time ∧
      SlotHands n k [.standing .opened (s.entry n k).posting] s t ∧
      (t.entry n k).snapshot =
        some { target := (b.loudness.map Prod.fst).getD ((s.sheetOf n).rule b.cls).target
               tolerance := (b.loudness.map Prod.snd).getD ((s.sheetOf n).rule b.cls).tolerance
               ceiling := ((s.sheetOf n).rule b.cls).ceiling
               required := (b.captions.map Prod.fst).getD ((s.sheetOf n).rule b.cls).required
               permille := min 1000 ((b.captions.map Prod.snd).getD ((s.sheetOf n).rule b.cls).permille) } ∧
      (t.entry n k).tally.counted = 0 ∧ (t.entry n k).tally.mismatches = 0 ∧
      t.sched[n].openSlot b.cls.layer = some k ∧ t.sched[n].unmatched = s.sched[n].unmatched ∧
      t.feed = s.feed ∧ t.caption[n].state = s.caption[n].state ∧ InForce n t ∧ CaptionCondsFollow n s t ∧
      (∀ c : CtxId, (t.entry n k).context = some c →
        s.pool[c].state = .free ∧ t.pool[c].owner = some ⟨n, k, (s.entry n k).posting⟩ ∧
        t.pool[c].momentary = 0 ∧ t.pool[c].histogram = [] ∧ t.pool[c].acc = Accumulator.fresh) ∧
      ((t.entry n k).context = none ↔ s.freeCount = 0) ∧
      (s.freeCount = 0 →
        (t.entry n k).flags.noMeter = true ∧ t.raises n .meterShortage = s.raises n .meterShortage + 1) ∧
      (0 < s.freeCount → t.raises n .meterShortage = s.raises n .meterShortage) ∧
      (∀ (j : Slot) (o : Body), j ≠ k → (s.entry n j).state = .opened → (s.entry n j).body = some o →
        o.cls.layer = b.cls.layer → o.isOnNext = true → (s.entry n j).snapshot.isSome = true →
        (t.entry n j).state =
          (if (s.entry n j).context.isNone && s.carries then .closed else .closing) ∧
        (t.entry n j).closeStamp = some s.feed[n].time ∧ (t.entry n j).flags = (s.entry n j).flags ∧
        SlotHands n j (closeWrites n j t) s t ∧ (QueueSound s → SegmentEnds n j o (s.sheetOf n) s t)) ∧
      (DocketsSound s →
        let held := decide (b.cls.layer = .outer) && s.sched[n].openInner.isSome && !b.includeInner
        (t.entry n k).flags =
          { (s.entry n k).flags with
            noMeter := (s.entry n k).flags.noMeter || decide (s.freeCount = 0)
            paused := (s.entry n k).flags.paused || held } ∧
        (t.entry n k).tally.paused = held ∧
        (∀ c : CtxId, (t.entry n k).context = some c →
          b.cls.layer = .outer ∨ s.sched[n].openOuter = none ∨ QueueSound s →
          t.pool[c].state = if held then .paused else .accumulating) ∧
        ∀ (j : Slot) (o : Body), b.cls.layer = .inner → (s.entry n j).state = .opened → o.cls.layer = .outer →
          s.sched[n].openInner = none → (s.entry n j).body = some o →
          (o.includeInner = true →
            t.entry n j = s.entry n j ∧
            ∀ x : CtxId, (s.entry n j).context = some x → (∀ i : Slot, i ≠ j → (s.entry n i).context ≠ some x) →
              s.pool[x].state = .accumulating → t.pool[x] = s.pool[x]) ∧
          (o.includeInner = false →
            t.entry n j =
              { s.entry n j with
                tally := { (s.entry n j).tally with paused := true }
                flags := { (s.entry n j).flags with paused := true } } ∧
            ∀ x : CtxId, (s.entry n j).context = some x → s.pool[x].state = .accumulating →
              t.pool[x] = { s.pool[x] with state := .paused, acc := Accumulator.fresh }))) ∧
  ∀ (s : State) (n : Svc) (id : BitVec 16) (i j : Slot) (a b : Body), s.powered = true →
    s.cueSlots n id .start = [i, j] → (s.sheetOf n).enable = true → (s.entry n i).body = some a →
    (s.entry n j).body = some b → a.cls.layer ≠ b.cls.layer →
    ∃ t, exec (.cue n id .start) s = .next t ∧ t.sched[n].unmatched = s.sched[n].unmatched ∧ t.feed = s.feed ∧
      InForce n t ∧ t.caption[n].source = .inner ∧ CaptionCondsFollow n s t ∧
      ((t.entry n i).context = none ↔ s.freeCount = 0) ∧ ((t.entry n j).context = none ↔ s.freeCount ≤ 1) ∧
      t.raises n .meterShortage = s.raises n .meterShortage + BitVec.ofNat 16 (2 - s.freeCount) ∧
      ∀ (k : Slot) (o : Body), k = i ∧ o = a ∨ k = j ∧ o = b →
        let held := decide (o.cls.layer = .outer) && !o.includeInner
        (t.entry n k).state = .opened ∧ (t.entry n k).posting = (s.entry n k).posting ∧ (t.entry n k).body = some o ∧
        (t.entry n k).openStamp = some s.feed[n].time ∧ SlotHands n k [.standing .opened (s.entry n k).posting] s t ∧
        t.sched[n].openSlot o.cls.layer = some k ∧
        (t.entry n k).snapshot = some ((s.sheetOf n).snapshot o) ∧ (t.entry n k).tally.counted = 0 ∧
        (t.entry n k).tally.paused = held ∧
        (t.entry n k).flags =
          { (s.entry n k).flags with
            noMeter := (s.entry n k).flags.noMeter || (t.entry n k).context.isNone
            paused := (s.entry n k).flags.paused || held } ∧
        (∀ (m : Slot) (p : Body), m ≠ k → (s.entry n m).state = .opened → (s.entry n m).body = some p →
          p.cls.layer = o.cls.layer → p.isOnNext = true → (s.entry n m).snapshot.isSome = true →
          (t.entry n m).state = (if (s.entry n m).context.isNone && s.carries then .closed else .closing) ∧
          (t.entry n m).closeStamp = some s.feed[n].time ∧ (t.entry n m).flags.cueMissed = (s.entry n m).flags.cueMissed ∧
          (t.entry n m).flags.late = (s.entry n m).flags.late ∧
          (t.entry n m).flags.flywheel = (s.entry n m).flags.flywheel ∧
          SlotHands n m (closeWrites n m t) s t ∧ (QueueSound s → SegmentEnds n m p (s.sheetOf n) s t)) ∧
        ∀ c : CtxId, (t.entry n k).context = some c →
          s.pool[c].state = .free ∧ t.pool[c].owner = some ⟨n, k, (s.entry n k).posting⟩ ∧ t.pool[c].momentary = 0 ∧
          t.pool[c].histogram = [] ∧ t.pool[c].acc = Accumulator.fresh ∧
          (QueueSound s → t.pool[c].state = if held then .paused else .accumulating)

/-- The closes of an OPEN docket k by an END CUE that it alone matches, by the count-limit notice and by WITHDRAW read
under its posting (R49, R53, R80, R85, R90, R95, R96): the close stamp is service time, the cause's flag is added, the
slot of its layer is cleared; with a context the docket stands CLOSING, which is written, and the context joins the queue
with the figures of the close; without one its verdict with the NO_METER result and the standing CLOSED are handed, it
stands CLOSED at once, and where its caption verdict is SHORT, CAPTION_FAIL is raised once and the pin of its unit range
installed, LOUDNESS_FAIL never (R96, R106, R111, R113). With a unit range an END mark is requested, or counted lost when
64 requests wait (R150). The close of an inner segment resumes the open outer one, its tally and its PAUSED context, with
a fresh run (R51, R72, R94). The requirement in force is taken afresh, and CAPTION_LOSS and CAPTION_IDLE follow it (R68,
R69). An END CUE closes every docket that it matches; that several join the queue and the pins the lowest slot first is
inferred (assumption 23). Where a second docket of the layer stands OPEN, that its slot becomes the layer's open one, and
that outer segments are resumed with the last inner close only, are the model's choices (assumption 28), and so are
CLOSED, the raise and the pin when the writes are handed and not when they are done (assumption 29), and no write of a
dropped slot (assumption 9). -/
def Obligations.SegmentCloses : Prop :=
  (∀ (s : State) (n : Svc) (k : Slot) (b : Body) (c : Instr) (add : VerdictFlags), s.powered = true →
    (s.entry n k).state = .opened → (s.entry n k).body = some b → (s.entry n k).snapshot.isSome = true →
    s.carries = true →
    ((∃ id, c = .cue n id .finish ∧ s.cueSlots n id .finish = [k] ∧ (s.sheetOf n).enable = true ∧
        add = VerdictFlags.none) ∨
      (c = .countLimit n k ∧ s.atCountLimit n k = true ∧ add = .ofTruncated) ∨
      (∃ w, c = .commandWordRead n k w ∧ s.isLinked = true ∧ wordPosting w = (s.entry n k).posting ∧
        (s.entry n k).posting ≠ 0 ∧ wordCommand w = 2 ∧ add = .ofEarlyClose)) →
    ∃ t, exec c s = .next t ∧ (t.entry n k).closeStamp = some s.feed[n].time ∧
      (t.entry n k).flags = (s.entry n k).flags.union add ∧
      (t.entry n k).state = (if (s.entry n k).context.isSome then .closing else .closed) ∧
      t.sched[n].openSlot b.cls.layer =
        (if s.sched[n].openSlot b.cls.layer = some k then
          allSlots.find? fun j => decide (j ≠ k) && s.standsOpen n b.cls.layer j
        else s.sched[n].openSlot b.cls.layer) ∧
      t.caption[n].state = s.caption[n].state ∧ InForce n t ∧ CaptionCondsFollow n s t ∧
      t.sched[n].unmatched = s.sched[n].unmatched ∧ SlotHands n k (closeWrites n k t) s t ∧
      t.raises n .loudnessFail = s.raises n .loudnessFail ∧
      t.raises n .captionFail = s.raises n .captionFail + (if closeShort n k t then 1 else 0) ∧
      t.sched[n].pins = s.sched[n].pins ++ closePins n k t ∧
      (∀ x : CtxId, (s.entry n k).context = some x →
        (s.pool[x].state = .accumulating ∨ s.pool[x].state = .paused) →
        t.pool[x].state = .closing ∧ t.integ.queue = s.integ.queue ++ [x] ∧
        t.pool[x].figures =
          some { gate := clampInt 10 2000 (s.sheetOf n).gate, minCount := ((s.sheetOf n).rule b.cls).minCount,
                 calibration := (s.sheetOf n).calibration } ∧
        t.pool[x].histogram = s.pool[x].histogram ∧ t.pool[x].momentary = s.pool[x].momentary) ∧
      t.recorder[n] =
        (match (s.entry n k).units.last with
          | none => s.recorder[n]
          | some last =>
            if s.recorder[n].marks.length < 64 then
              { s.recorder[n] with marks := s.recorder[n].marks ++ [⟨last + 1, .finish, b.segId, k⟩] }
            else { s.recorder[n] with lostMarks := sat32 s.recorder[n].lostMarks }) ∧
      (b.cls.layer = .inner → ∀ j, s.standsOpen n .outer j = true → t.sched[n].openInner.isSome = true →
        t.entry n j = s.entry n j) ∧
      (b.cls.layer = .inner → ∀ j, s.standsOpen n .outer j = true → t.sched[n].openInner = none →
        t.entry n j = { s.entry n j with tally := { (s.entry n j).tally with paused := false } } ∧
        ∀ x : CtxId, (s.entry n j).context = some x → (s.entry n k).context ≠ some x → s.pool[x].state = .paused →
          t.pool[x] = { s.pool[x] with state := .accumulating, acc := Accumulator.fresh })) ∧
  ∀ (s : State) (n : Svc) (id : BitVec 16), s.powered = true → s.carries = true → (s.sheetOf n).enable = true →
    s.cueSlots n id .finish ≠ [] →
    let ks := s.cueSlots n id .finish
    ∃ t, exec (.cue n id .finish) s = .next t ∧ t.sched[n].unmatched = s.sched[n].unmatched ∧ InForce n t ∧
      CaptionCondsFollow n s t ∧
      (∀ k ∈ ks, (s.entry n k).snapshot.isSome = true →
        (t.entry n k).state = (if (s.entry n k).context.isSome then .closing else .closed) ∧
        (t.entry n k).closeStamp = some s.feed[n].time ∧ (t.entry n k).flags = (s.entry n k).flags ∧
        SlotHands n k (closeWrites n k t) s t ∧ ∀ b, (s.entry n k).body = some b → t.sched[n].openSlot b.cls.layer ≠ some k) ∧
      t.raises n .loudnessFail = s.raises n .loudnessFail ∧
      t.raises n .captionFail =
        s.raises n .captionFail + BitVec.ofNat 16 (ks.filter fun k => closeShort n k t).length ∧
      t.sched[n].pins = s.sched[n].pins ++ ks.flatMap (fun k => closePins n k t) ∧
      ((ks.filterMap fun k => (s.entry n k).context).Nodup →
        (∀ k ∈ ks, ∀ x : CtxId, (s.entry n k).context = some x →
          s.pool[x].state = .accumulating ∨ s.pool[x].state = .paused) →
        t.integ.queue = s.integ.queue ++ ks.filterMap fun k => (s.entry n k).context)

/-- What a verdict holds (R73, R105, R106, R110): the entry's posting, segment id, class, rules, counts, stamps and flags
with the loudness result and the caption result of its tally; a docket without a context has the NO_METER loudness part.
It is failing exactly when its loudness verdict is HIGH or LOW, its caption verdict is SHORT or its short-term excess
count is above 0, whatever its flags. The written verdict holds every one of these at its place in the docket slot (R203),
failing at offset 81. -/
def Obligations.FailingVerdict : Prop :=
  (∀ (e : Entry) (b : Body) (sn : Snapshot) (loud : LoudResult),
    let v := e.assemble b sn loud
    (v.failing = true ↔
      v.loudness.verdict = .high ∨ v.loudness.verdict = .low ∨ v.captions.verdict = .short ∨ 0 < v.loudness.excess) ∧
    v.posting = e.posting ∧ v.segId = b.segId ∧ v.cls = b.cls ∧ v.loudness = loud ∧ v.figures = sn ∧ v.tally = e.tally ∧
    v.units = e.units ∧ v.openStamp = e.openStamp ∧ v.closeStamp = e.closeStamp ∧ v.flags = e.flags ∧
    v.captions.coverage =
      (if e.tally.counted = 0 then 0 else 1000 * e.tally.covered / e.tally.counted) ∧
    (v.captions.verdict = .notRequired ↔ e.tally.required = false) ∧
    (v.captions.verdict = .unmeasured ↔ e.tally.required = true ∧ e.tally.counted = 0) ∧
    (v.captions.verdict = .pass ↔
      e.tally.required = true ∧ 0 < e.tally.counted ∧ e.tally.permille ≤ v.captions.coverage) ∧
    (v.captions.verdict = .short ↔
      e.tally.required = true ∧ 0 < e.tally.counted ∧ v.captions.coverage < e.tally.permille)) ∧
  noMeterResult =
    { verdict := .unmeasured, integrated := none, pass1 := none, threshold := none, n1 := 0, n2 := 0, momentary := 0
      silent := 0, maxMomentary := none, maxShort := none, excess := 0, maxima := [0, 0, 0, 0, 0, 0, 0, 0] } ∧
  (∀ (s : State) (n : Svc) (k : Slot) (v : Verdict), v.loudness.maxima.length = 8 →
    v.bytes.length = 184 ∧ v.bytes[81 - 72]? = some (if v.failing then 1 else 0) ∧
    PutsAll [s.slotPiece n k (.verdict v)] (s.area (0x11000 + n.val * 0x2000 + k.val * 0x100))
      ([(72, 2, v.posting.toNat), (74, 1, v.cls.code), (75, 1, v.loudness.verdict.code), (76, 4, v.segId.toNat),
        (80, 1, v.captions.verdict.code), (81, 1, markField v.failing), (82, 2, v.flags.toWord),
        (84, 2, levelField v.loudness.integrated), (86, 2, levelField v.loudness.pass1),
        (88, 2, levelField v.loudness.threshold), (90, 2, levelField v.loudness.maxMomentary),
        (92, 2, levelField v.loudness.maxShort), (94, 2, levelField (some v.figures.target)),
        (96, 2, levelField (some v.figures.tolerance)), (98, 2, levelField v.figures.ceiling),
        (100, 1, markField v.tally.required), (102, 2, v.tally.permille), (104, 2, v.captions.coverage),
        (108, 4, v.loudness.n1), (112, 4, v.loudness.n2), (116, 4, v.loudness.momentary), (120, 4, v.loudness.silent),
        (124, 4, v.loudness.excess), (160, 4, v.tally.counted), (164, 4, v.tally.covered), (168, 4, v.tally.idle),
        (172, 4, v.tally.feedLoss), (176, 4, v.tally.discontinuities), (180, 4, v.tally.mismatches),
        (184, 4, v.units.received), (188, 4, v.units.dropped), (192, 8, wideField v.units.first),
        (200, 8, wideField v.units.last), (208, 8, wideField v.openStamp), (216, 8, wideField v.closeStamp)] ++
       (List.range 8).map fun i => (128 + 4 * i, 4, v.loudness.maxima.getD i 0))) ∧
  ∀ f : VerdictFlags,
    f.toWord < 2048 ∧
    (List.range 11).map f.toWord.testBit =
      [f.late, f.cueMissed, f.earlyClose, f.unlinkClose, f.truncated, f.noMeter, f.mixChanged, f.timeFault, f.flywheel,
       f.spanLost, f.paused]

/-- SLOT_WRITE_COMPLETE (R77, R112, R196): the write in flight reaches host memory and only its bytes change; the slot's
next write is handed. A RELEASE held for a docket acts once its standing CLOSED is written: the docket is IDLE, its pin
lifted and the standing IDLE handed behind what is still to be written, but for a dropped slot (assumption 9) (R80, R86,
R114). A report without a write handed has no effect (the model's choice, assumption 1). -/
def Obligations.SlotWriteComplete : Prop :=
  (∀ (s : State) (n : Svc) (k : Slot) (w : SlotWrite) (ws : List SlotWrite), s.powered = true → s.carries = true →
    (s.entry n k).handed = true → (s.entry n k).writes = w :: ws →
    ∃ t, exec (.slotWriteComplete n k) s = .next t ∧ t.holds (s.slotPiece n k w.content) ∧
      SameOutside [s.slotPiece n k w.content] s t ∧ t.ctl = { s.ctl with consecutive := 0 } ∧
      OtherSlotsSame n k s t ∧
      (w.content ≠ .standing .closed (s.entry n k).posting ∨ (s.entry n k).state ≠ .closed ∨
          (s.entry n k).releaseHeld = false →
        t.entry n k = { s.entry n k with writes := ws, handed := !ws.isEmpty }) ∧
      (w.content = .standing .closed (s.entry n k).posting → (s.entry n k).state = .closed →
        (s.entry n k).releaseHeld = true →
        (t.entry n k).state = .idle ∧ (t.entry n k).posting = (s.entry n k).posting ∧ (t.entry n k).body = none ∧
        (let idle : List SlotContent :=
           if (s.entry n k).dropped then [] else [.standing .idle (s.entry n k).posting]
         (t.entry n k).writes.map SlotWrite.content = ws.map SlotWrite.content ++ idle ∧
         (t.entry n k).handed = (!ws.isEmpty || !idle.isEmpty)) ∧
        ∀ p ∈ t.sched[n].pins, p.slot ≠ k)) ∧
  ∀ (s : State) (n : Svc) (k : Slot), s.powered = true → (s.entry n k).handed = false →
    exec (.slotWriteComplete n k) s = .next s

/-- BOARD_SWEEP while LINKED (R77, R79, R153, R171): the owed writes of every slot and of every device condition are
handed again, and the STALLED recorders are re-tested: at once between turns, else when the turn under way ends. At the
first sweep after an abandoned alert the Alert Unit evaluates (R167, R169), else the sweep leaves its alert. Without the
link nothing is swept. That the re-tests go from the lowest-numbered STALLED service up, and that a sweep during a turn
lists them anew, is the model's inference (assumption 18); that the reads of a sweep come as commands of their own is its
choice (assumption 1). -/
def Obligations.BoardSweep : Prop :=
  (∀ s : State, s.powered = true → s.isLinked = true →
    ∃ t, exec .boardSweep s = .next t ∧
      (∀ (n : Svc) (k : Slot),
        t.entry n k =
          if (s.entry n k).handed = false ∧ (s.entry n k).writes ≠ [] then
            { s.entry n k with
              writes := (s.entry n k).writes.map fun w => { w with owed := false }
              handed := true }
          else s.entry n k) ∧
      (∀ c : DevCond,
        t.cond (.device c) = { s.cond (.device c) with owed := false }) ∧
      t.header =
        (if allDevConds.any fun c => (s.cond (.device c)).owed then s.handedHeader else s.header) ++
          (allDevConds.filter fun c => (s.cond (.device c)).owed && !s.header.contains (.entry c)).map HeaderItem.entry ∧
      (s.mover.work ≠ .idle →
        t.mover = { s.mover with retests := allServices.filter fun n => s.recorder[n].state = .stalled }) ∧
      (s.mover.work = .idle → ∀ n : Svc, s.recorder[n].state = .stalled → (s.sheetOf n).chain ≠ [] →
        (∀ m : Svc, m < n → s.recorder[m].state ≠ .stalled) →
        ∃ x rest, t.mover.work = .walk n true (s.sheetOf n).overwrite x rest ∧
          x :: rest = walkOrder (s.sheetOf n).chain s.recorder[n].cursor) ∧
      (s.mover.work = .idle →
        TurnEnded { s.mover with retests := allServices.filter fun n => s.recorder[n].state = .stalled } t) ∧
      t.alert = { s.alert with abandoned := false, progress := t.alert.progress } ∧
      (s.alert.abandoned = true → Evaluates s t) ∧ (s.alert.abandoned = false → t.alert = s.alert)) ∧
  ∀ s : State, s.powered = true → s.isLinked = false → exec .boardSweep s = .next s

/-- COMMAND_WORD_READ while LINKED (R79 to R81, R85, R86): the word is kept; in IDLE a POST under another nonzero posting
is accepted for validation, and one that is read while another posting's body read is in flight takes that one's place
(the model's choice, assumption 29); a posting that a docket does not hold acts on nothing, marks the slot and raises
DOCKET_FAULT once for each such number; WITHDRAW of a waiting docket gives WITHDRAWN, also where the word kept before was
a held RELEASE (the model's choice, assumption 28), and RELEASE of an ended one IDLE, each at once with its standing
handed, unless the slot's writes are dropped (assumption 9); a POST of the held posting, a held command, one without
effect, and in IDLE a WITHDRAW, a RELEASE or posting 0 are only kept, with no fault; a word that carries no known command
acts on nothing and raises DOCKET_FAULT when its posting and command are not those last read, once for a word both unknown
and foreign and never in IDLE for posting 0 (inferred from R81, assumption 10). While UNLINKING a read that was in flight
only ends a row of failures (the model's choice, assumption 4). -/
def Obligations.CommandWordRead : Prop :=
  (∀ (s : State) (n : Svc) (k : Slot) (w : BitVec 32), s.powered = true → s.isLinked = true →
    ∃ t, exec (.commandWordRead n k w) s = .next t ∧ t.ctl = { s.ctl with consecutive := 0 } ∧
      (t.entry n k).lastWord = some w ∧
      ((s.entry n k).state = .idle → wordPosting w ≠ (s.entry n k).posting → wordPosting w ≠ 0 → wordCommand w = 1 →
        t.entry n k = { s.entry n k with lastWord := some w, validating := some (wordPosting w) } ∧
        t.raises n .docketFault = s.raises n .docketFault) ∧
      ((s.entry n k).state ≠ .idle → wordPosting w ≠ (s.entry n k).posting →
        t.entry n k = { s.entry n k with lastWord := some w, mark := some (wordPosting w) } ∧
        (wordCommand w = 1 ∨ wordCommand w = 2 ∨ wordCommand w = 3 →
          t.raises n .docketFault =
            s.raises n .docketFault + (if (s.entry n k).mark = some (wordPosting w) then 0 else 1))) ∧
      (wordPosting w = (s.entry n k).posting → (s.entry n k).posting ≠ 0 → wordCommand w = 2 →
        (s.entry n k).state = .pending ∨ (s.entry n k).state = .armed →
        (t.entry n k).state = .withdrawn ∧ (t.entry n k).posting = (s.entry n k).posting ∧
        (t.entry n k).body = (s.entry n k).body ∧
        SlotHands n k [.standing .withdrawn (s.entry n k).posting] s t) ∧
      (wordPosting w = (s.entry n k).posting → (s.entry n k).posting ≠ 0 → wordCommand w = 3 →
        (s.entry n k).state = .closed ∨ (s.entry n k).state = .refused ∨ (s.entry n k).state = .withdrawn →
        (t.entry n k).state = .idle ∧ (t.entry n k).posting = (s.entry n k).posting ∧ (t.entry n k).body = none ∧
        (t.entry n k).mark = none ∧ SlotHands n k [.standing .idle (s.entry n k).posting] s t ∧
        ∀ p, p ∈ t.sched[n].pins ↔ p ∈ s.sched[n].pins ∧ p.slot ≠ k) ∧
      (wordPosting w = (s.entry n k).posting →
        wordCommand w = 1 ∨
          (wordCommand w = 2 ∨ wordCommand w = 3) ∧
            ((s.entry n k).state = .idle ∨ (s.entry n k).state = .closing ∨ (s.entry n k).posting = 0) ∨
          wordCommand w = 2 ∧
            ((s.entry n k).state = .closed ∨ (s.entry n k).state = .refused ∨ (s.entry n k).state = .withdrawn) ∨
          wordCommand w = 3 ∧
            ((s.entry n k).state = .pending ∨ (s.entry n k).state = .armed ∨ (s.entry n k).state = .opened) →
        t.entry n k = { s.entry n k with lastWord := some w, mark := none } ∧
        t.raises n .docketFault = s.raises n .docketFault) ∧
      ((s.entry n k).state = .idle → wordPosting w ≠ (s.entry n k).posting →
        wordCommand w = 2 ∨ wordCommand w = 3 ∨ wordCommand w = 1 ∧ wordPosting w = 0 →
        t.entry n k = { s.entry n k with lastWord := some w } ∧
        t.raises n .docketFault = s.raises n .docketFault) ∧
      (wordCommand w ≠ 1 → wordCommand w ≠ 2 → wordCommand w ≠ 3 →
        let again := (s.entry n k).lastWord.map (BitVec.setWidth 24) = some (w.setWidth 24)
        t.entry n k =
          { s.entry n k with
            lastWord := some w
            mark :=
              if wordPosting w = (s.entry n k).posting then none
              else if (s.entry n k).state = .idle then (s.entry n k).mark else some (wordPosting w) } ∧
        t.raises n .docketFault =
          s.raises n .docketFault +
            (if (s.entry n k).state = .idle then (if wordPosting w ≠ 0 ∧ ¬again then 1 else 0)
              else if wordPosting w = (s.entry n k).posting then (if again then 0 else 1)
              else if again ∧ (s.entry n k).mark = some (wordPosting w) then 0 else 1))) ∧
  ∀ (s : State) (n : Svc) (k : Slot) (w : BitVec 32), s.powered = true → s.isLinked = false →
    exec (.commandWordRead n k w) s =
      .next (if s.carries then { s with ctl := { s.ctl with consecutive := 0 } } else s)

/-- POSTING_VALIDATION while LINKED, of a posting accepted for validation (R82 to R84): a body that fails a check leaves
REFUSED under the new posting without a copy, with the cause and then the standing written; a body that passes is PENDING
when none of its boundaries has passed or the service is in SEEKING, else those passed fire at once, each LATE: it is
ARMED, OPEN or closed again, and an opening closes each OPEN docket of its layer that ends ON_NEXT, with LATE (R97), each
with the standings that it passes through and, where it closes without a context, its verdict handed in order (R77, R96,
R106). The seven checks are made in their order over the fields as the host wrote them, and the body taken is those
fields. That an override byte of the caption requirement above 1 is REQUIRED (assumption 19), that every OPEN ON_NEXT
docket of the layer closes, where two are (assumption 28), that a docket without a context stands CLOSED when its writes
are handed (assumption 29), that a dropped slot takes no write (assumption 9), that nothing is posted while UNLINKING
(assumption 4) and that a slot without a posting under validation takes nothing (assumption 1) are the model's choices. -/
def Obligations.PostingValidation : Prop :=
  (∀ (s : State) (n : Svc) (k : Slot) (bytes : List Byte) (p : BitVec 16), s.powered = true → s.isLinked = true →
    (s.entry n k).validating = some p →
    ∃ t, exec (.postingValidation n k bytes) s = .next t ∧
      (∀ c, s.validate n bytes = .inl c →
        (t.entry n k).state = .refused ∧ (t.entry n k).posting = p ∧ (t.entry n k).body = none ∧
        (t.entry n k).validating = none ∧ t.panel = s.panel ∧
        ((s.entry n k).dropped = false →
          (t.entry n k).writes.map SlotWrite.content =
            (s.entry n k).writes.map SlotWrite.content ++ [.cause c, .standing .refused p])) ∧
      (∀ b, s.validate n bytes = .inr b →
        s.feed[n].lock = .seeking ∨ (∀ x ∈ b.boundaries k, s.feed[n].time < x.stamp) →
        (t.entry n k).state = .pending ∧ (t.entry n k).posting = p ∧ (t.entry n k).body = some b ∧
        (t.entry n k).flags = VerdictFlags.none ∧ (t.entry n k).validating = none ∧
        ((s.entry n k).dropped = false →
          (t.entry n k).writes.map SlotWrite.content =
            (s.entry n k).writes.map SlotWrite.content ++ [.standing .pending p])) ∧
      ∀ b, s.validate n bytes = .inr b → s.feed[n].lock ≠ .seeking → b.firstStart ≤ s.feed[n].time →
        let cued := ∃ id first last, b.start = .onCue id first last
        let cuedEnd := ∃ id cap, b.finish = .onCue id cap
        let arm : List SlotContent :=
          match b.start with
          | .atStamp _ => []
          | .onCue _ _ _ => [.standing .armed p]
        (t.entry n k).posting = p ∧ (t.entry n k).body = some b ∧ (t.entry n k).validating = none ∧
        (s.feed[n].time < b.lastStart →
          (t.entry n k).state = .armed ∧ (t.entry n k).flags = VerdictFlags.none ∧
          SlotHands n k [.standing .pending p, .standing .armed p] s t) ∧
        (b.lastStart ≤ s.feed[n].time →
          (t.entry n k).openStamp = some s.feed[n].time ∧ (t.entry n k).flags.late = true ∧
          (t.entry n k).flags.flywheel = false ∧ (t.entry n k).tally.counted = 0 ∧
          ((t.entry n k).flags.cueMissed = true ↔ cued ∨ b.endStamp ≤ s.feed[n].time ∧ cuedEnd) ∧
          (s.feed[n].time < b.endStamp → (t.entry n k).state = .opened) ∧
          SlotHands n k
            ([.standing .pending p] ++ arm ++ [.standing .opened p] ++
              if b.endStamp ≤ s.feed[n].time then closeWrites n k t else []) s t ∧
          (∀ (j : Slot) (o : Body), j ≠ k → (s.entry n j).state = .opened → (s.entry n j).body = some o →
            o.cls.layer = b.cls.layer → o.isOnNext = true → (s.entry n j).snapshot.isSome = true →
            (t.entry n j).state = (if (s.entry n j).context.isNone then .closed else .closing) ∧
            (t.entry n j).closeStamp = some s.feed[n].time ∧ (t.entry n j).flags = (s.entry n j).flags.union .ofLate ∧
            SlotHands n j (closeWrites n j t) s t ∧ (QueueSound s → SegmentEnds n j o (s.sheetOf n) s t)) ∧
          (b.endStamp ≤ s.feed[n].time →
            ((t.entry n k).state = .closing ∨ (t.entry n k).state = .closed) ∧
            (t.entry n k).closeStamp = some s.feed[n].time ∧
            (QueueSound s → ∀ x : CtxId, (t.entry n k).context = some x →
              t.pool[x].state = .closing ∧ x ∈ t.integ.queue ∧
              t.pool[x].figures = some ((s.sheetOf n).closeFigures b.cls))))) ∧
  (∀ (s : State) (n : Svc) (bytes : List Byte),
    let sh := s.sheetOf n
    let cls := field bytes 8 1
    let startMode := field bytes 9 1
    let endMode := field bytes 10 1
    let first := field bytes 16 8 % 2 ^ 48
    let last := if startMode = 1 then first else field bytes 24 8 % 2 ^ 48
    let stop := field bytes 32 8 % 2 ^ 48
    let goodClass := 1 ≤ cls ∧ cls ≤ 4
    let goodMode := 1 ≤ startMode ∧ startMode ≤ 2 ∧ 1 ≤ endMode ∧ endMode ≤ 3
    let badWindow := last < first ∨ stop ≤ last
    let tooLong := first + 86400 * sh.rate < stop
    let tooLate := s.feed[n].lock = .locked ∧ last + sh.lateAllowance < s.feed[n].time
    let overlap := ∃ (j : Slot) (c : Body), (s.entry n j).body = some c ∧
      c.cls.layer = (if cls ≤ 2 then .outer else .inner) ∧
      (((s.entry n j).state = .pending ∨ (s.entry n j).state = .armed ∨ (s.entry n j).state = .opened) ∧
          c.firstStart < (if endMode = 3 ∧ first < c.firstStart then c.firstStart else stop) ∧
          first < (if c.isOnNext = true ∧ c.firstStart < first then first else c.endStamp) ∨
        (s.entry n j).state = .opened ∧ first ≤ c.firstStart)
    (s.validate n bytes = .inl .serviceDisabled ↔ sh.enable = false) ∧
    (s.validate n bytes = .inl .badClass ↔ sh.enable = true ∧ ¬goodClass) ∧
    (s.validate n bytes = .inl .badMode ↔ sh.enable = true ∧ goodClass ∧ ¬goodMode) ∧
    (s.validate n bytes = .inl .badWindow ↔ sh.enable = true ∧ goodClass ∧ goodMode ∧ badWindow) ∧
    (s.validate n bytes = .inl .tooLong ↔ sh.enable = true ∧ goodClass ∧ goodMode ∧ ¬badWindow ∧ tooLong) ∧
    (s.validate n bytes = .inl .tooLate ↔
      sh.enable = true ∧ goodClass ∧ goodMode ∧ ¬badWindow ∧ ¬tooLong ∧ tooLate) ∧
    (s.validate n bytes = .inl .overlap ↔
      sh.enable = true ∧ goodClass ∧ goodMode ∧ ¬badWindow ∧ ¬tooLong ∧ ¬tooLate ∧ overlap) ∧
    ∀ b : Body, s.validate n bytes = .inr b ↔
      sh.enable = true ∧ goodClass ∧ goodMode ∧ ¬badWindow ∧ ¬tooLong ∧ ¬tooLate ∧ ¬overlap ∧
      b.segId.toNat = field bytes 4 4 ∧ b.cls.code = cls ∧
      b.start =
        (if startMode = 1 then .atStamp first else .onCue (BitVec.ofNat 16 (field bytes 12 2)) first last) ∧
      b.finish =
        (if endMode = 1 then .atStamp stop
          else if endMode = 2 then .onCue (BitVec.ofNat 16 (field bytes 14 2)) stop else .onNext stop) ∧
      b.includeInner = (field bytes 11 1).testBit 0 ∧
      b.loudness =
        (if (field bytes 11 1).testBit 1 then
          some (max (-9999) (min 3999 (fieldInt16 bytes 40)), max 0 (min 2000 (fieldInt16 bytes 42)))
        else none) ∧
      b.captions =
        (if (field bytes 11 1).testBit 2 then some (decide (field bytes 44 1 ≠ 0), min 1000 (field bytes 46 2))
        else none)) ∧
  (∀ (s : State) (n : Svc) (k : Slot) (bytes : List Byte), s.powered = true → s.isLinked = false → s.carries = true →
    (s.entry n k).validating.isSome = true →
    exec (.postingValidation n k bytes) s =
      .next
        (({ s with ctl := { s.ctl with consecutive := 0 } } : State).modEntry n k fun e =>
          { e with validating := none })) ∧
  ∀ (s : State) (n : Svc) (k : Slot) (bytes : List Byte), s.powered = true →
    (s.entry n k).validating = none ∨ s.carries = false →
    exec (.postingValidation n k bytes) s = .next s

/-- INTEGRATION_START and INTEGRATION_COMPLETION (R54, R55): the unit, when idle, takes the oldest close, which becomes
INTEGRATING; a completion frees its context and takes the next head at once; a report for a unit with nothing to do has no
effect (the model's choice, assumption 1). That the result is formed when the unit takes the context is inferred
(assumption 6), and that a freed context has all its parts cleared, where R55 says only that its contents are not kept, is
the model's choice (assumption 29). -/
def Obligations.Integration : Prop :=
  (∀ (s : State) (c : CtxId) (rest : List CtxId) (fig : CloseFigures), s.powered = true → s.integ.busy = none →
    s.integ.queue = c :: rest → s.pool[c].figures = some fig →
    ∃ t, exec .integrationStart s = .next t ∧ t.integ = ⟨rest, some (c, integrate s.pool[c] fig)⟩ ∧
      t.pool[c] = { s.pool[c] with state := .integrating } ∧ ∀ x : CtxId, x ≠ c → t.pool[x] = s.pool[x]) ∧
  (∀ s : State, s.powered = true → s.integ.busy.isSome = true ∨ s.integ.queue = [] →
    exec .integrationStart s = .next s) ∧
  (∀ (s : State) (c : CtxId) (r : LoudResult), s.powered = true → s.integ.busy = some (c, r) →
    c ∉ s.integ.queue →
    ∃ t, exec .integrationCompletion s = .next t ∧ t.pool[c] = Context.free ∧ t.integ.queue = s.integ.queue.drop 1 ∧
      t.integ.busy.map Prod.fst = s.integ.queue.head?) ∧
  ∀ s : State, s.powered = true → s.integ.busy = none → s.integ.queue = [] →
    exec .integrationCompletion s = .next s

/-- INTEGRATION_COMPLETION for a docket standing CLOSING under the posting the context was claimed for (R77, R98, R105,
R110, R111, R113): it stands CLOSED, its verdict and then its standing are handed while the controller carries writes,
unless a second failure has dropped the slot's writes, the conditions of its grounds are raised once each, and a failing
verdict with a unit range is pinned. A result without such an entry is discarded. That the state, the raises and the pin
are taken when the two writes are handed is the model's choice (assumption 29). -/
def Obligations.IntegrationVerdict : Prop :=
  (∀ (s : State) (c : CtxId) (r : LoudResult) (o : Owner) (b : Body) (sn : Snapshot), s.powered = true →
    s.integ.busy = some (c, r) → s.pool[c].owner = some o → (s.entry o.service o.slot).state = .closing →
    (s.entry o.service o.slot).posting = o.posting → (s.entry o.service o.slot).body = some b →
    (s.entry o.service o.slot).snapshot = some sn →
    let v := (s.entry o.service o.slot).assemble b sn r
    ∃ t, exec .integrationCompletion s = .next t ∧ (t.entry o.service o.slot).state = .closed ∧
      (t.entry o.service o.slot).posting = o.posting ∧ (t.entry o.service o.slot).context = none ∧
      (t.entry o.service o.slot).writes.map SlotWrite.content =
        (s.entry o.service o.slot).writes.map SlotWrite.content ++
          (if s.carries = true ∧ (s.entry o.service o.slot).dropped = false then
            [.verdict v, .standing .closed o.posting]
          else []) ∧
      t.raises o.service .loudnessFail =
        s.raises o.service .loudnessFail +
          (if r.verdict = .high ∨ r.verdict = .low ∨ 0 < r.excess then 1 else 0) ∧
      t.raises o.service .captionFail =
        s.raises o.service .captionFail + (if v.captions.verdict = .short then 1 else 0) ∧
      t.sched[o.service].pins =
        s.sched[o.service].pins ++
          (match v.failing, v.units.first, v.units.last with
            | true, some first, some last => [⟨o.slot, o.posting, first, last⟩]
            | _, _, _ => [])) ∧
  ∀ (s : State) (c : CtxId) (r : LoudResult), s.powered = true → s.integ.busy = some (c, r) →
    (∀ o, s.pool[c].owner = some o →
      (s.entry o.service o.slot).state ≠ .closing ∨ (s.entry o.service o.slot).posting ≠ o.posting) →
    ∃ t, exec .integrationCompletion s = .next t ∧ t.sched = s.sched ∧ t.panel = s.panel ∧ t.alert = s.alert

/-! ### Loudness Meter and live block (chapter 2, R204) -/

/-- R22, whole: the exact result is rounded to the nearest multiple of 2^-32, halves away from zero, then clamped to -16
up to 16 - 2^-32 (in units of 2^-32); the value after both is the stage's output, passed on to stage 2 and kept as the
previous output for the sets that follow, and it alone is kept. -/
def Obligations.FilterRounding : Prop :=
  (∀ e : Int,
    2 * |e - 16384 * roundAway e| ≤ 16384 ∧
    (2 * |e - 16384 * roundAway e| = 16384 → |e| < |16384 * roundAway e|)) ∧
  (∀ y : Int, clampOutput y = max (-(16 * 2 ^ 32)) (min (16 * 2 ^ 32 - 1) y)) ∧
  (∀ b0 b1 b2 a1 a2 x x1 x2 y1 y2 : Int,
    stageOutput (b0, b1, b2, a1, a2) x x1 x2 y1 y2 =
      clampOutput (roundAway (b0 * x + b1 * x1 + b2 * x2 - a1 * y1 - a2 * y2))) ∧
  ∀ (f : Filter) (sample : BitVec 24),
    let y := stageOutput Config.stage1 (sample.toInt * 512) f.x1 f.x2 f.y1 f.y2
    f.step sample =
      { x1 := sample.toInt * 512, x2 := f.x1, y1 := y, y2 := f.y1,
        z1 := stageOutput Config.stage2 y f.y1 f.y2 f.z1 f.z2, z2 := f.z1 }

/-- The level of an energy (R29): the floor of 1000 times the decimal logarithm plus one half, the calibration offset
added, the sum clamped to -9999 up to +3999; -9999 for no energy. -/
def Obligations.LevelIsLog : Prop :=
  (∀ (c : Int) (num den : Nat), 0 < num → 0 < den → -200 ≤ c → c ≤ 200 →
    level c num den =
      max (-9999) (min 3999 (⌊1000 * Real.logb 10 ((num : ℝ) / ((den : ℝ) * 2 ^ 40)) + 1 / 2⌋ + c))) ∧
  ∀ (c : Int) (den : Nat), level c 0 den = -9999

/-- AUDIO (R19, R21, R24 to R27, R31 to R33, R35, R37, R49): filters, peaks and clip runs of every mix channel take the
set; the rolling accumulator takes the squares and at the 4,800th set completes its block with its values; the due write
falls at the countdown's end, handed behind what the live block's queue holds, to which a raise adds at most writes of
entries; every accumulating context of the service below the count limit takes the same set. The arithmetic of the set:
the clip run (R35), the square (R24), the block energy and the window (R26), what a context keeps of a set, its momentary
and short-term values, its bins and its excesses (R38, R39, R44 to R47). -/
def Obligations.AudioSet : Prop :=
  (∀ (s : State) (n : Svc) (samples : Vector (BitVec 24) 16), s.powered = true →
    let sh := s.sheetOf n
    let m := s.meter[n]
    let raw := mixSamples sh.mix samples
    let peaks := List.zipWith max m.peaks (setMagnitudes raw)
    let clips := List.zipWith (Clip.take sh.clipRun) raw m.clips
    ∃ t, exec (.audio n samples) s = .next t ∧
      (∀ (i : Nat) (f : Filter), i < 8 → m.filters[i]? = some f →
        t.meter[n].filters[i]? = some (((sh.mix[i]?).map fun c => f.step samples[c.feed]).getD f)) ∧
      t.meter[n].clips = clips.map Prod.fst ∧
      t.raises n .audioClip = s.raises n .audioClip + BitVec.ofNat 16 (clips.countP fun r => r.2) ∧
      t.meter[n].writeTimer = (m.writeTimer || decide (4800 ≤ m.rolling.phase + 1 ∧ m.countdown ≤ 1)) ∧
      (∀ c : SvcCond, c ≠ .audioClip → c ≠ .audioSilence → c ≠ .shortTermExcess →
        (t.svcCond n c).live = (s.svcCond n c).live ∧ t.raises n c = s.raises n c) ∧
      let squares := setSquares raw t.meter[n].filters
      let sums := List.zipWith (· + ·) m.rolling.sums squares
      let window := pushWindow m.rolling.window (blockEnergy sh.mix sums)
      (m.rolling.phase + 1 < 4800 →
        t.meter[n].rolling = { m.rolling with phase := m.rolling.phase + 1, sums := sums } ∧
        t.meter[n].curMomentary = m.curMomentary ∧ t.meter[n].curShort = m.curShort ∧
        t.meter[n].lastMomentary = m.lastMomentary ∧ t.meter[n].countdown = m.countdown ∧
        t.meter[n].peaks = peaks) ∧
      (4800 ≤ m.rolling.phase + 1 →
        t.meter[n].rolling = ⟨0, zeros8, window, satInc 4294967295 m.rolling.run⟩ ∧
        (if 3 ≤ m.rolling.run then
            t.meter[n].curMomentary = some (level sh.calibration ((window.drop (window.length - 4)).sum / 4) 1) ∧
            t.meter[n].lastMomentary = t.meter[n].curMomentary
          else t.meter[n].curMomentary = m.curMomentary ∧ t.meter[n].lastMomentary = m.lastMomentary) ∧
        t.meter[n].curShort =
          (if 29 ≤ m.rolling.run then some (level sh.calibration (window.sum / 30) 1) else m.curShort) ∧
        t.meter[n].countdown = (if m.countdown ≤ 1 then 10 else m.countdown - 1) ∧
        t.meter[n].peaks = (if m.countdown ≤ 1 then zeros8 else peaks) ∧
        (m.countdown ≤ 1 → s.isLinked = true →
          (∀ c : SvcCond, (t.svcCond n c).owed = false) ∧
          ∃ (q : List LiveItem) (owed : SvcCond → Bool),
            t.live[n].queue =
              q ++ ((t.modMeter n fun u => { u with peaks := peaks }).livePieces n).map LiveItem.fields ++
                allSvcConds.map (fun c => LiveItem.entry c true (owed c)) ++ [.mark true] ∧
            q.filter (fun i => !i.isCond) = s.live[n].queue.filter (fun i => !i.isCond) ∧
            ∀ c : SvcCond, c ≠ .audioClip → c ≠ .audioSilence → c ≠ .shortTermExcess →
              owed c = (s.svcCond n c).owed)) ∧
      t.live[n].count = s.live[n].count ∧ (s.isLinked = false → t.live = s.live) ∧
      (m.rolling.phase + 1 < 4800 ∨ 1 < m.countdown →
        t.live[n].queue.filter (fun i => !i.isCond) = s.live[n].queue.filter (fun i => !i.isCond)) ∧
      (∀ c : CtxId,
        t.pool[c] =
          if s.pool[c].ownedBy n = true ∧ s.pool[c].state = .accumulating ∧ s.pool[c].momentary < 1048575 then
            (s.pool[c].takeSet sh.mix sh.calibration squares (setMagnitudes raw)).1
          else s.pool[c]) ∧
      t.raises n .shortTermExcess =
        s.raises n .shortTermExcess +
          BitVec.ofNat 16 (allContexts.countP fun c =>
            s.pool[c].ownedBy n && decide (s.pool[c].state = .accumulating) && decide (s.pool[c].momentary < 1048575) &&
            (s.pool[c].takeSet sh.mix sh.calibration squares (setMagnitudes raw)).2)) ∧
  (∀ (hold : Nat) (c : Clip), Clip.take hold none c = (c, false)) ∧
  (∀ (hold : Nat) (x : BitVec 24) (c : Clip),
    Clip.take hold (some x) c =
      if x = 0x7FFFFF#24 ∨ x = 0x800000#24 then
        let run := satInc 65535 c.run
        (⟨run, c.raised || decide (hold ≤ run)⟩, decide (hold ≤ run) && !c.raised)
      else (⟨0, false⟩, false)) ∧
  (∀ z : Int, (sampleSquare z : Int) = z * z / 2 ^ 24) ∧
  (∀ (mix : List MixChannel) (sums : List Nat), mix.length ≤ sums.length →
    blockEnergy mix sums =
      ((List.range mix.length).map fun i =>
        sums.getD i 0 / 4800 * ((mix[i]?).map MixChannel.weight).getD 0 / 256).sum) ∧
  (∀ (window : List Nat) (b : Nat), window.length ≤ 30 →
    pushWindow window b = (window ++ [b]).drop (window.length + 1 - 30)) ∧
  (∀ (mix : List MixChannel) (cal : Int) (squares mags : List Nat) (c : Context),
    let r := c.takeSet mix cal squares mags
    let sums := List.zipWith (· + ·) c.acc.sums squares
    let window := pushWindow c.acc.window (blockEnergy mix sums)
    let energy := (window.drop (window.length - 4)).sum / 4
    let lv := level cal energy 1
    let st := level cal (window.sum / 30) 1
    r.1.maxima = List.zipWith max c.maxima mags ∧ r.1.owner = c.owner ∧ r.1.state = c.state ∧ r.1.target = c.target ∧
    r.1.tolerance = c.tolerance ∧ r.1.ceiling = c.ceiling ∧ r.1.figures = c.figures ∧
    (c.acc.phase + 1 < 4800 →
      r.1.acc = { c.acc with phase := c.acc.phase + 1, sums := sums } ∧ r.2 = false ∧ r.1.momentary = c.momentary) ∧
    (4800 ≤ c.acc.phase + 1 → r.1.acc = ⟨0, zeros8, window, satInc 4294967295 c.acc.run⟩) ∧
    (c.acc.phase + 1 < 4800 ∨ c.acc.run < 3 →
      r.1.momentary = c.momentary ∧ r.1.silent = c.silent ∧ r.1.maxMomentary = c.maxMomentary ∧
      r.1.histogram = c.histogram) ∧
    (4800 ≤ c.acc.phase + 1 → 3 ≤ c.acc.run →
      r.1.momentary = c.momentary + 1 ∧ r.1.maxMomentary = some (max (c.maxMomentary.getD lv) lv) ∧
      r.1.silent = c.silent + (if lv < -7000 then 1 else 0) ∧
      r.1.histogram =
        (if lv < -7000 then c.histogram else binAdd c.histogram (min 749 ((lv + 7000) / 10).toNat) energy)) ∧
    (c.acc.phase + 1 < 4800 ∨ c.acc.run < 29 →
      r.1.maxShort = c.maxShort ∧ r.1.excess = c.excess ∧ r.1.above = c.above ∧ r.2 = false) ∧
    (4800 ≤ c.acc.phase + 1 → 29 ≤ c.acc.run →
      r.1.maxShort = some (max (c.maxShort.getD st) st) ∧
      (c.ceiling = none → r.1.excess = c.excess ∧ r.1.above = c.above ∧ r.2 = false) ∧
      ∀ top, c.ceiling = some top →
        r.1.above = decide (top < st) ∧ r.1.excess = c.excess + (if top < st then 1 else 0) ∧
        (r.2 = true ↔ top < st ∧ c.above = false))) ∧
  ∀ (h : List Bin) (k m j : Nat), (h.map Bin.index).Pairwise (· < ·) →
    (binAdd h k m).filter (fun b => b.index = j) =
      if j = k then
        [⟨k, binCounts (h.filter fun b => b.index = k) + 1, binEnergies (h.filter fun b => b.index = k) + m⟩]
      else h.filter fun b => b.index = j

/-- AUDIO and AUDIO_SILENCE (R34): the judgement is made at a rolling short-term value and nowhere else. Below the
threshold the count of a condition that is not live goes up, and at the hold the condition goes live with one raise; at or
above the threshold the count is 0 and the condition ends. -/
def Obligations.AudioSilence : Prop :=
  ∀ (s : State) (n : Svc) (samples : Vector (BitVec 24) 16), s.powered = true →
    ∃ t, exec (.audio n samples) s = .next t ∧
      let sh := s.sheetOf n
      let live := (s.svcCond n .audioSilence).live
      (s.meter[n].rolling.phase + 1 < 4800 ∨ s.meter[n].rolling.run < 29 →
        t.meter[n].silence = s.meter[n].silence ∧ (t.svcCond n .audioSilence).live = live ∧
        t.raises n .audioSilence = s.raises n .audioSilence) ∧
      ∀ lv : Int, 4800 ≤ s.meter[n].rolling.phase + 1 → 29 ≤ s.meter[n].rolling.run → t.meter[n].curShort = some lv →
        (sh.silenceThreshold ≤ lv →
          t.meter[n].silence = 0 ∧ (t.svcCond n .audioSilence).live = false ∧
          t.raises n .audioSilence = s.raises n .audioSilence) ∧
        (lv < sh.silenceThreshold → live = true →
          t.meter[n].silence = s.meter[n].silence ∧ (t.svcCond n .audioSilence).live = true ∧
          t.raises n .audioSilence = s.raises n .audioSilence) ∧
        (lv < sh.silenceThreshold → live = false →
          t.meter[n].silence = satInc 6000 s.meter[n].silence ∧
          ((t.svcCond n .audioSilence).live = true ↔ sh.silenceHold ≤ t.meter[n].silence) ∧
          t.raises n .audioSilence =
            s.raises n .audioSilence + (if sh.silenceHold ≤ t.meter[n].silence then 1 else 0))

/-- A periodic write that falls due by the write timer or by the countdown (R33, R171, R204): countdown, timer and peaks
restart in every link state; while LINKED the fields as they stand and the sixteen entries are handed; a report of an
expiry that is not due has no effect. The fields are those that the blocks report (R18, R33, R60, R76, R103, R117, R136,
R159, R186) at their places of the live block (R203). WRITE_COUNTDOWN_EXPIRY on its own (assumption 11), a report that is
not due (assumption 1) and zeros in the bytes that no field of the block takes (assumption 27) are the model's. -/
def Obligations.PeriodicWrite : Prop :=
  (∀ (s : State) (n : Svc) (c : Instr), s.powered = true →
    (c = .writeTimerExpiry n ∧ s.meter[n].writeTimer = true ∨ c = .writeCountdownExpiry n ∧ s.meter[n].countdown ≤ 1) →
    ∃ t, exec c s = .next t ∧
      t.meter[n] = { s.meter[n] with countdown := 10, writeTimer := true, peaks := zeros8 } ∧
      (s.isLinked = true →
        t.live[n] =
          { s.live[n] with
            queue := s.live[n].queue ++ (s.livePieces n).map LiveItem.fields ++
              allSvcConds.map (fun k => LiveItem.entry k true (s.svcCond n k).owed) ++ [.mark true] } ∧
        ∀ k : SvcCond, t.svcCond n k = { s.svcCond n k with owed := false }) ∧
      (s.isLinked = false → t.live = s.live ∧ t.panel = s.panel)) ∧
  (∀ (s : State) (n : Svc), s.powered = true →
    (s.meter[n].writeTimer = false → exec (.writeTimerExpiry n) s = .next s) ∧
    (1 < s.meter[n].countdown → exec (.writeCountdownExpiry n) s = .next s)) ∧
  ∀ (s : State) (n : Svc),
    let base := s.area (0x31000 + n.val * 0x1000)
    let f := s.feed[n]
    let m := s.meter[n]
    let p := s.caption[n]
    let d := s.sched[n]
    let x := s.proxy[n]
    let r := s.recorder[n]
    let u := s.sheet[n]
    let owned := fun st => allContexts.countP fun c => s.pool[c].ownedBy n && decide (s.pool[c].state = st)
    let standing := fun st => allSlots.countP fun k => decide ((s.entry n k).state = st)
    (∀ z ∈ [(20, 12), (296, 4), (312, 200), (1024, 3072)], ⟨base + z.1, List.replicate z.2 0⟩ ∈ s.livePieces n) ∧
    PutsAll (s.livePieces n) base
      ([(32, 1, f.lock.code), (33, 1, markField f.lineDown), (34, 2, shortField (f.lastRate.map BitVec.toNat)),
        (36, 2, shortField (f.lastSeq.map BitVec.toNat)), (40, 8, f.time), (48, 4, f.received.toNat),
        (52, 4, f.advances.toNat), (56, 4, f.discarded.toNat), (64, 1, (s.sheetOf n).mix.length),
        (66, 2, levelField m.curMomentary), (68, 2, levelField m.curShort), (70, 2, m.silence),
        (72, 4, m.rolling.run), (112, 1, owned .accumulating), (113, 1, owned .paused),
        (114, 1, owned .closing + owned .integrating), (115, 1, s.freeCount),
        (116, 1, s.integ.queue.length + if s.integ.busy.isSome then 1 else 0), (120, 1, p.state.code),
        (121, 1, markField p.required), (122, 1, p.source.code), (124, 2, p.liveness), (126, 2, p.content),
        (128, 2, shortField (p.lastSeq.map BitVec.toNat)), (132, 4, p.accepted.toNat), (136, 4, p.mismatches.toNat),
        (140, 4, p.discontinuities.toNat), (144, 2, shortField (d.openOuter.map Fin.val)),
        (146, 2, shortField (d.openInner.map Fin.val)), (148, 4, ((s.segIdOf n d.openOuter).getD 0).toNat),
        (152, 4, ((s.segIdOf n d.openInner).getD 0).toNat), (156, 1, standing .pending), (157, 1, standing .armed),
        (158, 1, standing .opened), (159, 1, standing .closing), (160, 1, d.pins.length),
        (164, 4, d.unmatched.toNat), (168, 8, wideField (d.pins.map Pin.first).min?), (176, 8, x.seq),
        (184, 8, x.archived), (192, 8, x.dropped), (200, 8, x.spoolFull), (208, 4, x.truncated.toNat),
        (212, 4, x.discardedChunks.toNat), (216, 4, x.queue.length), (220, 4, (s.sheetOf n).quota),
        (224, 4, s.spoolFree), (228, 1, markField x.overflow),
        (232, 8, wideField (x.queue.head?.map fun v => v.header.seq)), (240, 1, r.state.code),
        (241, 1, r.marks.length), (242, 2, shortField (r.current.map Fin.val)),
        (244, 2, shortField (r.cursor.map Fin.val)), (246, 2, (r.current.map fun y => s.extents[y].units).getD 0),
        (248, 4, (r.current.map fun y => s.extents[y].generation.toNat).getD 0), (252, 4, r.lostMarks),
        (256, 4, r.stalls.toNat), (260, 4, r.opened.toNat), (264, 2, r.captureNo.toNat), (266, 2, r.since),
        (268, 1, markField r.acked), (269, 1, (r.capture.map fun v => v.kind.code).getD 0),
        (270, 2, shortField ((r.capture.bind Capture.extent).map Fin.val)),
        (272, 2, shortField ((r.capture.bind Capture.other).map Fin.val)),
        (276, 4, (r.capture.map fun v => v.generation.toNat).getD 0),
        (280, 8, wideField (r.capture.bind Capture.time)), (288, 8, wideField (r.capture.bind Capture.firstLeft)),
        (304, 1, u.source.code), (305, 1, markField u.clamped),
        (306, 1, (u.cause.map SheetCause.code).getD 0)] ++
       (List.range 8).map fun i => (80 + 4 * i, 4, if i < (s.sheetOf n).mix.length then m.peaks.getD i 0 else 0)) ∧
    (u.source = .host → Puts (s.livePieces n) base 300 4 (s.sheetOf n).revision.toNat) ∧
    ∀ v, u.refused = some v → Puts (s.livePieces n) base 308 4 v.toNat

/-- LIVE_BLOCK_WRITE_COUNT (R196, R198, R204): the report says that every piece of the oldest whole periodic write of the
live block has completed: what stands before its end in the block's queue, its pieces and entries and the writes handed
before them, stands in host memory, and no other byte changes; the write count goes up by 1 and its write is handed behind
the writes that the queue still holds. A row of failures ends where a write completes with the report, and an alert in
progress no longer waits for an entry that it wrote (R168). With no whole periodic write in the queue, or without the
link, nothing happens. That the report implies those completions, and that the handed count lands with the queue at an
idle step, is the model's choice (assumption 5). -/
def Obligations.LiveWriteCount : Prop :=
  (∀ (s : State) (n : Svc) (q rest : List LiveItem), s.powered = true → s.isLinked = true →
    s.live[n].queue = q ++ .mark true :: rest → LiveItem.mark true ∉ q →
    ∃ t, exec (.liveBlockWriteCount n) s = .next t ∧ t.host = s.host.writePieces (q.flatMap (s.itemPieces n)) ∧
      SameOutside (q.flatMap (s.itemPieces n)) s t ∧
      t.live[n] = ⟨s.live[n].count + 1, rest ++ [.count (s.live[n].count + 1)]⟩ ∧
      t.ctl = (if q.any fun i => !i.isEnd then { s.ctl with consecutive := 0 } else s.ctl) ∧ t.panel = s.panel ∧
      t.devPanel = s.devPanel ∧ t.header = s.header ∧ AlertTrimmed s t ∧ ∀ m : Svc, m ≠ n → t.live[m] = s.live[m]) ∧
  (∀ (s : State) (n : Svc), s.powered = true → s.isLinked = false ∨ LiveItem.mark true ∉ s.live[n].queue →
    exec (.liveBlockWriteCount n) s = .next s) ∧
  ∀ (s : State) (n : Svc) (q : List LiveItem) (v : BitVec 32), s.powered = true → s.carries = true → s.pending = [] →
    s.live[n].queue = q ++ [.count v] → (∀ m : Svc, ∀ i ∈ s.live[m].queue, i.isFields = false ∧ i.isLate = false) →
    (∀ i ∈ s.header, i.isLate = false) →
    ∃ t, step s = .next t ∧ t.holds ⟨s.area (0x31000 + n.val * 0x1000 + 16), le 4 v.toNat⟩ ∧
      t.live[n].count = s.live[n].count

/-- The gated integration (R56 to R58) of a context whose listed bins each hold a count: pass 1 takes the whole histogram,
the threshold lies the gate below its level, pass 2 takes the bins from the first one kept on, the highest bin that holds
a count where none of them does, and the integrated level is that of pass 2, never below the pass-1 level. The verdict is
SHORT below the minimum count, else by the target and tolerance; without a binned value nothing is measured. -/
def Obligations.IntegratedLevel : Prop :=
  ∀ (c : Context) (fig : CloseFigures), (∀ b ∈ c.histogram, 1 ≤ b.count) →
    let r := integrate c fig
    r.n1 = binCounts c.histogram ∧ r.momentary = c.momentary ∧ r.silent = c.silent ∧ r.excess = c.excess ∧
    r.maxMomentary = c.maxMomentary ∧ r.maxShort = c.maxShort ∧ r.maxima = c.maxima ∧
    (c.momentary < fig.minCount → r.verdict = .short) ∧
    (c.histogram = [] →
      r.integrated = none ∧ r.pass1 = none ∧ r.threshold = none ∧ r.n2 = 0 ∧
      (fig.minCount ≤ c.momentary → r.verdict = .unmeasured)) ∧
    (c.histogram ≠ [] →
      ∃ l1 li : Int, l1 = level fig.calibration (binEnergies c.histogram) r.n1 ∧
        r.pass1 = some l1 ∧ r.threshold = some (max (-9999) (min 3999 (l1 - fig.gate))) ∧
        r.integrated = some li ∧ l1 ≤ li ∧ 1 ≤ r.n2 ∧ r.n2 ≤ r.n1 ∧
        ((c.histogram.map Bin.index).Pairwise (· < ·) → ∀ t g : Int, r.threshold = some t →
          g = max 0 (min 749 ⌈((t : ℚ) + 7000) / 10⌉) →
          let above := c.histogram.filter fun b => g ≤ b.index
          let kept := if above = [] then c.histogram.filter fun b => ∀ d ∈ c.histogram, d.index ≤ b.index else above
          r.n2 = binCounts kept ∧ li = max l1 (level fig.calibration (binEnergies kept) (binCounts kept))) ∧
        (fig.minCount ≤ c.momentary →
          (r.verdict = .high ↔ c.target + c.tolerance < li) ∧
          (r.verdict = .low ↔ li < c.target - c.tolerance ∧ ¬c.target + c.tolerance < li) ∧
          (r.verdict = .pass ↔ c.target - c.tolerance ≤ li ∧ li ≤ c.target + c.tolerance)))

/-! ### Proxy Port, spool and Archive Mover (chapters 7 and 8) -/

/-- ARRIVAL (R104, R118 to R121, R128, R129, R150): a discarded chunk is counted and nothing else; a good one takes the
next sequence number and a header of what stands at the arrival (R122 to R124), joins the queue's end or is dropped, and
is counted in every OPEN docket, whose first unit hands a START request, counted lost when 64 wait. That of two dockets
the lower slot hands its request first is the model's choice (assumption 28). -/
def Obligations.Arrival : Prop :=
  (∀ (s : State) (n : Svc) (c : Chunk), s.powered = true → c.malformed = true ∨ c.payload.length ≠ c.stated.toNat →
    exec (.arrival n c) s = .next (s.modProxy n fun p => { p with discardedChunks := p.discardedChunks + 1 })) ∧
  ∀ (s : State) (n : Svc) (c : Chunk), s.powered = true → c.malformed = false → c.payload.length = c.stated.toNat →
    let p := s.proxy[n]
    let room := p.queue.length < (s.sheetOf n).quota
    let u : SpoolUnit :=
      ⟨{ service := n, seq := p.seq
         time := if s.feed[n].lock = .seeking then none else some s.feed[n].time
         proxyStamp := c.proxyStamp, length := min 1984 c.payload.length, key := c.key
         cut := decide (1984 < c.payload.length), flywheel := decide (s.feed[n].lock = .flywheel)
         held := decide (s.feed[n].lock = .held)
         outerId := s.sched[n].openOuter.bind fun k => (s.entry n k).body.map Body.segId
         innerId := s.sched[n].openInner.bind fun k => (s.entry n k).body.map Body.segId
         level := s.meter[n].lastMomentary, caption := s.caption[n].state, required := s.caption[n].required
         live :=
           { feedLoss := (s.svcCond n .feedLoss).live, audioSilence := (s.svcCond n .audioSilence).live
             captionLoss := (s.svcCond n .captionLoss).live, captionIdle := (s.svcCond n .captionIdle).live
             recordFatal := (s.svcCond n .recordFatal).live } },
       c.payload.take 1984 ++ List.replicate (1984 - c.payload.length) 0⟩
    let starts := (allSlots.filter fun k => (s.entry n k).state = .opened ∧ (s.entry n k).units.first = none).filterMap
      fun k => ((s.entry n k).body.map fun b => (⟨p.seq, .start, b.segId, k⟩ : MarkRequest))
    ∃ t, exec (.arrival n c) s = .next t ∧ t.proxy[n].seq = p.seq + 1 ∧ t.proxy[n].archived = p.archived ∧
      t.proxy[n].truncated = p.truncated + (if 1984 < c.payload.length then 1 else 0) ∧
      t.proxy[n].discardedChunks = p.discardedChunks ∧
      (room ∧ 0 < s.spoolFree →
        t.proxy[n].queue = p.queue ++ [u] ∧ t.proxy[n].overflow = false ∧ t.proxy[n].dropped = p.dropped ∧
        t.proxy[n].spoolFull = p.spoolFull ∧ t.panel = s.panel) ∧
      (¬(room ∧ 0 < s.spoolFree) →
        t.proxy[n].queue = p.queue ∧ t.proxy[n].overflow = true ∧ t.proxy[n].dropped = p.dropped + 1 ∧
        t.proxy[n].spoolFull = p.spoolFull + (if room then 1 else 0) ∧
        t.raises n .spoolOverflow = s.raises n .spoolOverflow + (if p.overflow then 0 else 1)) ∧
      (∀ k : Slot,
        t.entry n k =
          if (s.entry n k).state = .opened then
            { s.entry n k with
              units :=
                { received := sat32 (s.entry n k).units.received
                  dropped := if room ∧ 0 < s.spoolFree then (s.entry n k).units.dropped
                    else sat32 (s.entry n k).units.dropped
                  first := some ((s.entry n k).units.first.getD p.seq)
                  last := some p.seq } }
          else s.entry n k) ∧
      t.recorder[n].marks = s.recorder[n].marks ++ starts.take (64 - s.recorder[n].marks.length) ∧
      (s.recorder[n].marks.length + starts.length ≤ 64 → t.recorder[n].lostMarks = s.recorder[n].lostMarks) ∧
      (s.recorder[n].lostMarks ≤ 4294967295 →
        t.recorder[n].lostMarks =
          min 4294967295 (s.recorder[n].lostMarks + (starts.length - (64 - s.recorder[n].marks.length))))

/-- MOVER_TURN (R139 to R141): the free Mover gives the turn to the eligible service next in the round-robin order; the
turn begins with its owed update, else the re-read of an open boundary, else the write of its head unit, else a walk of
its chain from the entry after its cursor, with the chain and the recorder policy as they stand at its beginning. That an
absent turn pointer gives the first turn to the lowest-numbered eligible service is the model's choice (assumption 29). A
walk's order is the chain turned so that the cursor comes last. -/
def Obligations.MoverTurn : Prop :=
  (∀ (s : State) (n : Svc), s.powered = true → s.isLinked = true → s.mover.work = .idle → s.mover.retests = [] →
    s.eligible n = true → (∀ m : Svc, s.eligible m = true → turnRank s.mover.pointer n ≤ turnRank s.mover.pointer m) →
    let r := s.recorder[n]
    ∃ t, exec .moverTurn s = .next t ∧ t.mover.pointer = some n ∧ t.mover.retests = [] ∧
      (∀ x, r.owed = some x →
        t.mover.work = .owedUpdate n x ∧ t.mover.updates = s.mover.updates ++ [⟨x, s.extents[x], false⟩]) ∧
      (r.owed = none → t.mover.updates = s.mover.updates) ∧
      (∀ x, r.owed = none → r.current = some x →
        t.mover.work = if r.boundary then .boundaryRead n x true else .unitWrite n) ∧
      (r.owed = none → r.current = none →
        ∃ x rest, t.mover.work = .walk n false (s.sheetOf n).overwrite x rest ∧
          x :: rest = walkOrder (s.sheetOf n).chain r.cursor ∧ t.recorder[n].walkChain = (s.sheetOf n).chain ∧
          t.recorder[n].walkOverwrite = (s.sheetOf n).overwrite)) ∧
  (∀ s : State, s.powered = true →
    s.isLinked = false ∨ s.mover.work ≠ .idle ∨ s.mover.retests ≠ [] ∨ (∀ n : Svc, s.eligible n = false) →
    exec .moverTurn s = .next s) ∧
  (∀ (s : State) (n : Svc),
    s.eligible n = true ↔
      s.proxy[n].queue ≠ [] ∧ s.recorder[n].state ≠ .stalled ∧
      (s.recorder[n].current ≠ none ∨ (s.sheetOf n).chain ≠ [])) ∧
  (∀ chain : List ExtId, walkOrder chain none = chain) ∧
  ∀ (chain : List ExtId) (x : ExtId),
    walkOrder chain (some x) = if x ∈ chain then chain.rotate (chain.idxOf x + 1) else chain

/-- The writable test (R137, R142, R144): an extent is writable exactly when it is valid, no other service fills it,
neither HOLD nor DRAINING is set and, when FULL, it may be overwritten: by its owner's policy or a drained generation
equal to its own, and only where its held range meets no pin of its owner. An invalid extent and another's FILLING extent
are violations. -/
def Obligations.WritableTest : Prop :=
  ∀ (s : State) (n : Svc) (ow : Bool) (x : ExtId) (d : Descriptor),
    let e := s.extents[x]
    let valid := d.base % 65536 = 0 ∧ s.ctl.windowBase ≤ d.base ∧
      d.base + 65536 * (d.code + 1) ≤ s.ctl.windowBase + s.ctl.windowSize
    (s.writableTest n ow x d = .violation .badExtent ↔ ¬valid) ∧
    (s.writableTest n ow x d = .violation .ownerConflict ↔ valid ∧ e.state = .filling ∧ e.owner ≠ some n) ∧
    s.writableTest n ow x d ≠ .violation .noWritableExtent ∧
    (s.writableTest n ow x d = .writable ↔
      valid ∧ ¬(e.state = .filling ∧ e.owner ≠ some n) ∧ d.hold = false ∧ d.draining = false ∧
      (e.state = .full → ∀ o, e.owner = some o →
        ((if o = n then ow else (s.sheetOf o).overwrite) = true ∨ d.drained = e.generation) ∧
        ∀ first last, e.first = some first → e.last = some last →
          ∀ p ∈ s.sched[o].pins, last < p.first ∨ p.last < first))

/-- DESCRIPTOR_READ_COMPLETE in a walk or a re-test (R143 to R145, R109, R153 to R155): a writable extent is opened and
the update of its descriptor handed, its overwritten range marking SPAN_LOST; an entry passed over gives way to the next;
a walk of a turn that meets a violation, or passes over every entry, stalls the recorder and takes the violation, and the
next re-test that waits is made. The test and the opening are one event (assumption 17), in which the recorder is
RECORDING, with its current extent and its opened count, from the read on, when the update is handed (assumption 28), a
report of a read that is not awaited has no effect (assumption 1), and one that was in flight at the entry to UNLINKING
only ends a row of failures (assumption 4): these are the model's choices. -/
def Obligations.WalkRead : Prop :=
  (∀ (s : State) (n : Svc) (retest ow : Bool) (x : ExtId) (rest : List ExtId) (b : List Byte), s.powered = true →
    s.isLinked = true → s.mover.work = .walk n retest ow x rest →
    let d := parseDescriptor b
    (s.writableTest n ow x d = .writable →
      let e : Extent :=
        { Extent.blank with
          state := .filling, owner := some n, generation := s.extents[x].generation + 1, base := d.base, code := d.code }
      ∃ t, exec (.descriptorReadComplete x b) s = .next t ∧ t.extents[x] = e ∧
        (∀ y : ExtId, y ≠ x → t.extents[y] = s.extents[y]) ∧
        t.recorder[n] =
          { s.recorder[n] with
            cursor := some x, state := .recording, current := some x, boundary := false
            opened := s.recorder[n].opened + 1 } ∧
        t.mover = { s.mover with work := .openUpdate n x retest, updates := s.mover.updates ++ [⟨x, e, false⟩] } ∧
        t.panel = s.panel ∧ t.ctl = { s.ctl with consecutive := 0 } ∧
        ∀ o first last, s.extents[x].owner = some o → s.extents[x].first = some first →
          s.extents[x].last = some last →
          ∀ k : Slot,
            ((t.entry o k).flags.spanLost = true ↔
              (s.entry o k).flags.spanLost = true ∨
              ((s.entry o k).state = .opened ∨ (s.entry o k).state = .closing) ∧
                ∃ f l, (s.entry o k).units.first = some f ∧ (s.entry o k).units.last = some l ∧
                  f ≤ last ∧ first ≤ l)) ∧
    (∀ y ys, rest = y :: ys →
      s.writableTest n ow x d = .skipped ∨ retest = true ∧ s.writableTest n ow x d ≠ .writable →
      exec (.descriptorReadComplete x b) s =
        .next { s with
          ctl := { s.ctl with consecutive := 0 }, mover := { s.mover with work := .walk n retest ow y ys } }) ∧
    (rest = [] → retest = true → s.mover.retests = [] → s.writableTest n ow x d ≠ .writable →
      exec (.descriptorReadComplete x b) s =
        .next { s with ctl := { s.ctl with consecutive := 0 }, mover := { s.mover with work := .idle } }) ∧
    (rest = [] → retest = true → s.writableTest n ow x d ≠ .writable →
      ∃ t, exec (.descriptorReadComplete x b) s = .next t ∧ TurnEnded s.mover t ∧
        Touches [.ctl, .mover, .recorder] s t) ∧
    ∀ (k : ViolationKind) (at' : Option ExtId), retest = false → n ∉ s.mover.retests →
      (s.writableTest n ow x d = .violation k ∧ at' = some x ∨
        s.writableTest n ow x d = .skipped ∧ rest = [] ∧ k = .noWritableExtent ∧ at' = s.recorder[n].cursor) →
      let v : Capture :=
        { kind := k, extent := at', generation := (at'.map fun y => s.extents[y].generation).getD 0
          other := if k = .ownerConflict then at'.bind fun y => s.extents[y].owner else none, time := s.stampOf n
          firstLeft := s.proxy[n].queue.head?.map fun u => u.header.seq }
      ∃ t, exec (.descriptorReadComplete x b) s = .next t ∧ TurnEnded s.mover t ∧
        (s.mover.retests = [] → t.mover = { s.mover with work := .idle }) ∧
        t.recorder[n] =
          (if s.recorder[n].acked then
            { s.recorder[n] with
              capture := some v, captureNo := s.recorder[n].captureNo + 1, acked := false, since := 0
              state := .stalled, stalls := s.recorder[n].stalls + 1 }
          else
            { s.recorder[n] with
              since := satInc 65535 s.recorder[n].since, state := .stalled, stalls := s.recorder[n].stalls + 1 }) ∧
        t.raises n .recordViolation = s.raises n .recordViolation + (if s.recorder[n].acked then 1 else 0) ∧
        (t.svcCond n .recordFatal).live = ((s.svcCond n .recordFatal).live || !s.recorder[n].acked) ∧
        t.raises n .recordFatal =
          s.raises n .recordFatal +
            (if s.recorder[n].acked = false ∧ (s.svcCond n .recordFatal).live = false then 1 else 0)) ∧
  (∀ (s : State) (x : ExtId) (b : List Byte), s.powered = true →
    (s.isLinked = true → s.mover.work.reading ≠ some x) →
    (s.isLinked = false → s.carries = false ∨ s.mover.late ≠ some x) →
    exec (.descriptorReadComplete x b) s = .next s) ∧
  ∀ (s : State) (x : ExtId) (b : List Byte), s.powered = true → s.ctl.link = .unlinking → s.mover.late = some x →
    exec (.descriptorReadComplete x b) s =
      .next { s with ctl := { s.ctl with consecutive := 0 }, mover := { s.mover with late := none } }

/-- DESCRIPTOR_READ_COMPLETE at a block boundary and in a last-block test (R148, R149, R152): HOLD, then DRAINING, then a
changed base or size closes the fill with that cause; else the turn goes on. The test of the fill's last block reads every
other entry of the chain with which its walk began, under the recorder policy of that walk (R139), and EXTENT_WARNING is
raised when none of them was writable, at once where the chain has no other entry. A turn that ends gives way to the next
re-test that waits. -/
def Obligations.BoundaryRead : Prop :=
  (∀ (s : State) (n : Svc) (x : ExtId) (resume : Bool) (b : List Byte), s.powered = true → s.isLinked = true →
    s.mover.work = .boundaryRead n x resume → n ∉ s.mover.retests →
    let d := parseDescriptor b
    let e := s.extents[x]
    let moved := d.base ≠ e.base ∨ d.code ≠ e.code
    let last := e.units + 32 = 32 * (e.code + 1) ∧ e.lastBlock = false
    ∃ t, exec (.descriptorReadComplete x b) s = .next t ∧
      (d.hold = true ∨ d.draining = true ∨ moved →
        t.extents[x] =
          { e with
            state := .full
            cause := some (if d.hold then .hold else if d.draining then .draining else .moved) } ∧
        t.recorder[n] = { s.recorder[n] with state := .ready, current := none, boundary := false } ∧
        t.mover =
          { s.mover with work := .closeUpdate n x, updates := s.mover.updates ++ [⟨x, t.extents[x], false⟩] }) ∧
      (d.hold = false → d.draining = false → ¬moved → ¬last →
        t.extents = s.extents ∧ t.recorder[n] = { s.recorder[n] with boundary := false } ∧
        if resume then t.mover = { s.mover with work := .unitWrite n } else TurnEnded s.mover t) ∧
      (d.hold = false → d.draining = false → ¬moved → last →
        (∀ y ys, (s.recorder[n].walkChain.filter fun z => z ≠ x) = y :: ys →
          t.extents = s.extents ∧ t.mover = { s.mover with work := .lastBlock n x y ys false resume }) ∧
        ((∀ z ∈ s.recorder[n].walkChain, z = x) →
          t.extents[x] = { e with lastBlock := true } ∧
          t.raises n .extentWarning = s.raises n .extentWarning + 1 ∧
          if resume then t.mover = { s.mover with work := .unitWrite n } else TurnEnded s.mover t))) ∧
  ∀ (s : State) (n : Svc) (x y : ExtId) (rest : List ExtId) (found write : Bool) (b : List Byte), s.powered = true →
    s.isLinked = true → s.mover.work = .lastBlock n x y rest found write →
    let found' := found || decide (s.writableTest n s.recorder[n].walkOverwrite y (parseDescriptor b) = .writable)
    ∃ t, exec (.descriptorReadComplete y b) s = .next t ∧
      (∀ z zs, rest = z :: zs →
        t.mover = { s.mover with work := .lastBlock n x z zs found' write } ∧ t.panel = s.panel) ∧
      (rest = [] →
        t.extents[x] = { s.extents[x] with lastBlock := true } ∧
        (if write then t.mover = { s.mover with work := .unitWrite n } else TurnEnded s.mover t) ∧
        t.raises n .extentWarning = s.raises n .extentWarning + (if found' then 0 else 1))

/-- DESCRIPTOR_UPDATE_COMPLETE (R138, R145, R147, R148): the oldest update of x in flight reaches host memory, its state
field after every other field, and no other byte changes; the Mover goes on from the update it waited for: after an owed
one to what its turn begins with next, after an opening to its unit or, with one block, to the last-block test, after a
close to the next turn. A descriptor holds the record's fields at their places (R203). A report of an update that is not
in flight has no effect (the model's choice, assumption 1). -/
def Obligations.DescriptorUpdate : Prop :=
  (∀ (s : State) (x : ExtId) (u : DescUpdate) (us vs : List DescUpdate), s.powered = true → s.carries = true →
    s.mover.updates = us ++ u :: vs → u.extent = x → (∀ v ∈ us, v.extent ≠ x) →
    let ps := s.descPieces x u.record
    ∃ t, exec (.descriptorUpdateComplete x) s = .next t ∧ t.host = s.host.writePieces ps ∧ SameOutside ps s t ∧
      (∀ p ∈ ps, t.holds p) ∧ t.mover.updates = us ++ vs ∧ t.ctl = { s.ctl with consecutive := 0 } ∧
      (s.isLinked = false → t.mover = { s.mover with updates := us ++ vs } ∧ t.recorder = s.recorder) ∧
      (s.isLinked = true → ∀ n,
        let m := { s.mover with updates := us ++ vs }
        let r := s.recorder[n]
        (s.mover.work = .owedUpdate n x →
          t.recorder[n].owed = none ∧
          (∀ y, r.current = some y →
            t.mover = { m with work := if r.boundary then .boundaryRead n y true else .unitWrite n }) ∧
          (r.current = none → (s.sheetOf n).chain = [] → TurnEnded m t) ∧
          ∀ y ys, r.current = none → walkOrder (s.sheetOf n).chain r.cursor = y :: ys →
            t.mover = { m with work := .walk n false (s.sheetOf n).overwrite y ys } ∧
            t.recorder[n].walkChain = (s.sheetOf n).chain ∧ t.recorder[n].walkOverwrite = (s.sheetOf n).overwrite) ∧
        (∀ retest, s.mover.work = .openUpdate n x retest →
          (s.extents[x].code ≠ 0 → retest = true → TurnEnded m t) ∧
          (∀ y ys, s.extents[x].code = 0 → (r.walkChain.filter fun z => z ≠ x) = y :: ys →
            t.mover = { m with work := .lastBlock n x y ys false (!retest) }) ∧
          (s.extents[x].code = 0 → (∀ z ∈ r.walkChain, z = x) →
            t.extents[x] = { s.extents[x] with lastBlock := true } ∧
            t.raises n .extentWarning = s.raises n .extentWarning + 1 ∧
            if retest then TurnEnded m t else t.mover = { m with work := .unitWrite n })) ∧
        (s.mover.work = .openUpdate n x false → s.extents[x].code ≠ 0 →
          t.mover.work = .unitWrite n ∧ t.recorder = s.recorder) ∧
        (s.mover.work = .boundaryUpdate n x → t.mover.work = .boundaryRead n x false ∧ t.recorder = s.recorder) ∧
        (s.mover.work = .closeUpdate n x →
          TurnEnded m t ∧ (s.mover.retests = [] → t.mover.work = .idle ∧ t.recorder = s.recorder)))) ∧
  (∀ (s : State) (x : ExtId) (e : Extent),
    (s.descPieces x e).getLast? = some ⟨s.area (0x41000 + x.val * 0x80 + 32), le 1 e.state.code⟩ ∧
    PutsAll (s.descPieces x e) (s.area (0x41000 + x.val * 0x80))
      ([(32, 1, e.state.code), (33, 1, (e.owner.map Fin.val).getD 0xFF), (34, 1, (e.cause.map CloseCause.code).getD 0),
        (35, 1, e.marks.length + if e.overflowed then 128 else 0), (36, 4, e.generation.toNat), (40, 2, e.units),
        (48, 8, wideField e.first), (56, 8, wideField e.last), (64, 8, wideField e.firstStamp),
        (72, 8, wideField e.lastStamp)] ++
       (List.range 6).flatMap fun i =>
         [(80 + 8 * i, 4, (e.marks[i]?.map fun k => k.segId.toNat).getD 0),
          (84 + 8 * i, 2, (e.marks[i]?.map SegMark.offset).getD 0),
          (86 + 8 * i, 1, (e.marks[i]?.map fun k => k.slot.val).getD 0),
          (87 + 8 * i, 1, (e.marks[i]?.map fun k => k.kind.code).getD 0)])) ∧
  ∀ (s : State) (x : ExtId), s.powered = true → s.carries = false ∨ (∀ u ∈ s.mover.updates, u.extent ≠ x) →
    exec (.descriptorUpdateComplete x) s = .next s

/-- UNIT_WRITE_COMPLETE (R132, R137, R146, R148, R151): the head unit's 2,048 bytes stand at the fill's next place and no
other byte of host memory changes; the unit leaves its queue and is counted; the record takes its sequence, its stamp and
the marks due; a full fill closes FILLED, a boundary hands the update, else the turn ends; while UNLINKING the fill then
closes, with cause UNLINK unless it is full (R157), and that no last-block test is made then, at capacity less 32 units
either, is the model's choice (assumption 29). A unit begins with its header, whose fields stand at their places (R122 to
R125, R203). A write past the host address space stops the model by name (its choice, assumption 25), and a report with no
unit write in flight has no effect (assumption 1). -/
def Obligations.UnitWrite : Prop :=
  (∀ (s : State) (n : Svc) (x : ExtId) (u : SpoolUnit) (us : List SpoolUnit), s.powered = true → s.carries = true →
    s.mover.work = .unitWrite n → s.recorder[n].current = some x → s.proxy[n].queue = u :: us →
    u.payload.length = 1984 → s.extents[x].base + 2048 * s.extents[x].units + 2048 ≤ 2 ^ 64 →
    let e := s.extents[x]
    let piece : Piece := ⟨e.base + 2048 * e.units, u.bytes⟩
    ∃ t, exec .unitWriteComplete s = .next t ∧ piece.bytes.length = 2048 ∧ t.holds piece ∧ SameOutside [piece] s t ∧
      t.proxy[n] = { s.proxy[n] with queue := us, archived := s.proxy[n].archived + 1 } ∧
      t.extents[x].units = e.units + 1 ∧ t.extents[x].last = some u.header.seq ∧
      t.extents[x].lastStamp = u.header.time ∧
      t.extents[x].first = (if e.units = 0 then some u.header.seq else e.first) ∧
      t.extents[x].firstStamp = (if e.units = 0 then u.header.time else e.firstStamp) ∧
      t.extents[x].generation = e.generation ∧ t.extents[x].owner = e.owner ∧
      (let due := s.recorder[n].marks.takeWhile fun m => m.seq ≤ u.header.seq
       t.recorder[n].marks = s.recorder[n].marks.drop due.length ∧
       (e.marks.length ≤ 6 →
         t.extents[x].marks = e.marks ++ (due.take (6 - e.marks.length)).map fun m => ⟨m.segId, e.units, m.slot, m.kind⟩) ∧
       (t.extents[x].overflowed = true ↔ e.overflowed = true ∨ due ≠ [] ∧ 6 < e.marks.length + due.length)) ∧
      (s.isLinked = true → s.mover.retests = [] → e.state = .filling →
        ((e.units + 1) % 32 ≠ 0 → t.mover = { s.mover with work := .idle } ∧ t.extents[x].state = .filling) ∧
        ((e.units + 1) % 32 = 0 → e.units + 1 ≠ 32 * (e.code + 1) →
          t.mover.work = .boundaryUpdate n x ∧ t.recorder[n].boundary = true ∧
          t.mover.updates = s.mover.updates ++ [⟨x, t.extents[x], false⟩]) ∧
        (e.units + 1 = 32 * (e.code + 1) →
          t.extents[x].state = .full ∧ t.extents[x].cause = some .filled ∧ t.recorder[n].current = none ∧
          t.recorder[n].state = .ready ∧ t.mover.work = .closeUpdate n x ∧
          t.mover.updates = s.mover.updates ++ [⟨x, t.extents[x], false⟩])) ∧
      (s.isLinked = true → (e.units + 1) % 32 ≠ 0 → TurnEnded s.mover t) ∧
      (s.isLinked = false → (∀ m : Svc, m ≠ n → s.recorder[m].current ≠ some x) →
        t.mover.work = .idle ∧ t.recorder[n].current = none ∧ t.recorder[n].state = .ready ∧
        t.extents[x].state = .full ∧
        t.extents[x].cause =
          (if (e.units + 1) % 32 = 0 ∧ e.units + 1 = 32 * (e.code + 1) then some .filled else some .unlink))) ∧
  (∀ (u : SpoolUnit) (a : Nat),
    let h := u.header
    h.bytes.length = 64 ∧ u.bytes = h.bytes ++ u.payload ∧
    PutsAll [⟨a, u.bytes⟩] a
      [(0, 1, h.service.val), (1, 1, h.flagBits), (2, 2, h.length), (4, 1, h.caption.code + if h.required then 4 else 0),
       (5, 1, h.live.toNat), (6, 2, levelField h.level), (8, 8, h.seq), (16, 8, wideField h.time),
       (24, 8, h.proxyStamp.toNat)] ∧
    (∀ i, h.outerId = some i → Puts [⟨a, u.bytes⟩] a 32 4 i.toNat) ∧
    (∀ i, h.innerId = some i → Puts [⟨a, u.bytes⟩] a 36 4 i.toNat) ∧
    h.flagBits < 64 ∧
    (List.range 6).map h.flagBits.testBit = [h.key, h.cut, h.flywheel, h.held, h.outerId.isSome, h.innerId.isSome] ∧
    h.live.toNat < 32 ∧
    (List.range 5).map h.live.toNat.testBit =
      [h.live.feedLoss, h.live.audioSilence, h.live.captionLoss, h.live.captionIdle, h.live.recordFatal]) ∧
  (∀ (s : State) (n : Svc) (x : ExtId), s.powered = true → s.carries = true → s.mover.work = .unitWrite n →
    s.recorder[n].current = some x → s.proxy[n].queue ≠ [] →
    2 ^ 64 < s.extents[x].base + 2048 * s.extents[x].units + 2048 →
    exec .unitWriteComplete s = .fault .hostAddress) ∧
  ∀ s : State, s.powered = true → s.carries = false ∨ (∀ n, s.mover.work ≠ .unitWrite n) →
    exec .unitWriteComplete s = .next s

/-! ### Condition panels and alerts (chapter 9) -/

/-- CAPTURE_ACK_READ and ACK_READ (R154, R164): an equal capture number acknowledges the capture and ends RECORD_FATAL; an
ack count is always taken, and the read that ends an outstanding state also stops the timer and clears the reminder mark,
whose write is queued (R165, R171); one read where the condition was not outstanding does neither. Outside LINKED neither
acts; while UNLINKING a read that was in flight ends a row of failures (the model's choice, assumption 4). -/
def Obligations.HostAcks : Prop :=
  (∀ (s : State) (n : Svc) (ack : BitVec 16), s.powered = true → s.isLinked = true →
    ∃ t, exec (.captureAckRead n ack) s = .next t ∧ t.ctl = { s.ctl with consecutive := 0 } ∧
      (s.recorder[n].acked = false → ack = s.recorder[n].captureNo →
        t.recorder[n] = { s.recorder[n] with acked := true } ∧ (t.svcCond n .recordFatal).live = false ∧
        (t.svcCond n .recordFatal).raises = (s.svcCond n .recordFatal).raises ∧
        OtherCondsSame n [.recordFatal] s t) ∧
      (s.recorder[n].acked = true ∨ ack ≠ s.recorder[n].captureNo →
        t = { s with ctl := { s.ctl with consecutive := 0 } })) ∧
  (∀ (s : State) (c : CondRef) (ack : BitVec 16), s.powered = true → s.isLinked = true →
    let settled := (s.cond c).raises ≠ (s.cond c).acked ∧ (s.cond c).raises = ack
    ∃ t, exec (.ackRead c ack) s = .next t ∧ t.ctl = { s.ctl with consecutive := 0 } ∧
      t.cond c =
        (if settled then
          { s.cond c with
            acked := ack, timer := none, mark := false
            owed := (s.cond c).owed && !(s.cond c).mark }
        else { s.cond c with acked := ack }) ∧
      (∀ n k, c = .service n k →
        t.live[n] =
          { s.live[n] with
            queue :=
              if settled ∧ (s.cond c).mark = true then dueFirst k s.live[n].queue
              else s.live[n].queue }) ∧
      (∀ k, c = .device k →
        t.header =
          if settled ∧ (s.cond c).mark = true then headerFirst k s.handedHeader else s.header) ∧
      ∀ r, r ≠ c → t.cond r = s.cond r) ∧
  ∀ (s : State) (n : Svc) (c : CondRef) (ack : BitVec 16), s.powered = true → s.isLinked = false →
    let after := if s.carries then { s with ctl := { s.ctl with consecutive := 0 } } else s
    exec (.captureAckRead n ack) s = .next after ∧ exec (.ackRead c ack) s = .next after

/-- REMINDER_TIMER_EXPIRY and DEVICE_PRIORITY_READ (R165, R167, R171, R172): a timer that runs out stops, and marks its
condition while it is outstanding; the device priorities are those read, at most 7, and the entry of each that changed is
queued. The Alert Unit evaluates at a reminder mark, at a changed device priority and at each raise (R167). A report of a
timer that does not run has no effect (assumption 1). Outside LINKED a read of them does not act; while UNLINKING it ends
a row of failures (these are the model's choices, assumption 4). What a raise does to its entry (R162): the raise count
goes up, the last stamp is service time, absent in SEEKING, and so is the first where the condition was not outstanding; a
device condition takes no stamp. A change of an entry makes its first queued write the one that carries it, or queues one
(R171); in the header's queue behind the cause of an alert that waits for no entry (R168 step 2, R196). -/
def Obligations.RemindersAndPriorities : Prop :=
  (∀ (s : State) (n : Svc) (c : SvcCond), s.powered = true → s.isLinked = true →
    (s.svcCond n c).timer.isSome = true →
    ∃ t, exec (.reminderTimerExpiry n c) s = .next t ∧
      t.svcCond n c =
        (if (s.svcCond n c).raises = (s.svcCond n c).acked then { s.svcCond n c with timer := none }
        else { s.svcCond n c with timer := none, mark := true, owed := false }) ∧
      t.live[n] =
        { s.live[n] with
          queue :=
            if (s.svcCond n c).raises = (s.svcCond n c).acked then s.live[n].queue
            else dueFirst c s.live[n].queue } ∧
      ((s.svcCond n c).raises = (s.svcCond n c).acked → t.alert = s.alert) ∧
      ((s.svcCond n c).raises ≠ (s.svcCond n c).acked →
        t.alert = { s.alert with progress := t.alert.progress } ∧ Evaluates s t) ∧
      OtherCondsSame n [c] s t) ∧
  (∀ (s : State) (n : Svc) (c : SvcCond), s.powered = true →
    s.isLinked = false ∨ (s.svcCond n c).timer = none → exec (.reminderTimerExpiry n c) s = .next s) ∧
  (∀ (s : State) (a b c : Byte), s.powered = true → s.isLinked = true →
    ∃ t, exec (.devicePriorityRead a b c) s = .next t ∧ t.ctl = { s.ctl with consecutive := 0 } ∧
      t.devPriority = #v[min 7 a.toNat, min 7 b.toNat, min 7 c.toNat] ∧
      (∀ d : DevCond,
        t.cond (.device d) =
          if t.devPriority[devIndex d] = s.devPriority[devIndex d] then s.cond (.device d)
          else { s.cond (.device d) with owed := false }) ∧
      t.header =
        (if t.devPriority = s.devPriority then s.header else s.handedHeader) ++
          (allDevConds.filter fun d =>
            decide (t.devPriority[devIndex d] ≠ s.devPriority[devIndex d]) && !s.header.contains (.entry d)).map
            HeaderItem.entry ∧
      (t.devPriority = s.devPriority → t.alert = s.alert) ∧
      (t.devPriority ≠ s.devPriority →
        t.alert = { s.alert with progress := t.alert.progress } ∧ Evaluates s t)) ∧
  (∀ (s : State) (a b c : Byte), s.powered = true → s.isLinked = false →
    exec (.devicePriorityRead a b c) s =
      .next (if s.carries then { s with ctl := { s.ctl with consecutive := 0 } } else s)) ∧
  (∀ (s : State) (n : Svc) (c : SvcCond),
    let now := if s.feed[n].lock = .seeking then none else some s.feed[n].time
    let e := s.svcCond n c
    (s.raise n c).svcCond n c =
      { e with
        raises := e.raises + 1, last := now, first := if e.raises ≠ e.acked then e.first else now
        owed := e.owed && !s.isLinked } ∧
    OtherCondsSame n [c] s (s.raise n c) ∧ Touches [.panel, .live, .alert] s (s.raise n c) ∧
    (s.raise n c).live[n] =
      { s.live[n] with queue := if s.isLinked then dueFirst c s.live[n].queue else s.live[n].queue } ∧
    (s.raise n c).alert = { s.alert with progress := (s.raise n c).alert.progress } ∧ Evaluates s (s.raise n c)) ∧
  (∀ (s : State) (c : DevCond),
    let e := s.cond (.device c)
    (s.raiseDevice c).cond (.device c) =
      { e with
        raises := e.raises + 1, last := none, first := if e.raises ≠ e.acked then e.first else none
        owed := e.owed && !s.isLinked } ∧
    (∀ d : DevCond, d ≠ c → (s.raiseDevice c).cond (.device d) = s.cond (.device d)) ∧
    Touches [.devPanel, .header, .alert] s (s.raiseDevice c) ∧
    (s.raiseDevice c).header = (if s.isLinked then headerFirst c s.handedHeader else s.header) ∧
    (s.raiseDevice c).alert = { s.alert with progress := (s.raiseDevice c).alert.progress } ∧
    Evaluates s (s.raiseDevice c)) ∧
  (∀ s : State,
    s.handedHeader =
      if s.isLinked = true ∧ (s.alert.progress.map AlertRun.waits) = some [] ∧ .alert ∉ s.header then s.header ++ [.alert]
      else s.header) ∧
  (∀ (c : SvcCond) (q : List LiveItem), q.any (LiveItem.isEntry c) = false →
    dueFirst c q = q ++ [.entry c false true] ∧
    ∀ part due rest, dueFirst c (q ++ .entry c part due :: rest) = q ++ .entry c part true :: rest) ∧
  ∀ (c : DevCond) (q : List HeaderItem),
    (HeaderItem.entry c ∈ q → headerFirst c q = q) ∧ (HeaderItem.entry c ∉ q → headerFirst c q = q ++ [.entry c])

/-- ALERT_LEVEL_WRITE (R167, R168 step 1, R170): ALERT_LEVEL takes bits 0 to 2 and the Alert Unit evaluates: with an alert
in progress or without the link nothing begins; else an alert begins at the highest pending priority when it is above
ALERT_LEVEL, covers every condition pending at it with its raise count, names the first of them as its cause, and waits
for the entries whose writes are owed. That these are the writes of its step 2, and no entry changed later is, is the
model's choice (assumption 7). -/
def Obligations.AlertChoice : Prop :=
  ∀ (s : State) (v : BitVec 64), s.powered = true →
    ∃ t, exec (.alertLevelWrite v) s = .next t ∧
      t.alert = { s.alert with level := v.setWidth 3, progress := t.alert.progress } ∧
      (s.isLinked = false ∨ s.alert.progress.isSome = true → t.alert.progress = s.alert.progress) ∧
      (s.isLinked = true → s.alert.progress = none →
        (∀ r, s.isPending r = true → s.priority r ≤ t.alert.level.toNat) → t.alert.progress = none) ∧
      ∀ r, s.isLinked = true → s.alert.progress = none → s.isPending r = true → t.alert.level.toNat < s.priority r →
        (∀ q, s.isPending q = true →
          s.priority q < s.priority r ∨ s.priority q = s.priority r ∧ causeRank r ≤ causeRank q) →
        ∃ covered waits, t.alert.progress = some ⟨s.priority r, r, covered, waits⟩ ∧
          (∀ q noted,
            (q, noted) ∈ covered ↔ s.isPending q = true ∧ s.priority q = s.priority r ∧ noted = (s.cond q).raises) ∧
          ∀ q, q ∈ waits ↔
            (s.cond q).owed = true ∨ (∃ c, q = .device c ∧ .entry c ∈ s.header) ∨
              ∃ n c part, q = .service n c ∧ .entry c part true ∈ s.live[n].queue

/-- ALERT_CAUSE_WRITTEN (R165, R167, R168, R169, R171, R196): the cause of the alert's number, level, panel and index
stands in host memory, behind the writes handed for the header before it; where the alert still waited for entries, their
writes with those handed before them for the same record stand there too, and no other byte changes. Every condition of
the set is announced at the noted count, its mark cleared, its timer loaded and its entry queued again; ALERT_LEVEL takes
the level and one message of it is sent; the alert ends, and the one in progress is that of the evaluation at its end.
While UNLINKING a cause write that was in flight at the entry lands with the header's writes before it and nothing else
follows (assumption 26). What an alert in progress hands: the entries of those it waits for whose writes had failed, or
its cause, one time, once it waits for none. When it hands them, steps 2 to 5 of R168 as one event, (assumption 7), the
entries landing with the cause (assumption 5) and no effect without a cause write in flight (assumption 1) are the model's
choices. -/
def Obligations.AlertWritten : Prop :=
  (∀ (s : State) (a : AlertRun), s.powered = true → s.isLinked = true → s.alert.progress = some a →
    (a.covered.map Prod.fst).Nodup →
    let u := s.handAlert
    let rest := if a.waits = [] then u.header.drop (u.header.idxOf .alert + 1) else []
    ∃ t, exec .alertCauseWritten s = .next t ∧
      (let cause : Piece :=
         ⟨s.area 64,
           le 2 (s.alert.number + 1).toNat ++ le 1 a.level ++ le 1 (panelCode a.cause) ++ le 1 (indexCode a.cause) ++
             [0, 0, 0]⟩
       t.host = s.host.writePieces (s.alertLanding a ++ [cause]) ∧ SameOutside (s.alertLanding a ++ [cause]) s t ∧
       t.holds cause ∧
       ∀ r ∈ a.waits, s.entryOwes r = true → ∀ p ∈ s.entryPieces r, p ∈ s.alertLanding a) ∧
      (∀ n : Svc,
        let k := if a.waits = [] then 0 else u.alertReach a n
        let left := (u.live[n].queue.take k).filter LiveItem.isMark ++ u.live[n].queue.drop k
        t.live[n].count = s.live[n].count ∧
        t.live[n].queue.filter (fun i => !i.isCond) = left.filter (fun i => !i.isCond) ∧
        ((∀ c, CondRef.service n c ∉ a.covered.map Prod.fst) → t.live[n].queue = left)) ∧
      t.header =
        rest ++ (a.covered.filterMap fun q =>
          match q.1 with
          | .device c => if HeaderItem.entry c ∈ rest then none else some (.entry c)
          | .service _ _ => none) ∧
      (∀ r ∈ a.covered.map Prod.fst, t.entryQueued r = true) ∧
      t.alert =
        { level := BitVec.ofNat 3 a.level, number := s.alert.number + 1, causeLevel := a.level
          causePanel := panelCode a.cause, causeIndex := indexCode a.cause, progress := t.alert.progress
          abandoned := s.alert.abandoned, sent := s.alert.sent ++ [a.level] } ∧
      t.Evaluated ∧ t.ctl = { s.ctl with consecutive := 0 } ∧
      (∀ n c noted, (CondRef.service n c, noted) ∈ a.covered →
        t.svcCond n c =
          { s.svcCond n c with
            announced := noted, mark := false, owed := false
            timer := if (s.sheetOf n).reminder = 0 then (s.svcCond n c).timer else some (s.sheetOf n).reminder }) ∧
      (∀ c noted, (CondRef.device c, noted) ∈ a.covered →
        t.cond (.device c) =
          { s.cond (.device c) with announced := noted, mark := false, owed := false }) ∧
      ∀ r, r ∉ a.covered.map Prod.fst → t.cond r = u.cond r) ∧
  (∀ s : State,
    Touches [.panel, .devPanel, .live, .header] s s.handAlert ∧
    (s.isLinked = false ∨ s.alert.progress = none → s.handAlert = s) ∧
    ∀ a, s.isLinked = true → s.alert.progress = some a →
      let again := fun r => (s.cond r).owed && a.waits.contains r
      (∀ r, s.handAlert.cond r = { s.cond r with owed := (s.cond r).owed && !a.waits.contains r }) ∧
      (∀ n : Svc,
        s.handAlert.live[n] =
          { s.live[n] with
            queue := (allSvcConds.filter fun c => again (.service n c)).foldl (fun q c => dueFirst c q) s.live[n].queue }) ∧
      (a.waits ≠ [] →
        s.handAlert.header = (allDevConds.filter fun c => again (.device c)).foldl (fun q c => headerFirst c q) s.header) ∧
      (a.waits = [] → s.handAlert.header = if .alert ∈ s.header then s.header else s.header ++ [.alert])) ∧
  (∀ (p : LiveItem → Bool) (q : List LiveItem),
    (∀ i ∈ q.drop (lastPlace p q), p i = false) ∧
    (0 < lastPlace p q → ((q.take (lastPlace p q)).getLast?.map p) = some true)) ∧
  (∀ (s : State) (q rest : List HeaderItem) (p : Piece), s.powered = true → s.ctl.link = .unlinking →
    s.header = q ++ .cause p :: rest → q.any HeaderItem.isCause = false →
    ∃ t, exec .alertCauseWritten s = .next t ∧ Touches [.host, .header, .live, .ctl] s t ∧
      t.host = s.host.writePieces (q.flatMap s.headerPieces ++ [p]) ∧ t.holds p ∧
      SameOutside (q.flatMap s.headerPieces ++ [p]) s t ∧ t.header = rest ∧ t.live = s.live ∧
      t.ctl = { s.ctl with consecutive := 0 }) ∧
  ∀ s : State, s.powered = true →
    s.isLinked = true ∧ s.alert.progress = none ∨
      s.isLinked = false ∧ (s.carries = false ∨ s.header.any HeaderItem.isCause = false) →
    exec .alertCauseWritten s = .next s

/-! ### Sheets and the store (chapter 10) -/

/-- SHEET_STAGING (R176 to R182, R166, R68, R69, R74, R99, R20, R28, R48): while LINKED an equal revision and a changed
one do nothing; a sheet that fails a check is refused with its cause and one raise; a sound one is adopted, and each group
that differs reaches its block (GroupsHanded): enable switched off puts the lane in SEEKING and closes every OPEN segment
with EARLY_CLOSE, its writes handed, its context joining the integration queue and its END mark requested (R53, R96,
R150); a new mix or C breaks the runs of the rolling accumulator and of every accumulating context of the service and
flags the open dockets; a new page or language loses the stream; a new rate clears the mismatch latch; the requirement in
force is taken afresh; a new interval of 0 stops the service's timers and clears its marks, every entry whose priority
changed is queued, and the Alert Unit has evaluated at the new priorities. That the blocks take an adoption at one point,
enable first and the alerting group last, is the model's choice (assumption 28), and so is that the adopted revision is
the one read around the body, that a docket without a context stands CLOSED when its writes are handed (assumption 29) and
that a dropped slot takes no write (assumption 9). Outside LINKED nothing is staged; while UNLINKING a read that was in
flight ends a row of failures (assumption 4). -/
def Obligations.SheetStaging : Prop :=
  (∀ (s : State) (n : Svc) (r : SheetRead), s.powered = true → s.isLinked = true →
    let old := s.sheetOf n
    let new := parseSheet r.before r.body
    let fits := rawQuota r.body ≤ old.quota ∨ rawQuota r.body + s.quotaOthers n ≤ 1048576
    ∃ t, exec (.sheetStaging n r) s = .next t ∧
      (some r.before = s.sheet[n].lastTaken ∨ r.before ≠ r.after →
        t = { s with ctl := { s.ctl with consecutive := 0 } }) ∧
      (some r.before ≠ s.sheet[n].lastTaken → r.before = r.after →
        ∀ cause, sheetStructure r.body = some cause ∨ sheetStructure r.body = none ∧ ¬fits ∧ cause = .quotaSum →
          t.sheet[n] =
            { s.sheet[n] with lastTaken := some r.before, refused := some r.before, cause := some cause } ∧
          t.raises n .sheetFault = s.raises n .sheetFault + 1 ∧ OtherCondsSame n [.sheetFault] s t ∧
          Touches [.sheet, .panel, .live, .alert, .ctl] s t) ∧
      (some r.before ≠ s.sheet[n].lastTaken → r.before = r.after → sheetStructure r.body = none → fits →
        t.sheet[n] =
          { s.sheet[n] with
            adopted := new, source := .host, lastTaken := some r.before, clamped := sheetClamps r.body } ∧
        t.raises n .sheetFault = s.raises n .sheetFault ∧
        GroupsHanded n old new s t ∧
        (old.enable = false ∨ new.enable = true → ∀ x : CtxId,
          t.pool[x] =
            if (old.mix ≠ new.mix ∨ old.calibration ≠ new.calibration) ∧ s.pool[x].ownedBy n = true ∧
                s.pool[x].state = .accumulating then
              { s.pool[x] with acc := Accumulator.fresh }
            else s.pool[x]) ∧
        (∀ c : SvcCond,
          (old.priorities[svcIndex c] ≠ new.priorities[svcIndex c] → t.entryQueued (.service n c) = true)) ∧
        (old.priorities ≠ new.priorities →
          t.alert.progress.isSome = true ∨ ∀ q, t.isPending q = true → t.priority q ≤ t.alert.level.toNat))) ∧
  ∀ (s : State) (n : Svc) (r : SheetRead), s.powered = true → s.isLinked = false →
    exec (.sheetStaging n r) s =
      .next (if s.carries then { s with ctl := { s.ctl with consecutive := 0 } } else s)

/-- A sheet as adopted holds values that every block can use (R177, R179 and the table of section 10.1): a sound
structure, every field as the host wrote it where that lies in its range and at the nearest end where it does not, the
flags by their codes; the clamp indication is set exactly when a numeric field was out of its range or a flag byte held
neither 0 nor 1. That a flag byte above 1, the recorder policy and the ceiling-present mark among them, counts as out of
range, that any other than 0 is read as set, and PRESERVE as every policy but 1, are the model's inference and presumption
(assumption 19). -/
def Obligations.SheetInRange : Prop :=
  ∀ (rev : BitVec 32) (b : List Byte), sheetStructure b = none →
    let sh := parseSheet rev b
    sh.revision = rev ∧ sh.enable = decide (field b 4 1 ≠ 0) ∧ sh.rate = field b 5 1 ∧
    (sh.rate = 25 ∨ sh.rate = 30 ∨ sh.rate = 50 ∨ sh.rate = 60) ∧
    sh.mix.length = field b 6 1 ∧ 1 ≤ sh.mix.length ∧ sh.mix.length ≤ 8 ∧ (sh.mix.map MixChannel.feed).Nodup ∧
    (∀ (i : Nat) (c : MixChannel), sh.mix[i]? = some c →
      c.feed.val = field b (8 + 4 * i) 1 ∧ c.weight = min 511 (field b (10 + 4 * i) 2)) ∧
    sh.chain.length = field b 7 1 ∧ sh.chain ≠ [] ∧ sh.chain.length ≤ 16 ∧ sh.chain.Nodup ∧
    (∀ (i : Nat) (x : ExtId), sh.chain[i]? = some x → x.val = field b (64 + 2 * i) 2) ∧
    sh.quota = field b 60 4 ∧ sh.quota ≤ 1048576 ∧
    sh.calibration = max (-200) (min 200 (fieldInt16 b 40)) ∧ sh.gate = max 10 (min 2000 (fieldInt16 b 42)) ∧
    sh.silenceThreshold = max (-9999) (min 3999 (fieldInt16 b 44)) ∧
    sh.silenceHold = max 1 (min 6000 (field b 46 2)) ∧ sh.clipRun = max 1 (min 16 (field b 48 1)) ∧
    sh.page = max 1 (min 8 (field b 49 1)) ∧ sh.livenessWindow = max 1 (min 250 (field b 50 1)) ∧
    sh.unscheduled = decide (field b 51 1 ≠ 0) ∧ sh.contentWindow = field b 52 2 ∧
    sh.lateAllowance = min 1500 (field b 54 2) ∧ sh.lang.c0.toNat = field b 56 1 ∧ sh.lang.c1.toNat = field b 57 1 ∧
    sh.lang.c2.toNat = field b 58 1 ∧ sh.overwrite = decide (field b 59 1 = 1) ∧
    sh.reminder = min 3600 (field b 112 2) ∧ (∀ i : Fin 16, sh.priorities[i] = min 7 (field b (96 + i.val) 1)) ∧
    (∀ o r, (o, r) ∈ [(128, sh.programme), (144, sh.continuity), (160, sh.commercial), (176, sh.promotion)] →
      r.target = max (-9999) (min 3999 (fieldInt16 b o)) ∧ r.tolerance = max 0 (min 2000 (fieldInt16 b (o + 2))) ∧
      r.ceiling =
        (if field b (o + 4) 1 = 0 then none else some (max (-9999) (min 3999 (fieldInt16 b (o + 6))))) ∧
      r.required = decide (field b (o + 5) 1 ≠ 0) ∧ r.permille = min 1000 (field b (o + 8) 2) ∧
      r.minCount = min 1048575 (field b (o + 12) 4)) ∧
    (sheetClamps b = true ↔
      fieldInt16 b 40 < -200 ∨ 200 < fieldInt16 b 40 ∨ fieldInt16 b 42 < 10 ∨ 2000 < fieldInt16 b 42 ∨
      fieldInt16 b 44 < -9999 ∨ 3999 < fieldInt16 b 44 ∨ field b 46 2 = 0 ∨ 6000 < field b 46 2 ∨
      field b 48 1 = 0 ∨ 16 < field b 48 1 ∨ field b 49 1 = 0 ∨ 8 < field b 49 1 ∨ field b 50 1 = 0 ∨
      250 < field b 50 1 ∨ 1500 < field b 54 2 ∨ 3600 < field b 112 2 ∨
      (∃ i, i < sh.mix.length ∧ 511 < field b (10 + 4 * i) 2) ∨ (∃ i, i < 16 ∧ 7 < field b (96 + i) 1) ∨
      (∃ o ∈ [128, 144, 160, 176],
        fieldInt16 b o < -9999 ∨ 3999 < fieldInt16 b o ∨ fieldInt16 b (o + 2) < 0 ∨ 2000 < fieldInt16 b (o + 2) ∨
        field b (o + 4) 1 ≠ 0 ∧ (fieldInt16 b (o + 6) < -9999 ∨ 3999 < fieldInt16 b (o + 6)) ∨
        1000 < field b (o + 8) 2 ∨ 1048575 < field b (o + 12) 4 ∨ 1 < field b (o + 4) 1 ∨ 1 < field b (o + 5) 1) ∨
      1 < field b 4 1 ∨ 1 < field b 51 1 ∨ 1 < field b 59 1)

/-- STORE and COMMIT_COMPLETE (R187 to R189, R194, R204): STORE answers by link and store state and the wear limit;
accepted, it fixes the masked services and the sheets to be written, and with an empty mask only raises STORE_COMPLETE; at
the completion the masked stored sheets are those sheets, the count goes up by 1, its write is handed while LINKED and
STORE_COMPLETE is raised. That the mask stands in the readback of a refused STORE too (assumption 15), that the count's
write is queued with the header's others (assumption 5) and that a report without a commit has no effect (assumption 1)
are the model's choices. -/
def Obligations.StoreAndCommit : Prop :=
  (∀ (s : State) (mask : BitVec 16) (r : CmdResult), s.powered = true →
    ((s.ctl.link = .linking ∨ s.ctl.link = .unlinking ∨ s.store.commit.isSome = true) ∧ r = .busy ∨
      (s.ctl.link = .unlinked ∨ s.ctl.link = .linked) ∧ s.store.commit = none ∧ s.store.commits = 20000 ∧ r = .worn) →
    exec (.store mask) s = .next { s with ctl := { s.ctl with cmd := 3, result := r, mask := mask } }) ∧
  (∀ (s : State) (mask : BitVec 16), s.powered = true → s.ctl.link = .unlinked ∨ s.ctl.link = .linked →
    s.store.commit = none → s.store.commits ≠ 20000 →
    ∃ t, exec (.store mask) s = .next t ∧ t.ctl = { s.ctl with cmd := 3, result := .accepted, mask := mask } ∧
      t.store.stored = s.store.stored ∧ t.store.commits = s.store.commits ∧
      (mask = 0 →
        t.store.commit = none ∧
        (t.cond (.device .storeComplete)).raises = (s.cond (.device .storeComplete)).raises + 1) ∧
      (mask ≠ 0 →
        ∃ c, t.store.commit = some c ∧ c.services.Pairwise (· < ·) ∧
          (∀ n : Svc, (n ∈ c.services ↔ mask.getLsbD n.val = true) ∧ c.copies[n] = s.sheetOf n) ∧
          t.devPanel = s.devPanel)) ∧
  (∀ (s : State) (c : Commit), s.powered = true → s.store.commit = some c →
    ∃ t, exec .commitComplete s = .next t ∧ t.store.commit = none ∧ t.store.commits = s.store.commits + 1 ∧
      (∀ n : Svc,
        t.store.stored[n] = if n ∈ c.services then ⟨c.copies[n], true⟩ else s.store.stored[n]) ∧
      t.ctl = s.ctl ∧
      t.header =
        (if s.isLinked then headerFirst .storeComplete (s.handedHeader ++ [.commit (s.store.commits + 1)]) else s.header) ∧
      (t.cond (.device .storeComplete)).raises = (s.cond (.device .storeComplete)).raises + 1) ∧
  ∀ s : State, s.powered = true → s.store.commit = none → exec .commitComplete s = .next s

/-! ### Exchange Controller (chapter 11) -/

/-- LINK and UNLINK that are refused, BAD_COMMAND, EXCHANGE_BASE_WRITE and REGISTER_WRITE_IGNORED (R192 to R194): the
results by link state, LINK's check of its base, and what a write that is not taken leaves. What every register reads,
which command a host write of a register is by its offset and bits, and where the records of the exchange area lie (R192,
R193, R202). A report of BAD_COMMAND under a code that names a command has no effect (the model's choice, assumption 1).
-/
def Obligations.CommandTable : Prop :=
  (∀ s : State, s.powered = true →
    let good := s.ctl.base ≠ 0 ∧ s.ctl.base.toNat % 65536 = 0 ∧ s.ctl.base.toNat + 299008 ≤ 2 ^ 64
    (s.ctl.link = .unlinked → good →
      exec .link s =
        .next { s with
          ctl := { s.ctl with cmd := 1, result := .accepted, link := .linking, step := .header, failedSheets := [],
                              consecutive := 0, stepDone := 0 } }) ∧
    (s.ctl.link = .unlinked → ¬good →
      exec .link s = .next { s with ctl := { s.ctl with cmd := 1, result := .badBase } }) ∧
    (s.ctl.link = .linked → exec .link s = .next { s with ctl := { s.ctl with cmd := 1, result := .badState } }) ∧
    (s.ctl.link = .linking ∨ s.ctl.link = .unlinking →
      exec .link s = .next { s with ctl := { s.ctl with cmd := 1, result := .busy } } ∧
      exec .unlink s = .next { s with ctl := { s.ctl with cmd := 2, result := .busy } }) ∧
    (s.ctl.link = .unlinked →
      exec .unlink s = .next { s with ctl := { s.ctl with cmd := 2, result := .badState } })) ∧
  (∀ (s : State) (code : Byte), s.powered = true →
    (code.toNat = 0 ∨ 4 < code.toNat →
      exec (.badCommand code) s = .next { s with ctl := { s.ctl with cmd := code, result := .badState } }) ∧
    (1 ≤ code.toNat → code.toNat ≤ 4 → exec (.badCommand code) s = .next s)) ∧
  (∀ (s : State) (v : BitVec 64), s.powered = true →
    (s.ctl.link = .unlinked → exec (.exchangeBaseWrite v) s = .next { s with ctl := { s.ctl with base := v } }) ∧
    (s.ctl.link ≠ .unlinked → exec (.exchangeBaseWrite v) s = .next s)) ∧
  (∀ (s : State) (o : BitVec 16) (v : BitVec 64), s.powered = true → exec (.registerWriteIgnored o v) s = .next s) ∧
  (∀ s : State,
    s.readRegister 0x00 = 0x01010658 ∧ s.readRegister 0x08 = s.ctl.base ∧
    (let r := (s.readRegister 0x10).toNat
     r % 256 = s.ctl.cmd.toNat ∧ r / 2 ^ 8 % 256 = s.ctl.result.code ∧ r / 2 ^ 16 = s.ctl.mask.toNat) ∧
    (s.ctl.consecutive ≤ 8 → s.ctl.total ≤ 65535 →
      let r := (s.readRegister 0x18).toNat
      r % 4 = s.ctl.link.code ∧ r.testBit 2 = s.store.commit.isSome ∧ r.testBit 3 = s.ctl.faultMark ∧
      r / 2 ^ 4 % 16 = 0 ∧ r / 2 ^ 8 % 16 = s.ctl.consecutive ∧ r / 2 ^ 12 % 16 = 0 ∧ r / 2 ^ 16 = s.ctl.total) ∧
    (s.readRegister 0x20).toNat = s.alert.level.toNat ∧
    ∀ o, o ∉ [0x00, 0x08, 0x10, 0x18, 0x20] → s.readRegister o = 0) ∧
  (∀ (o : BitVec 16) (v : BitVec 64),
    (o = 0x08 → decodeRegisterWrite o v = .exchangeBaseWrite v) ∧
    (o = 0x10 →
      decodeRegisterWrite o v =
        if v.extractLsb' 0 8 = 1 then .link
        else if v.extractLsb' 0 8 = 2 then .unlink
        else if v.extractLsb' 0 8 = 3 then .store (v.extractLsb' 16 16)
        else if v.extractLsb' 0 8 = 4 then .deviceReset
        else .badCommand (v.extractLsb' 0 8)) ∧
    (o = 0x20 → decodeRegisterWrite o v = .alertLevelWrite v) ∧
    (o ≠ 0x08 → o ≠ 0x10 → o ≠ 0x20 → decodeRegisterWrite o v = .registerWriteIgnored o v)) ∧
  (∀ (s : State) (o : BitVec 16) (v : BitVec 64),
    s.hostWrite o v = { s with pending := s.pending ++ [decodeRegisterWrite o v] }) ∧
  (areaRegions.map Region.size).sum = 299008 ∧
  ∀ (s : State) (n : Svc) (k : Slot) (c : SvcCond) (x : ExtId),
    let base := s.ctl.base.toNat
    s.readAddress (.sheetRead n) = some (base + (0x01000 + n.val * 0x1000)) ∧
    s.readAddress (.linkSheet n) = some (base + (0x01000 + n.val * 0x1000)) ∧
    s.readAddress (.commandWord n k) = some (base + (0x11000 + n.val * 0x2000 + k.val * 0x100)) ∧
    s.readAddress (.docketBody n k) = some (base + (0x11000 + n.val * 0x2000 + k.val * 0x100)) ∧
    s.readAddress (.captureAck n) = some (base + (0x31000 + n.val * 0x1000)) ∧
    s.readAddress (.ackCount (.service n c)) =
      some (base + (0x31000 + n.val * 0x1000 + 512 + 32 * (svcIndex c).val + 8)) ∧
    (∀ d : DevCond, s.readAddress (.ackCount (.device d)) = some (base + (128 + 32 * (devIndex d).val + 8))) ∧
    s.readAddress .devicePriorities = some (base + 24) ∧ s.readAddress .linkHeader = some base ∧
    (s.mover.work.reading = some x → s.readAddress .descriptorRead = some (base + (0x41000 + x.val * 0x80)))

/-- LINK_STEP_COMPLETE (R100, R156, R165, R167, R185, R195, R199): the header's version decides between BAD_LAYOUT and its
window and device priorities; the sheets are decided as a set: one that is not decided keeps its service's sheet, an
unsound one is refused, and where the quotas they count at pass the spool every sound sheet that raises its quota is
refused QUOTA_SUM and the others adopted, each changed group reaching its blocks as at a staging (R180). The standings
IDLE, the descriptors BLANK and the entries with the cause and the commit count come to stand in host memory, as far as
the step's writes have not completed before, and no other byte; the last step makes the part LINKED and the Alert Unit
evaluate (R167). Which effects fall at which report is the model's inference (assumption 20); that a report of another
step has no effect (assumption 1), that the blocks take an adoption at one point, a close at enable off under the new
sheet's C (assumption 28), that the adopted revision is the one of the revision reads (assumption 29), and what that close
writes (assumptions 9 and 29), are its choices. -/
def Obligations.LinkSteps : Prop :=
  (∀ (s : State) (b : List Byte), s.powered = true → s.ctl.link = .linking → s.ctl.step = .header →
    (field b 0 4 = 1 →
      exec (.linkStepComplete (.header b)) s =
        .next { s with
          ctl := { s.ctl with windowBase := field b 8 8, windowSize := field b 16 8, step := .sheets, failedSheets := [],
                              consecutive := 0, stepDone := 0 }
          devPriority := #v[min 7 (field b 24 1), min 7 (field b 25 1), min 7 (field b 26 1)] }) ∧
    (field b 0 4 ≠ 1 →
      exec (.linkStepComplete (.header b)) s =
        .next { s with ctl := { s.ctl with result := .badLayout, link := .unlinked, consecutive := 0 } })) ∧
  (∀ (s : State) (reads : Vector (Option SheetRead) 16) (after : Bool), s.powered = true → s.ctl.link = .linking →
    s.ctl.step = .sheets →
    let counted := fun m : Svc =>
      match reads[m] with
      | some r =>
        if r.before = r.after ∧ m ∉ s.ctl.failedSheets ∧ sheetStructure r.body = none then rawQuota r.body
        else (s.sheetOf m).quota
      | none => (s.sheetOf m).quota
    let total := (allServices.map counted).sum
    ∃ t, exec (.linkStepComplete (.sheets reads after)) s = .next t ∧
      t.ctl =
        { s.ctl with
          step := .standings, stepDone := 0
          consecutive := if after = true ∨ s.ctl.failedSheets = [] then 0 else s.ctl.consecutive } ∧
      (∀ n : Svc, reads[n] = none ∨ n ∈ s.ctl.failedSheets →
        t.sheet[n] = { s.sheet[n] with lastTaken := none }) ∧
      ∀ (n : Svc) (r : SheetRead), reads[n] = some r → n ∉ s.ctl.failedSheets →
        (r.before ≠ r.after → t.sheet[n] = { s.sheet[n] with lastTaken := none }) ∧
        (∀ cause, r.before = r.after →
          (sheetStructure r.body = some cause ∨
            sheetStructure r.body = none ∧ (s.sheetOf n).quota < rawQuota r.body ∧ 1048576 < total ∧
              cause = .quotaSum) →
          t.sheet[n] =
            { s.sheet[n] with lastTaken := some r.before, refused := some r.before, cause := some cause } ∧
          t.raises n .sheetFault = s.raises n .sheetFault + 1) ∧
        (r.before = r.after → sheetStructure r.body = none →
          rawQuota r.body ≤ (s.sheetOf n).quota ∨ total ≤ 1048576 →
          t.sheet[n] =
            { s.sheet[n] with
              adopted := parseSheet r.before r.body, source := .host, lastTaken := some r.before
              clamped := sheetClamps r.body } ∧
          t.raises n .sheetFault = s.raises n .sheetFault ∧
          GroupsHanded n (s.sheetOf n) (parseSheet r.before r.body) s t)) ∧
  (∀ s : State, s.powered = true → s.ctl.link = .linking → s.ctl.step = .standings →
    let ps := (allServices.flatMap fun n => allSlots.map fun k =>
      (⟨s.area (slotOffset n k + 64), [0, 0, 0, 0]⟩ : Piece)).drop s.ctl.stepDone
    ∃ t, exec (.linkStepComplete .written) s = .next t ∧ t.host = s.host.writePieces ps ∧ SameOutside ps s t ∧
      (∀ p ∈ ps, t.holds p) ∧
      t.ctl =
        { s.ctl with
          step := .descriptors, stepDone := 0, consecutive := if s.ctl.stepDone < 384 then 0 else s.ctl.consecutive } ∧
      ∀ n : Svc, t.sched[n] = { Sched.reset with unmatched := s.sched[n].unmatched }) ∧
  (∀ s : State, s.powered = true → s.ctl.link = .linking → s.ctl.step = .descriptors →
    let ps := (allExtents.drop s.ctl.stepDone).flatMap fun x => s.descPieces x Extent.blank
    ∃ t, exec (.linkStepComplete .written) s = .next t ∧ t.host = s.host.writePieces ps ∧ SameOutside ps s t ∧
      (∀ p ∈ ps, t.holds p) ∧
      t.ctl =
        { s.ctl with
          step := .entries, stepDone := 0, faultMark := false
          consecutive := if s.ctl.stepDone < 256 then 0 else s.ctl.consecutive } ∧
      t.mover = Mover.reset ∧ (∀ x : ExtId, t.extents[x] = Extent.blank) ∧
      (∀ n : Svc,
        t.recorder[n] =
          { s.recorder[n] with state := .ready, current := none, cursor := none, boundary := false, owed := none }) ∧
      (t.cond (.device .linkFault)).raises =
        (s.cond (.device .linkFault)).raises + (if s.ctl.faultMark then 1 else 0)) ∧
  (∀ s : State, s.powered = true → s.ctl.link = .linking → s.ctl.step = .entries →
    let ps := ((allConds.map s.entryPieces ++ [[s.causePiece], [s.commitPiece s.store.commits]]).drop
      s.ctl.stepDone).flatten
    ∃ t, exec (.linkStepComplete .written) s = .next t ∧ t.host = s.host.writePieces ps ∧ SameOutside ps s t ∧
      (∀ p ∈ ps, t.holds p) ∧
      t.ctl =
        { s.ctl with
          link := .linked, stepDone := 0, consecutive := if s.ctl.stepDone < 261 then 0 else s.ctl.consecutive } ∧
      t.alert = { s.alert with progress := t.alert.progress } ∧ Evaluates s t ∧
      (∀ c : DevCond, t.cond (.device c) = { s.cond (.device c) with owed := false }) ∧
      ∀ (n : Svc) (c : SvcCond),
        t.svcCond n c =
          { s.svcCond n c with
            owed := false
            timer :=
              if (s.svcCond n c).raises ≠ (s.svcCond n c).acked ∧ (s.sheetOf n).reminder ≠ 0 then
                some (s.sheetOf n).reminder
              else (s.svcCond n c).timer }) ∧
  (∀ (s : State) (c : CondRef),
    let a := s.area (match c with
      | .device d => 128 + 32 * (devIndex d).val
      | .service n d => 0x31000 + n.val * 0x1000 + 512 + 32 * (svcIndex d).val)
    let e := s.cond c
    (s.entryPieces c).getLast? = some ⟨a + 4, le 2 e.raises.toNat⟩ ∧
    PutsAll (s.entryPieces c) a
      [(0, 1, markField e.live), (1, 1, markField e.mark), (2, 1, s.priority c), (4, 2, e.raises.toNat),
       (6, 2, e.announced.toNat), (16, 8, wideField e.first), (24, 8, wideField e.last)]) ∧
  ∀ (s : State) (r : LinkReport), s.powered = true →
    (s.ctl.link ≠ .linking ∨ (∃ b, r = .header b) ∧ s.ctl.step ≠ .header ∨
      (∃ reads after, r = .sheets reads after) ∧ s.ctl.step ≠ .sheets ∨
      r = .written ∧ (s.ctl.step = .header ∨ s.ctl.step = .sheets)) →
    exec (.linkStepComplete r) s = .next s

/-- UNLINK from LINKED and UNLINK_COMPLETE (R101, R157, R165, R169, R194, R196, R197): waiting dockets are forgotten, the
open segments close with UNLINK_CLOSE, CLOSING or a NO_METER verdict and CLOSED handed, their contexts joining the
integration queue and their END marks requested (R53, R150), timers, owed entries and an alert in progress end, and every
fill closes with cause UNLINK unless a unit write is let end; when Scheduler and Mover are done the lists are empty and
the part is UNLINKED. That every write already handed is still carried, the entries' that an alert in progress hands again
and its cause once it waits for none among them, each with the fields it has at the entry, while the ends of periodic
writes are dropped (assumption 26), that owed slot writes are handed once at the entry (assumption 9), that a turn caught
at the entry before its unit write ends without its unit and without a last-block test, that a docket without a context
stands CLOSED when its writes are handed (both assumption 29) and that a report before they are done has no effect
(assumption 1) are the model's choices. -/
def Obligations.Unlink : Prop :=
  (∀ s : State, s.powered = true → s.isLinked = true → DocketsSound s →
    ∃ t, exec .unlink s = .next t ∧ t.ctl = { s.ctl with cmd := 2, result := .accepted, link := .unlinking } ∧
      t.alert.progress = none ∧ t.alert.sent = s.alert.sent ∧
      (∀ r, (t.cond r).timer = none ∧ (t.cond r).owed = false) ∧
      (∀ n : Svc,
        t.live[n] =
          { s.live[n] with
            queue := s.handAlert.live[n].queue.filterMap fun i =>
              match i with
              | .entry c _ _ => some (.late c (s.entryPieces (.service n c)))
              | .mark _ => none
              | .fields p => some (.fields p)
              | .count v => some (.count v)
              | .late c ps => some (.late c ps) }) ∧
      t.header =
        (s.handAlert.header.flatMap fun i =>
          match i with
          | .entry c => [.late c (s.entryPieces (.device c))]
          | .commit v => [.commit v]
          | .late c ps => [.late c ps]
          | .cause p => [.cause p]
          | .alert =>
            match s.alert.progress with
            | none => []
            | some a =>
              [.cause ⟨s.area 64,
                le 2 (s.alert.number + 1).toNat ++ le 1 a.level ++ le 1 (panelCode a.cause) ++ le 1 (indexCode a.cause) ++
                  [0, 0, 0]⟩]) ∧
      t.host = s.host ∧
      (∀ (n : Svc) (k : Slot),
        (t.entry n k).state ≠ .pending ∧ (t.entry n k).state ≠ .armed ∧
        ((s.entry n k).state = .pending ∨ (s.entry n k).state = .armed →
          t.entry n k = { Entry.fresh with
              writes := (s.entry n k).writes
              handed := (s.entry n k).handed || !(s.entry n k).writes.isEmpty })) ∧
      (∀ n : Svc, t.sched[n].openOuter = none ∧ t.sched[n].openInner = none) ∧
      (∀ (n : Svc) (k : Slot), (s.entry n k).state = .opened → (s.entry n k).snapshot.isSome = true →
        (t.entry n k).state = (if (s.entry n k).context.isSome then .closing else .closed) ∧
        (t.entry n k).flags.unlinkClose = true ∧ (t.entry n k).closeStamp = some s.feed[n].time ∧
        ((t.entry n k).writes.map SlotWrite.content =
          (s.entry n k).writes.map SlotWrite.content ++ if (s.entry n k).dropped then [] else closeWrites n k t) ∧
        (QueueSound s → ∀ b, (s.entry n k).body = some b → SegmentEnds n k b (s.sheetOf n) s t)) ∧
      ((∀ n, s.mover.work ≠ .unitWrite n) →
        t.mover.work = .idle ∧ t.mover.retests = [] ∧ t.mover.late = s.mover.work.reading ∧
        (∀ n : Svc,
          t.recorder[n].state = .ready ∧ t.recorder[n].current = none ∧ t.recorder[n].cursor = none ∧
          t.recorder[n].owed = none) ∧
        ∀ (n : Svc) (x : ExtId), s.recorder[n].current = some x →
          t.extents[x] = { s.extents[x] with state := .full, cause := some .unlink } ∧
          ⟨x, t.extents[x], false⟩ ∈ t.mover.updates)) ∧
  (∀ s : State, s.powered = true → s.ctl.link = .unlinking →
    (∀ (n : Svc) (k : Slot), (s.entry n k).state ≠ .closing ∧ (s.entry n k).writes = []) →
    s.mover.work = .idle → s.mover.updates = [] →
    ∃ t, exec .unlinkComplete s = .next t ∧ t.ctl.link = .unlinked ∧ t.ctl.base = s.ctl.base ∧
      t.header = [] ∧
      t.host = s.host.writePieces s.silentPieces ∧ SameOutside s.silentPieces s t ∧
      ∀ n : Svc, t.sched[n] = { Sched.reset with unmatched := s.sched[n].unmatched }) ∧
  ∀ s : State, s.powered = true →
    (s.ctl.link ≠ .unlinking ∨ (∃ (n : Svc) (k : Slot), (s.entry n k).state = .closing ∨ (s.entry n k).writes ≠ []) ∨
      s.mover.work ≠ .idle ∨ s.mover.updates ≠ []) →
    exec .unlinkComplete s = .next s

/-- ACCESS_FAILURE and ACCESS_TIMEOUT (R77, R134, R143, R147, R148, R152, R169, R171, R196, R198, R199, R204): the
accesses that completed before the failure end a row of failures and their writes stand in host memory; a failure of an
access in flight adds 1 to both counts; below the eighth in a row the owner of the access does what its chapter says,
while LINKED and while UNLINKING; the eighth unlinks the part at once with the link-fault mark, empties the docket lists
and the queues of writes and closes every fill and every open segment, whose contexts join the integration queue and whose
END marks are requested (R53, R102, R150), and writes nothing. A failed write of an entry that an alert waits for abandons
it, and so does that of its cause. That a failure's command names the completions before it (assumption 21), that a slot's
owed writes are tried once more while UNLINKING and dropped for good with every later one at a second failure (assumption
9), when an alert in progress hands an entry again or its cause, and for which entries it waits (assumption 7), what of
the entry and cause writes is in flight while UNLINKING (assumption 26), that after a failed boundary update the
descriptor is still read again and that a failed update is made again from its record as it then stands (assumption 18),
how a link step's failed writes are made again (assumption 20) and that a report of an access that is not in flight has no
effect (assumption 1) are the model's. -/
def Obligations.AccessFailure : Prop :=
  (∀ (s : State) (a : AccessRef) (d : Completions) (c : Instr), s.powered = true →
    c = .accessFailure ⟨a, d⟩ ∨ c = .accessTimeout ⟨a, d⟩ → (s.completed d).inFlight a = false → exec c s = .next s) ∧
  (∀ (s : State) (d : Completions),
    let v := s.handAlert
    let u := s.completed d
    Touches [.host, .live, .header, .panel, .devPanel, .alert, .ctl] s u ∧ (∀ r, u.cond r = v.cond r) ∧
    u.host = s.host.writePieces (s.completedPieces d) ∧ SameOutside (s.completedPieces d) s u ∧
    (v.anyCompleted d = false → u = v) ∧
    (v.anyCompleted d = true → s.carries = true →
      u.ctl = { s.ctl with consecutive := 0 } ∧ AlertTrimmed s u ∧
      (let left := v.header.drop (min d.header (if s.isLinked then v.header.idxOf .alert else v.header.length))
       u.header =
         if s.isLinked = true ∧ (u.alert.progress.map AlertRun.waits) = some [] ∧ .alert ∉ left then left ++ [.alert]
         else left) ∧
      ∀ n : Svc,
        u.live[n] =
          { s.live[n] with
            queue := (v.live[n].queue.take d.live[n]).filter LiveItem.isMark ++ v.live[n].queue.drop d.live[n] }) ∧
    (v.anyCompleted d = true → s.carries = false →
      u.ctl = { s.ctl with consecutive := 0, stepDone := s.ctl.stepDone + min d.link s.stepLeft.length } ∧
      u.live = s.live ∧ u.header = s.header ∧ u.panel = s.panel ∧ u.devPanel = s.devPanel)) ∧
  (∀ (s : State) (a : AccessRef) (d : Completions) (c : Instr), s.powered = true →
    c = .accessFailure ⟨a, d⟩ ∨ c = .accessTimeout ⟨a, d⟩ → (s.completed d).inFlight a = true →
    let u := s.completed d
    let row := u.ctl.consecutive
    let waited := fun r => s.isLinked && (u.alert.progress.map fun run => run.waits.contains r).getD false
    ∃ t, exec c s = .next t ∧ t.ctl.consecutive = satInc 8 row ∧ t.ctl.total = satInc 65535 s.ctl.total ∧
      t.host = u.host ∧
      (row < 7 →
        t.ctl.link = s.ctl.link ∧ t.ctl.faultMark = s.ctl.faultMark ∧
        ((∃ n k, a = .commandWord n k) ∨ (∃ n, a = .sheetRead n) ∨ (∃ r, a = .ackCount r) ∨ (∃ n, a = .captureAck n) ∨
            a = .devicePriorities ∨ a = .linkHeader ∨ a = .linkWrite →
          t = { u with ctl := { u.ctl with consecutive := satInc 8 row, total := satInc 65535 s.ctl.total } }) ∧
        (∀ n k, a = .docketBody n k → t.entry n k = { s.entry n k with validating := none }) ∧
        (∀ n k, a = .slotWrite n k → s.isLinked = true →
          t.entry n k =
            { s.entry n k with
              writes := (s.entry n k).writes.map fun w => { w with owed := true }
              handed := false }) ∧
        (∀ n k w ws, a = .slotWrite n k → s.isLinked = false → (s.entry n k).writes = w :: ws →
          t.entry n k =
            if w.owed then { s.entry n k with writes := [], handed := false, dropped := true }
            else { s.entry n k with writes := (w :: ws).map fun v => { v with owed := true } }) ∧
        (∀ k : DevCond, a = .entryWrite (.device k) →
          t.cond (.device k) = (if s.isLinked then { u.cond (.device k) with owed := true } else u.cond (.device k)) ∧
          t.header = u.header.filter (fun i => !i.isEntry k) ∧
          t.alert = if waited (.device k) then { u.alert with progress := none, abandoned := true } else u.alert) ∧
        (∀ (n : Svc) (k : SvcCond) (q rest : List LiveItem) (ps : List Piece), a = .entryWrite (.service n k) →
          s.isLinked = false → u.live[n].queue = q ++ .late k ps :: rest → q.any (LiveItem.isEntry k) = false →
          t.live[n].queue = q ++ rest ∧ t.svcCond n k = u.svcCond n k ∧ t.alert = u.alert) ∧
        (∀ (n : Svc) (k : SvcCond) (q rest : List LiveItem) (part due : Bool), a = .entryWrite (.service n k) →
          s.isLinked = true → u.live[n].queue = q ++ .entry k part due :: rest → q.any (LiveItem.isEntry k) = false →
          let left := q ++ (if part then breakMark rest else rest)
          (left.any (LiveItem.isEntry k) = true →
            t.live[n].queue = dueFirst k left ∧ t.svcCond n k = u.svcCond n k) ∧
          (left.any (LiveItem.isEntry k) = false →
            t.live[n].queue = left ∧ t.svcCond n k = { u.svcCond n k with owed := true }) ∧
          t.alert = if waited (.service n k) then { u.alert with progress := none, abandoned := true } else u.alert) ∧
        (∀ n i, a = .livePiece n i →
          t.live[n] =
            { u.live[n] with queue := u.live[n].queue.take i ++ breakMark (u.live[n].queue.drop (i + 1)) }) ∧
        (∀ (n : Svc) (q rest : List LiveItem) (v : BitVec 32), a = .writeCount n →
          u.live[n].queue = q ++ .count v :: rest → q.any LiveItem.isCount = false →
          t.live[n] = { u.live[n] with queue := q ++ rest }) ∧
        (∀ (q rest : List HeaderItem) (v : Nat), a = .commitCount → u.header = q ++ .commit v :: rest →
          q.any HeaderItem.isCommit = false → t.header = q ++ rest) ∧
        (a = .alertCause →
          t.header = u.header.filter (fun i => !i.isCause) ∧
          t.alert =
            if s.alert.progress.isSome then { u.alert with progress := none, abandoned := true } else u.alert) ∧
        (∀ n, a = .linkSheet n → t.ctl.failedSheets = s.ctl.failedSheets ++ [n]) ∧
        (∀ n, a = .unitWrite → s.mover.work = .unitWrite n →
          t.proxy = s.proxy ∧ (s.isLinked = true → TurnEnded s.mover t) ∧
          (s.isLinked = true → s.mover.retests = [] → t.mover = { s.mover with work := .idle }) ∧
          (s.isLinked = false → t.mover.work = .idle ∧ t.recorder[n].current = none ∧ t.recorder[n].state = .ready)) ∧
        (∀ (x : ExtId) (w : DescUpdate) (us vs : List DescUpdate), a = .descriptorUpdate x →
          s.mover.updates = us ++ w :: vs → w.extent = x → (∀ v ∈ us, v.extent ≠ x) →
          let m := { s.mover with updates := us ++ vs }
          (s.isLinked = false →
            t.recorder = s.recorder ∧ t.extents = s.extents ∧
            t.mover = if w.again then m else { m with updates := us ++ vs ++ [⟨x, s.extents[x], true⟩] }) ∧
          (s.isLinked = true → ∀ n,
            (s.mover.work = .owedUpdate n x → t.recorder[n].owed = s.recorder[n].owed ∧ TurnEnded m t) ∧
            (∀ retest, s.mover.work = .openUpdate n x retest →
              t.recorder[n].owed = some x ∧ (s.extents[x].code ≠ 0 → TurnEnded m t)) ∧
            (s.mover.work = .boundaryUpdate n x →
              t.recorder[n].owed = some x ∧ t.mover = { m with work := .boundaryRead n x false }) ∧
            (s.mover.work = .closeUpdate n x → t.recorder[n].owed = some x ∧ TurnEnded m t))) ∧
        (a = .descriptorRead → s.isLinked = false → t.mover = { s.mover with late := none }) ∧
        (a = .descriptorRead → s.isLinked = true →
          (∀ n retest ow x rest, s.mover.work = .walk n retest ow x rest → TurnEnded s.mover t ∧ t.extents = s.extents) ∧
          (∀ n x resume, s.mover.work = .boundaryRead n x resume →
            TurnEnded s.mover t ∧ t.extents = s.extents ∧ t.recorder[n].boundary = s.recorder[n].boundary) ∧
          ∀ n x y rest found write, s.mover.work = .lastBlock n x y rest found write →
            (∀ z zs, rest = z :: zs → t.mover = { s.mover with work := .lastBlock n x z zs found write }) ∧
            (rest = [] →
              t.extents[x] = { s.extents[x] with lastBlock := true } ∧
              t.raises n .extentWarning = s.raises n .extentWarning + (if found then 0 else 1) ∧
              if write then t.mover = { s.mover with work := .unitWrite n } else TurnEnded s.mover t))) ∧
      (7 ≤ row → row ≤ 8 →
        t.ctl.link = .unlinked ∧ t.ctl.faultMark = true ∧ t.mover.work = .idle ∧ t.mover.updates = [] ∧
        t.mover.late = none ∧ t.alert.progress = none ∧ t.header = [] ∧
        (∀ r, (t.cond r).timer = none ∧ (t.cond r).owed = false) ∧
        (∀ n : Svc,
          t.sched[n] = { Sched.reset with unmatched := s.sched[n].unmatched } ∧ t.recorder[n].current = none ∧
          t.recorder[n].state = .ready ∧ t.live[n] = { LiveWrite.reset with count := s.live[n].count }) ∧
        (DocketsSound s → QueueSound s → ∀ (n : Svc) (k : Slot) (b : Body),
          (s.entry n k).state = .opened → (s.entry n k).body = some b → SegmentEnds n k b (s.sheetOf n) s t) ∧
        ∀ (n : Svc) (x : ExtId), s.recorder[n].current = some x →
          t.extents[x] = { s.extents[x] with state := .full, cause := some .unlink })) ∧
  ∀ (q rest : List LiveItem) (whole : Bool), (∀ i ∈ q, i.isEnd = false) →
    breakMark q = q ∧ breakMark (q ++ .mark whole :: rest) = q ++ .mark false :: rest

/-! ### Invariants -/

/-- Every invariant holds of the machine after reset. -/
def Obligations.InvariantsAtReset : Prop :=
  HostOrdered State.reset ∧ FeedSound State.reset ∧ CaptionSound State.reset ∧ TallySound State.reset ∧
  CountsSound State.reset ∧ QueueSound State.reset ∧ SpoolSound State.reset ∧ QuotaSound State.reset ∧
  DocketsSound State.reset ∧ FillSound State.reset ∧ AttentionSound State.reset

/-- Every step keeps the list of written bytes of host memory in its canonical form, which is the model's own form of that
memory (assumption 2). -/
def Obligations.KeepsHostOrdered : Prop :=
  ∀ s t : State, HostOrdered s → step s = .next t → HostOrdered t

/-- Every step keeps the relations of lock state, timers and FEED_LOSS, and those of caption state, counters and caption
conditions. -/
def Obligations.KeepsSignalsSound : Prop :=
  (∀ s t : State, FeedSound s → step s = .next t → FeedSound t) ∧
  ∀ s t : State, CaptionSound s → step s = .next t → CaptionSound t

/-- Every step keeps the tallies in order and the counts of every context and of the result being integrated balanced. -/
def Obligations.KeepsCountsSound : Prop :=
  (∀ s t : State, TallySound s → step s = .next t → TallySound t) ∧
  ∀ s t : State, CountsSound s → step s = .next t → CountsSound t

/-- Every step keeps the integration queue holding exactly the CLOSING contexts, each once, and the context of every OPEN
docket its own, ACCUMULATING or PAUSED. -/
def Obligations.KeepsQueueSound : Prop :=
  ∀ s t : State, QueueSound s → step s = .next t → QueueSound t

/-- Every step keeps the unit counts balanced, the spool queues in order and within the spool, and the adopted quotas
within the spool. -/
def Obligations.KeepsSpoolSound : Prop :=
  (∀ s t : State, SpoolSound s → step s = .next t → SpoolSound t) ∧
  ∀ s t : State, QuotaSound s → step s = .next t → QuotaSound t

/-- Every step keeps the open slots OPEN, a layer with an OPEN docket with an open slot, postings under validation in
IDLE, the writes of a slot dropped only while UNLINKING, and every pin with its CLOSED docket. -/
def Obligations.KeepsDocketsSound : Prop :=
  ∀ s t : State, DocketsSound s → step s = .next t → DocketsSound t

/-- Every step keeps the FILLING extents exactly the current extents of their owners, and recorder states with them. -/
def Obligations.KeepsFillSound : Prop :=
  ∀ s t : State, FillSound s → step s = .next t → FillSound t

/-- Every step keeps alerts, reminder timers and entry writes to the LINKED part, and the cause of an alert in the
header's queue one time at most, once the alert waits for no entry. -/
def Obligations.KeepsAttentionSound : Prop :=
  ∀ s t : State, AttentionSound s → step s = .next t → AttentionSound t
end

