-- ==== Sys2Proof/Laws/State.lean ====
section
/-! SUPPORT. One lemma per field per update of the state, and the lemmas of `upd`, so that no later proof unfolds a
record update. -/
namespace Sys2Proof.Machine

/-! ### One element of a vector -/

@[simp] theorem upd_same {α : Type} {k : Nat} (v : Vector α k) (i : Fin k) (f : α → α) (h : i.val < k) :
    (upd v i f)[i.val] = f v[i.val] := by
  simp [upd]

@[simp] theorem upd_ne {α : Type} {k : Nat} (v : Vector α k) (i j : Fin k) (f : α → α) (h : j.val < k) (ne : j ≠ i) :
    (upd v i f)[j.val] = v[j.val] := by
  have : i.val ≠ j.val := fun h => ne (Fin.ext h.symm)
  simp [upd, this]

theorem upd_get {α : Type} {k : Nat} (v : Vector α k) (i j : Fin k) (f : α → α) :
    (upd v i f)[j] = if j = i then f v[j] else v[j] := by
  by_cases h : j = i
  · subst h; simp
  · simp [h]


/-! ### `modCtl` -/

@[simp] theorem State.modCtl_powered (s : State) (f : Ctl → Ctl) : (s.modCtl f).powered = s.powered := rfl
@[simp] theorem State.modCtl_ctl (s : State) (f : Ctl → Ctl) : (s.modCtl f).ctl = f s.ctl := rfl
@[simp] theorem State.modCtl_feed (s : State) (f : Ctl → Ctl) : (s.modCtl f).feed = s.feed := rfl
@[simp] theorem State.modCtl_meter (s : State) (f : Ctl → Ctl) : (s.modCtl f).meter = s.meter := rfl
@[simp] theorem State.modCtl_caption (s : State) (f : Ctl → Ctl) : (s.modCtl f).caption = s.caption := rfl
@[simp] theorem State.modCtl_sched (s : State) (f : Ctl → Ctl) : (s.modCtl f).sched = s.sched := rfl
@[simp] theorem State.modCtl_pool (s : State) (f : Ctl → Ctl) : (s.modCtl f).pool = s.pool := rfl
@[simp] theorem State.modCtl_integ (s : State) (f : Ctl → Ctl) : (s.modCtl f).integ = s.integ := rfl
@[simp] theorem State.modCtl_proxy (s : State) (f : Ctl → Ctl) : (s.modCtl f).proxy = s.proxy := rfl
@[simp] theorem State.modCtl_recorder (s : State) (f : Ctl → Ctl) : (s.modCtl f).recorder = s.recorder := rfl
@[simp] theorem State.modCtl_extents (s : State) (f : Ctl → Ctl) : (s.modCtl f).extents = s.extents := rfl
@[simp] theorem State.modCtl_mover (s : State) (f : Ctl → Ctl) : (s.modCtl f).mover = s.mover := rfl
@[simp] theorem State.modCtl_panel (s : State) (f : Ctl → Ctl) : (s.modCtl f).panel = s.panel := rfl
@[simp] theorem State.modCtl_devPanel (s : State) (f : Ctl → Ctl) : (s.modCtl f).devPanel = s.devPanel := rfl
@[simp] theorem State.modCtl_devPriority (s : State) (f : Ctl → Ctl) : (s.modCtl f).devPriority = s.devPriority := rfl
@[simp] theorem State.modCtl_alert (s : State) (f : Ctl → Ctl) : (s.modCtl f).alert = s.alert := rfl
@[simp] theorem State.modCtl_sheet (s : State) (f : Ctl → Ctl) : (s.modCtl f).sheet = s.sheet := rfl
@[simp] theorem State.modCtl_store (s : State) (f : Ctl → Ctl) : (s.modCtl f).store = s.store := rfl
@[simp] theorem State.modCtl_live (s : State) (f : Ctl → Ctl) : (s.modCtl f).live = s.live := rfl
@[simp] theorem State.modCtl_header (s : State) (f : Ctl → Ctl) : (s.modCtl f).header = s.header := rfl
@[simp] theorem State.modCtl_host (s : State) (f : Ctl → Ctl) : (s.modCtl f).host = s.host := rfl
@[simp] theorem State.modCtl_pending (s : State) (f : Ctl → Ctl) : (s.modCtl f).pending = s.pending := rfl

/-! ### `modFeed` -/

@[simp] theorem State.modFeed_powered (s : State) (n : Svc) (f : Feed → Feed) : (s.modFeed n f).powered = s.powered := rfl
@[simp] theorem State.modFeed_ctl (s : State) (n : Svc) (f : Feed → Feed) : (s.modFeed n f).ctl = s.ctl := rfl
@[simp] theorem State.modFeed_feed (s : State) (n : Svc) (f : Feed → Feed) : (s.modFeed n f).feed = upd s.feed n f := rfl
@[simp] theorem State.modFeed_meter (s : State) (n : Svc) (f : Feed → Feed) : (s.modFeed n f).meter = s.meter := rfl
@[simp] theorem State.modFeed_caption (s : State) (n : Svc) (f : Feed → Feed) : (s.modFeed n f).caption = s.caption := rfl
@[simp] theorem State.modFeed_sched (s : State) (n : Svc) (f : Feed → Feed) : (s.modFeed n f).sched = s.sched := rfl
@[simp] theorem State.modFeed_pool (s : State) (n : Svc) (f : Feed → Feed) : (s.modFeed n f).pool = s.pool := rfl
@[simp] theorem State.modFeed_integ (s : State) (n : Svc) (f : Feed → Feed) : (s.modFeed n f).integ = s.integ := rfl
@[simp] theorem State.modFeed_proxy (s : State) (n : Svc) (f : Feed → Feed) : (s.modFeed n f).proxy = s.proxy := rfl
@[simp] theorem State.modFeed_recorder (s : State) (n : Svc) (f : Feed → Feed) : (s.modFeed n f).recorder = s.recorder := rfl
@[simp] theorem State.modFeed_extents (s : State) (n : Svc) (f : Feed → Feed) : (s.modFeed n f).extents = s.extents := rfl
@[simp] theorem State.modFeed_mover (s : State) (n : Svc) (f : Feed → Feed) : (s.modFeed n f).mover = s.mover := rfl
@[simp] theorem State.modFeed_panel (s : State) (n : Svc) (f : Feed → Feed) : (s.modFeed n f).panel = s.panel := rfl
@[simp] theorem State.modFeed_devPanel (s : State) (n : Svc) (f : Feed → Feed) : (s.modFeed n f).devPanel = s.devPanel := rfl
@[simp] theorem State.modFeed_devPriority (s : State) (n : Svc) (f : Feed → Feed) : (s.modFeed n f).devPriority = s.devPriority := rfl
@[simp] theorem State.modFeed_alert (s : State) (n : Svc) (f : Feed → Feed) : (s.modFeed n f).alert = s.alert := rfl
@[simp] theorem State.modFeed_sheet (s : State) (n : Svc) (f : Feed → Feed) : (s.modFeed n f).sheet = s.sheet := rfl
@[simp] theorem State.modFeed_store (s : State) (n : Svc) (f : Feed → Feed) : (s.modFeed n f).store = s.store := rfl
@[simp] theorem State.modFeed_live (s : State) (n : Svc) (f : Feed → Feed) : (s.modFeed n f).live = s.live := rfl
@[simp] theorem State.modFeed_header (s : State) (n : Svc) (f : Feed → Feed) : (s.modFeed n f).header = s.header := rfl
@[simp] theorem State.modFeed_host (s : State) (n : Svc) (f : Feed → Feed) : (s.modFeed n f).host = s.host := rfl
@[simp] theorem State.modFeed_pending (s : State) (n : Svc) (f : Feed → Feed) : (s.modFeed n f).pending = s.pending := rfl

/-! ### `modMeter` -/

@[simp] theorem State.modMeter_powered (s : State) (n : Svc) (f : Meter → Meter) : (s.modMeter n f).powered = s.powered := rfl
@[simp] theorem State.modMeter_ctl (s : State) (n : Svc) (f : Meter → Meter) : (s.modMeter n f).ctl = s.ctl := rfl
@[simp] theorem State.modMeter_feed (s : State) (n : Svc) (f : Meter → Meter) : (s.modMeter n f).feed = s.feed := rfl
@[simp] theorem State.modMeter_meter (s : State) (n : Svc) (f : Meter → Meter) : (s.modMeter n f).meter = upd s.meter n f := rfl
@[simp] theorem State.modMeter_caption (s : State) (n : Svc) (f : Meter → Meter) : (s.modMeter n f).caption = s.caption := rfl
@[simp] theorem State.modMeter_sched (s : State) (n : Svc) (f : Meter → Meter) : (s.modMeter n f).sched = s.sched := rfl
@[simp] theorem State.modMeter_pool (s : State) (n : Svc) (f : Meter → Meter) : (s.modMeter n f).pool = s.pool := rfl
@[simp] theorem State.modMeter_integ (s : State) (n : Svc) (f : Meter → Meter) : (s.modMeter n f).integ = s.integ := rfl
@[simp] theorem State.modMeter_proxy (s : State) (n : Svc) (f : Meter → Meter) : (s.modMeter n f).proxy = s.proxy := rfl
@[simp] theorem State.modMeter_recorder (s : State) (n : Svc) (f : Meter → Meter) : (s.modMeter n f).recorder = s.recorder := rfl
@[simp] theorem State.modMeter_extents (s : State) (n : Svc) (f : Meter → Meter) : (s.modMeter n f).extents = s.extents := rfl
@[simp] theorem State.modMeter_mover (s : State) (n : Svc) (f : Meter → Meter) : (s.modMeter n f).mover = s.mover := rfl
@[simp] theorem State.modMeter_panel (s : State) (n : Svc) (f : Meter → Meter) : (s.modMeter n f).panel = s.panel := rfl
@[simp] theorem State.modMeter_devPanel (s : State) (n : Svc) (f : Meter → Meter) : (s.modMeter n f).devPanel = s.devPanel := rfl
@[simp] theorem State.modMeter_devPriority (s : State) (n : Svc) (f : Meter → Meter) : (s.modMeter n f).devPriority = s.devPriority := rfl
@[simp] theorem State.modMeter_alert (s : State) (n : Svc) (f : Meter → Meter) : (s.modMeter n f).alert = s.alert := rfl
@[simp] theorem State.modMeter_sheet (s : State) (n : Svc) (f : Meter → Meter) : (s.modMeter n f).sheet = s.sheet := rfl
@[simp] theorem State.modMeter_store (s : State) (n : Svc) (f : Meter → Meter) : (s.modMeter n f).store = s.store := rfl
@[simp] theorem State.modMeter_live (s : State) (n : Svc) (f : Meter → Meter) : (s.modMeter n f).live = s.live := rfl
@[simp] theorem State.modMeter_header (s : State) (n : Svc) (f : Meter → Meter) : (s.modMeter n f).header = s.header := rfl
@[simp] theorem State.modMeter_host (s : State) (n : Svc) (f : Meter → Meter) : (s.modMeter n f).host = s.host := rfl
@[simp] theorem State.modMeter_pending (s : State) (n : Svc) (f : Meter → Meter) : (s.modMeter n f).pending = s.pending := rfl

/-! ### `modCaption` -/

@[simp] theorem State.modCaption_powered (s : State) (n : Svc) (f : Caption → Caption) : (s.modCaption n f).powered = s.powered := rfl
@[simp] theorem State.modCaption_ctl (s : State) (n : Svc) (f : Caption → Caption) : (s.modCaption n f).ctl = s.ctl := rfl
@[simp] theorem State.modCaption_feed (s : State) (n : Svc) (f : Caption → Caption) : (s.modCaption n f).feed = s.feed := rfl
@[simp] theorem State.modCaption_meter (s : State) (n : Svc) (f : Caption → Caption) : (s.modCaption n f).meter = s.meter := rfl
@[simp] theorem State.modCaption_caption (s : State) (n : Svc) (f : Caption → Caption) : (s.modCaption n f).caption = upd s.caption n f := rfl
@[simp] theorem State.modCaption_sched (s : State) (n : Svc) (f : Caption → Caption) : (s.modCaption n f).sched = s.sched := rfl
@[simp] theorem State.modCaption_pool (s : State) (n : Svc) (f : Caption → Caption) : (s.modCaption n f).pool = s.pool := rfl
@[simp] theorem State.modCaption_integ (s : State) (n : Svc) (f : Caption → Caption) : (s.modCaption n f).integ = s.integ := rfl
@[simp] theorem State.modCaption_proxy (s : State) (n : Svc) (f : Caption → Caption) : (s.modCaption n f).proxy = s.proxy := rfl
@[simp] theorem State.modCaption_recorder (s : State) (n : Svc) (f : Caption → Caption) : (s.modCaption n f).recorder = s.recorder := rfl
@[simp] theorem State.modCaption_extents (s : State) (n : Svc) (f : Caption → Caption) : (s.modCaption n f).extents = s.extents := rfl
@[simp] theorem State.modCaption_mover (s : State) (n : Svc) (f : Caption → Caption) : (s.modCaption n f).mover = s.mover := rfl
@[simp] theorem State.modCaption_panel (s : State) (n : Svc) (f : Caption → Caption) : (s.modCaption n f).panel = s.panel := rfl
@[simp] theorem State.modCaption_devPanel (s : State) (n : Svc) (f : Caption → Caption) : (s.modCaption n f).devPanel = s.devPanel := rfl
@[simp] theorem State.modCaption_devPriority (s : State) (n : Svc) (f : Caption → Caption) : (s.modCaption n f).devPriority = s.devPriority := rfl
@[simp] theorem State.modCaption_alert (s : State) (n : Svc) (f : Caption → Caption) : (s.modCaption n f).alert = s.alert := rfl
@[simp] theorem State.modCaption_sheet (s : State) (n : Svc) (f : Caption → Caption) : (s.modCaption n f).sheet = s.sheet := rfl
@[simp] theorem State.modCaption_store (s : State) (n : Svc) (f : Caption → Caption) : (s.modCaption n f).store = s.store := rfl
@[simp] theorem State.modCaption_live (s : State) (n : Svc) (f : Caption → Caption) : (s.modCaption n f).live = s.live := rfl
@[simp] theorem State.modCaption_header (s : State) (n : Svc) (f : Caption → Caption) : (s.modCaption n f).header = s.header := rfl
@[simp] theorem State.modCaption_host (s : State) (n : Svc) (f : Caption → Caption) : (s.modCaption n f).host = s.host := rfl
@[simp] theorem State.modCaption_pending (s : State) (n : Svc) (f : Caption → Caption) : (s.modCaption n f).pending = s.pending := rfl

/-! ### `modSched` -/

@[simp] theorem State.modSched_powered (s : State) (n : Svc) (f : Sched → Sched) : (s.modSched n f).powered = s.powered := rfl
@[simp] theorem State.modSched_ctl (s : State) (n : Svc) (f : Sched → Sched) : (s.modSched n f).ctl = s.ctl := rfl
@[simp] theorem State.modSched_feed (s : State) (n : Svc) (f : Sched → Sched) : (s.modSched n f).feed = s.feed := rfl
@[simp] theorem State.modSched_meter (s : State) (n : Svc) (f : Sched → Sched) : (s.modSched n f).meter = s.meter := rfl
@[simp] theorem State.modSched_caption (s : State) (n : Svc) (f : Sched → Sched) : (s.modSched n f).caption = s.caption := rfl
@[simp] theorem State.modSched_sched (s : State) (n : Svc) (f : Sched → Sched) : (s.modSched n f).sched = upd s.sched n f := rfl
@[simp] theorem State.modSched_pool (s : State) (n : Svc) (f : Sched → Sched) : (s.modSched n f).pool = s.pool := rfl
@[simp] theorem State.modSched_integ (s : State) (n : Svc) (f : Sched → Sched) : (s.modSched n f).integ = s.integ := rfl
@[simp] theorem State.modSched_proxy (s : State) (n : Svc) (f : Sched → Sched) : (s.modSched n f).proxy = s.proxy := rfl
@[simp] theorem State.modSched_recorder (s : State) (n : Svc) (f : Sched → Sched) : (s.modSched n f).recorder = s.recorder := rfl
@[simp] theorem State.modSched_extents (s : State) (n : Svc) (f : Sched → Sched) : (s.modSched n f).extents = s.extents := rfl
@[simp] theorem State.modSched_mover (s : State) (n : Svc) (f : Sched → Sched) : (s.modSched n f).mover = s.mover := rfl
@[simp] theorem State.modSched_panel (s : State) (n : Svc) (f : Sched → Sched) : (s.modSched n f).panel = s.panel := rfl
@[simp] theorem State.modSched_devPanel (s : State) (n : Svc) (f : Sched → Sched) : (s.modSched n f).devPanel = s.devPanel := rfl
@[simp] theorem State.modSched_devPriority (s : State) (n : Svc) (f : Sched → Sched) : (s.modSched n f).devPriority = s.devPriority := rfl
@[simp] theorem State.modSched_alert (s : State) (n : Svc) (f : Sched → Sched) : (s.modSched n f).alert = s.alert := rfl
@[simp] theorem State.modSched_sheet (s : State) (n : Svc) (f : Sched → Sched) : (s.modSched n f).sheet = s.sheet := rfl
@[simp] theorem State.modSched_store (s : State) (n : Svc) (f : Sched → Sched) : (s.modSched n f).store = s.store := rfl
@[simp] theorem State.modSched_live (s : State) (n : Svc) (f : Sched → Sched) : (s.modSched n f).live = s.live := rfl
@[simp] theorem State.modSched_header (s : State) (n : Svc) (f : Sched → Sched) : (s.modSched n f).header = s.header := rfl
@[simp] theorem State.modSched_host (s : State) (n : Svc) (f : Sched → Sched) : (s.modSched n f).host = s.host := rfl
@[simp] theorem State.modSched_pending (s : State) (n : Svc) (f : Sched → Sched) : (s.modSched n f).pending = s.pending := rfl

/-! ### `modPool` -/

@[simp] theorem State.modPool_powered (s : State) (c : CtxId) (f : Context → Context) : (s.modPool c f).powered = s.powered := rfl
@[simp] theorem State.modPool_ctl (s : State) (c : CtxId) (f : Context → Context) : (s.modPool c f).ctl = s.ctl := rfl
@[simp] theorem State.modPool_feed (s : State) (c : CtxId) (f : Context → Context) : (s.modPool c f).feed = s.feed := rfl
@[simp] theorem State.modPool_meter (s : State) (c : CtxId) (f : Context → Context) : (s.modPool c f).meter = s.meter := rfl
@[simp] theorem State.modPool_caption (s : State) (c : CtxId) (f : Context → Context) : (s.modPool c f).caption = s.caption := rfl
@[simp] theorem State.modPool_sched (s : State) (c : CtxId) (f : Context → Context) : (s.modPool c f).sched = s.sched := rfl
@[simp] theorem State.modPool_pool (s : State) (c : CtxId) (f : Context → Context) : (s.modPool c f).pool = upd s.pool c f := rfl
@[simp] theorem State.modPool_integ (s : State) (c : CtxId) (f : Context → Context) : (s.modPool c f).integ = s.integ := rfl
@[simp] theorem State.modPool_proxy (s : State) (c : CtxId) (f : Context → Context) : (s.modPool c f).proxy = s.proxy := rfl
@[simp] theorem State.modPool_recorder (s : State) (c : CtxId) (f : Context → Context) : (s.modPool c f).recorder = s.recorder := rfl
@[simp] theorem State.modPool_extents (s : State) (c : CtxId) (f : Context → Context) : (s.modPool c f).extents = s.extents := rfl
@[simp] theorem State.modPool_mover (s : State) (c : CtxId) (f : Context → Context) : (s.modPool c f).mover = s.mover := rfl
@[simp] theorem State.modPool_panel (s : State) (c : CtxId) (f : Context → Context) : (s.modPool c f).panel = s.panel := rfl
@[simp] theorem State.modPool_devPanel (s : State) (c : CtxId) (f : Context → Context) : (s.modPool c f).devPanel = s.devPanel := rfl
@[simp] theorem State.modPool_devPriority (s : State) (c : CtxId) (f : Context → Context) : (s.modPool c f).devPriority = s.devPriority := rfl
@[simp] theorem State.modPool_alert (s : State) (c : CtxId) (f : Context → Context) : (s.modPool c f).alert = s.alert := rfl
@[simp] theorem State.modPool_sheet (s : State) (c : CtxId) (f : Context → Context) : (s.modPool c f).sheet = s.sheet := rfl
@[simp] theorem State.modPool_store (s : State) (c : CtxId) (f : Context → Context) : (s.modPool c f).store = s.store := rfl
@[simp] theorem State.modPool_live (s : State) (c : CtxId) (f : Context → Context) : (s.modPool c f).live = s.live := rfl
@[simp] theorem State.modPool_header (s : State) (c : CtxId) (f : Context → Context) : (s.modPool c f).header = s.header := rfl
@[simp] theorem State.modPool_host (s : State) (c : CtxId) (f : Context → Context) : (s.modPool c f).host = s.host := rfl
@[simp] theorem State.modPool_pending (s : State) (c : CtxId) (f : Context → Context) : (s.modPool c f).pending = s.pending := rfl

/-! ### `modInteg` -/

@[simp] theorem State.modInteg_powered (s : State) (f : Integ → Integ) : (s.modInteg f).powered = s.powered := rfl
@[simp] theorem State.modInteg_ctl (s : State) (f : Integ → Integ) : (s.modInteg f).ctl = s.ctl := rfl
@[simp] theorem State.modInteg_feed (s : State) (f : Integ → Integ) : (s.modInteg f).feed = s.feed := rfl
@[simp] theorem State.modInteg_meter (s : State) (f : Integ → Integ) : (s.modInteg f).meter = s.meter := rfl
@[simp] theorem State.modInteg_caption (s : State) (f : Integ → Integ) : (s.modInteg f).caption = s.caption := rfl
@[simp] theorem State.modInteg_sched (s : State) (f : Integ → Integ) : (s.modInteg f).sched = s.sched := rfl
@[simp] theorem State.modInteg_pool (s : State) (f : Integ → Integ) : (s.modInteg f).pool = s.pool := rfl
@[simp] theorem State.modInteg_integ (s : State) (f : Integ → Integ) : (s.modInteg f).integ = f s.integ := rfl
@[simp] theorem State.modInteg_proxy (s : State) (f : Integ → Integ) : (s.modInteg f).proxy = s.proxy := rfl
@[simp] theorem State.modInteg_recorder (s : State) (f : Integ → Integ) : (s.modInteg f).recorder = s.recorder := rfl
@[simp] theorem State.modInteg_extents (s : State) (f : Integ → Integ) : (s.modInteg f).extents = s.extents := rfl
@[simp] theorem State.modInteg_mover (s : State) (f : Integ → Integ) : (s.modInteg f).mover = s.mover := rfl
@[simp] theorem State.modInteg_panel (s : State) (f : Integ → Integ) : (s.modInteg f).panel = s.panel := rfl
@[simp] theorem State.modInteg_devPanel (s : State) (f : Integ → Integ) : (s.modInteg f).devPanel = s.devPanel := rfl
@[simp] theorem State.modInteg_devPriority (s : State) (f : Integ → Integ) : (s.modInteg f).devPriority = s.devPriority := rfl
@[simp] theorem State.modInteg_alert (s : State) (f : Integ → Integ) : (s.modInteg f).alert = s.alert := rfl
@[simp] theorem State.modInteg_sheet (s : State) (f : Integ → Integ) : (s.modInteg f).sheet = s.sheet := rfl
@[simp] theorem State.modInteg_store (s : State) (f : Integ → Integ) : (s.modInteg f).store = s.store := rfl
@[simp] theorem State.modInteg_live (s : State) (f : Integ → Integ) : (s.modInteg f).live = s.live := rfl
@[simp] theorem State.modInteg_header (s : State) (f : Integ → Integ) : (s.modInteg f).header = s.header := rfl
@[simp] theorem State.modInteg_host (s : State) (f : Integ → Integ) : (s.modInteg f).host = s.host := rfl
@[simp] theorem State.modInteg_pending (s : State) (f : Integ → Integ) : (s.modInteg f).pending = s.pending := rfl

/-! ### `modProxy` -/

@[simp] theorem State.modProxy_powered (s : State) (n : Svc) (f : Proxy → Proxy) : (s.modProxy n f).powered = s.powered := rfl
@[simp] theorem State.modProxy_ctl (s : State) (n : Svc) (f : Proxy → Proxy) : (s.modProxy n f).ctl = s.ctl := rfl
@[simp] theorem State.modProxy_feed (s : State) (n : Svc) (f : Proxy → Proxy) : (s.modProxy n f).feed = s.feed := rfl
@[simp] theorem State.modProxy_meter (s : State) (n : Svc) (f : Proxy → Proxy) : (s.modProxy n f).meter = s.meter := rfl
@[simp] theorem State.modProxy_caption (s : State) (n : Svc) (f : Proxy → Proxy) : (s.modProxy n f).caption = s.caption := rfl
@[simp] theorem State.modProxy_sched (s : State) (n : Svc) (f : Proxy → Proxy) : (s.modProxy n f).sched = s.sched := rfl
@[simp] theorem State.modProxy_pool (s : State) (n : Svc) (f : Proxy → Proxy) : (s.modProxy n f).pool = s.pool := rfl
@[simp] theorem State.modProxy_integ (s : State) (n : Svc) (f : Proxy → Proxy) : (s.modProxy n f).integ = s.integ := rfl
@[simp] theorem State.modProxy_proxy (s : State) (n : Svc) (f : Proxy → Proxy) : (s.modProxy n f).proxy = upd s.proxy n f := rfl
@[simp] theorem State.modProxy_recorder (s : State) (n : Svc) (f : Proxy → Proxy) : (s.modProxy n f).recorder = s.recorder := rfl
@[simp] theorem State.modProxy_extents (s : State) (n : Svc) (f : Proxy → Proxy) : (s.modProxy n f).extents = s.extents := rfl
@[simp] theorem State.modProxy_mover (s : State) (n : Svc) (f : Proxy → Proxy) : (s.modProxy n f).mover = s.mover := rfl
@[simp] theorem State.modProxy_panel (s : State) (n : Svc) (f : Proxy → Proxy) : (s.modProxy n f).panel = s.panel := rfl
@[simp] theorem State.modProxy_devPanel (s : State) (n : Svc) (f : Proxy → Proxy) : (s.modProxy n f).devPanel = s.devPanel := rfl
@[simp] theorem State.modProxy_devPriority (s : State) (n : Svc) (f : Proxy → Proxy) : (s.modProxy n f).devPriority = s.devPriority := rfl
@[simp] theorem State.modProxy_alert (s : State) (n : Svc) (f : Proxy → Proxy) : (s.modProxy n f).alert = s.alert := rfl
@[simp] theorem State.modProxy_sheet (s : State) (n : Svc) (f : Proxy → Proxy) : (s.modProxy n f).sheet = s.sheet := rfl
@[simp] theorem State.modProxy_store (s : State) (n : Svc) (f : Proxy → Proxy) : (s.modProxy n f).store = s.store := rfl
@[simp] theorem State.modProxy_live (s : State) (n : Svc) (f : Proxy → Proxy) : (s.modProxy n f).live = s.live := rfl
@[simp] theorem State.modProxy_header (s : State) (n : Svc) (f : Proxy → Proxy) : (s.modProxy n f).header = s.header := rfl
@[simp] theorem State.modProxy_host (s : State) (n : Svc) (f : Proxy → Proxy) : (s.modProxy n f).host = s.host := rfl
@[simp] theorem State.modProxy_pending (s : State) (n : Svc) (f : Proxy → Proxy) : (s.modProxy n f).pending = s.pending := rfl

/-! ### `modRecorder` -/

@[simp] theorem State.modRecorder_powered (s : State) (n : Svc) (f : Recorder → Recorder) : (s.modRecorder n f).powered = s.powered := rfl
@[simp] theorem State.modRecorder_ctl (s : State) (n : Svc) (f : Recorder → Recorder) : (s.modRecorder n f).ctl = s.ctl := rfl
@[simp] theorem State.modRecorder_feed (s : State) (n : Svc) (f : Recorder → Recorder) : (s.modRecorder n f).feed = s.feed := rfl
@[simp] theorem State.modRecorder_meter (s : State) (n : Svc) (f : Recorder → Recorder) : (s.modRecorder n f).meter = s.meter := rfl
@[simp] theorem State.modRecorder_caption (s : State) (n : Svc) (f : Recorder → Recorder) : (s.modRecorder n f).caption = s.caption := rfl
@[simp] theorem State.modRecorder_sched (s : State) (n : Svc) (f : Recorder → Recorder) : (s.modRecorder n f).sched = s.sched := rfl
@[simp] theorem State.modRecorder_pool (s : State) (n : Svc) (f : Recorder → Recorder) : (s.modRecorder n f).pool = s.pool := rfl
@[simp] theorem State.modRecorder_integ (s : State) (n : Svc) (f : Recorder → Recorder) : (s.modRecorder n f).integ = s.integ := rfl
@[simp] theorem State.modRecorder_proxy (s : State) (n : Svc) (f : Recorder → Recorder) : (s.modRecorder n f).proxy = s.proxy := rfl
@[simp] theorem State.modRecorder_recorder (s : State) (n : Svc) (f : Recorder → Recorder) : (s.modRecorder n f).recorder = upd s.recorder n f := rfl
@[simp] theorem State.modRecorder_extents (s : State) (n : Svc) (f : Recorder → Recorder) : (s.modRecorder n f).extents = s.extents := rfl
@[simp] theorem State.modRecorder_mover (s : State) (n : Svc) (f : Recorder → Recorder) : (s.modRecorder n f).mover = s.mover := rfl
@[simp] theorem State.modRecorder_panel (s : State) (n : Svc) (f : Recorder → Recorder) : (s.modRecorder n f).panel = s.panel := rfl
@[simp] theorem State.modRecorder_devPanel (s : State) (n : Svc) (f : Recorder → Recorder) : (s.modRecorder n f).devPanel = s.devPanel := rfl
@[simp] theorem State.modRecorder_devPriority (s : State) (n : Svc) (f : Recorder → Recorder) : (s.modRecorder n f).devPriority = s.devPriority := rfl
@[simp] theorem State.modRecorder_alert (s : State) (n : Svc) (f : Recorder → Recorder) : (s.modRecorder n f).alert = s.alert := rfl
@[simp] theorem State.modRecorder_sheet (s : State) (n : Svc) (f : Recorder → Recorder) : (s.modRecorder n f).sheet = s.sheet := rfl
@[simp] theorem State.modRecorder_store (s : State) (n : Svc) (f : Recorder → Recorder) : (s.modRecorder n f).store = s.store := rfl
@[simp] theorem State.modRecorder_live (s : State) (n : Svc) (f : Recorder → Recorder) : (s.modRecorder n f).live = s.live := rfl
@[simp] theorem State.modRecorder_header (s : State) (n : Svc) (f : Recorder → Recorder) : (s.modRecorder n f).header = s.header := rfl
@[simp] theorem State.modRecorder_host (s : State) (n : Svc) (f : Recorder → Recorder) : (s.modRecorder n f).host = s.host := rfl
@[simp] theorem State.modRecorder_pending (s : State) (n : Svc) (f : Recorder → Recorder) : (s.modRecorder n f).pending = s.pending := rfl

/-! ### `modExtent` -/

@[simp] theorem State.modExtent_powered (s : State) (x : ExtId) (f : Extent → Extent) : (s.modExtent x f).powered = s.powered := rfl
@[simp] theorem State.modExtent_ctl (s : State) (x : ExtId) (f : Extent → Extent) : (s.modExtent x f).ctl = s.ctl := rfl
@[simp] theorem State.modExtent_feed (s : State) (x : ExtId) (f : Extent → Extent) : (s.modExtent x f).feed = s.feed := rfl
@[simp] theorem State.modExtent_meter (s : State) (x : ExtId) (f : Extent → Extent) : (s.modExtent x f).meter = s.meter := rfl
@[simp] theorem State.modExtent_caption (s : State) (x : ExtId) (f : Extent → Extent) : (s.modExtent x f).caption = s.caption := rfl
@[simp] theorem State.modExtent_sched (s : State) (x : ExtId) (f : Extent → Extent) : (s.modExtent x f).sched = s.sched := rfl
@[simp] theorem State.modExtent_pool (s : State) (x : ExtId) (f : Extent → Extent) : (s.modExtent x f).pool = s.pool := rfl
@[simp] theorem State.modExtent_integ (s : State) (x : ExtId) (f : Extent → Extent) : (s.modExtent x f).integ = s.integ := rfl
@[simp] theorem State.modExtent_proxy (s : State) (x : ExtId) (f : Extent → Extent) : (s.modExtent x f).proxy = s.proxy := rfl
@[simp] theorem State.modExtent_recorder (s : State) (x : ExtId) (f : Extent → Extent) : (s.modExtent x f).recorder = s.recorder := rfl
@[simp] theorem State.modExtent_extents (s : State) (x : ExtId) (f : Extent → Extent) : (s.modExtent x f).extents = upd s.extents x f := rfl
@[simp] theorem State.modExtent_mover (s : State) (x : ExtId) (f : Extent → Extent) : (s.modExtent x f).mover = s.mover := rfl
@[simp] theorem State.modExtent_panel (s : State) (x : ExtId) (f : Extent → Extent) : (s.modExtent x f).panel = s.panel := rfl
@[simp] theorem State.modExtent_devPanel (s : State) (x : ExtId) (f : Extent → Extent) : (s.modExtent x f).devPanel = s.devPanel := rfl
@[simp] theorem State.modExtent_devPriority (s : State) (x : ExtId) (f : Extent → Extent) : (s.modExtent x f).devPriority = s.devPriority := rfl
@[simp] theorem State.modExtent_alert (s : State) (x : ExtId) (f : Extent → Extent) : (s.modExtent x f).alert = s.alert := rfl
@[simp] theorem State.modExtent_sheet (s : State) (x : ExtId) (f : Extent → Extent) : (s.modExtent x f).sheet = s.sheet := rfl
@[simp] theorem State.modExtent_store (s : State) (x : ExtId) (f : Extent → Extent) : (s.modExtent x f).store = s.store := rfl
@[simp] theorem State.modExtent_live (s : State) (x : ExtId) (f : Extent → Extent) : (s.modExtent x f).live = s.live := rfl
@[simp] theorem State.modExtent_header (s : State) (x : ExtId) (f : Extent → Extent) : (s.modExtent x f).header = s.header := rfl
@[simp] theorem State.modExtent_host (s : State) (x : ExtId) (f : Extent → Extent) : (s.modExtent x f).host = s.host := rfl
@[simp] theorem State.modExtent_pending (s : State) (x : ExtId) (f : Extent → Extent) : (s.modExtent x f).pending = s.pending := rfl

/-! ### `modMover` -/

@[simp] theorem State.modMover_powered (s : State) (f : Mover → Mover) : (s.modMover f).powered = s.powered := rfl
@[simp] theorem State.modMover_ctl (s : State) (f : Mover → Mover) : (s.modMover f).ctl = s.ctl := rfl
@[simp] theorem State.modMover_feed (s : State) (f : Mover → Mover) : (s.modMover f).feed = s.feed := rfl
@[simp] theorem State.modMover_meter (s : State) (f : Mover → Mover) : (s.modMover f).meter = s.meter := rfl
@[simp] theorem State.modMover_caption (s : State) (f : Mover → Mover) : (s.modMover f).caption = s.caption := rfl
@[simp] theorem State.modMover_sched (s : State) (f : Mover → Mover) : (s.modMover f).sched = s.sched := rfl
@[simp] theorem State.modMover_pool (s : State) (f : Mover → Mover) : (s.modMover f).pool = s.pool := rfl
@[simp] theorem State.modMover_integ (s : State) (f : Mover → Mover) : (s.modMover f).integ = s.integ := rfl
@[simp] theorem State.modMover_proxy (s : State) (f : Mover → Mover) : (s.modMover f).proxy = s.proxy := rfl
@[simp] theorem State.modMover_recorder (s : State) (f : Mover → Mover) : (s.modMover f).recorder = s.recorder := rfl
@[simp] theorem State.modMover_extents (s : State) (f : Mover → Mover) : (s.modMover f).extents = s.extents := rfl
@[simp] theorem State.modMover_mover (s : State) (f : Mover → Mover) : (s.modMover f).mover = f s.mover := rfl
@[simp] theorem State.modMover_panel (s : State) (f : Mover → Mover) : (s.modMover f).panel = s.panel := rfl
@[simp] theorem State.modMover_devPanel (s : State) (f : Mover → Mover) : (s.modMover f).devPanel = s.devPanel := rfl
@[simp] theorem State.modMover_devPriority (s : State) (f : Mover → Mover) : (s.modMover f).devPriority = s.devPriority := rfl
@[simp] theorem State.modMover_alert (s : State) (f : Mover → Mover) : (s.modMover f).alert = s.alert := rfl
@[simp] theorem State.modMover_sheet (s : State) (f : Mover → Mover) : (s.modMover f).sheet = s.sheet := rfl
@[simp] theorem State.modMover_store (s : State) (f : Mover → Mover) : (s.modMover f).store = s.store := rfl
@[simp] theorem State.modMover_live (s : State) (f : Mover → Mover) : (s.modMover f).live = s.live := rfl
@[simp] theorem State.modMover_header (s : State) (f : Mover → Mover) : (s.modMover f).header = s.header := rfl
@[simp] theorem State.modMover_host (s : State) (f : Mover → Mover) : (s.modMover f).host = s.host := rfl
@[simp] theorem State.modMover_pending (s : State) (f : Mover → Mover) : (s.modMover f).pending = s.pending := rfl

/-! ### `modPriorities` -/

@[simp] theorem State.modPriorities_powered (s : State) (f : Vector Nat 3 → Vector Nat 3) : (s.modPriorities f).powered = s.powered := rfl
@[simp] theorem State.modPriorities_ctl (s : State) (f : Vector Nat 3 → Vector Nat 3) : (s.modPriorities f).ctl = s.ctl := rfl
@[simp] theorem State.modPriorities_feed (s : State) (f : Vector Nat 3 → Vector Nat 3) : (s.modPriorities f).feed = s.feed := rfl
@[simp] theorem State.modPriorities_meter (s : State) (f : Vector Nat 3 → Vector Nat 3) : (s.modPriorities f).meter = s.meter := rfl
@[simp] theorem State.modPriorities_caption (s : State) (f : Vector Nat 3 → Vector Nat 3) : (s.modPriorities f).caption = s.caption := rfl
@[simp] theorem State.modPriorities_sched (s : State) (f : Vector Nat 3 → Vector Nat 3) : (s.modPriorities f).sched = s.sched := rfl
@[simp] theorem State.modPriorities_pool (s : State) (f : Vector Nat 3 → Vector Nat 3) : (s.modPriorities f).pool = s.pool := rfl
@[simp] theorem State.modPriorities_integ (s : State) (f : Vector Nat 3 → Vector Nat 3) : (s.modPriorities f).integ = s.integ := rfl
@[simp] theorem State.modPriorities_proxy (s : State) (f : Vector Nat 3 → Vector Nat 3) : (s.modPriorities f).proxy = s.proxy := rfl
@[simp] theorem State.modPriorities_recorder (s : State) (f : Vector Nat 3 → Vector Nat 3) : (s.modPriorities f).recorder = s.recorder := rfl
@[simp] theorem State.modPriorities_extents (s : State) (f : Vector Nat 3 → Vector Nat 3) : (s.modPriorities f).extents = s.extents := rfl
@[simp] theorem State.modPriorities_mover (s : State) (f : Vector Nat 3 → Vector Nat 3) : (s.modPriorities f).mover = s.mover := rfl
@[simp] theorem State.modPriorities_panel (s : State) (f : Vector Nat 3 → Vector Nat 3) : (s.modPriorities f).panel = s.panel := rfl
@[simp] theorem State.modPriorities_devPanel (s : State) (f : Vector Nat 3 → Vector Nat 3) : (s.modPriorities f).devPanel = s.devPanel := rfl
@[simp] theorem State.modPriorities_devPriority (s : State) (f : Vector Nat 3 → Vector Nat 3) : (s.modPriorities f).devPriority = f s.devPriority := rfl
@[simp] theorem State.modPriorities_alert (s : State) (f : Vector Nat 3 → Vector Nat 3) : (s.modPriorities f).alert = s.alert := rfl
@[simp] theorem State.modPriorities_sheet (s : State) (f : Vector Nat 3 → Vector Nat 3) : (s.modPriorities f).sheet = s.sheet := rfl
@[simp] theorem State.modPriorities_store (s : State) (f : Vector Nat 3 → Vector Nat 3) : (s.modPriorities f).store = s.store := rfl
@[simp] theorem State.modPriorities_live (s : State) (f : Vector Nat 3 → Vector Nat 3) : (s.modPriorities f).live = s.live := rfl
@[simp] theorem State.modPriorities_header (s : State) (f : Vector Nat 3 → Vector Nat 3) : (s.modPriorities f).header = s.header := rfl
@[simp] theorem State.modPriorities_host (s : State) (f : Vector Nat 3 → Vector Nat 3) : (s.modPriorities f).host = s.host := rfl
@[simp] theorem State.modPriorities_pending (s : State) (f : Vector Nat 3 → Vector Nat 3) : (s.modPriorities f).pending = s.pending := rfl

/-! ### `modAlert` -/

@[simp] theorem State.modAlert_powered (s : State) (f : Alert → Alert) : (s.modAlert f).powered = s.powered := rfl
@[simp] theorem State.modAlert_ctl (s : State) (f : Alert → Alert) : (s.modAlert f).ctl = s.ctl := rfl
@[simp] theorem State.modAlert_feed (s : State) (f : Alert → Alert) : (s.modAlert f).feed = s.feed := rfl
@[simp] theorem State.modAlert_meter (s : State) (f : Alert → Alert) : (s.modAlert f).meter = s.meter := rfl
@[simp] theorem State.modAlert_caption (s : State) (f : Alert → Alert) : (s.modAlert f).caption = s.caption := rfl
@[simp] theorem State.modAlert_sched (s : State) (f : Alert → Alert) : (s.modAlert f).sched = s.sched := rfl
@[simp] theorem State.modAlert_pool (s : State) (f : Alert → Alert) : (s.modAlert f).pool = s.pool := rfl
@[simp] theorem State.modAlert_integ (s : State) (f : Alert → Alert) : (s.modAlert f).integ = s.integ := rfl
@[simp] theorem State.modAlert_proxy (s : State) (f : Alert → Alert) : (s.modAlert f).proxy = s.proxy := rfl
@[simp] theorem State.modAlert_recorder (s : State) (f : Alert → Alert) : (s.modAlert f).recorder = s.recorder := rfl
@[simp] theorem State.modAlert_extents (s : State) (f : Alert → Alert) : (s.modAlert f).extents = s.extents := rfl
@[simp] theorem State.modAlert_mover (s : State) (f : Alert → Alert) : (s.modAlert f).mover = s.mover := rfl
@[simp] theorem State.modAlert_panel (s : State) (f : Alert → Alert) : (s.modAlert f).panel = s.panel := rfl
@[simp] theorem State.modAlert_devPanel (s : State) (f : Alert → Alert) : (s.modAlert f).devPanel = s.devPanel := rfl
@[simp] theorem State.modAlert_devPriority (s : State) (f : Alert → Alert) : (s.modAlert f).devPriority = s.devPriority := rfl
@[simp] theorem State.modAlert_alert (s : State) (f : Alert → Alert) : (s.modAlert f).alert = f s.alert := rfl
@[simp] theorem State.modAlert_sheet (s : State) (f : Alert → Alert) : (s.modAlert f).sheet = s.sheet := rfl
@[simp] theorem State.modAlert_store (s : State) (f : Alert → Alert) : (s.modAlert f).store = s.store := rfl
@[simp] theorem State.modAlert_live (s : State) (f : Alert → Alert) : (s.modAlert f).live = s.live := rfl
@[simp] theorem State.modAlert_header (s : State) (f : Alert → Alert) : (s.modAlert f).header = s.header := rfl
@[simp] theorem State.modAlert_host (s : State) (f : Alert → Alert) : (s.modAlert f).host = s.host := rfl
@[simp] theorem State.modAlert_pending (s : State) (f : Alert → Alert) : (s.modAlert f).pending = s.pending := rfl

/-! ### `modSheet` -/

@[simp] theorem State.modSheet_powered (s : State) (n : Svc) (f : SheetUnit → SheetUnit) : (s.modSheet n f).powered = s.powered := rfl
@[simp] theorem State.modSheet_ctl (s : State) (n : Svc) (f : SheetUnit → SheetUnit) : (s.modSheet n f).ctl = s.ctl := rfl
@[simp] theorem State.modSheet_feed (s : State) (n : Svc) (f : SheetUnit → SheetUnit) : (s.modSheet n f).feed = s.feed := rfl
@[simp] theorem State.modSheet_meter (s : State) (n : Svc) (f : SheetUnit → SheetUnit) : (s.modSheet n f).meter = s.meter := rfl
@[simp] theorem State.modSheet_caption (s : State) (n : Svc) (f : SheetUnit → SheetUnit) : (s.modSheet n f).caption = s.caption := rfl
@[simp] theorem State.modSheet_sched (s : State) (n : Svc) (f : SheetUnit → SheetUnit) : (s.modSheet n f).sched = s.sched := rfl
@[simp] theorem State.modSheet_pool (s : State) (n : Svc) (f : SheetUnit → SheetUnit) : (s.modSheet n f).pool = s.pool := rfl
@[simp] theorem State.modSheet_integ (s : State) (n : Svc) (f : SheetUnit → SheetUnit) : (s.modSheet n f).integ = s.integ := rfl
@[simp] theorem State.modSheet_proxy (s : State) (n : Svc) (f : SheetUnit → SheetUnit) : (s.modSheet n f).proxy = s.proxy := rfl
@[simp] theorem State.modSheet_recorder (s : State) (n : Svc) (f : SheetUnit → SheetUnit) : (s.modSheet n f).recorder = s.recorder := rfl
@[simp] theorem State.modSheet_extents (s : State) (n : Svc) (f : SheetUnit → SheetUnit) : (s.modSheet n f).extents = s.extents := rfl
@[simp] theorem State.modSheet_mover (s : State) (n : Svc) (f : SheetUnit → SheetUnit) : (s.modSheet n f).mover = s.mover := rfl
@[simp] theorem State.modSheet_panel (s : State) (n : Svc) (f : SheetUnit → SheetUnit) : (s.modSheet n f).panel = s.panel := rfl
@[simp] theorem State.modSheet_devPanel (s : State) (n : Svc) (f : SheetUnit → SheetUnit) : (s.modSheet n f).devPanel = s.devPanel := rfl
@[simp] theorem State.modSheet_devPriority (s : State) (n : Svc) (f : SheetUnit → SheetUnit) : (s.modSheet n f).devPriority = s.devPriority := rfl
@[simp] theorem State.modSheet_alert (s : State) (n : Svc) (f : SheetUnit → SheetUnit) : (s.modSheet n f).alert = s.alert := rfl
@[simp] theorem State.modSheet_sheet (s : State) (n : Svc) (f : SheetUnit → SheetUnit) : (s.modSheet n f).sheet = upd s.sheet n f := rfl
@[simp] theorem State.modSheet_store (s : State) (n : Svc) (f : SheetUnit → SheetUnit) : (s.modSheet n f).store = s.store := rfl
@[simp] theorem State.modSheet_live (s : State) (n : Svc) (f : SheetUnit → SheetUnit) : (s.modSheet n f).live = s.live := rfl
@[simp] theorem State.modSheet_header (s : State) (n : Svc) (f : SheetUnit → SheetUnit) : (s.modSheet n f).header = s.header := rfl
@[simp] theorem State.modSheet_host (s : State) (n : Svc) (f : SheetUnit → SheetUnit) : (s.modSheet n f).host = s.host := rfl
@[simp] theorem State.modSheet_pending (s : State) (n : Svc) (f : SheetUnit → SheetUnit) : (s.modSheet n f).pending = s.pending := rfl

/-! ### `modStore` -/

@[simp] theorem State.modStore_powered (s : State) (f : Store → Store) : (s.modStore f).powered = s.powered := rfl
@[simp] theorem State.modStore_ctl (s : State) (f : Store → Store) : (s.modStore f).ctl = s.ctl := rfl
@[simp] theorem State.modStore_feed (s : State) (f : Store → Store) : (s.modStore f).feed = s.feed := rfl
@[simp] theorem State.modStore_meter (s : State) (f : Store → Store) : (s.modStore f).meter = s.meter := rfl
@[simp] theorem State.modStore_caption (s : State) (f : Store → Store) : (s.modStore f).caption = s.caption := rfl
@[simp] theorem State.modStore_sched (s : State) (f : Store → Store) : (s.modStore f).sched = s.sched := rfl
@[simp] theorem State.modStore_pool (s : State) (f : Store → Store) : (s.modStore f).pool = s.pool := rfl
@[simp] theorem State.modStore_integ (s : State) (f : Store → Store) : (s.modStore f).integ = s.integ := rfl
@[simp] theorem State.modStore_proxy (s : State) (f : Store → Store) : (s.modStore f).proxy = s.proxy := rfl
@[simp] theorem State.modStore_recorder (s : State) (f : Store → Store) : (s.modStore f).recorder = s.recorder := rfl
@[simp] theorem State.modStore_extents (s : State) (f : Store → Store) : (s.modStore f).extents = s.extents := rfl
@[simp] theorem State.modStore_mover (s : State) (f : Store → Store) : (s.modStore f).mover = s.mover := rfl
@[simp] theorem State.modStore_panel (s : State) (f : Store → Store) : (s.modStore f).panel = s.panel := rfl
@[simp] theorem State.modStore_devPanel (s : State) (f : Store → Store) : (s.modStore f).devPanel = s.devPanel := rfl
@[simp] theorem State.modStore_devPriority (s : State) (f : Store → Store) : (s.modStore f).devPriority = s.devPriority := rfl
@[simp] theorem State.modStore_alert (s : State) (f : Store → Store) : (s.modStore f).alert = s.alert := rfl
@[simp] theorem State.modStore_sheet (s : State) (f : Store → Store) : (s.modStore f).sheet = s.sheet := rfl
@[simp] theorem State.modStore_store (s : State) (f : Store → Store) : (s.modStore f).store = f s.store := rfl
@[simp] theorem State.modStore_live (s : State) (f : Store → Store) : (s.modStore f).live = s.live := rfl
@[simp] theorem State.modStore_header (s : State) (f : Store → Store) : (s.modStore f).header = s.header := rfl
@[simp] theorem State.modStore_host (s : State) (f : Store → Store) : (s.modStore f).host = s.host := rfl
@[simp] theorem State.modStore_pending (s : State) (f : Store → Store) : (s.modStore f).pending = s.pending := rfl

/-! ### `modLive` -/

@[simp] theorem State.modLive_powered (s : State) (n : Svc) (f : LiveWrite → LiveWrite) : (s.modLive n f).powered = s.powered := rfl
@[simp] theorem State.modLive_ctl (s : State) (n : Svc) (f : LiveWrite → LiveWrite) : (s.modLive n f).ctl = s.ctl := rfl
@[simp] theorem State.modLive_feed (s : State) (n : Svc) (f : LiveWrite → LiveWrite) : (s.modLive n f).feed = s.feed := rfl
@[simp] theorem State.modLive_meter (s : State) (n : Svc) (f : LiveWrite → LiveWrite) : (s.modLive n f).meter = s.meter := rfl
@[simp] theorem State.modLive_caption (s : State) (n : Svc) (f : LiveWrite → LiveWrite) : (s.modLive n f).caption = s.caption := rfl
@[simp] theorem State.modLive_sched (s : State) (n : Svc) (f : LiveWrite → LiveWrite) : (s.modLive n f).sched = s.sched := rfl
@[simp] theorem State.modLive_pool (s : State) (n : Svc) (f : LiveWrite → LiveWrite) : (s.modLive n f).pool = s.pool := rfl
@[simp] theorem State.modLive_integ (s : State) (n : Svc) (f : LiveWrite → LiveWrite) : (s.modLive n f).integ = s.integ := rfl
@[simp] theorem State.modLive_proxy (s : State) (n : Svc) (f : LiveWrite → LiveWrite) : (s.modLive n f).proxy = s.proxy := rfl
@[simp] theorem State.modLive_recorder (s : State) (n : Svc) (f : LiveWrite → LiveWrite) : (s.modLive n f).recorder = s.recorder := rfl
@[simp] theorem State.modLive_extents (s : State) (n : Svc) (f : LiveWrite → LiveWrite) : (s.modLive n f).extents = s.extents := rfl
@[simp] theorem State.modLive_mover (s : State) (n : Svc) (f : LiveWrite → LiveWrite) : (s.modLive n f).mover = s.mover := rfl
@[simp] theorem State.modLive_panel (s : State) (n : Svc) (f : LiveWrite → LiveWrite) : (s.modLive n f).panel = s.panel := rfl
@[simp] theorem State.modLive_devPanel (s : State) (n : Svc) (f : LiveWrite → LiveWrite) : (s.modLive n f).devPanel = s.devPanel := rfl
@[simp] theorem State.modLive_devPriority (s : State) (n : Svc) (f : LiveWrite → LiveWrite) : (s.modLive n f).devPriority = s.devPriority := rfl
@[simp] theorem State.modLive_alert (s : State) (n : Svc) (f : LiveWrite → LiveWrite) : (s.modLive n f).alert = s.alert := rfl
@[simp] theorem State.modLive_sheet (s : State) (n : Svc) (f : LiveWrite → LiveWrite) : (s.modLive n f).sheet = s.sheet := rfl
@[simp] theorem State.modLive_store (s : State) (n : Svc) (f : LiveWrite → LiveWrite) : (s.modLive n f).store = s.store := rfl
@[simp] theorem State.modLive_live (s : State) (n : Svc) (f : LiveWrite → LiveWrite) : (s.modLive n f).live = upd s.live n f := rfl
@[simp] theorem State.modLive_header (s : State) (n : Svc) (f : LiveWrite → LiveWrite) : (s.modLive n f).header = s.header := rfl
@[simp] theorem State.modLive_host (s : State) (n : Svc) (f : LiveWrite → LiveWrite) : (s.modLive n f).host = s.host := rfl
@[simp] theorem State.modLive_pending (s : State) (n : Svc) (f : LiveWrite → LiveWrite) : (s.modLive n f).pending = s.pending := rfl

/-! ### `modHeader` -/

@[simp] theorem State.modHeader_powered (s : State) (f : List HeaderItem → List HeaderItem) : (s.modHeader f).powered = s.powered := rfl
@[simp] theorem State.modHeader_ctl (s : State) (f : List HeaderItem → List HeaderItem) : (s.modHeader f).ctl = s.ctl := rfl
@[simp] theorem State.modHeader_feed (s : State) (f : List HeaderItem → List HeaderItem) : (s.modHeader f).feed = s.feed := rfl
@[simp] theorem State.modHeader_meter (s : State) (f : List HeaderItem → List HeaderItem) : (s.modHeader f).meter = s.meter := rfl
@[simp] theorem State.modHeader_caption (s : State) (f : List HeaderItem → List HeaderItem) : (s.modHeader f).caption = s.caption := rfl
@[simp] theorem State.modHeader_sched (s : State) (f : List HeaderItem → List HeaderItem) : (s.modHeader f).sched = s.sched := rfl
@[simp] theorem State.modHeader_pool (s : State) (f : List HeaderItem → List HeaderItem) : (s.modHeader f).pool = s.pool := rfl
@[simp] theorem State.modHeader_integ (s : State) (f : List HeaderItem → List HeaderItem) : (s.modHeader f).integ = s.integ := rfl
@[simp] theorem State.modHeader_proxy (s : State) (f : List HeaderItem → List HeaderItem) : (s.modHeader f).proxy = s.proxy := rfl
@[simp] theorem State.modHeader_recorder (s : State) (f : List HeaderItem → List HeaderItem) : (s.modHeader f).recorder = s.recorder := rfl
@[simp] theorem State.modHeader_extents (s : State) (f : List HeaderItem → List HeaderItem) : (s.modHeader f).extents = s.extents := rfl
@[simp] theorem State.modHeader_mover (s : State) (f : List HeaderItem → List HeaderItem) : (s.modHeader f).mover = s.mover := rfl
@[simp] theorem State.modHeader_panel (s : State) (f : List HeaderItem → List HeaderItem) : (s.modHeader f).panel = s.panel := rfl
@[simp] theorem State.modHeader_devPanel (s : State) (f : List HeaderItem → List HeaderItem) : (s.modHeader f).devPanel = s.devPanel := rfl
@[simp] theorem State.modHeader_devPriority (s : State) (f : List HeaderItem → List HeaderItem) : (s.modHeader f).devPriority = s.devPriority := rfl
@[simp] theorem State.modHeader_alert (s : State) (f : List HeaderItem → List HeaderItem) : (s.modHeader f).alert = s.alert := rfl
@[simp] theorem State.modHeader_sheet (s : State) (f : List HeaderItem → List HeaderItem) : (s.modHeader f).sheet = s.sheet := rfl
@[simp] theorem State.modHeader_store (s : State) (f : List HeaderItem → List HeaderItem) : (s.modHeader f).store = s.store := rfl
@[simp] theorem State.modHeader_live (s : State) (f : List HeaderItem → List HeaderItem) : (s.modHeader f).live = s.live := rfl
@[simp] theorem State.modHeader_header (s : State) (f : List HeaderItem → List HeaderItem) : (s.modHeader f).header = f s.header := rfl
@[simp] theorem State.modHeader_host (s : State) (f : List HeaderItem → List HeaderItem) : (s.modHeader f).host = s.host := rfl
@[simp] theorem State.modHeader_pending (s : State) (f : List HeaderItem → List HeaderItem) : (s.modHeader f).pending = s.pending := rfl

/-! ### `land` -/

@[simp] theorem State.land_powered (s : State) (ps : List Piece) : (s.land ps).powered = s.powered := rfl
@[simp] theorem State.land_ctl (s : State) (ps : List Piece) : (s.land ps).ctl = s.ctl := rfl
@[simp] theorem State.land_feed (s : State) (ps : List Piece) : (s.land ps).feed = s.feed := rfl
@[simp] theorem State.land_meter (s : State) (ps : List Piece) : (s.land ps).meter = s.meter := rfl
@[simp] theorem State.land_caption (s : State) (ps : List Piece) : (s.land ps).caption = s.caption := rfl
@[simp] theorem State.land_sched (s : State) (ps : List Piece) : (s.land ps).sched = s.sched := rfl
@[simp] theorem State.land_pool (s : State) (ps : List Piece) : (s.land ps).pool = s.pool := rfl
@[simp] theorem State.land_integ (s : State) (ps : List Piece) : (s.land ps).integ = s.integ := rfl
@[simp] theorem State.land_proxy (s : State) (ps : List Piece) : (s.land ps).proxy = s.proxy := rfl
@[simp] theorem State.land_recorder (s : State) (ps : List Piece) : (s.land ps).recorder = s.recorder := rfl
@[simp] theorem State.land_extents (s : State) (ps : List Piece) : (s.land ps).extents = s.extents := rfl
@[simp] theorem State.land_mover (s : State) (ps : List Piece) : (s.land ps).mover = s.mover := rfl
@[simp] theorem State.land_panel (s : State) (ps : List Piece) : (s.land ps).panel = s.panel := rfl
@[simp] theorem State.land_devPanel (s : State) (ps : List Piece) : (s.land ps).devPanel = s.devPanel := rfl
@[simp] theorem State.land_devPriority (s : State) (ps : List Piece) : (s.land ps).devPriority = s.devPriority := rfl
@[simp] theorem State.land_alert (s : State) (ps : List Piece) : (s.land ps).alert = s.alert := rfl
@[simp] theorem State.land_sheet (s : State) (ps : List Piece) : (s.land ps).sheet = s.sheet := rfl
@[simp] theorem State.land_store (s : State) (ps : List Piece) : (s.land ps).store = s.store := rfl
@[simp] theorem State.land_live (s : State) (ps : List Piece) : (s.land ps).live = s.live := rfl
@[simp] theorem State.land_header (s : State) (ps : List Piece) : (s.land ps).header = s.header := rfl
@[simp] theorem State.land_host (s : State) (ps : List Piece) : (s.land ps).host = s.host.writePieces ps := rfl
@[simp] theorem State.land_pending (s : State) (ps : List Piece) : (s.land ps).pending = s.pending := rfl

/-! ### `accessDone`, `modEntry`, `modCond` -/

@[simp] theorem State.accessDone_powered (s : State) : s.accessDone.powered = s.powered := rfl
@[simp] theorem State.accessDone_ctl (s : State) : s.accessDone.ctl = { s.ctl with consecutive := 0 } := rfl
@[simp] theorem State.accessDone_feed (s : State) : s.accessDone.feed = s.feed := rfl
@[simp] theorem State.accessDone_meter (s : State) : s.accessDone.meter = s.meter := rfl
@[simp] theorem State.accessDone_caption (s : State) : s.accessDone.caption = s.caption := rfl
@[simp] theorem State.accessDone_sched (s : State) : s.accessDone.sched = s.sched := rfl
@[simp] theorem State.accessDone_pool (s : State) : s.accessDone.pool = s.pool := rfl
@[simp] theorem State.accessDone_integ (s : State) : s.accessDone.integ = s.integ := rfl
@[simp] theorem State.accessDone_proxy (s : State) : s.accessDone.proxy = s.proxy := rfl
@[simp] theorem State.accessDone_recorder (s : State) : s.accessDone.recorder = s.recorder := rfl
@[simp] theorem State.accessDone_extents (s : State) : s.accessDone.extents = s.extents := rfl
@[simp] theorem State.accessDone_mover (s : State) : s.accessDone.mover = s.mover := rfl
@[simp] theorem State.accessDone_panel (s : State) : s.accessDone.panel = s.panel := rfl
@[simp] theorem State.accessDone_devPanel (s : State) : s.accessDone.devPanel = s.devPanel := rfl
@[simp] theorem State.accessDone_devPriority (s : State) : s.accessDone.devPriority = s.devPriority := rfl
@[simp] theorem State.accessDone_alert (s : State) : s.accessDone.alert = s.alert := rfl
@[simp] theorem State.accessDone_sheet (s : State) : s.accessDone.sheet = s.sheet := rfl
@[simp] theorem State.accessDone_store (s : State) : s.accessDone.store = s.store := rfl
@[simp] theorem State.accessDone_live (s : State) : s.accessDone.live = s.live := rfl
@[simp] theorem State.accessDone_header (s : State) : s.accessDone.header = s.header := rfl
@[simp] theorem State.accessDone_host (s : State) : s.accessDone.host = s.host := rfl
@[simp] theorem State.accessDone_pending (s : State) : s.accessDone.pending = s.pending := rfl
@[simp] theorem State.modEntry_powered (s : State) (n : Svc) (k : Slot) (f : Entry → Entry) : (s.modEntry n k f).powered = s.powered := rfl
@[simp] theorem State.modEntry_ctl (s : State) (n : Svc) (k : Slot) (f : Entry → Entry) : (s.modEntry n k f).ctl = s.ctl := rfl
@[simp] theorem State.modEntry_feed (s : State) (n : Svc) (k : Slot) (f : Entry → Entry) : (s.modEntry n k f).feed = s.feed := rfl
@[simp] theorem State.modEntry_meter (s : State) (n : Svc) (k : Slot) (f : Entry → Entry) : (s.modEntry n k f).meter = s.meter := rfl
@[simp] theorem State.modEntry_caption (s : State) (n : Svc) (k : Slot) (f : Entry → Entry) : (s.modEntry n k f).caption = s.caption := rfl
@[simp] theorem State.modEntry_pool (s : State) (n : Svc) (k : Slot) (f : Entry → Entry) : (s.modEntry n k f).pool = s.pool := rfl
@[simp] theorem State.modEntry_integ (s : State) (n : Svc) (k : Slot) (f : Entry → Entry) : (s.modEntry n k f).integ = s.integ := rfl
@[simp] theorem State.modEntry_proxy (s : State) (n : Svc) (k : Slot) (f : Entry → Entry) : (s.modEntry n k f).proxy = s.proxy := rfl
@[simp] theorem State.modEntry_recorder (s : State) (n : Svc) (k : Slot) (f : Entry → Entry) : (s.modEntry n k f).recorder = s.recorder := rfl
@[simp] theorem State.modEntry_extents (s : State) (n : Svc) (k : Slot) (f : Entry → Entry) : (s.modEntry n k f).extents = s.extents := rfl
@[simp] theorem State.modEntry_mover (s : State) (n : Svc) (k : Slot) (f : Entry → Entry) : (s.modEntry n k f).mover = s.mover := rfl
@[simp] theorem State.modEntry_panel (s : State) (n : Svc) (k : Slot) (f : Entry → Entry) : (s.modEntry n k f).panel = s.panel := rfl
@[simp] theorem State.modEntry_devPanel (s : State) (n : Svc) (k : Slot) (f : Entry → Entry) : (s.modEntry n k f).devPanel = s.devPanel := rfl
@[simp] theorem State.modEntry_devPriority (s : State) (n : Svc) (k : Slot) (f : Entry → Entry) : (s.modEntry n k f).devPriority = s.devPriority := rfl
@[simp] theorem State.modEntry_alert (s : State) (n : Svc) (k : Slot) (f : Entry → Entry) : (s.modEntry n k f).alert = s.alert := rfl
@[simp] theorem State.modEntry_sheet (s : State) (n : Svc) (k : Slot) (f : Entry → Entry) : (s.modEntry n k f).sheet = s.sheet := rfl
@[simp] theorem State.modEntry_store (s : State) (n : Svc) (k : Slot) (f : Entry → Entry) : (s.modEntry n k f).store = s.store := rfl
@[simp] theorem State.modEntry_live (s : State) (n : Svc) (k : Slot) (f : Entry → Entry) : (s.modEntry n k f).live = s.live := rfl
@[simp] theorem State.modEntry_header (s : State) (n : Svc) (k : Slot) (f : Entry → Entry) : (s.modEntry n k f).header = s.header := rfl
@[simp] theorem State.modEntry_host (s : State) (n : Svc) (k : Slot) (f : Entry → Entry) : (s.modEntry n k f).host = s.host := rfl
@[simp] theorem State.modEntry_pending (s : State) (n : Svc) (k : Slot) (f : Entry → Entry) : (s.modEntry n k f).pending = s.pending := rfl
@[simp] theorem State.modCond_powered (s : State) (r : CondRef) (f : CondEntry → CondEntry) : (s.modCond r f).powered = s.powered := by
  cases r <;> rfl
@[simp] theorem State.modCond_ctl (s : State) (r : CondRef) (f : CondEntry → CondEntry) : (s.modCond r f).ctl = s.ctl := by
  cases r <;> rfl
@[simp] theorem State.modCond_feed (s : State) (r : CondRef) (f : CondEntry → CondEntry) : (s.modCond r f).feed = s.feed := by
  cases r <;> rfl
@[simp] theorem State.modCond_meter (s : State) (r : CondRef) (f : CondEntry → CondEntry) : (s.modCond r f).meter = s.meter := by
  cases r <;> rfl
@[simp] theorem State.modCond_caption (s : State) (r : CondRef) (f : CondEntry → CondEntry) : (s.modCond r f).caption = s.caption := by
  cases r <;> rfl
@[simp] theorem State.modCond_sched (s : State) (r : CondRef) (f : CondEntry → CondEntry) : (s.modCond r f).sched = s.sched := by
  cases r <;> rfl
@[simp] theorem State.modCond_pool (s : State) (r : CondRef) (f : CondEntry → CondEntry) : (s.modCond r f).pool = s.pool := by
  cases r <;> rfl
@[simp] theorem State.modCond_integ (s : State) (r : CondRef) (f : CondEntry → CondEntry) : (s.modCond r f).integ = s.integ := by
  cases r <;> rfl
@[simp] theorem State.modCond_proxy (s : State) (r : CondRef) (f : CondEntry → CondEntry) : (s.modCond r f).proxy = s.proxy := by
  cases r <;> rfl
@[simp] theorem State.modCond_recorder (s : State) (r : CondRef) (f : CondEntry → CondEntry) : (s.modCond r f).recorder = s.recorder := by
  cases r <;> rfl
@[simp] theorem State.modCond_extents (s : State) (r : CondRef) (f : CondEntry → CondEntry) : (s.modCond r f).extents = s.extents := by
  cases r <;> rfl
@[simp] theorem State.modCond_mover (s : State) (r : CondRef) (f : CondEntry → CondEntry) : (s.modCond r f).mover = s.mover := by
  cases r <;> rfl
@[simp] theorem State.modCond_devPriority (s : State) (r : CondRef) (f : CondEntry → CondEntry) : (s.modCond r f).devPriority = s.devPriority := by
  cases r <;> rfl
@[simp] theorem State.modCond_alert (s : State) (r : CondRef) (f : CondEntry → CondEntry) : (s.modCond r f).alert = s.alert := by
  cases r <;> rfl
@[simp] theorem State.modCond_sheet (s : State) (r : CondRef) (f : CondEntry → CondEntry) : (s.modCond r f).sheet = s.sheet := by
  cases r <;> rfl
@[simp] theorem State.modCond_store (s : State) (r : CondRef) (f : CondEntry → CondEntry) : (s.modCond r f).store = s.store := by
  cases r <;> rfl
@[simp] theorem State.modCond_live (s : State) (r : CondRef) (f : CondEntry → CondEntry) : (s.modCond r f).live = s.live := by
  cases r <;> rfl
@[simp] theorem State.modCond_header (s : State) (r : CondRef) (f : CondEntry → CondEntry) : (s.modCond r f).header = s.header := by
  cases r <;> rfl
@[simp] theorem State.modCond_host (s : State) (r : CondRef) (f : CondEntry → CondEntry) : (s.modCond r f).host = s.host := by
  cases r <;> rfl
@[simp] theorem State.modCond_pending (s : State) (r : CondRef) (f : CondEntry → CondEntry) : (s.modCond r f).pending = s.pending := by
  cases r <;> rfl
@[simp] theorem State.modCond_service_devPanel (s : State) (n : Svc) (c : SvcCond) (f : CondEntry → CondEntry) :
    (s.modCond (.service n c) f).devPanel = s.devPanel := rfl
@[simp] theorem State.modCond_device_panel (s : State) (c : DevCond) (f : CondEntry → CondEntry) :
    (s.modCond (.device c) f).panel = s.panel := rfl
@[simp] theorem State.modCond_service_panel (s : State) (n : Svc) (c : SvcCond) (f : CondEntry → CondEntry) :
    (s.modCond (.service n c) f).panel = upd s.panel n fun p => upd p (svcIndex c) f := rfl
@[simp] theorem State.modCond_device_devPanel (s : State) (c : DevCond) (f : CondEntry → CondEntry) :
    (s.modCond (.device c) f).devPanel = upd s.devPanel (devIndex c) f := rfl
@[simp] theorem State.modEntry_sched (s : State) (n : Svc) (k : Slot) (f : Entry → Entry) :
    (s.modEntry n k f).sched = upd s.sched n fun c => { c with entries := upd c.entries k f } := rfl

/-! ### Entries and conditions read after an update -/

@[simp] theorem State.modEntry_entry (s : State) (n : Svc) (k : Slot) (f : Entry → Entry) :
    (s.modEntry n k f).entry n k = f (s.entry n k) := by
  simp [State.entry]

theorem State.modEntry_entry_ne (s : State) (n m : Svc) (k j : Slot) (f : Entry → Entry) (h : m ≠ n ∨ j ≠ k) :
    (s.modEntry n k f).entry m j = s.entry m j := by
  by_cases hm : m = n
  · subst hm
    have hj : j ≠ k := by simpa using h
    simp [State.entry, hj]
  · simp [State.entry, hm]


/-! ### Folds keep what each of their steps keeps -/

theorem foldl_keeps {σ α : Type} (P : σ → Prop) (f : σ → α → σ) (hf : ∀ s a, P s → P (f s a)) :
    ∀ (l : List α) (s : σ), P s → P (l.foldl f s)
  | [], _, h => h
  | a :: l, s, h => foldl_keeps P f hf l (f s a) (hf s a h)

theorem foldl_same {σ α β : Type} (g : σ → β) (f : σ → α → σ) (hf : ∀ s a, g (f s a) = g s) (l : List α) (s : σ) :
    g (l.foldl f s) = g s :=
  foldl_keeps (fun t => g t = g s) f (fun t a h => (hf t a).trans h) l s rfl

@[simp] theorem foldl_powered {α : Type} (f : State → α → State) (l : List α) (s : State)
    (hf : ∀ t a, (f t a).powered = t.powered) : (l.foldl f s).powered = s.powered := foldl_same State.powered f hf l s
@[simp] theorem foldl_ctl {α : Type} (f : State → α → State) (l : List α) (s : State)
    (hf : ∀ t a, (f t a).ctl = t.ctl) : (l.foldl f s).ctl = s.ctl := foldl_same State.ctl f hf l s
@[simp] theorem foldl_feed {α : Type} (f : State → α → State) (l : List α) (s : State)
    (hf : ∀ t a, (f t a).feed = t.feed) : (l.foldl f s).feed = s.feed := foldl_same State.feed f hf l s
@[simp] theorem foldl_meter {α : Type} (f : State → α → State) (l : List α) (s : State)
    (hf : ∀ t a, (f t a).meter = t.meter) : (l.foldl f s).meter = s.meter := foldl_same State.meter f hf l s
@[simp] theorem foldl_caption {α : Type} (f : State → α → State) (l : List α) (s : State)
    (hf : ∀ t a, (f t a).caption = t.caption) : (l.foldl f s).caption = s.caption := foldl_same State.caption f hf l s
@[simp] theorem foldl_sched {α : Type} (f : State → α → State) (l : List α) (s : State)
    (hf : ∀ t a, (f t a).sched = t.sched) : (l.foldl f s).sched = s.sched := foldl_same State.sched f hf l s
@[simp] theorem foldl_pool {α : Type} (f : State → α → State) (l : List α) (s : State)
    (hf : ∀ t a, (f t a).pool = t.pool) : (l.foldl f s).pool = s.pool := foldl_same State.pool f hf l s
@[simp] theorem foldl_integ {α : Type} (f : State → α → State) (l : List α) (s : State)
    (hf : ∀ t a, (f t a).integ = t.integ) : (l.foldl f s).integ = s.integ := foldl_same State.integ f hf l s
@[simp] theorem foldl_proxy {α : Type} (f : State → α → State) (l : List α) (s : State)
    (hf : ∀ t a, (f t a).proxy = t.proxy) : (l.foldl f s).proxy = s.proxy := foldl_same State.proxy f hf l s
@[simp] theorem foldl_recorder {α : Type} (f : State → α → State) (l : List α) (s : State)
    (hf : ∀ t a, (f t a).recorder = t.recorder) : (l.foldl f s).recorder = s.recorder := foldl_same State.recorder f hf l s
@[simp] theorem foldl_extents {α : Type} (f : State → α → State) (l : List α) (s : State)
    (hf : ∀ t a, (f t a).extents = t.extents) : (l.foldl f s).extents = s.extents := foldl_same State.extents f hf l s
@[simp] theorem foldl_mover {α : Type} (f : State → α → State) (l : List α) (s : State)
    (hf : ∀ t a, (f t a).mover = t.mover) : (l.foldl f s).mover = s.mover := foldl_same State.mover f hf l s
@[simp] theorem foldl_panel {α : Type} (f : State → α → State) (l : List α) (s : State)
    (hf : ∀ t a, (f t a).panel = t.panel) : (l.foldl f s).panel = s.panel := foldl_same State.panel f hf l s
@[simp] theorem foldl_devPanel {α : Type} (f : State → α → State) (l : List α) (s : State)
    (hf : ∀ t a, (f t a).devPanel = t.devPanel) : (l.foldl f s).devPanel = s.devPanel := foldl_same State.devPanel f hf l s
@[simp] theorem foldl_devPriority {α : Type} (f : State → α → State) (l : List α) (s : State)
    (hf : ∀ t a, (f t a).devPriority = t.devPriority) : (l.foldl f s).devPriority = s.devPriority := foldl_same State.devPriority f hf l s
@[simp] theorem foldl_alert {α : Type} (f : State → α → State) (l : List α) (s : State)
    (hf : ∀ t a, (f t a).alert = t.alert) : (l.foldl f s).alert = s.alert := foldl_same State.alert f hf l s
@[simp] theorem foldl_sheet {α : Type} (f : State → α → State) (l : List α) (s : State)
    (hf : ∀ t a, (f t a).sheet = t.sheet) : (l.foldl f s).sheet = s.sheet := foldl_same State.sheet f hf l s
@[simp] theorem foldl_store {α : Type} (f : State → α → State) (l : List α) (s : State)
    (hf : ∀ t a, (f t a).store = t.store) : (l.foldl f s).store = s.store := foldl_same State.store f hf l s
@[simp] theorem foldl_live {α : Type} (f : State → α → State) (l : List α) (s : State)
    (hf : ∀ t a, (f t a).live = t.live) : (l.foldl f s).live = s.live := foldl_same State.live f hf l s
@[simp] theorem foldl_header {α : Type} (f : State → α → State) (l : List α) (s : State)
    (hf : ∀ t a, (f t a).header = t.header) : (l.foldl f s).header = s.header := foldl_same State.header f hf l s
@[simp] theorem foldl_host {α : Type} (f : State → α → State) (l : List α) (s : State)
    (hf : ∀ t a, (f t a).host = t.host) : (l.foldl f s).host = s.host := foldl_same State.host f hf l s
@[simp] theorem foldl_pending {α : Type} (f : State → α → State) (l : List α) (s : State)
    (hf : ∀ t a, (f t a).pending = t.pending) : (l.foldl f s).pending = s.pending := foldl_same State.pending f hf l s

end Sys2Proof.Machine
end

