-- ==== Sys2Proof/Laws/Touches.lean ====
section
/-! SUPPORT. What each shared operation can change: for every operation, the parts of the state outside of which it leaves
everything as it was. -/
namespace Sys2Proof.Machine

theorem Touches.refl (T : List Part) (s : State) : Touches T s s := fun p _ => by cases p <;> rfl

@[simp] theorem Touches.self (T : List Part) (s : State) : Touches T s s ↔ True := iff_true_intro (Touches.refl T s)

theorem sameIn.trans {p : Part} {s t u : State} (h : sameIn p s t) (g : sameIn p t u) : sameIn p s u := by
  cases p <;> simp_all [sameIn]

theorem sameIn.back {p : Part} {s t u : State} (h : sameIn p s u) (g : sameIn p t u) : sameIn p s t := by
  cases p <;> simp_all [sameIn]

theorem Touches.iff {T0 T : List Part} {t u : State} (h : Touches T0 t u) (sub : T0 ⊆ T) (s : State) :
    Touches T s u ↔ Touches T s t :=
  ⟨fun g p hp => sameIn.back (g p hp) (h p fun m => hp (sub m)),
   fun g p hp => sameIn.trans (g p hp) (h p fun m => hp (sub m))⟩

theorem Touches.trans {T : List Part} {s t u : State} (h : Touches T s t) (g : Touches T t u) : Touches T s u :=
  (g.iff (List.Subset.refl T) s).mpr h

theorem Touches.mono {T0 T : List Part} {s t : State} (h : Touches T0 s t) (sub : T0 ⊆ T) : Touches T s t :=
  fun p hp => h p fun m => hp (sub m)

@[simp] theorem Touches.ite (T : List Part) (s a b : State) (c : Prop) [Decidable c] :
    Touches T s (if c then a else b) ↔ if c then Touches T s a else Touches T s b := by
  by_cases h : c <;> simp [h]

@[simp] theorem Touches.foldl {α : Type} (T : List Part) (s : State) (f : State → α → State) (l : List α) (t : State)
    (hf : ∀ u a, Touches T u (f u a)) : Touches T s (l.foldl f t) ↔ Touches T s t :=
  (foldl_keeps (fun u => Touches T t u) f (fun _ a h => h.trans (hf _ a)) l t (Touches.refl T t)).iff
    (List.Subset.refl T) s

/-! ### Machine/Ops.lean -/

theorem State.modCtl_touches (s : State) (f : Ctl → Ctl) : Touches [.ctl] s (s.modCtl f) := by
  intro p hp; cases p <;> simp_all [sameIn]
@[simp] theorem State.modCtl_touch (T : List Part) (s t : State) (f : Ctl → Ctl) (h : [.ctl] ⊆ T) :
    Touches T s (t.modCtl f) ↔ Touches T s t := (t.modCtl_touches f).iff h s

theorem State.modFeed_touches (s : State) (n : Svc) (f : Feed → Feed) : Touches [.feed] s (s.modFeed n f) := by
  intro p hp; cases p <;> simp_all [sameIn]
@[simp] theorem State.modFeed_touch (T : List Part) (s t : State) (n : Svc) (f : Feed → Feed) (h : [.feed] ⊆ T) :
    Touches T s (t.modFeed n f) ↔ Touches T s t := (t.modFeed_touches n f).iff h s

theorem State.modMeter_touches (s : State) (n : Svc) (f : Meter → Meter) : Touches [.meter] s (s.modMeter n f) := by
  intro p hp; cases p <;> simp_all [sameIn]
@[simp] theorem State.modMeter_touch (T : List Part) (s t : State) (n : Svc) (f : Meter → Meter) (h : [.meter] ⊆ T) :
    Touches T s (t.modMeter n f) ↔ Touches T s t := (t.modMeter_touches n f).iff h s

theorem State.modCaption_touches (s : State) (n : Svc) (f : Caption → Caption) : Touches [.caption] s (s.modCaption n f) := by
  intro p hp; cases p <;> simp_all [sameIn]
@[simp] theorem State.modCaption_touch (T : List Part) (s t : State) (n : Svc) (f : Caption → Caption) (h : [.caption] ⊆ T) :
    Touches T s (t.modCaption n f) ↔ Touches T s t := (t.modCaption_touches n f).iff h s

theorem State.modSched_touches (s : State) (n : Svc) (f : Sched → Sched) : Touches [.sched] s (s.modSched n f) := by
  intro p hp; cases p <;> simp_all [sameIn]
@[simp] theorem State.modSched_touch (T : List Part) (s t : State) (n : Svc) (f : Sched → Sched) (h : [.sched] ⊆ T) :
    Touches T s (t.modSched n f) ↔ Touches T s t := (t.modSched_touches n f).iff h s

theorem State.modPool_touches (s : State) (c : CtxId) (f : Context → Context) : Touches [.pool] s (s.modPool c f) := by
  intro p hp; cases p <;> simp_all [sameIn]
@[simp] theorem State.modPool_touch (T : List Part) (s t : State) (c : CtxId) (f : Context → Context) (h : [.pool] ⊆ T) :
    Touches T s (t.modPool c f) ↔ Touches T s t := (t.modPool_touches c f).iff h s

theorem State.modInteg_touches (s : State) (f : Integ → Integ) : Touches [.integ] s (s.modInteg f) := by
  intro p hp; cases p <;> simp_all [sameIn]
@[simp] theorem State.modInteg_touch (T : List Part) (s t : State) (f : Integ → Integ) (h : [.integ] ⊆ T) :
    Touches T s (t.modInteg f) ↔ Touches T s t := (t.modInteg_touches f).iff h s

theorem State.modProxy_touches (s : State) (n : Svc) (f : Proxy → Proxy) : Touches [.proxy] s (s.modProxy n f) := by
  intro p hp; cases p <;> simp_all [sameIn]
@[simp] theorem State.modProxy_touch (T : List Part) (s t : State) (n : Svc) (f : Proxy → Proxy) (h : [.proxy] ⊆ T) :
    Touches T s (t.modProxy n f) ↔ Touches T s t := (t.modProxy_touches n f).iff h s

theorem State.modRecorder_touches (s : State) (n : Svc) (f : Recorder → Recorder) : Touches [.recorder] s (s.modRecorder n f) := by
  intro p hp; cases p <;> simp_all [sameIn]
@[simp] theorem State.modRecorder_touch (T : List Part) (s t : State) (n : Svc) (f : Recorder → Recorder) (h : [.recorder] ⊆ T) :
    Touches T s (t.modRecorder n f) ↔ Touches T s t := (t.modRecorder_touches n f).iff h s

theorem State.modExtent_touches (s : State) (x : ExtId) (f : Extent → Extent) : Touches [.extents] s (s.modExtent x f) := by
  intro p hp; cases p <;> simp_all [sameIn]
@[simp] theorem State.modExtent_touch (T : List Part) (s t : State) (x : ExtId) (f : Extent → Extent) (h : [.extents] ⊆ T) :
    Touches T s (t.modExtent x f) ↔ Touches T s t := (t.modExtent_touches x f).iff h s

theorem State.modMover_touches (s : State) (f : Mover → Mover) : Touches [.mover] s (s.modMover f) := by
  intro p hp; cases p <;> simp_all [sameIn]
@[simp] theorem State.modMover_touch (T : List Part) (s t : State) (f : Mover → Mover) (h : [.mover] ⊆ T) :
    Touches T s (t.modMover f) ↔ Touches T s t := (t.modMover_touches f).iff h s

theorem State.modPriorities_touches (s : State) (f : Vector Nat 3 → Vector Nat 3) : Touches [.devPriority] s (s.modPriorities f) := by
  intro p hp; cases p <;> simp_all [sameIn]
@[simp] theorem State.modPriorities_touch (T : List Part) (s t : State) (f : Vector Nat 3 → Vector Nat 3) (h : [.devPriority] ⊆ T) :
    Touches T s (t.modPriorities f) ↔ Touches T s t := (t.modPriorities_touches f).iff h s

theorem State.modAlert_touches (s : State) (f : Alert → Alert) : Touches [.alert] s (s.modAlert f) := by
  intro p hp; cases p <;> simp_all [sameIn]
@[simp] theorem State.modAlert_touch (T : List Part) (s t : State) (f : Alert → Alert) (h : [.alert] ⊆ T) :
    Touches T s (t.modAlert f) ↔ Touches T s t := (t.modAlert_touches f).iff h s

theorem State.modSheet_touches (s : State) (n : Svc) (f : SheetUnit → SheetUnit) : Touches [.sheet] s (s.modSheet n f) := by
  intro p hp; cases p <;> simp_all [sameIn]
@[simp] theorem State.modSheet_touch (T : List Part) (s t : State) (n : Svc) (f : SheetUnit → SheetUnit) (h : [.sheet] ⊆ T) :
    Touches T s (t.modSheet n f) ↔ Touches T s t := (t.modSheet_touches n f).iff h s

theorem State.modStore_touches (s : State) (f : Store → Store) : Touches [.store] s (s.modStore f) := by
  intro p hp; cases p <;> simp_all [sameIn]
@[simp] theorem State.modStore_touch (T : List Part) (s t : State) (f : Store → Store) (h : [.store] ⊆ T) :
    Touches T s (t.modStore f) ↔ Touches T s t := (t.modStore_touches f).iff h s

theorem State.modLive_touches (s : State) (n : Svc) (f : LiveWrite → LiveWrite) : Touches [.live] s (s.modLive n f) := by
  intro p hp; cases p <;> simp_all [sameIn]
@[simp] theorem State.modLive_touch (T : List Part) (s t : State) (n : Svc) (f : LiveWrite → LiveWrite) (h : [.live] ⊆ T) :
    Touches T s (t.modLive n f) ↔ Touches T s t := (t.modLive_touches n f).iff h s

theorem State.modHeader_touches (s : State) (f : List HeaderItem → List HeaderItem) : Touches [.header] s (s.modHeader f) := by
  intro p hp; cases p <;> simp_all [sameIn]
@[simp] theorem State.modHeader_touch (T : List Part) (s t : State) (f : List HeaderItem → List HeaderItem) (h : [.header] ⊆ T) :
    Touches T s (t.modHeader f) ↔ Touches T s t := (t.modHeader_touches f).iff h s

theorem State.land_touches (s : State) (ps : List Piece) : Touches [.host] s (s.land ps) := by
  intro p hp; cases p <;> simp_all [sameIn]
@[simp] theorem State.land_touch (T : List Part) (s t : State) (ps : List Piece) (h : [.host] ⊆ T) :
    Touches T s (t.land ps) ↔ Touches T s t := (t.land_touches ps).iff h s

theorem State.accessDone_touches (s : State) : Touches [.ctl] s (s.accessDone) := by
  intro p hp; cases p <;> simp_all [sameIn]
@[simp] theorem State.accessDone_touch (T : List Part) (s t : State) (h : [.ctl] ⊆ T) :
    Touches T s (t.accessDone) ↔ Touches T s t := (t.accessDone_touches).iff h s

theorem State.modEntry_touches (s : State) (n : Svc) (k : Slot) (f : Entry → Entry) : Touches [.sched] s (s.modEntry n k f) := by
  intro p hp; cases p <;> simp_all [sameIn]
@[simp] theorem State.modEntry_touch (T : List Part) (s t : State) (n : Svc) (k : Slot) (f : Entry → Entry) (h : [.sched] ⊆ T) :
    Touches T s (t.modEntry n k f) ↔ Touches T s t := (t.modEntry_touches n k f).iff h s

theorem State.modCond_touches (s : State) (r : CondRef) (f : CondEntry → CondEntry) : Touches [.panel, .devPanel] s (s.modCond r f) := by
  intro p hp; cases p <;> simp_all [sameIn]
@[simp] theorem State.modCond_touch (T : List Part) (s t : State) (r : CondRef) (f : CondEntry → CondEntry) (h : [.panel, .devPanel] ⊆ T) :
    Touches T s (t.modCond r f) ↔ Touches T s t := (t.modCond_touches r f).iff h s

theorem State.modCond_service_touches (s : State) (n : Svc) (c : SvcCond) (f : CondEntry → CondEntry) :
    Touches [.panel] s (s.modCond (.service n c) f) := by
  intro p hp; cases p <;> simp_all [sameIn]

@[simp] theorem State.modCond_service_touch (T : List Part) (s t : State) (n : Svc) (c : SvcCond)
    (f : CondEntry → CondEntry) (h : [.panel] ⊆ T) : Touches T s (t.modCond (.service n c) f) ↔ Touches T s t :=
  (t.modCond_service_touches n c f).iff h s

theorem State.modCond_device_touches (s : State) (c : DevCond) (f : CondEntry → CondEntry) :
    Touches [.devPanel] s (s.modCond (.device c) f) := by
  intro p hp; cases p <;> simp_all [sameIn]

@[simp] theorem State.modCond_device_touch (T : List Part) (s t : State) (c : DevCond)
    (f : CondEntry → CondEntry) (h : [.devPanel] ⊆ T) : Touches T s (t.modCond (.device c) f) ↔ Touches T s t :=
  (t.modCond_device_touches c f).iff h s

/-! ### Machine/Panels.lean -/

theorem State.handCause_touches (s : State) : Touches [.header] s (s.handCause) := by
  simp [State.handCause]
@[simp] theorem State.handCause_touch (T : List Part) (s t : State) (h : [.header] ⊆ T) :
    Touches T s (t.handCause) ↔ Touches T s t := (t.handCause_touches).iff h s

theorem State.queueEntry_touches (s : State) (r : CondRef) : Touches [.live, .header] s (s.queueEntry r) := by
  unfold State.queueEntry
  split
  · cases r <;> simp
  · simp
@[simp] theorem State.queueEntry_touch (T : List Part) (s t : State) (r : CondRef) (h : [.live, .header] ⊆ T) :
    Touches T s (t.queueEntry r) ↔ Touches T s t := (t.queueEntry_touches r).iff h s

theorem State.queueEntry_service_touches (s : State) (n : Svc) (c : SvcCond) :
    Touches [.live] s (s.queueEntry (.service n c)) := by
  unfold State.queueEntry
  dsimp only
  split <;> simp

@[simp] theorem State.queueEntry_service_touch (T : List Part) (s t : State) (n : Svc) (c : SvcCond)
    (h : [.live] ⊆ T) : Touches T s (t.queueEntry (.service n c)) ↔ Touches T s t :=
  (t.queueEntry_service_touches n c).iff h s

theorem State.queueEntry_device_touches (s : State) (c : DevCond) :
    Touches [.header] s (s.queueEntry (.device c)) := by
  unfold State.queueEntry
  dsimp only
  split <;> simp

@[simp] theorem State.queueEntry_device_touch (T : List Part) (s t : State) (c : DevCond)
    (h : [.header] ⊆ T) : Touches T s (t.queueEntry (.device c)) ↔ Touches T s t :=
  (t.queueEntry_device_touches c).iff h s

theorem State.changeCond_touches (s : State) (r : CondRef) (f : CondEntry → CondEntry) : Touches [.panel, .devPanel, .live, .header] s (s.changeCond r f) := by
  simp [State.changeCond]
@[simp] theorem State.changeCond_touch (T : List Part) (s t : State) (r : CondRef) (f : CondEntry → CondEntry) (h : [.panel, .devPanel, .live, .header] ⊆ T) :
    Touches T s (t.changeCond r f) ↔ Touches T s t := (t.changeCond_touches r f).iff h s

theorem State.changeCond_service_touches (s : State) (n : Svc) (c : SvcCond) (f : CondEntry → CondEntry) :
    Touches [.panel, .live] s (s.changeCond (.service n c) f) := by
  simp [State.changeCond]

@[simp] theorem State.changeCond_service_touch (T : List Part) (s t : State) (n : Svc) (c : SvcCond) (f : CondEntry → CondEntry)
    (h : [.panel, .live] ⊆ T) : Touches T s (t.changeCond (.service n c) f) ↔ Touches T s t :=
  (t.changeCond_service_touches n c f).iff h s

theorem State.changeCond_device_touches (s : State) (c : DevCond) (f : CondEntry → CondEntry) :
    Touches [.devPanel, .header] s (s.changeCond (.device c) f) := by
  simp [State.changeCond]

@[simp] theorem State.changeCond_device_touch (T : List Part) (s t : State) (c : DevCond) (f : CondEntry → CondEntry)
    (h : [.devPanel, .header] ⊆ T) : Touches T s (t.changeCond (.device c) f) ↔ Touches T s t :=
  (t.changeCond_device_touches c f).iff h s

theorem State.evaluate_touches (s : State) : Touches [.alert] s (s.evaluate) := by
  unfold State.evaluate
  dsimp only
  (repeat' split) <;> simp
@[simp] theorem State.evaluate_touch (T : List Part) (s t : State) (h : [.alert] ⊆ T) :
    Touches T s (t.evaluate) ↔ Touches T s t := (t.evaluate_touches).iff h s

theorem State.raise_touches (s : State) (n : Svc) (c : SvcCond) : Touches [.panel, .alert, .live] s (s.raise n c) := by
  simp [State.raise]
@[simp] theorem State.raise_touch (T : List Part) (s t : State) (n : Svc) (c : SvcCond) (h : [.panel, .alert, .live] ⊆ T) :
    Touches T s (t.raise n c) ↔ Touches T s t := (t.raise_touches n c).iff h s

theorem State.raiseDevice_touches (s : State) (c : DevCond) : Touches [.devPanel, .alert, .header] s (s.raiseDevice c) := by
  simp [State.raiseDevice]
@[simp] theorem State.raiseDevice_touch (T : List Part) (s t : State) (c : DevCond) (h : [.devPanel, .alert, .header] ⊆ T) :
    Touches T s (t.raiseDevice c) ↔ Touches T s t := (t.raiseDevice_touches c).iff h s

theorem State.setLive_touches (s : State) (n : Svc) (c : SvcCond) (live : Bool) : Touches [.panel, .alert, .live] s (s.setLive n c live) := by
  unfold State.setLive
  (repeat' split) <;> simp
@[simp] theorem State.setLive_touch (T : List Part) (s t : State) (n : Svc) (c : SvcCond) (live : Bool) (h : [.panel, .alert, .live] ⊆ T) :
    Touches T s (t.setLive n c live) ↔ Touches T s t := (t.setLive_touches n c live).iff h s

theorem State.loadReminder_touches (s : State) (r : CondRef) : Touches [.panel] s (s.loadReminder r) := by
  unfold State.loadReminder
  (repeat' split) <;> simp
@[simp] theorem State.loadReminder_touch (T : List Part) (s t : State) (r : CondRef) (h : [.panel] ⊆ T) :
    Touches T s (t.loadReminder r) ↔ Touches T s t := (t.loadReminder_touches r).iff h s

theorem State.stopReminders_touches (s : State) : Touches [.panel, .devPanel] s (s.stopReminders) := by
  simp [State.stopReminders]
@[simp] theorem State.stopReminders_touch (T : List Part) (s t : State) (h : [.panel, .devPanel] ⊆ T) :
    Touches T s (t.stopReminders) ↔ Touches T s t := (t.stopReminders_touches).iff h s

theorem State.startReminders_touches (s : State) : Touches [.panel] s (s.startReminders) := by
  simp [State.startReminders]
@[simp] theorem State.startReminders_touch (T : List Part) (s t : State) (h : [.panel] ⊆ T) :
    Touches T s (t.startReminders) ↔ Touches T s t := (t.startReminders_touches).iff h s

theorem State.landLive_touches (s : State) (n : Svc) (k : Nat) : Touches [.host, .live] s (s.landLive n k) := by
  simp [State.landLive]
@[simp] theorem State.landLive_touch (T : List Part) (s t : State) (n : Svc) (k : Nat) (h : [.host, .live] ⊆ T) :
    Touches T s (t.landLive n k) ↔ Touches T s t := (t.landLive_touches n k).iff h s

theorem State.landHeader_touches (s : State) (k : Nat) : Touches [.host, .header] s (s.landHeader k) := by
  simp [State.landHeader]
@[simp] theorem State.landHeader_touch (T : List Part) (s t : State) (k : Nat) (h : [.host, .header] ⊆ T) :
    Touches T s (t.landHeader k) ↔ Touches T s t := (t.landHeader_touches k).iff h s

theorem State.dropOwed_touches (s : State) : Touches [.panel, .devPanel] s (s.dropOwed) := by
  simp [State.dropOwed]
@[simp] theorem State.dropOwed_touch (T : List Part) (s t : State) (h : [.panel, .devPanel] ⊆ T) :
    Touches T s (t.dropOwed) ↔ Touches T s t := (t.dropOwed_touches).iff h s

theorem State.retryEntry_touches (s : State) (r : CondRef) : Touches [.panel, .devPanel, .live, .header] s (s.retryEntry r) := by
  simp [State.retryEntry]
@[simp] theorem State.retryEntry_touch (T : List Part) (s t : State) (r : CondRef) (h : [.panel, .devPanel, .live, .header] ⊆ T) :
    Touches T s (t.retryEntry r) ↔ Touches T s t := (t.retryEntry_touches r).iff h s

theorem State.handAlert_touches (s : State) : Touches [.panel, .devPanel, .live, .header] s (s.handAlert) := by
  simp [State.handAlert]
@[simp] theorem State.handAlert_touch (T : List Part) (s t : State) (h : [.panel, .devPanel, .live, .header] ⊆ T) :
    Touches T s (t.handAlert) ↔ Touches T s t := (t.handAlert_touches).iff h s

theorem State.trimWaits_touches (s : State) : Touches [.alert] s (s.trimWaits) := by
  simp [State.trimWaits]
@[simp] theorem State.trimWaits_touch (T : List Part) (s t : State) (h : [.alert] ⊆ T) :
    Touches T s (t.trimWaits) ↔ Touches T s t := (t.trimWaits_touches).iff h s

theorem State.announce_touches (s : State) (r : CondRef) (noted : BitVec 16) : Touches [.panel, .devPanel, .live, .header] s (s.announce r noted) := by
  simp [State.announce]
@[simp] theorem State.announce_touch (T : List Part) (s t : State) (r : CondRef) (noted : BitVec 16) (h : [.panel, .devPanel, .live, .header] ⊆ T) :
    Touches T s (t.announce r noted) ↔ Touches T s t := (t.announce_touches r noted).iff h s

theorem State.landWaits_touches (s : State) (a : AlertRun) : Touches [.host, .live, .header] s (s.landWaits a) := by
  simp [State.landWaits]
@[simp] theorem State.landWaits_touch (T : List Part) (s t : State) (a : AlertRun) (h : [.host, .live, .header] ⊆ T) :
    Touches T s (t.landWaits a) ↔ Touches T s t := (t.landWaits_touches a).iff h s

theorem State.readyCause_touches (s : State) (a : AlertRun) : Touches [.host, .live, .header] s (s.readyCause a) := by
  simp [State.readyCause]
@[simp] theorem State.readyCause_touch (T : List Part) (s t : State) (a : AlertRun) (h : [.host, .live, .header] ⊆ T) :
    Touches T s (t.readyCause a) ↔ Touches T s t := (t.readyCause_touches a).iff h s

theorem State.finishAlert_touches (s : State) (a : AlertRun) : Touches [.panel, .devPanel, .host, .alert, .live, .header] s (s.finishAlert a) := by
  simp [State.finishAlert]
@[simp] theorem State.finishAlert_touch (T : List Part) (s t : State) (a : AlertRun) (h : [.panel, .devPanel, .host, .alert, .live, .header] ⊆ T) :
    Touches T s (t.finishAlert a) ↔ Touches T s t := (t.finishAlert_touches a).iff h s

theorem State.abandonAlert_touches (s : State) : Touches [.alert] s (s.abandonAlert) := by
  unfold State.abandonAlert
  (repeat' split) <;> simp
@[simp] theorem State.abandonAlert_touch (T : List Part) (s t : State) (h : [.alert] ⊆ T) :
    Touches T s (t.abandonAlert) ↔ Touches T s t := (t.abandonAlert_touches).iff h s

/-! ### Machine/Pool.lean -/

theorem State.claim_touches (s : State) (c : CtxId) (owner : Owner) (sn : Snapshot) (paused : Bool) : Touches [.pool] s (s.claim c owner sn paused) := by
  simp [State.claim]
@[simp] theorem State.claim_touch (T : List Part) (s t : State) (c : CtxId) (owner : Owner) (sn : Snapshot) (paused : Bool) (h : [.pool] ⊆ T) :
    Touches T s (t.claim c owner sn paused) ↔ Touches T s t := (t.claim_touches c owner sn paused).iff h s

theorem State.closeContext_touches (s : State) (n : Svc) (c : CtxId) (cls : SegClass) : Touches [.pool, .integ] s (s.closeContext n c cls) := by
  unfold State.closeContext
  (repeat' split) <;> simp
@[simp] theorem State.closeContext_touch (T : List Part) (s t : State) (n : Svc) (c : CtxId) (cls : SegClass) (h : [.pool, .integ] ⊆ T) :
    Touches T s (t.closeContext n c cls) ↔ Touches T s t := (t.closeContext_touches n c cls).iff h s

theorem State.breakContextRuns_touches (s : State) (n : Svc) : Touches [.pool] s (s.breakContextRuns n) := by
  simp [State.breakContextRuns]
@[simp] theorem State.breakContextRuns_touch (T : List Part) (s t : State) (n : Svc) (h : [.pool] ⊆ T) :
    Touches T s (t.breakContextRuns n) ↔ Touches T s t := (t.breakContextRuns_touches n).iff h s

theorem State.startIntegration_touches (s : State) : Touches [.pool, .integ] s (s.startIntegration) := by
  unfold State.startIntegration
  (repeat' split) <;> simp
@[simp] theorem State.startIntegration_touch (T : List Part) (s t : State) (h : [.pool, .integ] ⊆ T) :
    Touches T s (t.startIntegration) ↔ Touches T s t := (t.startIntegration_touches).iff h s

/-! ### Machine/Captions.lean -/

theorem State.judgeCaptions_touches (s : State) (n : Svc) : Touches [.panel, .alert, .live] s (s.judgeCaptions n) := by
  simp [State.judgeCaptions]
@[simp] theorem State.judgeCaptions_touch (T : List Part) (s t : State) (n : Svc) (h : [.panel, .alert, .live] ⊆ T) :
    Touches T s (t.judgeCaptions n) ↔ Touches T s t := (t.judgeCaptions_touches n).iff h s

theorem State.refreshRequirement_touches (s : State) (n : Svc) : Touches [.caption, .panel, .alert, .live] s (s.refreshRequirement n) := by
  simp [State.refreshRequirement]
@[simp] theorem State.refreshRequirement_touch (T : List Part) (s t : State) (n : Svc) (h : [.caption, .panel, .alert, .live] ⊆ T) :
    Touches T s (t.refreshRequirement n) ↔ Touches T s t := (t.refreshRequirement_touches n).iff h s

theorem State.modEntriesWhere_touches (s : State) (n : Svc) (p : Entry → Bool) (f : Entry → Entry) : Touches [.sched] s (s.modEntriesWhere n p f) := by
  simp [State.modEntriesWhere]
@[simp] theorem State.modEntriesWhere_touch (T : List Part) (s t : State) (n : Svc) (p : Entry → Bool) (f : Entry → Entry) (h : [.sched] ⊆ T) :
    Touches T s (t.modEntriesWhere n p f) ↔ Touches T s t := (t.modEntriesWhere_touches n p f).iff h s

theorem State.modTallies_touches (s : State) (n : Svc) (f : Tally → Tally) : Touches [.sched] s (s.modTallies n f) := by
  simp [State.modTallies]
@[simp] theorem State.modTallies_touch (T : List Part) (s t : State) (n : Svc) (f : Tally → Tally) (h : [.sched] ⊆ T) :
    Touches T s (t.modTallies n f) ↔ Touches T s t := (t.modTallies_touches n f).iff h s

theorem State.judgeFrame_touches (s : State) (n : Svc) : Touches [.caption, .panel, .alert, .sched, .live] s (s.judgeFrame n) := by
  simp [State.judgeFrame]
@[simp] theorem State.judgeFrame_touch (T : List Part) (s t : State) (n : Svc) (h : [.caption, .panel, .alert, .sched, .live] ⊆ T) :
    Touches T s (t.judgeFrame n) ↔ Touches T s t := (t.judgeFrame_touches n).iff h s

theorem State.countDiscontinuity_touches (s : State) (n : Svc) : Touches [.caption, .sched] s (s.countDiscontinuity n) := by
  simp [State.countDiscontinuity]
@[simp] theorem State.countDiscontinuity_touch (T : List Part) (s t : State) (n : Svc) (h : [.caption, .sched] ⊆ T) :
    Touches T s (t.countDiscontinuity n) ↔ Touches T s t := (t.countDiscontinuity_touches n).iff h s

theorem State.countMismatch_touches (s : State) (n : Svc) : Touches [.caption, .sched] s (s.countMismatch n) := by
  simp [State.countMismatch]
@[simp] theorem State.countMismatch_touch (T : List Part) (s t : State) (n : Svc) (h : [.caption, .sched] ⊆ T) :
    Touches T s (t.countMismatch n) ↔ Touches T s t := (t.countMismatch_touches n).iff h s

theorem State.sortPacket_touches (s : State) (n : Svc) (page : Byte) (lang : Lang) (kind : CaptionKind) (seq : Byte) : Touches [.caption, .sched, .panel, .alert, .live] s (s.sortPacket n page lang kind seq) := by
  unfold State.sortPacket
  (repeat' split) <;> simp
@[simp] theorem State.sortPacket_touch (T : List Part) (s t : State) (n : Svc) (page : Byte) (lang : Lang) (kind : CaptionKind) (seq : Byte) (h : [.caption, .sched, .panel, .alert, .live] ⊆ T) :
    Touches T s (t.sortPacket n page lang kind seq) ↔ Touches T s t := (t.sortPacket_touches n page lang kind seq).iff h s

theorem State.loseStream_touches (s : State) (n : Svc) : Touches [.caption] s (s.loseStream n) := by
  simp [State.loseStream]
@[simp] theorem State.loseStream_touch (T : List Part) (s t : State) (n : Svc) (h : [.caption] ⊆ T) :
    Touches T s (t.loseStream n) ↔ Touches T s t := (t.loseStream_touches n).iff h s

/-! ### Machine/Scheduler.lean -/

theorem State.pushWrite_touches (s : State) (n : Svc)(k : Slot) (w : SlotContent) : Touches [.sched] s (s.pushWrite n k w) := by
  unfold State.pushWrite
  (repeat' split) <;> simp
@[simp] theorem State.pushWrite_touch (T : List Part) (s t : State) (n : Svc)(k : Slot) (w : SlotContent) (h : [.sched] ⊆ T) :
    Touches T s (t.pushWrite n k w) ↔ Touches T s t := (t.pushWrite_touches n k w).iff h s

theorem State.writeStanding_touches (s : State) (n : Svc)(k : Slot) : Touches [.sched] s (s.writeStanding n k) := by
  simp [State.writeStanding]
@[simp] theorem State.writeStanding_touch (T : List Part) (s t : State) (n : Svc)(k : Slot) (h : [.sched] ⊆ T) :
    Touches T s (t.writeStanding n k) ↔ Touches T s t := (t.writeStanding_touches n k).iff h s

theorem State.requestMark_touches (s : State) (n : Svc) (m : MarkRequest) : Touches [.recorder] s (s.requestMark n m) := by
  simp [State.requestMark]
@[simp] theorem State.requestMark_touch (T : List Part) (s t : State) (n : Svc) (m : MarkRequest) (h : [.recorder] ⊆ T) :
    Touches T s (t.requestMark n m) ↔ Touches T s t := (t.requestMark_touches n m).iff h s

theorem State.raiseVerdict_touches (s : State) (n : Svc) (v : Verdict) : Touches [.panel, .alert, .live] s (s.raiseVerdict n v) := by
  unfold State.raiseVerdict
  (repeat' split) <;> simp
@[simp] theorem State.raiseVerdict_touch (T : List Part) (s t : State) (n : Svc) (v : Verdict) (h : [.panel, .alert, .live] ⊆ T) :
    Touches T s (t.raiseVerdict n v) ↔ Touches T s t := (t.raiseVerdict_touches n v).iff h s

theorem State.deliverVerdict_touches (s : State) (n : Svc)(k : Slot) (v : Verdict) : Touches [.sched, .panel, .alert, .live] s (s.deliverVerdict n k v) := by
  simp [State.deliverVerdict]
@[simp] theorem State.deliverVerdict_touch (T : List Part) (s t : State) (n : Svc)(k : Slot) (v : Verdict) (h : [.sched, .panel, .alert, .live] ⊆ T) :
    Touches T s (t.deliverVerdict n k v) ↔ Touches T s t := (t.deliverVerdict_touches n k v).iff h s

theorem State.finishVerdict_touches (s : State) (n : Svc)(k : Slot) (loud : LoudResult) : Touches [.sched, .panel, .alert, .live] s (s.finishVerdict n k loud) := by
  unfold State.finishVerdict
  (repeat' split) <;> simp
@[simp] theorem State.finishVerdict_touch (T : List Part) (s t : State) (n : Svc)(k : Slot) (loud : LoudResult) (h : [.sched, .panel, .alert, .live] ⊆ T) :
    Touches T s (t.finishVerdict n k loud) ↔ Touches T s t := (t.finishVerdict_touches n k loud).iff h s

theorem State.modContextOf_touches (s : State) (e : Entry) (f : Context → Context) : Touches [.pool] s (s.modContextOf e f) := by
  unfold State.modContextOf
  (repeat' split) <;> simp
@[simp] theorem State.modContextOf_touch (T : List Part) (s t : State) (e : Entry) (f : Context → Context) (h : [.pool] ⊆ T) :
    Touches T s (t.modContextOf e f) ↔ Touches T s t := (t.modContextOf_touches e f).iff h s

@[simp] theorem State.forOpen_touch (T : List Part) (s t : State) (n : Svc) (l : Layer) (f : State → Slot → State)
    (hf : ∀ u k, Touches T u (f u k)) : Touches T s (t.forOpen n l f) ↔ Touches T s t := by
  simp [State.forOpen, hf]

theorem State.pauseSegment_touches (n : Svc) (s : State) (k : Slot) : Touches [.pool, .sched] s (State.pauseSegment n s k) := by
  simp [State.pauseSegment]
@[simp] theorem State.pauseSegment_touch (T : List Part) (s t : State) (n : Svc) (k : Slot) (h : [.pool, .sched] ⊆ T) :
    Touches T s (State.pauseSegment n t k) ↔ Touches T s t := (State.pauseSegment_touches n t k).iff h s

theorem State.resumeSegment_touches (n : Svc) (s : State) (k : Slot) : Touches [.pool, .sched] s (State.resumeSegment n s k) := by
  simp [State.resumeSegment]
@[simp] theorem State.resumeSegment_touch (T : List Part) (s t : State) (n : Svc) (k : Slot) (h : [.pool, .sched] ⊆ T) :
    Touches T s (State.resumeSegment n t k) ↔ Touches T s t := (State.resumeSegment_touches n t k).iff h s

theorem State.pauseOuter_touches (s : State) (n : Svc) : Touches [.pool, .sched] s (s.pauseOuter n) := by
  simp [State.pauseOuter]
@[simp] theorem State.pauseOuter_touch (T : List Part) (s t : State) (n : Svc) (h : [.pool, .sched] ⊆ T) :
    Touches T s (t.pauseOuter n) ↔ Touches T s t := (t.pauseOuter_touches n).iff h s

theorem State.resumeOuter_touches (s : State) (n : Svc) : Touches [.pool, .sched] s (s.resumeOuter n) := by
  simp [State.resumeOuter]
@[simp] theorem State.resumeOuter_touch (T : List Part) (s t : State) (n : Svc) (h : [.pool, .sched] ⊆ T) :
    Touches T s (t.resumeOuter n) ↔ Touches T s t := (t.resumeOuter_touches n).iff h s

theorem State.markEnd_touches (s : State) (n : Svc)(k : Slot) (b : Body) : Touches [.recorder] s (s.markEnd n k b) := by
  unfold State.markEnd
  (repeat' split) <;> simp
@[simp] theorem State.markEnd_touch (T : List Part) (s t : State) (n : Svc)(k : Slot) (b : Body) (h : [.recorder] ⊆ T) :
    Touches T s (t.markEnd n k b) ↔ Touches T s t := (t.markEnd_touches n k b).iff h s

theorem State.closeContextOf_touches (s : State) (n : Svc) (e : Entry) (cls : SegClass) : Touches [.pool, .integ] s (s.closeContextOf n e cls) := by
  unfold State.closeContextOf
  (repeat' split) <;> simp
@[simp] theorem State.closeContextOf_touch (T : List Part) (s t : State) (n : Svc) (e : Entry) (cls : SegClass) (h : [.pool, .integ] ⊆ T) :
    Touches T s (t.closeContextOf n e cls) ↔ Touches T s t := (t.closeContextOf_touches n e cls).iff h s

theorem State.announceClose_touches (s : State) (n : Svc)(k : Slot) (metered : Bool) : Touches [.sched, .panel, .alert, .live] s (s.announceClose n k metered) := by
  unfold State.announceClose
  (repeat' split) <;> simp
@[simp] theorem State.announceClose_touch (T : List Part) (s t : State) (n : Svc)(k : Slot) (metered : Bool) (h : [.sched, .panel, .alert, .live] ⊆ T) :
    Touches T s (t.announceClose n k metered) ↔ Touches T s t := (t.announceClose_touches n k metered).iff h s

theorem State.leaveLayer_touches (s : State) (n : Svc) (l : Layer) (k : Slot) : Touches [.sched] s (s.leaveLayer n l k) := by
  simp [State.leaveLayer]
@[simp] theorem State.leaveLayer_touch (T : List Part) (s t : State) (n : Svc) (l : Layer) (k : Slot) (h : [.sched] ⊆ T) :
    Touches T s (t.leaveLayer n l k) ↔ Touches T s t := (t.leaveLayer_touches n l k).iff h s

theorem State.closeSegment_touches (s : State) (n : Svc)(k : Slot) (add : VerdictFlags) : Touches [.sched, .pool, .integ, .recorder, .panel, .alert, .live] s (s.closeSegment n k add) := by
  unfold State.closeSegment
  dsimp only
  split <;> simp
@[simp] theorem State.closeSegment_touch (T : List Part) (s t : State) (n : Svc)(k : Slot) (add : VerdictFlags) (h : [.sched, .pool, .integ, .recorder, .panel, .alert, .live] ⊆ T) :
    Touches T s (t.closeSegment n k add) ↔ Touches T s t := (t.closeSegment_touches n k add).iff h s

theorem State.closeOnNext_touches (s : State) (n : Svc) (l : Layer) (f : Firing) : Touches [.sched, .pool, .integ, .recorder, .panel, .alert, .live] s (s.closeOnNext n l f) := by
  simp [State.closeOnNext]
@[simp] theorem State.closeOnNext_touch (T : List Part) (s t : State) (n : Svc) (l : Layer) (f : Firing) (h : [.sched, .pool, .integ, .recorder, .panel, .alert, .live] ⊆ T) :
    Touches T s (t.closeOnNext n l f) ↔ Touches T s t := (t.closeOnNext_touches n l f).iff h s

theorem State.claimFor_touches (s : State) (n : Svc)(k : Slot) (sn : Snapshot) (paused : Bool) : Touches [.pool, .sched, .panel, .alert, .live] s (s.claimFor n k sn paused) := by
  unfold State.claimFor
  (repeat' split) <;> simp
@[simp] theorem State.claimFor_touch (T : List Part) (s t : State) (n : Svc)(k : Slot) (sn : Snapshot) (paused : Bool) (h : [.pool, .sched, .panel, .alert, .live] ⊆ T) :
    Touches T s (t.claimFor n k sn paused) ↔ Touches T s t := (t.claimFor_touches n k sn paused).iff h s

theorem State.openSegment_touches (s : State) (n : Svc)(k : Slot) (f : Firing) : Touches [.sched, .pool, .integ, .recorder, .panel, .alert, .live] s (s.openSegment n k f) := by
  unfold State.openSegment
  (repeat' split) <;> simp
@[simp] theorem State.openSegment_touch (T : List Part) (s t : State) (n : Svc)(k : Slot) (f : Firing) (h : [.sched, .pool, .integ, .recorder, .panel, .alert, .live] ⊆ T) :
    Touches T s (t.openSegment n k f) ↔ Touches T s t := (t.openSegment_touches n k f).iff h s

theorem State.fireBoundary_touches (s : State) (n : Svc) (f : Firing) (b : Boundary) : Touches [.sched, .pool, .integ, .recorder, .panel, .alert, .live] s (s.fireBoundary n f b) := by
  unfold State.fireBoundary
  dsimp only
  split <;> simp
@[simp] theorem State.fireBoundary_touch (T : List Part) (s t : State) (n : Svc) (f : Firing) (b : Boundary) (h : [.sched, .pool, .integ, .recorder, .panel, .alert, .live] ⊆ T) :
    Touches T s (t.fireBoundary n f b) ↔ Touches T s t := (t.fireBoundary_touches n f b).iff h s

theorem State.fireAll_touches (s : State) (n : Svc) (c : FireCause) (bs : List Boundary) : Touches [.sched, .pool, .integ, .recorder, .panel, .alert, .live] s (s.fireAll n c bs) := by
  simp [State.fireAll]
@[simp] theorem State.fireAll_touch (T : List Part) (s t : State) (n : Svc) (c : FireCause) (bs : List Boundary) (h : [.sched, .pool, .integ, .recorder, .panel, .alert, .live] ⊆ T) :
    Touches T s (t.fireAll n c bs) ↔ Touches T s t := (t.fireAll_touches n c bs).iff h s

theorem State.advanceBoundaries_touches (s : State) (n : Svc) (c : FireCause) (t0 t1 : Nat) : Touches [.sched, .pool, .integ, .recorder, .panel, .alert, .live, .caption] s (s.advanceBoundaries n c t0 t1) := by
  simp [State.advanceBoundaries]
@[simp] theorem State.advanceBoundaries_touch (T : List Part) (s t : State) (n : Svc) (c : FireCause) (t0 t1 : Nat) (h : [.sched, .pool, .integ, .recorder, .panel, .alert, .live, .caption] ⊆ T) :
    Touches T s (t.advanceBoundaries n c t0 t1) ↔ Touches T s t := (t.advanceBoundaries_touches n c t0 t1).iff h s

theorem State.seedBoundaries_touches (s : State) (n : Svc) (u : Nat) : Touches [.sched, .pool, .integ, .recorder, .panel, .alert, .live, .caption] s (s.seedBoundaries n u) := by
  simp [State.seedBoundaries]
@[simp] theorem State.seedBoundaries_touch (T : List Part) (s t : State) (n : Svc) (u : Nat) (h : [.sched, .pool, .integ, .recorder, .panel, .alert, .live, .caption] ⊆ T) :
    Touches T s (t.seedBoundaries n u) ↔ Touches T s t := (t.seedBoundaries_touches n u).iff h s

theorem State.release_touches (s : State) (n : Svc)(k : Slot) : Touches [.sched] s (s.release n k) := by
  simp [State.release]
@[simp] theorem State.release_touch (T : List Part) (s t : State) (n : Svc)(k : Slot) (h : [.sched] ⊆ T) :
    Touches T s (t.release n k) ↔ Touches T s t := (t.release_touches n k).iff h s

theorem State.flagOpen_touches (s : State) (n : Svc) (f : VerdictFlags) : Touches [.sched] s (s.flagOpen n f) := by
  simp [State.flagOpen]
@[simp] theorem State.flagOpen_touch (T : List Part) (s t : State) (n : Svc) (f : VerdictFlags) (h : [.sched] ⊆ T) :
    Touches T s (t.flagOpen n f) ↔ Touches T s t := (t.flagOpen_touches n f).iff h s

theorem State.raiseTimeFault_touches (s : State) (n : Svc) : Touches [.panel, .alert, .sched, .live] s (s.raiseTimeFault n) := by
  simp [State.raiseTimeFault]
@[simp] theorem State.raiseTimeFault_touch (T : List Part) (s t : State) (n : Svc) (h : [.panel, .alert, .sched, .live] ⊆ T) :
    Touches T s (t.raiseTimeFault n) ↔ Touches T s t := (t.raiseTimeFault_touches n).iff h s

theorem State.closeLayer_touches (s : State) (n : Svc) (l : Layer) (f : VerdictFlags) : Touches [.sched, .pool, .integ, .recorder, .panel, .alert, .live] s (s.closeLayer n l f) := by
  simp [State.closeLayer]
@[simp] theorem State.closeLayer_touch (T : List Part) (s t : State) (n : Svc) (l : Layer) (f : VerdictFlags) (h : [.sched, .pool, .integ, .recorder, .panel, .alert, .live] ⊆ T) :
    Touches T s (t.closeLayer n l f) ↔ Touches T s t := (t.closeLayer_touches n l f).iff h s

theorem State.closeOpen_touches (s : State) (n : Svc) (f : VerdictFlags) : Touches [.sched, .pool, .integ, .recorder, .panel, .alert, .live, .caption] s (s.closeOpen n f) := by
  simp [State.closeOpen]
@[simp] theorem State.closeOpen_touch (T : List Part) (s t : State) (n : Svc) (f : VerdictFlags) (h : [.sched, .pool, .integ, .recorder, .panel, .alert, .live, .caption] ⊆ T) :
    Touches T s (t.closeOpen n f) ↔ Touches T s t := (t.closeOpen_touches n f).iff h s

theorem State.forgetWaiting_touches (s : State) (n : Svc) : Touches [.sched] s (s.forgetWaiting n) := by
  simp [State.forgetWaiting]
@[simp] theorem State.forgetWaiting_touch (T : List Part) (s t : State) (n : Svc) (h : [.sched] ⊆ T) :
    Touches T s (t.forgetWaiting n) ↔ Touches T s t := (t.forgetWaiting_touches n).iff h s

theorem State.emptyDockets_touches (s : State) (n : Svc) : Touches [.sched, .caption, .panel, .alert, .live] s (s.emptyDockets n) := by
  simp [State.emptyDockets]
@[simp] theorem State.emptyDockets_touch (T : List Part) (s t : State) (n : Svc) (h : [.sched, .caption, .panel, .alert, .live] ⊆ T) :
    Touches T s (t.emptyDockets n) ↔ Touches T s t := (t.emptyDockets_touches n).iff h s

/-! ### Machine/Feed.lean -/

theorem State.runBreak_touches (s : State) (n : Svc) : Touches [.meter, .pool] s (s.runBreak n) := by
  simp [State.runBreak]
@[simp] theorem State.runBreak_touch (T : List Part) (s t : State) (n : Svc) (h : [.meter, .pool] ⊆ T) :
    Touches T s (t.runBreak n) ↔ Touches T s t := (t.runBreak_touches n).iff h s

theorem State.advanceTo_touches (s : State) (n : Svc) (c : FireCause) (t1 : Nat) : Touches [.sched, .pool, .integ, .recorder, .panel, .alert, .live, .caption, .feed] s (s.advanceTo n c t1) := by
  simp [State.advanceTo]
@[simp] theorem State.advanceTo_touch (T : List Part) (s t : State) (n : Svc) (c : FireCause) (t1 : Nat) (h : [.sched, .pool, .integ, .recorder, .panel, .alert, .live, .caption, .feed] ⊆ T) :
    Touches T s (t.advanceTo n c t1) ↔ Touches T s t := (t.advanceTo_touches n c t1).iff h s

theorem State.flyAdvance_touches (s : State) (n : Svc) : Touches [.sched, .pool, .integ, .recorder, .panel, .alert, .live, .caption, .feed] s (s.flyAdvance n) := by
  unfold State.flyAdvance
  (repeat' split) <;> simp
@[simp] theorem State.flyAdvance_touch (T : List Part) (s t : State) (n : Svc) (h : [.sched, .pool, .integ, .recorder, .panel, .alert, .live, .caption, .feed] ⊆ T) :
    Touches T s (t.flyAdvance n) ↔ Touches T s t := (t.flyAdvance_touches n).iff h s

theorem State.enterFlywheel_touches (s : State) (n : Svc) (due : Nat) : Touches [.sched, .pool, .integ, .recorder, .panel, .alert, .live, .caption, .feed, .meter] s (s.enterFlywheel n due) := by
  simp [State.enterFlywheel]
@[simp] theorem State.enterFlywheel_touch (T : List Part) (s t : State) (n : Svc) (due : Nat) (h : [.sched, .pool, .integ, .recorder, .panel, .alert, .live, .caption, .feed, .meter] ⊆ T) :
    Touches T s (t.enterFlywheel n due) ↔ Touches T s t := (t.enterFlywheel_touches n due).iff h s

theorem State.leaveFlywheel_touches (s : State) (n : Svc) : Touches [.feed, .panel, .alert, .meter, .pool, .live] s (s.leaveFlywheel n) := by
  unfold State.leaveFlywheel
  (repeat' split) <;> simp
@[simp] theorem State.leaveFlywheel_touch (T : List Part) (s t : State) (n : Svc) (h : [.feed, .panel, .alert, .meter, .pool, .live] ⊆ T) :
    Touches T s (t.leaveFlywheel n) ↔ Touches T s t := (t.leaveFlywheel_touches n).iff h s

theorem State.seedTime_touches (s : State) (n : Svc) (u : Nat) : Touches [.sched, .pool, .integ, .recorder, .panel, .alert, .live, .caption, .feed] s (s.seedTime n u) := by
  simp [State.seedTime]
@[simp] theorem State.seedTime_touch (T : List Part) (s t : State) (n : Svc) (u : Nat) (h : [.sched, .pool, .integ, .recorder, .panel, .alert, .live, .caption, .feed] ⊆ T) :
    Touches T s (t.seedTime n u) ↔ Touches T s t := (t.seedTime_touches n u).iff h s

theorem State.jumpTo_touches (s : State) (n : Svc) (u : Nat) : Touches [.sched, .pool, .integ, .recorder, .panel, .alert, .live, .caption, .feed] s (s.jumpTo n u) := by
  simp [State.jumpTo]
@[simp] theorem State.jumpTo_touch (T : List Part) (s t : State) (n : Svc) (u : Nat) (h : [.sched, .pool, .integ, .recorder, .panel, .alert, .live, .caption, .feed] ⊆ T) :
    Touches T s (t.jumpTo n u) ↔ Touches T s t := (t.jumpTo_touches n u).iff h s

theorem State.judgeStamp_touches (s : State) (n : Svc) (u : Nat) : Touches [.sched, .pool, .integ, .recorder, .panel, .alert, .live, .caption, .feed] s (s.judgeStamp n u) := by
  unfold State.judgeStamp
  (repeat' split) <;> simp
@[simp] theorem State.judgeStamp_touch (T : List Part) (s t : State) (n : Svc) (u : Nat) (h : [.sched, .pool, .integ, .recorder, .panel, .alert, .live, .caption, .feed] ⊆ T) :
    Touches T s (t.judgeStamp n u) ↔ Touches T s t := (t.judgeStamp_touches n u).iff h s

theorem State.reloadLoss_touches (s : State) (n : Svc) : Touches [.feed] s (s.reloadLoss n) := by
  simp [State.reloadLoss]
@[simp] theorem State.reloadLoss_touch (T : List Part) (s t : State) (n : Svc) (h : [.feed] ⊆ T) :
    Touches T s (t.reloadLoss n) ↔ Touches T s t := (t.reloadLoss_touches n).iff h s

theorem State.applyStamp_touches (s : State) (n : Svc) (u : Nat) : Touches [.sched, .pool, .integ, .recorder, .panel, .alert, .live, .caption, .feed, .meter] s (s.applyStamp n u) := by
  unfold State.applyStamp
  (repeat' split) <;> simp
@[simp] theorem State.applyStamp_touch (T : List Part) (s t : State) (n : Svc) (u : Nat) (h : [.sched, .pool, .integ, .recorder, .panel, .alert, .live, .caption, .feed, .meter] ⊆ T) :
    Touches T s (t.applyStamp n u) ↔ Touches T s t := (t.applyStamp_touches n u).iff h s

theorem State.judgeRate_touches (s : State) (n : Svc) (code : BitVec 16) : Touches [.feed, .panel, .alert, .sched, .live] s (s.judgeRate n code) := by
  unfold State.judgeRate
  (repeat' split) <;> simp
@[simp] theorem State.judgeRate_touch (T : List Part) (s t : State) (n : Svc) (code : BitVec 16) (h : [.feed, .panel, .alert, .sched, .live] ⊆ T) :
    Touches T s (t.judgeRate n code) ↔ Touches T s t := (t.judgeRate_touches n code).iff h s

theorem State.takeFrame_touches (s : State) (n : Svc) (u : Nat) (code : BitVec 16) : Touches [.sched, .pool, .integ, .recorder, .panel, .alert, .live, .caption, .feed, .meter] s (s.takeFrame n u code) := by
  simp [State.takeFrame]
@[simp] theorem State.takeFrame_touch (T : List Part) (s t : State) (n : Svc) (u : Nat) (code : BitVec 16) (h : [.sched, .pool, .integ, .recorder, .panel, .alert, .live, .caption, .feed, .meter] ⊆ T) :
    Touches T s (t.takeFrame n u code) ↔ Touches T s t := (t.takeFrame_touches n u code).iff h s

theorem State.discardMessage_touches (s : State) (n : Svc) : Touches [.feed] s (s.discardMessage n) := by
  simp [State.discardMessage]
@[simp] theorem State.discardMessage_touch (T : List Part) (s t : State) (n : Svc) (h : [.feed] ⊆ T) :
    Touches T s (t.discardMessage n) ↔ Touches T s t := (t.discardMessage_touches n).iff h s

theorem State.takeLoss_touches (s : State) (n : Svc) (late : Bool) : Touches [.sched, .pool, .integ, .recorder, .panel, .alert, .live, .caption, .feed, .meter] s (s.takeLoss n late) := by
  unfold State.takeLoss
  dsimp only
  (repeat' split) <;> simp
@[simp] theorem State.takeLoss_touch (T : List Part) (s t : State) (n : Svc) (late : Bool) (h : [.sched, .pool, .integ, .recorder, .panel, .alert, .live, .caption, .feed, .meter] ⊆ T) :
    Touches T s (t.takeLoss n late) ↔ Touches T s t := (t.takeLoss_touches n late).iff h s

theorem State.lossTimerOut_touches (s : State) (n : Svc) : Touches [.sched, .pool, .integ, .recorder, .panel, .alert, .live, .caption, .feed, .meter] s (s.lossTimerOut n) := by
  unfold State.lossTimerOut
  (repeat' split) <;> simp
@[simp] theorem State.lossTimerOut_touch (T : List Part) (s t : State) (n : Svc) (h : [.sched, .pool, .integ, .recorder, .panel, .alert, .live, .caption, .feed, .meter] ⊆ T) :
    Touches T s (t.lossTimerOut n) ↔ Touches T s t := (t.lossTimerOut_touches n).iff h s

theorem State.frameTimerDue_touches (s : State) (n : Svc) : Touches [.sched, .pool, .integ, .recorder, .panel, .alert, .live, .caption, .feed] s (s.frameTimerDue n) := by
  unfold State.frameTimerDue
  (repeat' split) <;> simp
@[simp] theorem State.frameTimerDue_touch (T : List Part) (s t : State) (n : Svc) (h : [.sched, .pool, .integ, .recorder, .panel, .alert, .live, .caption, .feed] ⊆ T) :
    Touches T s (t.frameTimerDue n) ↔ Touches T s t := (t.frameTimerDue_touches n).iff h s

theorem State.cueSlot_touches (s : State) (n : Svc) (kind : CueKind) (k : Slot) : Touches [.sched, .pool, .integ, .recorder, .panel, .alert, .live] s (s.cueSlot n kind k) := by
  unfold State.cueSlot
  (repeat' split) <;> simp
@[simp] theorem State.cueSlot_touch (T : List Part) (s t : State) (n : Svc) (kind : CueKind) (k : Slot) (h : [.sched, .pool, .integ, .recorder, .panel, .alert, .live] ⊆ T) :
    Touches T s (t.cueSlot n kind k) ↔ Touches T s t := (t.cueSlot_touches n kind k).iff h s

theorem State.takeCue_touches (s : State) (n : Svc) (id : BitVec 16) (kind : CueKind) : Touches [.sched, .pool, .integ, .recorder, .panel, .alert, .live, .caption] s (s.takeCue n id kind) := by
  unfold State.takeCue
  (repeat' split) <;> simp
@[simp] theorem State.takeCue_touch (T : List Part) (s t : State) (n : Svc) (id : BitVec 16) (kind : CueKind) (h : [.sched, .pool, .integ, .recorder, .panel, .alert, .live, .caption] ⊆ T) :
    Touches T s (t.takeCue n id kind) ↔ Touches T s t := (t.takeCue_touches n id kind).iff h s

theorem State.takeCaption_touches (s : State) (n : Svc) (page : Byte) (lang : Lang) (kind : CaptionKind) (seq : Byte) : Touches [.feed, .caption, .sched, .panel, .alert, .live] s (s.takeCaption n page lang kind seq) := by
  unfold State.takeCaption
  (repeat' split) <;> simp
@[simp] theorem State.takeCaption_touch (T : List Part) (s t : State) (n : Svc) (page : Byte) (lang : Lang) (kind : CaptionKind) (seq : Byte) (h : [.feed, .caption, .sched, .panel, .alert, .live] ⊆ T) :
    Touches T s (t.takeCaption n page lang kind seq) ↔ Touches T s t := (t.takeCaption_touches n page lang kind seq).iff h s

/-! ### Machine/Meter.lean -/

theorem State.takeClips_touches (s : State) (n : Svc) (raw : List (Option (BitVec 24))) : Touches [.meter, .panel, .alert, .live] s (s.takeClips n raw) := by
  simp [State.takeClips]
@[simp] theorem State.takeClips_touch (T : List Part) (s t : State) (n : Svc) (raw : List (Option (BitVec 24))) (h : [.meter, .panel, .alert, .live] ⊆ T) :
    Touches T s (t.takeClips n raw) ↔ Touches T s t := (t.takeClips_touches n raw).iff h s

theorem State.judgeSilence_touches (s : State) (n : Svc) (lv : Int) : Touches [.meter, .panel, .alert, .live] s (s.judgeSilence n lv) := by
  unfold State.judgeSilence
  (repeat' split) <;> simp
@[simp] theorem State.judgeSilence_touch (T : List Part) (s t : State) (n : Svc) (lv : Int) (h : [.meter, .panel, .alert, .live] ⊆ T) :
    Touches T s (t.judgeSilence n lv) ↔ Touches T s t := (t.judgeSilence_touches n lv).iff h s

theorem State.rollingMomentary_touches (s : State) (n : Svc) : Touches [.meter] s (s.rollingMomentary n) := by
  unfold State.rollingMomentary
  (repeat' split) <;> simp
@[simp] theorem State.rollingMomentary_touch (T : List Part) (s t : State) (n : Svc) (h : [.meter] ⊆ T) :
    Touches T s (t.rollingMomentary n) ↔ Touches T s t := (t.rollingMomentary_touches n).iff h s

theorem State.rollingShort_touches (s : State) (n : Svc) : Touches [.meter, .panel, .alert, .live] s (s.rollingShort n) := by
  unfold State.rollingShort
  (repeat' split) <;> simp
@[simp] theorem State.rollingShort_touch (T : List Part) (s t : State) (n : Svc) (h : [.meter, .panel, .alert, .live] ⊆ T) :
    Touches T s (t.rollingShort n) ↔ Touches T s t := (t.rollingShort_touches n).iff h s

theorem State.handLive_touches (s : State) (n : Svc) : Touches [.live, .panel] s (s.handLive n) := by
  unfold State.handLive
  (repeat' split) <;> simp
@[simp] theorem State.handLive_touch (T : List Part) (s t : State) (n : Svc) (h : [.live, .panel] ⊆ T) :
    Touches T s (t.handLive n) ↔ Touches T s t := (t.handLive_touches n).iff h s

theorem State.dueWrite_touches (s : State) (n : Svc) : Touches [.live, .panel, .meter] s (s.dueWrite n) := by
  simp [State.dueWrite]
@[simp] theorem State.dueWrite_touch (T : List Part) (s t : State) (n : Svc) (h : [.live, .panel, .meter] ⊆ T) :
    Touches T s (t.dueWrite n) ↔ Touches T s t := (t.dueWrite_touches n).iff h s

theorem State.rollingTake_touches (s : State) (n : Svc) (squares : List Nat) : Touches [.meter, .panel, .alert, .live] s (s.rollingTake n squares).1 := by
  unfold State.rollingTake
  dsimp only
  split <;> simp
@[simp] theorem State.rollingTake_touch (T : List Part) (s t : State) (n : Svc) (squares : List Nat) (h : [.meter, .panel, .alert, .live] ⊆ T) :
    Touches T s (t.rollingTake n squares).1 ↔ Touches T s t := (t.rollingTake_touches n squares).iff h s

theorem State.contextTake_touches (s : State) (n : Svc) (squares mags : List Nat) (c : CtxId) : Touches [.pool, .panel, .alert, .live] s (s.contextTake n squares mags c) := by
  simp [State.contextTake]
@[simp] theorem State.contextTake_touch (T : List Part) (s t : State) (n : Svc) (squares mags : List Nat) (c : CtxId) (h : [.pool, .panel, .alert, .live] ⊆ T) :
    Touches T s (t.contextTake n squares mags c) ↔ Touches T s t := (t.contextTake_touches n squares mags c).iff h s

theorem State.countBlock_touches (s : State) (n : Svc) : Touches [.live, .panel, .meter] s (s.countBlock n) := by
  simp [State.countBlock]
@[simp] theorem State.countBlock_touch (T : List Part) (s t : State) (n : Svc) (h : [.live, .panel, .meter] ⊆ T) :
    Touches T s (t.countBlock n) ↔ Touches T s t := (t.countBlock_touches n).iff h s

theorem State.takeAudio_touches (s : State) (n : Svc) (samples : Vector (BitVec 24) 16) : Touches [.meter, .panel, .alert, .pool, .live] s (s.takeAudio n samples) := by
  simp [State.takeAudio]
@[simp] theorem State.takeAudio_touch (T : List Part) (s t : State) (n : Svc) (samples : Vector (BitVec 24) 16) (h : [.meter, .panel, .alert, .pool, .live] ⊆ T) :
    Touches T s (t.takeAudio n samples) ↔ Touches T s t := (t.takeAudio_touches n samples).iff h s

theorem State.mixChange_touches (s : State) (n : Svc) : Touches [.meter, .pool, .sched] s (s.mixChange n) := by
  simp [State.mixChange]
@[simp] theorem State.mixChange_touch (T : List Part) (s t : State) (n : Svc) (h : [.meter, .pool, .sched] ⊆ T) :
    Touches T s (t.mixChange n) ↔ Touches T s t := (t.mixChange_touches n).iff h s

theorem State.takeCountLimit_touches (s : State) (n : Svc)(k : Slot) : Touches [.sched, .pool, .integ, .recorder, .panel, .alert, .live, .caption] s (s.takeCountLimit n k) := by
  unfold State.takeCountLimit
  (repeat' split) <;> simp
@[simp] theorem State.takeCountLimit_touch (T : List Part) (s t : State) (n : Svc)(k : Slot) (h : [.sched, .pool, .integ, .recorder, .panel, .alert, .live, .caption] ⊆ T) :
    Touches T s (t.takeCountLimit n k) ↔ Touches T s t := (t.takeCountLimit_touches n k).iff h s

theorem State.countdownOut_touches (s : State) (n : Svc) : Touches [.live, .panel, .meter] s (s.countdownOut n) := by
  unfold State.countdownOut
  (repeat' split) <;> simp
@[simp] theorem State.countdownOut_touch (T : List Part) (s t : State) (n : Svc) (h : [.live, .panel, .meter] ⊆ T) :
    Touches T s (t.countdownOut n) ↔ Touches T s t := (t.countdownOut_touches n).iff h s

theorem State.writeTimerOut_touches (s : State) (n : Svc) : Touches [.live, .panel, .meter] s (s.writeTimerOut n) := by
  unfold State.writeTimerOut
  (repeat' split) <;> simp
@[simp] theorem State.writeTimerOut_touch (T : List Part) (s t : State) (n : Svc) (h : [.live, .panel, .meter] ⊆ T) :
    Touches T s (t.writeTimerOut n) ↔ Touches T s t := (t.writeTimerOut_touches n).iff h s

theorem State.completeLive_touches (s : State) (n : Svc) : Touches [.ctl, .host, .live, .alert] s (s.completeLive n) := by
  unfold State.completeLive
  (repeat' split) <;> simp
@[simp] theorem State.completeLive_touch (T : List Part) (s t : State) (n : Svc) (h : [.ctl, .host, .live, .alert] ⊆ T) :
    Touches T s (t.completeLive n) ↔ Touches T s t := (t.completeLive_touches n).iff h s

/-! ### Machine/Measure.lean -/

theorem State.livenessOut_touches (s : State) (n : Svc) : Touches [.caption, .panel, .alert, .sched, .live] s (s.livenessOut n) := by
  unfold State.livenessOut
  (repeat' split) <;> simp
@[simp] theorem State.livenessOut_touch (T : List Part) (s t : State) (n : Svc) (h : [.caption, .panel, .alert, .sched, .live] ⊆ T) :
    Touches T s (t.livenessOut n) ↔ Touches T s t := (t.livenessOut_touches n).iff h s

theorem State.contentOut_touches (s : State) (n : Svc) : Touches [.caption, .panel, .alert, .sched, .live] s (s.contentOut n) := by
  unfold State.contentOut
  (repeat' split) <;> simp
@[simp] theorem State.contentOut_touch (T : List Part) (s t : State) (n : Svc) (h : [.caption, .panel, .alert, .sched, .live] ⊆ T) :
    Touches T s (t.contentOut n) ↔ Touches T s t := (t.contentOut_touches n).iff h s

/-! ### Machine/Spool.lean -/

theorem State.judgeUnit_touches (s : State) (n : Svc) (u : SpoolUnit) : Touches [.proxy, .panel, .alert, .live] s (s.judgeUnit n u) := by
  unfold State.judgeUnit
  (repeat' split) <;> simp
@[simp] theorem State.judgeUnit_touch (T : List Part) (s t : State) (n : Svc) (u : SpoolUnit) (h : [.proxy, .panel, .alert, .live] ⊆ T) :
    Touches T s (t.judgeUnit n u) ↔ Touches T s t := (t.judgeUnit_touches n u).iff h s

theorem State.markStart_touches (s : State) (n : Svc)(k : Slot) (seq : Nat) (e : Entry) : Touches [.recorder] s (s.markStart n k seq e) := by
  unfold State.markStart
  (repeat' split) <;> simp
@[simp] theorem State.markStart_touch (T : List Part) (s t : State) (n : Svc)(k : Slot) (seq : Nat) (e : Entry) (h : [.recorder] ⊆ T) :
    Touches T s (t.markStart n k seq e) ↔ Touches T s t := (t.markStart_touches n k seq e).iff h s

theorem State.countUnit_touches (s : State) (n : Svc) (seq : Nat) (dropped : Bool) (k : Slot) : Touches [.sched, .recorder] s (s.countUnit n seq dropped k) := by
  unfold State.countUnit
  (repeat' split) <;> simp
@[simp] theorem State.countUnit_touch (T : List Part) (s t : State) (n : Svc) (seq : Nat) (dropped : Bool) (k : Slot) (h : [.sched, .recorder] ⊆ T) :
    Touches T s (t.countUnit n seq dropped k) ↔ Touches T s t := (t.countUnit_touches n seq dropped k).iff h s

theorem State.takeChunk_touches (s : State) (n : Svc) (c : Chunk) : Touches [.proxy, .panel, .alert, .sched, .recorder, .live] s (s.takeChunk n c) := by
  unfold State.takeChunk
  (repeat' split) <;> simp
@[simp] theorem State.takeChunk_touch (T : List Part) (s t : State) (n : Svc) (c : Chunk) (h : [.proxy, .panel, .alert, .sched, .recorder, .live] ⊆ T) :
    Touches T s (t.takeChunk n c) ↔ Touches T s t := (t.takeChunk_touches n c).iff h s

/-! ### Machine/Mover.lean -/

theorem State.setWork_touches (s : State) (w : MoverWork) : Touches [.mover] s (s.setWork w) := by
  simp [State.setWork]
@[simp] theorem State.setWork_touch (T : List Part) (s t : State) (w : MoverWork) (h : [.mover] ⊆ T) :
    Touches T s (t.setWork w) ↔ Touches T s t := (t.setWork_touches w).iff h s

theorem State.handUpdate_touches (s : State) (x : ExtId) (again : Bool) : Touches [.mover] s (s.handUpdate x again) := by
  simp [State.handUpdate]
@[simp] theorem State.handUpdate_touch (T : List Part) (s t : State) (x : ExtId) (again : Bool) (h : [.mover] ⊆ T) :
    Touches T s (t.handUpdate x again) ↔ Touches T s t := (t.handUpdate_touches x again).iff h s

theorem State.beginWalk_touches (s : State) (n : Svc) (retest : Bool) (x : ExtId) (rest : List ExtId) : Touches [.mover, .recorder] s (s.beginWalk n retest x rest) := by
  simp [State.beginWalk]
@[simp] theorem State.beginWalk_touch (T : List Part) (s t : State) (n : Svc) (retest : Bool) (x : ExtId) (rest : List ExtId) (h : [.mover, .recorder] ⊆ T) :
    Touches T s (t.beginWalk n retest x rest) ↔ Touches T s t := (t.beginWalk_touches n retest x rest).iff h s

theorem State.nextRetest_touches (s : State) (ns : List Svc) : Touches [.mover, .recorder] s (s.nextRetest ns) := by
  induction ns with
  | nil => simp [State.nextRetest]
  | cons n ns ih =>
    unfold State.nextRetest
    split
    · simp
    · exact ih
@[simp] theorem State.nextRetest_touch (T : List Part) (s t : State) (ns : List Svc) (h : [.mover, .recorder] ⊆ T) :
    Touches T s (t.nextRetest ns) ↔ Touches T s t := (t.nextRetest_touches ns).iff h s

theorem State.turnEnd_touches (s : State) : Touches [.mover, .recorder] s (s.turnEnd) := by
  simp [State.turnEnd]
@[simp] theorem State.turnEnd_touch (T : List Part) (s t : State) (h : [.mover, .recorder] ⊆ T) :
    Touches T s (t.turnEnd) ↔ Touches T s t := (t.turnEnd_touches).iff h s

theorem State.writeHead_touches (s : State) (n : Svc) : Touches [.mover] s (s.writeHead n) := by
  simp [State.writeHead]
@[simp] theorem State.writeHead_touch (T : List Part) (s t : State) (n : Svc) (h : [.mover] ⊆ T) :
    Touches T s (t.writeHead n) ↔ Touches T s t := (t.writeHead_touches n).iff h s

theorem State.goOn_touches (s : State) (n : Svc) (write : Bool) : Touches [.mover, .recorder] s (s.goOn n write) := by
  unfold State.goOn
  (repeat' split) <;> simp
@[simp] theorem State.goOn_touch (T : List Part) (s t : State) (n : Svc) (write : Bool) (h : [.mover, .recorder] ⊆ T) :
    Touches T s (t.goOn n write) ↔ Touches T s t := (t.goOn_touches n write).iff h s

theorem State.endLastBlock_touches (s : State) (n : Svc) (x : ExtId) (found write : Bool) : Touches [.extents, .panel, .alert, .mover, .recorder, .live] s (s.endLastBlock n x found write) := by
  unfold State.endLastBlock
  (repeat' split) <;> simp
@[simp] theorem State.endLastBlock_touch (T : List Part) (s t : State) (n : Svc) (x : ExtId) (found write : Bool) (h : [.extents, .panel, .alert, .mover, .recorder, .live] ⊆ T) :
    Touches T s (t.endLastBlock n x found write) ↔ Touches T s t := (t.endLastBlock_touches n x found write).iff h s

theorem State.stepLastBlock_touches (s : State) (n : Svc) (x : ExtId) (rest : List ExtId) (found write : Bool) : Touches [.extents, .panel, .alert, .mover, .recorder, .live] s (s.stepLastBlock n x rest found write) := by
  unfold State.stepLastBlock
  (repeat' split) <;> simp
@[simp] theorem State.stepLastBlock_touch (T : List Part) (s t : State) (n : Svc) (x : ExtId) (rest : List ExtId) (found write : Bool) (h : [.extents, .panel, .alert, .mover, .recorder, .live] ⊆ T) :
    Touches T s (t.stepLastBlock n x rest found write) ↔ Touches T s t := (t.stepLastBlock_touches n x rest found write).iff h s

theorem State.startLastBlock_touches (s : State) (n : Svc) (x : ExtId) (write : Bool) : Touches [.extents, .panel, .alert, .mover, .recorder, .live] s (s.startLastBlock n x write) := by
  simp [State.startLastBlock]
@[simp] theorem State.startLastBlock_touch (T : List Part) (s t : State) (n : Svc) (x : ExtId) (write : Bool) (h : [.extents, .panel, .alert, .mover, .recorder, .live] ⊆ T) :
    Touches T s (t.startLastBlock n x write) ↔ Touches T s t := (t.startLastBlock_touches n x write).iff h s

theorem State.spanLost_touches (s : State) (o : Svc) (first last : Nat) : Touches [.sched] s (s.spanLost o first last) := by
  simp [State.spanLost]
@[simp] theorem State.spanLost_touch (T : List Part) (s t : State) (o : Svc) (first last : Nat) (h : [.sched] ⊆ T) :
    Touches T s (t.spanLost o first last) ↔ Touches T s t := (t.spanLost_touches o first last).iff h s

theorem State.handRange_touches (s : State) (e : Extent) : Touches [.sched] s (s.handRange e) := by
  unfold State.handRange
  (repeat' split) <;> simp
@[simp] theorem State.handRange_touch (T : List Part) (s t : State) (e : Extent) (h : [.sched] ⊆ T) :
    Touches T s (t.handRange e) ↔ Touches T s t := (t.handRange_touches e).iff h s

theorem State.openExtent_touches (s : State) (n : Svc) (x : ExtId) (d : Descriptor) (retest : Bool) : Touches [.sched, .extents, .recorder, .mover] s (s.openExtent n x d retest) := by
  simp [State.openExtent]
@[simp] theorem State.openExtent_touch (T : List Part) (s t : State) (n : Svc) (x : ExtId) (d : Descriptor) (retest : Bool) (h : [.sched, .extents, .recorder, .mover] ⊆ T) :
    Touches T s (t.openExtent n x d retest) ↔ Touches T s t := (t.openExtent_touches n x d retest).iff h s

theorem State.afterOpen_touches (s : State) (n : Svc) (x : ExtId) (write : Bool) : Touches [.extents, .panel, .alert, .mover, .recorder, .live] s (s.afterOpen n x write) := by
  unfold State.afterOpen
  (repeat' split) <;> simp
@[simp] theorem State.afterOpen_touch (T : List Part) (s t : State) (n : Svc) (x : ExtId) (write : Bool) (h : [.extents, .panel, .alert, .mover, .recorder, .live] ⊆ T) :
    Touches T s (t.afterOpen n x write) ↔ Touches T s t := (t.afterOpen_touches n x write).iff h s

theorem State.closeRecord_touches (s : State) (n : Svc) (x : ExtId) (c : CloseCause) : Touches [.extents, .recorder] s (s.closeRecord n x c) := by
  simp [State.closeRecord]
@[simp] theorem State.closeRecord_touch (T : List Part) (s t : State) (n : Svc) (x : ExtId) (c : CloseCause) (h : [.extents, .recorder] ⊆ T) :
    Touches T s (t.closeRecord n x c) ↔ Touches T s t := (t.closeRecord_touches n x c).iff h s

theorem State.closeFill_touches (s : State) (n : Svc) (x : ExtId) (c : CloseCause) : Touches [.extents, .recorder, .mover] s (s.closeFill n x c) := by
  simp [State.closeFill]
@[simp] theorem State.closeFill_touch (T : List Part) (s t : State) (n : Svc) (x : ExtId) (c : CloseCause) (h : [.extents, .recorder, .mover] ⊆ T) :
    Touches T s (t.closeFill n x c) ↔ Touches T s t := (t.closeFill_touches n x c).iff h s

theorem State.takeViolation_touches (s : State) (n : Svc) (v : Capture) : Touches [.recorder, .panel, .alert, .live] s (s.takeViolation n v) := by
  unfold State.takeViolation
  (repeat' split) <;> simp
@[simp] theorem State.takeViolation_touch (T : List Part) (s t : State) (n : Svc) (v : Capture) (h : [.recorder, .panel, .alert, .live] ⊆ T) :
    Touches T s (t.takeViolation n v) ↔ Touches T s t := (t.takeViolation_touches n v).iff h s

theorem State.stall_touches (s : State) (n : Svc) : Touches [.recorder] s (s.stall n) := by
  simp [State.stall]
@[simp] theorem State.stall_touch (T : List Part) (s t : State) (n : Svc) (h : [.recorder] ⊆ T) :
    Touches T s (t.stall n) ↔ Touches T s t := (t.stall_touches n).iff h s

theorem State.violate_touches (s : State) (n : Svc) (kind : ViolationKind) (x : Option ExtId) : Touches [.recorder, .panel, .alert, .mover, .live] s (s.violate n kind x) := by
  simp [State.violate]
@[simp] theorem State.violate_touch (T : List Part) (s t : State) (n : Svc) (kind : ViolationKind) (x : Option ExtId) (h : [.recorder, .panel, .alert, .mover, .live] ⊆ T) :
    Touches T s (t.violate n kind x) ↔ Touches T s t := (t.violate_touches n kind x).iff h s

theorem State.stepWalk_touches (s : State) (n : Svc) (retest overwrite : Bool) (rest : List ExtId) : Touches [.recorder, .panel, .alert, .mover, .live] s (s.stepWalk n retest overwrite rest) := by
  unfold State.stepWalk
  (repeat' split) <;> simp
@[simp] theorem State.stepWalk_touch (T : List Part) (s t : State) (n : Svc) (retest overwrite : Bool) (rest : List ExtId) (h : [.recorder, .panel, .alert, .mover, .live] ⊆ T) :
    Touches T s (t.stepWalk n retest overwrite rest) ↔ Touches T s t := (t.stepWalk_touches n retest overwrite rest).iff h s

theorem State.walkRead_touches (s : State) (n : Svc) (retest overwrite : Bool) (x : ExtId) (rest : List ExtId) (d : Descriptor) : Touches [.sched, .extents, .recorder, .mover, .panel, .alert, .live] s (s.walkRead n retest overwrite x rest d) := by
  unfold State.walkRead
  (repeat' split) <;> simp
@[simp] theorem State.walkRead_touch (T : List Part) (s t : State) (n : Svc) (retest overwrite : Bool) (x : ExtId) (rest : List ExtId) (d : Descriptor) (h : [.sched, .extents, .recorder, .mover, .panel, .alert, .live] ⊆ T) :
    Touches T s (t.walkRead n retest overwrite x rest d) ↔ Touches T s t := (t.walkRead_touches n retest overwrite x rest d).iff h s

theorem State.turnChoose_touches (s : State) (n : Svc) : Touches [.mover, .recorder] s (s.turnChoose n) := by
  unfold State.turnChoose
  (repeat' split) <;> simp
@[simp] theorem State.turnChoose_touch (T : List Part) (s t : State) (n : Svc) (h : [.mover, .recorder] ⊆ T) :
    Touches T s (t.turnChoose n) ↔ Touches T s t := (t.turnChoose_touches n).iff h s

theorem State.turnBoundary_touches (s : State) (n : Svc) : Touches [.mover, .recorder] s (s.turnBoundary n) := by
  unfold State.turnBoundary
  (repeat' split) <;> simp
@[simp] theorem State.turnBoundary_touch (T : List Part) (s t : State) (n : Svc) (h : [.mover, .recorder] ⊆ T) :
    Touches T s (t.turnBoundary n) ↔ Touches T s t := (t.turnBoundary_touches n).iff h s

theorem State.turnOwed_touches (s : State) (n : Svc) : Touches [.mover, .recorder] s (s.turnOwed n) := by
  unfold State.turnOwed
  (repeat' split) <;> simp
@[simp] theorem State.turnOwed_touch (T : List Part) (s t : State) (n : Svc) (h : [.mover, .recorder] ⊆ T) :
    Touches T s (t.turnOwed n) ↔ Touches T s t := (t.turnOwed_touches n).iff h s

theorem State.startTurn_touches (s : State) : Touches [.mover, .recorder] s (s.startTurn) := by
  unfold State.startTurn
  (repeat' split) <;> simp
@[simp] theorem State.startTurn_touch (T : List Part) (s t : State) (h : [.mover, .recorder] ⊆ T) :
    Touches T s (t.startTurn) ↔ Touches T s t := (t.startTurn_touches).iff h s

theorem State.boundaryJudge_touches (s : State) (n : Svc) (x : ExtId) (resume : Bool) (d : Descriptor) (e : Extent) : Touches [.recorder, .extents, .mover, .panel, .alert, .live] s (s.boundaryJudge n x resume d e) := by
  unfold State.boundaryJudge
  (repeat' split) <;> simp
@[simp] theorem State.boundaryJudge_touch (T : List Part) (s t : State) (n : Svc) (x : ExtId) (resume : Bool) (d : Descriptor) (e : Extent) (h : [.recorder, .extents, .mover, .panel, .alert, .live] ⊆ T) :
    Touches T s (t.boundaryJudge n x resume d e) ↔ Touches T s t := (t.boundaryJudge_touches n x resume d e).iff h s

theorem State.boundaryRead_touches (s : State) (n : Svc) (x : ExtId) (resume : Bool) (d : Descriptor) : Touches [.recorder, .extents, .mover, .panel, .alert, .live] s (s.boundaryRead n x resume d) := by
  simp [State.boundaryRead]
@[simp] theorem State.boundaryRead_touch (T : List Part) (s t : State) (n : Svc) (x : ExtId) (resume : Bool) (d : Descriptor) (h : [.recorder, .extents, .mover, .panel, .alert, .live] ⊆ T) :
    Touches T s (t.boundaryRead n x resume d) ↔ Touches T s t := (t.boundaryRead_touches n x resume d).iff h s

theorem State.blockBoundary_touches (s : State) (n : Svc) (x : ExtId) : Touches [.recorder, .extents, .mover] s (s.blockBoundary n x) := by
  unfold State.blockBoundary
  (repeat' split) <;> simp
@[simp] theorem State.blockBoundary_touch (T : List Part) (s t : State) (n : Svc) (x : ExtId) (h : [.recorder, .extents, .mover] ⊆ T) :
    Touches T s (t.blockBoundary n x) ↔ Touches T s t := (t.blockBoundary_touches n x).iff h s

theorem State.descriptorTaken_touches (s : State) (x : ExtId) (d : Descriptor) : Touches [.sched, .extents, .recorder, .mover, .panel, .alert, .live] s (s.descriptorTaken x d) := by
  unfold State.descriptorTaken
  (repeat' split) <;> simp
@[simp] theorem State.descriptorTaken_touch (T : List Part) (s t : State) (x : ExtId) (d : Descriptor) (h : [.sched, .extents, .recorder, .mover, .panel, .alert, .live] ⊆ T) :
    Touches T s (t.descriptorTaken x d) ↔ Touches T s t := (t.descriptorTaken_touches x d).iff h s

theorem State.descriptorRead_touches (s : State) (x : ExtId) (d : Descriptor) : Touches [.sched, .extents, .recorder, .mover, .panel, .alert, .live, .ctl] s (s.descriptorRead x d) := by
  unfold State.descriptorRead
  (repeat' split) <;> simp
@[simp] theorem State.descriptorRead_touch (T : List Part) (s t : State) (x : ExtId) (d : Descriptor) (h : [.sched, .extents, .recorder, .mover, .panel, .alert, .live, .ctl] ⊆ T) :
    Touches T s (t.descriptorRead x d) ↔ Touches T s t := (t.descriptorRead_touches x d).iff h s

theorem State.walkFailed_touches (s : State) : Touches [.extents, .panel, .alert, .mover, .recorder, .live] s (s.walkFailed) := by
  unfold State.walkFailed
  (repeat' split) <;> simp
@[simp] theorem State.walkFailed_touch (T : List Part) (s t : State) (h : [.extents, .panel, .alert, .mover, .recorder, .live] ⊆ T) :
    Touches T s (t.walkFailed) ↔ Touches T s t := (t.walkFailed_touches).iff h s

theorem State.descriptorReadFailed_touches (s : State) : Touches [.extents, .panel, .alert, .mover, .recorder, .live] s (s.descriptorReadFailed) := by
  unfold State.descriptorReadFailed
  (repeat' split) <;> simp
@[simp] theorem State.descriptorReadFailed_touch (T : List Part) (s t : State) (h : [.extents, .panel, .alert, .mover, .recorder, .live] ⊆ T) :
    Touches T s (t.descriptorReadFailed) ↔ Touches T s t := (t.descriptorReadFailed_touches).iff h s

theorem State.updateEnded_touches (s : State) (x : ExtId) (ended : Bool) : Touches [.recorder, .extents, .mover, .panel, .alert, .live] s (s.updateEnded x ended) := by
  unfold State.updateEnded
  (repeat' split) <;> simp
@[simp] theorem State.updateEnded_touch (T : List Part) (s t : State) (x : ExtId) (ended : Bool) (h : [.recorder, .extents, .mover, .panel, .alert, .live] ⊆ T) :
    Touches T s (t.updateEnded x ended) ↔ Touches T s t := (t.updateEnded_touches x ended).iff h s

theorem State.updateComplete_touches (s : State) (x : ExtId) : Touches [.recorder, .extents, .mover, .panel, .alert, .ctl, .host, .live] s (s.updateComplete x) := by
  unfold State.updateComplete
  (repeat' split) <;> simp
@[simp] theorem State.updateComplete_touch (T : List Part) (s t : State) (x : ExtId) (h : [.recorder, .extents, .mover, .panel, .alert, .ctl, .host, .live] ⊆ T) :
    Touches T s (t.updateComplete x) ↔ Touches T s t := (t.updateComplete_touches x).iff h s

theorem State.updateFailed_touches (s : State) (x : ExtId) : Touches [.recorder, .extents, .mover, .panel, .alert, .live] s (s.updateFailed x) := by
  unfold State.updateFailed
  (repeat' split) <;> simp
@[simp] theorem State.updateFailed_touch (T : List Part) (s t : State) (x : ExtId) (h : [.recorder, .extents, .mover, .panel, .alert, .live] ⊆ T) :
    Touches T s (t.updateFailed x) ↔ Touches T s t := (t.updateFailed_touches x).iff h s

theorem State.unitWritten_touches (s : State) (n : Svc) (x : ExtId) (u : SpoolUnit) : Touches [.host, .ctl, .proxy, .extents, .recorder] s (s.unitWritten n x u) := by
  simp [State.unitWritten]
@[simp] theorem State.unitWritten_touch (T : List Part) (s t : State) (n : Svc) (x : ExtId) (u : SpoolUnit) (h : [.host, .ctl, .proxy, .extents, .recorder] ⊆ T) :
    Touches T s (t.unitWritten n x u) ↔ Touches T s t := (t.unitWritten_touches n x u).iff h s

theorem State.closeCurrent_touches (s : State) (n : Svc) : Touches [.extents, .recorder] s (s.closeCurrent n) := by
  unfold State.closeCurrent
  (repeat' split) <;> simp
@[simp] theorem State.closeCurrent_touch (T : List Part) (s t : State) (n : Svc) (h : [.extents, .recorder] ⊆ T) :
    Touches T s (t.closeCurrent n) ↔ Touches T s t := (t.closeCurrent_touches n).iff h s

theorem State.unlinkRecorder_touches (s : State) (n : Svc) : Touches [.extents, .recorder] s (s.unlinkRecorder n) := by
  simp [State.unlinkRecorder]
@[simp] theorem State.unlinkRecorder_touch (T : List Part) (s t : State) (n : Svc) (h : [.extents, .recorder] ⊆ T) :
    Touches T s (t.unlinkRecorder n) ↔ Touches T s t := (t.unlinkRecorder_touches n).iff h s

theorem State.retryOwed_touches (s : State) (x : Option ExtId) : Touches [.mover] s (s.retryOwed x) := by
  unfold State.retryOwed
  (repeat' split) <;> simp
@[simp] theorem State.retryOwed_touch (T : List Part) (s t : State) (x : Option ExtId) (h : [.mover] ⊆ T) :
    Touches T s (t.retryOwed x) ↔ Touches T s t := (t.retryOwed_touches x).iff h s

theorem State.handFor_touches (s : State) (x : Option ExtId) : Touches [.mover] s (s.handFor x) := by
  unfold State.handFor
  (repeat' split) <;> simp
@[simp] theorem State.handFor_touch (T : List Part) (s t : State) (x : Option ExtId) (h : [.mover] ⊆ T) :
    Touches T s (t.handFor x) ↔ Touches T s t := (t.handFor_touches x).iff h s

theorem State.unlinkFill_touches (s : State) (n : Svc) : Touches [.extents, .recorder, .mover] s (s.unlinkFill n) := by
  simp [State.unlinkFill]
@[simp] theorem State.unlinkFill_touch (T : List Part) (s t : State) (n : Svc) (h : [.extents, .recorder, .mover] ⊆ T) :
    Touches T s (t.unlinkFill n) ↔ Touches T s t := (t.unlinkFill_touches n).iff h s

theorem State.unlinkFills_touches (s : State) : Touches [.extents, .recorder, .mover] s (s.unlinkFills) := by
  simp [State.unlinkFills]
@[simp] theorem State.unlinkFills_touch (T : List Part) (s t : State) (h : [.extents, .recorder, .mover] ⊆ T) :
    Touches T s (t.unlinkFills) ↔ Touches T s t := (t.unlinkFills_touches).iff h s

theorem State.moverUnlink_touches (s : State) : Touches [.extents, .recorder, .mover] s (s.moverUnlink) := by
  unfold State.moverUnlink
  (repeat' split) <;> simp
@[simp] theorem State.moverUnlink_touch (T : List Part) (s t : State) (h : [.extents, .recorder, .mover] ⊆ T) :
    Touches T s (t.moverUnlink) ↔ Touches T s t := (t.moverUnlink_touches).iff h s

theorem State.moverFault_touches (s : State) : Touches [.extents, .recorder, .mover] s (s.moverFault) := by
  simp [State.moverFault]
@[simp] theorem State.moverFault_touch (T : List Part) (s t : State) (h : [.extents, .recorder, .mover] ⊆ T) :
    Touches T s (t.moverFault) ↔ Touches T s t := (t.moverFault_touches).iff h s

theorem State.afterUnit_touches (s : State) (n : Svc) (x : ExtId) : Touches [.extents, .recorder, .mover] s (s.afterUnit n x) := by
  unfold State.afterUnit
  (repeat' split) <;> simp
@[simp] theorem State.afterUnit_touch (T : List Part) (s t : State) (n : Svc) (x : ExtId) (h : [.extents, .recorder, .mover] ⊆ T) :
    Touches T s (t.afterUnit n x) ↔ Touches T s t := (t.afterUnit_touches n x).iff h s

theorem State.unitWriteFailed_touches (s : State) : Touches [.extents, .recorder, .mover] s (s.unitWriteFailed) := by
  unfold State.unitWriteFailed
  (repeat' split) <;> simp
@[simp] theorem State.unitWriteFailed_touch (T : List Part) (s t : State) (h : [.extents, .recorder, .mover] ⊆ T) :
    Touches T s (t.unitWriteFailed) ↔ Touches T s t := (t.unitWriteFailed_touches).iff h s

theorem State.takeCaptureAck_touches (s : State) (n : Svc) (ack : BitVec 16) : Touches [.recorder, .panel, .alert, .live] s (s.takeCaptureAck n ack) := by
  simp [State.takeCaptureAck]
@[simp] theorem State.takeCaptureAck_touch (T : List Part) (s t : State) (n : Svc) (ack : BitVec 16) (h : [.recorder, .panel, .alert, .live] ⊆ T) :
    Touches T s (t.takeCaptureAck n ack) ↔ Touches T s t := (t.takeCaptureAck_touches n ack).iff h s

theorem State.moverLink_touches (s : State) : Touches [.extents, .recorder, .mover] s (s.moverLink) := by
  unfold State.moverLink
  simp
  intro p hp; cases p <;> simp_all [sameIn]
@[simp] theorem State.moverLink_touch (T : List Part) (s t : State) (h : [.extents, .recorder, .mover] ⊆ T) :
    Touches T s (t.moverLink) ↔ Touches T s t := (t.moverLink_touches).iff h s

/-! ### Machine/Archive.lean -/

theorem State.unitDone_touches (s : State) : Touches [.host, .ctl, .proxy, .extents, .recorder, .mover] s (s.unitDone) := by
  unfold State.unitDone
  (repeat' split) <;> simp
@[simp] theorem State.unitDone_touch (T : List Part) (s t : State) (h : [.host, .ctl, .proxy, .extents, .recorder, .mover] ⊆ T) :
    Touches T s (t.unitDone) ↔ Touches T s t := (t.unitDone_touches).iff h s

/-! ### Machine/Sheets.lean -/

theorem State.refuseSheet_touches (s : State) (n : Svc) (rev : BitVec 32) (c : SheetCause) : Touches [.sheet, .panel, .alert, .live] s (s.refuseSheet n rev c) := by
  simp [State.refuseSheet]
@[simp] theorem State.refuseSheet_touch (T : List Part) (s t : State) (n : Svc) (rev : BitVec 32) (c : SheetCause) (h : [.sheet, .panel, .alert, .live] ⊆ T) :
    Touches T s (t.refuseSheet n rev c) ↔ Touches T s t := (t.refuseSheet_touches n rev c).iff h s

theorem State.disable_touches (s : State) (n : Svc) : Touches [.sched, .pool, .integ, .recorder, .panel, .alert, .live, .caption, .feed, .meter] s (s.disable n) := by
  simp [State.disable]
@[simp] theorem State.disable_touch (T : List Part) (s t : State) (n : Svc) (h : [.sched, .pool, .integ, .recorder, .panel, .alert, .live, .caption, .feed, .meter] ⊆ T) :
    Touches T s (t.disable n) ↔ Touches T s t := (t.disable_touches n).iff h s

theorem State.stopServiceReminders_touches (s : State) (n : Svc) : Touches [.panel, .live] s (s.stopServiceReminders n) := by
  simp [State.stopServiceReminders]
@[simp] theorem State.stopServiceReminders_touch (T : List Part) (s t : State) (n : Svc) (h : [.panel, .live] ⊆ T) :
    Touches T s (t.stopServiceReminders n) ↔ Touches T s t := (t.stopServiceReminders_touches n).iff h s

theorem State.touchPriorities_touches (s : State) (n : Svc) (old : Sheet) : Touches [.panel, .live] s (s.touchPriorities n old) := by
  simp [State.touchPriorities]
@[simp] theorem State.touchPriorities_touch (T : List Part) (s t : State) (n : Svc) (old : Sheet) (h : [.panel, .live] ⊆ T) :
    Touches T s (t.touchPriorities n old) ↔ Touches T s t := (t.touchPriorities_touches n old).iff h s

theorem State.adoptAlerting_touches (s : State) (n : Svc) (old new : Sheet) : Touches [.panel, .alert, .sheet, .live] s (s.adoptAlerting n old new) := by
  simp [State.adoptAlerting]
@[simp] theorem State.adoptAlerting_touch (T : List Part) (s t : State) (n : Svc) (old new : Sheet) (h : [.panel, .alert, .sheet, .live] ⊆ T) :
    Touches T s (t.adoptAlerting n old new) ↔ Touches T s t := (t.adoptAlerting_touches n old new).iff h s

theorem State.handGroups_touches (s : State) (n : Svc) (old : Sheet) : Touches [.sched, .pool, .integ, .recorder, .panel, .alert, .live, .caption, .feed, .meter] s (s.handGroups n old) := by
  simp [State.handGroups]
@[simp] theorem State.handGroups_touch (T : List Part) (s t : State) (n : Svc) (old : Sheet) (h : [.sched, .pool, .integ, .recorder, .panel, .alert, .live, .caption, .feed, .meter] ⊆ T) :
    Touches T s (t.handGroups n old) ↔ Touches T s t := (t.handGroups_touches n old).iff h s

theorem State.adoptSheet_touches (s : State) (n : Svc) (rev : BitVec 32) (body : List Byte) : Touches [.sched, .pool, .integ, .recorder, .panel, .alert, .live, .caption, .feed, .meter, .sheet] s (s.adoptSheet n rev body) := by
  simp [State.adoptSheet]
@[simp] theorem State.adoptSheet_touch (T : List Part) (s t : State) (n : Svc) (rev : BitVec 32) (body : List Byte) (h : [.sched, .pool, .integ, .recorder, .panel, .alert, .live, .caption, .feed, .meter, .sheet] ⊆ T) :
    Touches T s (t.adoptSheet n rev body) ↔ Touches T s t := (t.adoptSheet_touches n rev body).iff h s

theorem State.stage_touches (s : State) (n : Svc) (r : SheetRead) : Touches [.sched, .pool, .integ, .recorder, .panel, .alert, .live, .caption, .feed, .meter, .sheet] s (s.stage n r) := by
  unfold State.stage
  (repeat' split) <;> simp
@[simp] theorem State.stage_touch (T : List Part) (s t : State) (n : Svc) (r : SheetRead) (h : [.sched, .pool, .integ, .recorder, .panel, .alert, .live, .caption, .feed, .meter, .sheet] ⊆ T) :
    Touches T s (t.stage n r) ↔ Touches T s t := (t.stage_touches n r).iff h s

theorem State.decideOne_touches (s : State) (excess : Bool) (read : Option SheetRead) (n : Svc) : Touches [.sched, .pool, .integ, .recorder, .panel, .alert, .live, .caption, .feed, .meter, .sheet] s (s.decideOne excess read n) := by
  unfold State.decideOne
  (repeat' split) <;> simp
@[simp] theorem State.decideOne_touch (T : List Part) (s t : State) (excess : Bool) (read : Option SheetRead) (n : Svc) (h : [.sched, .pool, .integ, .recorder, .panel, .alert, .live, .caption, .feed, .meter, .sheet] ⊆ T) :
    Touches T s (t.decideOne excess read n) ↔ Touches T s t := (t.decideOne_touches excess read n).iff h s

theorem State.decideSheets_touches (s : State) (reads : Vector (Option SheetRead) 16) : Touches [.sched, .pool, .integ, .recorder, .panel, .alert, .live, .caption, .feed, .meter, .sheet] s (s.decideSheets reads) := by
  simp [State.decideSheets]
@[simp] theorem State.decideSheets_touch (T : List Part) (s t : State) (reads : Vector (Option SheetRead) 16) (h : [.sched, .pool, .integ, .recorder, .panel, .alert, .live, .caption, .feed, .meter, .sheet] ⊆ T) :
    Touches T s (t.decideSheets reads) ↔ Touches T s t := (t.decideSheets_touches reads).iff h s

theorem State.beginStore_touches (s : State) (mask : BitVec 16) : Touches [.store, .devPanel, .alert, .header] s (s.beginStore mask) := by
  unfold State.beginStore
  (repeat' split) <;> simp
@[simp] theorem State.beginStore_touch (T : List Part) (s t : State) (mask : BitVec 16) (h : [.store, .devPanel, .alert, .header] ⊆ T) :
    Touches T s (t.beginStore mask) ↔ Touches T s t := (t.beginStore_touches mask).iff h s

theorem State.completeCommit_touches (s : State) : Touches [.store, .devPanel, .alert, .header] s (s.completeCommit) := by
  unfold State.completeCommit
  (repeat' split) <;> simp
@[simp] theorem State.completeCommit_touch (T : List Part) (s t : State) (h : [.store, .devPanel, .alert, .header] ⊆ T) :
    Touches T s (t.completeCommit) ↔ Touches T s t := (t.completeCommit_touches).iff h s

/-! ### Machine/Boards.lean -/

theorem State.heldRelease_touches (s : State) (n : Svc)(k : Slot) (w : SlotContent) : Touches [.sched] s (s.heldRelease n k w) := by
  unfold State.heldRelease
  (repeat' split) <;> simp
@[simp] theorem State.heldRelease_touch (T : List Part) (s t : State) (n : Svc)(k : Slot) (w : SlotContent) (h : [.sched] ⊆ T) :
    Touches T s (t.heldRelease n k w) ↔ Touches T s t := (t.heldRelease_touches n k w).iff h s

theorem State.slotWriteDone_touches (s : State) (n : Svc)(k : Slot) : Touches [.sched, .ctl, .host] s (s.slotWriteDone n k) := by
  unfold State.slotWriteDone
  (repeat' split) <;> simp
@[simp] theorem State.slotWriteDone_touch (T : List Part) (s t : State) (n : Svc)(k : Slot) (h : [.sched, .ctl, .host] ⊆ T) :
    Touches T s (t.slotWriteDone n k) ↔ Touches T s t := (t.slotWriteDone_touches n k).iff h s

theorem State.sweepMover_touches (s : State) : Touches [.mover, .recorder] s (s.sweepMover) := by
  unfold State.sweepMover
  (repeat' split) <;> simp
@[simp] theorem State.sweepMover_touch (T : List Part) (s t : State) (h : [.mover, .recorder] ⊆ T) :
    Touches T s (t.sweepMover) ↔ Touches T s t := (t.sweepMover_touches).iff h s

theorem State.rehandEntry_touches (s : State) (c : DevCond) : Touches [.devPanel, .header] s (s.rehandEntry c) := by
  unfold State.rehandEntry
  (repeat' split) <;> simp
@[simp] theorem State.rehandEntry_touch (T : List Part) (s t : State) (c : DevCond) (h : [.devPanel, .header] ⊆ T) :
    Touches T s (t.rehandEntry c) ↔ Touches T s t := (t.rehandEntry_touches c).iff h s

theorem State.sweepAlert_touches (s : State) : Touches [.alert] s (s.sweepAlert) := by
  unfold State.sweepAlert
  (repeat' split) <;> simp
@[simp] theorem State.sweepAlert_touch (T : List Part) (s t : State) (h : [.alert] ⊆ T) :
    Touches T s (t.sweepAlert) ↔ Touches T s t := (t.sweepAlert_touches).iff h s

theorem State.sweep_touches (s : State) : Touches [.sched, .devPanel, .mover, .recorder, .alert, .header] s (s.sweep) := by
  unfold State.sweep
  (repeat' split) <;> simp
@[simp] theorem State.sweep_touch (T : List Part) (s t : State) (h : [.sched, .devPanel, .mover, .recorder, .alert, .header] ⊆ T) :
    Touches T s (t.sweep) ↔ Touches T s t := (t.sweep_touches).iff h s

theorem State.validCommand_touches (s : State) (n : Svc)(k : Slot) (cmd : Nat) : Touches [.sched, .pool, .integ, .recorder, .panel, .alert, .live, .caption] s (s.validCommand n k cmd) := by
  unfold State.validCommand
  (repeat' split) <;> simp
@[simp] theorem State.validCommand_touch (T : List Part) (s t : State) (n : Svc)(k : Slot) (cmd : Nat) (h : [.sched, .pool, .integ, .recorder, .panel, .alert, .live, .caption] ⊆ T) :
    Touches T s (t.validCommand n k cmd) ↔ Touches T s t := (t.validCommand_touches n k cmd).iff h s

theorem State.readCommandWord_touches (s : State) (n : Svc)(k : Slot) (w : BitVec 32) : Touches [.sched, .pool, .integ, .recorder, .panel, .alert, .live, .caption, .ctl] s (s.readCommandWord n k w) := by
  unfold State.readCommandWord State.onRead
  dsimp only
  (repeat' split) <;> simp
@[simp] theorem State.readCommandWord_touch (T : List Part) (s t : State) (n : Svc)(k : Slot) (w : BitVec 32) (h : [.sched, .pool, .integ, .recorder, .panel, .alert, .live, .caption, .ctl] ⊆ T) :
    Touches T s (t.readCommandWord n k w) ↔ Touches T s t := (t.readCommandWord_touches n k w).iff h s

theorem State.firePassed_touches (s : State) (n : Svc)(k : Slot) : Touches [.sched, .pool, .integ, .recorder, .panel, .alert, .live, .caption] s (s.firePassed n k) := by
  unfold State.firePassed
  (repeat' split) <;> simp
@[simp] theorem State.firePassed_touch (T : List Part) (s t : State) (n : Svc)(k : Slot) (h : [.sched, .pool, .integ, .recorder, .panel, .alert, .live, .caption] ⊆ T) :
    Touches T s (t.firePassed n k) ↔ Touches T s t := (t.firePassed_touches n k).iff h s

theorem State.settlePosting_touches (s : State) (n : Svc)(k : Slot) (p : BitVec 16) (r : RefusalCause ⊕ Body) : Touches [.sched, .pool, .integ, .recorder, .panel, .alert, .live, .caption] s (s.settlePosting n k p r) := by
  unfold State.settlePosting
  (repeat' split) <;> simp
@[simp] theorem State.settlePosting_touch (T : List Part) (s t : State) (n : Svc)(k : Slot) (p : BitVec 16) (r : RefusalCause ⊕ Body) (h : [.sched, .pool, .integ, .recorder, .panel, .alert, .live, .caption] ⊆ T) :
    Touches T s (t.settlePosting n k p r) ↔ Touches T s t := (t.settlePosting_touches n k p r).iff h s

theorem State.validatePosting_touches (s : State) (n : Svc)(k : Slot) (bytes : List Byte) : Touches [.sched, .pool, .integ, .recorder, .panel, .alert, .live, .caption, .ctl] s (s.validatePosting n k bytes) := by
  unfold State.validatePosting
  (repeat' split) <;> simp
@[simp] theorem State.validatePosting_touch (T : List Part) (s t : State) (n : Svc)(k : Slot) (bytes : List Byte) (h : [.sched, .pool, .integ, .recorder, .panel, .alert, .live, .caption, .ctl] ⊆ T) :
    Touches T s (t.validatePosting n k bytes) ↔ Touches T s t := (t.validatePosting_touches n k bytes).iff h s

theorem State.handResult_touches (s : State) (o : Owner) (r : LoudResult) : Touches [.sched, .panel, .alert, .live] s (s.handResult o r) := by
  simp [State.handResult]
@[simp] theorem State.handResult_touch (T : List Part) (s t : State) (o : Owner) (r : LoudResult) (h : [.sched, .panel, .alert, .live] ⊆ T) :
    Touches T s (t.handResult o r) ↔ Touches T s t := (t.handResult_touches o r).iff h s

theorem State.completeIntegration_touches (s : State) : Touches [.sched, .panel, .alert, .pool, .integ, .live] s (s.completeIntegration) := by
  unfold State.completeIntegration
  (repeat' split) <;> simp
@[simp] theorem State.completeIntegration_touch (T : List Part) (s t : State) (h : [.sched, .panel, .alert, .pool, .integ, .live] ⊆ T) :
    Touches T s (t.completeIntegration) ↔ Touches T s t := (t.completeIntegration_touches).iff h s

theorem State.schedUnlink_touches (s : State) (n : Svc) : Touches [.sched, .pool, .integ, .recorder, .panel, .alert, .live, .caption] s (s.schedUnlink n) := by
  simp [State.schedUnlink]
@[simp] theorem State.schedUnlink_touch (T : List Part) (s t : State) (n : Svc) (h : [.sched, .pool, .integ, .recorder, .panel, .alert, .live, .caption] ⊆ T) :
    Touches T s (t.schedUnlink n) ↔ Touches T s t := (t.schedUnlink_touches n).iff h s

theorem State.schedFault_touches (s : State) (n : Svc) : Touches [.sched, .pool, .integ, .recorder, .panel, .alert, .live, .caption] s (s.schedFault n) := by
  simp [State.schedFault]
@[simp] theorem State.schedFault_touch (T : List Part) (s t : State) (n : Svc) (h : [.sched, .pool, .integ, .recorder, .panel, .alert, .live, .caption] ⊆ T) :
    Touches T s (t.schedFault n) ↔ Touches T s t := (t.schedFault_touches n).iff h s

/-! ### Machine/Link.lean -/

theorem State.setReadback_touches (s : State) (code : Byte) (r : CmdResult) : Touches [.ctl] s (s.setReadback code r) := by
  simp [State.setReadback]
@[simp] theorem State.setReadback_touch (T : List Part) (s t : State) (code : Byte) (r : CmdResult) (h : [.ctl] ⊆ T) :
    Touches T s (t.setReadback code r) ↔ Touches T s t := (t.setReadback_touches code r).iff h s

theorem State.beginLink_touches (s : State) : Touches [.ctl] s (s.beginLink) := by
  simp [State.beginLink]
@[simp] theorem State.beginLink_touch (T : List Part) (s t : State) (h : [.ctl] ⊆ T) :
    Touches T s (t.beginLink) ↔ Touches T s t := (t.beginLink_touches).iff h s

theorem State.commandLink_touches (s : State) : Touches [.ctl] s (s.commandLink) := by
  simp [State.commandLink]
@[simp] theorem State.commandLink_touch (T : List Part) (s t : State) (h : [.ctl] ⊆ T) :
    Touches T s (t.commandLink) ↔ Touches T s t := (t.commandLink_touches).iff h s

theorem State.landStep_touches (s : State) (k : Nat) : Touches [.host, .ctl] s (s.landStep k) := by
  simp [State.landStep]
@[simp] theorem State.landStep_touch (T : List Part) (s t : State) (k : Nat) (h : [.host, .ctl] ⊆ T) :
    Touches T s (t.landStep k) ↔ Touches T s t := (t.landStep_touches k).iff h s

theorem State.finishStep_touches (s : State) : Touches [.host, .ctl] s (s.finishStep) := by
  unfold State.finishStep
  (repeat' split) <;> simp
@[simp] theorem State.finishStep_touch (T : List Part) (s t : State) (h : [.host, .ctl] ⊆ T) :
    Touches T s (t.finishStep) ↔ Touches T s t := (t.finishStep_touches).iff h s

theorem State.nextStep_touches (s : State) (step : LinkStep) : Touches [.ctl] s (s.nextStep step) := by
  simp [State.nextStep]
@[simp] theorem State.nextStep_touch (T : List Part) (s t : State) (step : LinkStep) (h : [.ctl] ⊆ T) :
    Touches T s (t.nextStep step) ↔ Touches T s t := (t.nextStep_touches step).iff h s

theorem State.sheetsDone_touches (s : State) (after : Bool) : Touches [.ctl] s (s.sheetsDone after) := by
  unfold State.sheetsDone
  (repeat' split) <;> simp
@[simp] theorem State.sheetsDone_touch (T : List Part) (s t : State) (after : Bool) (h : [.ctl] ⊆ T) :
    Touches T s (t.sheetsDone after) ↔ Touches T s t := (t.sheetsDone_touches after).iff h s

theorem State.linkHeader_touches (s : State) (b : List Byte) : Touches [.ctl, .devPriority] s (s.linkHeader b) := by
  unfold State.linkHeader
  (repeat' split) <;> simp
@[simp] theorem State.linkHeader_touch (T : List Part) (s t : State) (b : List Byte) (h : [.ctl, .devPriority] ⊆ T) :
    Touches T s (t.linkHeader b) ↔ Touches T s t := (t.linkHeader_touches b).iff h s

theorem State.linkSheets_touches (s : State) (reads : Vector (Option SheetRead) 16) : Touches [.sched, .pool, .integ, .recorder, .panel, .alert, .live, .caption, .feed, .meter, .sheet, .ctl] s (s.linkSheets reads) := by
  simp [State.linkSheets]
@[simp] theorem State.linkSheets_touch (T : List Part) (s t : State) (reads : Vector (Option SheetRead) 16) (h : [.sched, .pool, .integ, .recorder, .panel, .alert, .live, .caption, .feed, .meter, .sheet, .ctl] ⊆ T) :
    Touches T s (t.linkSheets reads) ↔ Touches T s t := (t.linkSheets_touches reads).iff h s

theorem State.linkStandings_touches (s : State) : Touches [.ctl, .host, .sched, .caption, .panel, .alert, .live] s (s.linkStandings) := by
  simp [State.linkStandings]
@[simp] theorem State.linkStandings_touch (T : List Part) (s t : State) (h : [.ctl, .host, .sched, .caption, .panel, .alert, .live] ⊆ T) :
    Touches T s (t.linkStandings) ↔ Touches T s t := (t.linkStandings_touches).iff h s

theorem State.linkFaultRaise_touches (s : State) : Touches [.ctl, .devPanel, .alert, .header] s (s.linkFaultRaise) := by
  unfold State.linkFaultRaise
  (repeat' split) <;> simp
@[simp] theorem State.linkFaultRaise_touch (T : List Part) (s t : State) (h : [.ctl, .devPanel, .alert, .header] ⊆ T) :
    Touches T s (t.linkFaultRaise) ↔ Touches T s t := (t.linkFaultRaise_touches).iff h s

theorem State.linkDescriptors_touches (s : State) : Touches [.ctl, .host, .extents, .recorder, .mover, .devPanel, .alert, .header] s (s.linkDescriptors) := by
  simp [State.linkDescriptors]
@[simp] theorem State.linkDescriptors_touch (T : List Part) (s t : State) (h : [.ctl, .host, .extents, .recorder, .mover, .devPanel, .alert, .header] ⊆ T) :
    Touches T s (t.linkDescriptors) ↔ Touches T s t := (t.linkDescriptors_touches).iff h s

theorem State.linkEntries_touches (s : State) : Touches [.ctl, .host, .panel, .devPanel, .alert, .live, .header] s (s.linkEntries) := by
  simp [State.linkEntries]
@[simp] theorem State.linkEntries_touch (T : List Part) (s t : State) (h : [.ctl, .host, .panel, .devPanel, .alert, .live, .header] ⊆ T) :
    Touches T s (t.linkEntries) ↔ Touches T s t := (t.linkEntries_touches).iff h s

theorem State.stopWrites_touches (s : State) : Touches [.panel, .devPanel, .live, .header] s (s.stopWrites) := by
  simp [State.stopWrites]
@[simp] theorem State.stopWrites_touch (T : List Part) (s t : State) (h : [.panel, .devPanel, .live, .header] ⊆ T) :
    Touches T s (t.stopWrites) ↔ Touches T s t := (t.stopWrites_touches).iff h s

theorem State.dropAlert_touches (s : State) : Touches [.alert] s (s.dropAlert) := by
  simp [State.dropAlert]
@[simp] theorem State.dropAlert_touch (T : List Part) (s t : State) (h : [.alert] ⊆ T) :
    Touches T s (t.dropAlert) ↔ Touches T s t := (t.dropAlert_touches).iff h s

theorem State.beginUnlink_touches (s : State) : Touches [.sched, .pool, .integ, .recorder, .panel, .alert, .live, .caption, .extents, .mover, .devPanel, .ctl, .header] s (s.beginUnlink) := by
  simp [State.beginUnlink]
@[simp] theorem State.beginUnlink_touch (T : List Part) (s t : State) (h : [.sched, .pool, .integ, .recorder, .panel, .alert, .live, .caption, .extents, .mover, .devPanel, .ctl, .header] ⊆ T) :
    Touches T s (t.beginUnlink) ↔ Touches T s t := (t.beginUnlink_touches).iff h s

theorem State.landQueues_touches (s : State) : Touches [.host, .live, .header] s (s.landQueues) := by
  simp [State.landQueues]
@[simp] theorem State.landQueues_touch (T : List Part) (s t : State) (h : [.host, .live, .header] ⊆ T) :
    Touches T s (t.landQueues) ↔ Touches T s t := (t.landQueues_touches).iff h s

theorem State.settleQueues_touches (s : State) : Touches [.host, .panel, .devPanel, .ctl, .live, .header, .alert] s (s.settleQueues) := by
  simp [State.settleQueues]
@[simp] theorem State.settleQueues_touch (T : List Part) (s t : State) (h : [.host, .panel, .devPanel, .ctl, .live, .header, .alert] ⊆ T) :
    Touches T s (t.settleQueues) ↔ Touches T s t := (t.settleQueues_touches).iff h s

theorem State.settle_touches (s : State) : Touches [.host, .panel, .devPanel, .ctl, .live, .header, .alert] s (s.settle) := by
  unfold State.settle
  (repeat' split) <;> simp
@[simp] theorem State.settle_touch (T : List Part) (s t : State) (h : [.host, .panel, .devPanel, .ctl, .live, .header, .alert] ⊆ T) :
    Touches T s (t.settle) ↔ Touches T s t := (t.settle_touches).iff h s

theorem State.completeUnlink_touches (s : State) : Touches [.host, .panel, .devPanel, .ctl, .sched, .caption, .alert, .live, .header] s (s.completeUnlink) := by
  unfold State.completeUnlink
  (repeat' split) <;> simp
@[simp] theorem State.completeUnlink_touch (T : List Part) (s t : State) (h : [.host, .panel, .devPanel, .ctl, .sched, .caption, .alert, .live, .header] ⊆ T) :
    Touches T s (t.completeUnlink) ↔ Touches T s t := (t.completeUnlink_touches).iff h s

theorem State.faultUnlink_touches (s : State) : Touches [.sched, .pool, .integ, .recorder, .panel, .alert, .live, .caption, .extents, .mover, .devPanel, .ctl, .header] s (s.faultUnlink) := by
  simp [State.faultUnlink]
@[simp] theorem State.faultUnlink_touch (T : List Part) (s t : State) (h : [.sched, .pool, .integ, .recorder, .panel, .alert, .live, .caption, .extents, .mover, .devPanel, .ctl, .header] ⊆ T) :
    Touches T s (t.faultUnlink) ↔ Touches T s t := (t.faultUnlink_touches).iff h s

theorem State.dropEntryWrite_touches (s : State) (c : CondRef) : Touches [.live, .header] s (s.dropEntryWrite c) := by
  unfold State.dropEntryWrite
  split <;> simp
@[simp] theorem State.dropEntryWrite_touch (T : List Part) (s t : State) (c : CondRef) (h : [.live, .header] ⊆ T) :
    Touches T s (t.dropEntryWrite c) ↔ Touches T s t := (t.dropEntryWrite_touches c).iff h s

theorem State.entryWriteLost_touches (s : State) (c : CondRef) : Touches [.panel, .devPanel, .live, .header] s (s.entryWriteLost c) := by
  unfold State.entryWriteLost
  simp
@[simp] theorem State.entryWriteLost_touch (T : List Part) (s t : State) (c : CondRef) (h : [.panel, .devPanel, .live, .header] ⊆ T) :
    Touches T s (t.entryWriteLost c) ↔ Touches T s t := (t.entryWriteLost_touches c).iff h s

theorem State.entryWriteFailed_touches (s : State) (c : CondRef) : Touches [.panel, .devPanel, .alert, .live, .header] s (s.entryWriteFailed c) := by
  unfold State.entryWriteFailed
  (repeat' split) <;> simp
@[simp] theorem State.entryWriteFailed_touch (T : List Part) (s t : State) (c : CondRef) (h : [.panel, .devPanel, .alert, .live, .header] ⊆ T) :
    Touches T s (t.entryWriteFailed c) ↔ Touches T s t := (t.entryWriteFailed_touches c).iff h s

theorem State.countFailure_touches (s : State) : Touches [.ctl] s (s.countFailure) := by
  simp [State.countFailure]
@[simp] theorem State.countFailure_touch (T : List Part) (s t : State) (h : [.ctl] ⊆ T) :
    Touches T s (t.countFailure) ↔ Touches T s t := (t.countFailure_touches).iff h s

theorem State.failOwner_touches (s : State) (a : AccessRef) : Touches [.sched, .extents, .recorder, .mover, .panel, .alert, .live, .devPanel, .ctl, .header] s (s.failOwner a) := by
  unfold State.failOwner
  (repeat' split) <;> simp
@[simp] theorem State.failOwner_touch (T : List Part) (s t : State) (a : AccessRef) (h : [.sched, .extents, .recorder, .mover, .panel, .alert, .live, .devPanel, .ctl, .header] ⊆ T) :
    Touches T s (t.failOwner a) ↔ Touches T s t := (t.failOwner_touches a).iff h s

theorem State.landQueued_touches (s : State) (d : Completions) : Touches [.host, .live, .header] s (s.landQueued d) := by
  simp [State.landQueued]
@[simp] theorem State.landQueued_touch (T : List Part) (s t : State) (d : Completions) (h : [.host, .live, .header] ⊆ T) :
    Touches T s (t.landQueued d) ↔ Touches T s t := (t.landQueued_touches d).iff h s

theorem State.landCompleted_touches (s : State) (d : Completions) : Touches [.panel, .devPanel, .host, .ctl, .live, .header] s (s.landCompleted d) := by
  unfold State.landCompleted
  (repeat' split) <;> simp
@[simp] theorem State.landCompleted_touch (T : List Part) (s t : State) (d : Completions) (h : [.panel, .devPanel, .host, .ctl, .live, .header] ⊆ T) :
    Touches T s (t.landCompleted d) ↔ Touches T s t := (t.landCompleted_touches d).iff h s

theorem State.completed_touches (s : State) (d : Completions) : Touches [.panel, .devPanel, .host, .ctl, .live, .header, .alert] s (s.completed d) := by
  simp [State.completed]
@[simp] theorem State.completed_touch (T : List Part) (s t : State) (d : Completions) (h : [.panel, .devPanel, .host, .ctl, .live, .header, .alert] ⊆ T) :
    Touches T s (t.completed d) ↔ Touches T s t := (t.completed_touches d).iff h s

theorem State.failFlying_touches (s : State) (a : AccessRef) : Touches [.sched, .pool, .integ, .recorder, .panel, .alert, .live, .caption, .extents, .mover, .devPanel, .ctl, .header] s (s.failFlying a) := by
  simp [State.failFlying]
@[simp] theorem State.failFlying_touch (T : List Part) (s t : State) (a : AccessRef) (h : [.sched, .pool, .integ, .recorder, .panel, .alert, .live, .caption, .extents, .mover, .devPanel, .ctl, .header] ⊆ T) :
    Touches T s (t.failFlying a) ↔ Touches T s t := (t.failFlying_touches a).iff h s

theorem State.failAccess_touches (s : State) (a : AccessRef) (d : Completions) : Touches [.sched, .pool, .integ, .recorder, .panel, .alert, .live, .caption, .extents, .mover, .devPanel, .ctl, .host, .header] s (s.failAccess a d) := by
  unfold State.failAccess
  (repeat' split) <;> simp
@[simp] theorem State.failAccess_touch (T : List Part) (s t : State) (a : AccessRef) (d : Completions) (h : [.sched, .pool, .integ, .recorder, .panel, .alert, .live, .caption, .extents, .mover, .devPanel, .ctl, .host, .header] ⊆ T) :
    Touches T s (t.failAccess a d) ↔ Touches T s t := (t.failAccess_touches a d).iff h s

theorem State.linkStep_touches (s : State) (r : LinkReport) : Touches [.sched, .pool, .integ, .recorder, .panel, .alert, .live, .caption, .feed, .meter, .sheet, .ctl, .devPriority, .host, .extents, .mover, .devPanel, .header] s (s.linkStep r) := by
  unfold State.linkStep
  (repeat' split) <;> simp
@[simp] theorem State.linkStep_touch (T : List Part) (s t : State) (r : LinkReport) (h : [.sched, .pool, .integ, .recorder, .panel, .alert, .live, .caption, .feed, .meter, .sheet, .ctl, .devPriority, .host, .extents, .mover, .devPanel, .header] ⊆ T) :
    Touches T s (t.linkStep r) ↔ Touches T s t := (t.linkStep_touches r).iff h s

theorem State.commandUnlink_touches (s : State) : Touches [.sched, .pool, .integ, .recorder, .panel, .alert, .live, .caption, .extents, .mover, .devPanel, .ctl, .header] s (s.commandUnlink) := by
  simp [State.commandUnlink]
@[simp] theorem State.commandUnlink_touch (T : List Part) (s t : State) (h : [.sched, .pool, .integ, .recorder, .panel, .alert, .live, .caption, .extents, .mover, .devPanel, .ctl, .header] ⊆ T) :
    Touches T s (t.commandUnlink) ↔ Touches T s t := (t.commandUnlink_touches).iff h s

/-! ### Machine/Power.lean -/

theorem State.commandStore_touches (s : State) (mask : BitVec 16) : Touches [.ctl, .store, .devPanel, .alert, .header] s (s.commandStore mask) := by
  simp [State.commandStore]
@[simp] theorem State.commandStore_touch (T : List Part) (s t : State) (mask : BitVec 16) (h : [.ctl, .store, .devPanel, .alert, .header] ⊆ T) :
    Touches T s (t.commandStore mask) ↔ Touches T s t := (t.commandStore_touches mask).iff h s

theorem State.commandUnknown_touches (s : State) (code : Byte) : Touches [.ctl] s (s.commandUnknown code) := by
  unfold State.commandUnknown
  (repeat' split) <;> simp
@[simp] theorem State.commandUnknown_touch (T : List Part) (s t : State) (code : Byte) (h : [.ctl] ⊆ T) :
    Touches T s (t.commandUnknown code) ↔ Touches T s t := (t.commandUnknown_touches code).iff h s

theorem State.raiseLoad_touches (s : State) (n : Svc) : Touches [.panel, .devPanel, .alert, .live, .header] s (s.raiseLoad n) := by
  unfold State.raiseLoad
  (repeat' split) <;> simp
@[simp] theorem State.raiseLoad_touch (T : List Part) (s t : State) (n : Svc) (h : [.panel, .devPanel, .alert, .live, .header] ⊆ T) :
    Touches T s (t.raiseLoad n) ↔ Touches T s t := (t.raiseLoad_touches n).iff h s

theorem State.raiseReset_touches (s : State) : Touches [.panel, .devPanel, .alert, .live, .header] s (s.raiseReset) := by
  simp [State.raiseReset]
@[simp] theorem State.raiseReset_touch (T : List Part) (s t : State) (h : [.panel, .devPanel, .alert, .live, .header] ⊆ T) :
    Touches T s (t.raiseReset) ↔ Touches T s t := (t.raiseReset_touches).iff h s

/-! ### Machine/Control.lean -/

theorem State.writeBase_touches (s : State) (value : BitVec 64) : Touches [.ctl] s (s.writeBase value) := by
  unfold State.writeBase
  (repeat' split) <;> simp
@[simp] theorem State.writeBase_touch (T : List Part) (s t : State) (value : BitVec 64) (h : [.ctl] ⊆ T) :
    Touches T s (t.writeBase value) ↔ Touches T s t := (t.writeBase_touches value).iff h s

theorem State.writeLevel_touches (s : State) (value : BitVec 64) : Touches [.alert] s (s.writeLevel value) := by
  simp [State.writeLevel]
@[simp] theorem State.writeLevel_touch (T : List Part) (s t : State) (value : BitVec 64) (h : [.alert] ⊆ T) :
    Touches T s (t.writeLevel value) ↔ Touches T s t := (t.writeLevel_touches value).iff h s

/-! ### Machine/Step.lean -/

theorem State.idle_touches (s : State) : Touches [.host, .panel, .devPanel, .ctl, .live, .header, .alert] s (s.idle) := by
  unfold State.idle
  (repeat' split) <;> simp
@[simp] theorem State.idle_touch (T : List Part) (s t : State) (h : [.host, .panel, .devPanel, .ctl, .live, .header, .alert] ⊆ T) :
    Touches T s (t.idle) ↔ Touches T s t := (t.idle_touches).iff h s

/-! ### Machine/Attention.lean -/

theorem State.captureAckRead_touches (s : State) (n : Svc) (ack : BitVec 16) : Touches [.ctl, .recorder, .panel, .alert, .live] s (s.captureAckRead n ack) := by
  unfold State.captureAckRead State.onRead
  dsimp only
  (repeat' split) <;> simp
@[simp] theorem State.captureAckRead_touch (T : List Part) (s t : State) (n : Svc) (ack : BitVec 16) (h : [.ctl, .recorder, .panel, .alert, .live] ⊆ T) :
    Touches T s (t.captureAckRead n ack) ↔ Touches T s t := (t.captureAckRead_touches n ack).iff h s

theorem State.ackRead_touches (s : State) (c : CondRef) (ack : BitVec 16) : Touches [.ctl, .panel, .devPanel, .live, .header] s (s.ackRead c ack) := by
  unfold State.ackRead State.onRead
  dsimp only
  (repeat' split) <;> simp
@[simp] theorem State.ackRead_touch (T : List Part) (s t : State) (c : CondRef) (ack : BitVec 16) (h : [.ctl, .panel, .devPanel, .live, .header] ⊆ T) :
    Touches T s (t.ackRead c ack) ↔ Touches T s t := (t.ackRead_touches c ack).iff h s

theorem State.setDevPriority_touches (s : State) (c : DevCond) (p : Nat) : Touches [.devPriority, .devPanel, .header] s (s.setDevPriority c p) := by
  unfold State.setDevPriority
  (repeat' split) <;> simp
@[simp] theorem State.setDevPriority_touch (T : List Part) (s t : State) (c : DevCond) (p : Nat) (h : [.devPriority, .devPanel, .header] ⊆ T) :
    Touches T s (t.setDevPriority c p) ↔ Touches T s t := (t.setDevPriority_touches c p).iff h s

theorem State.devPriorityRead_touches (s : State) (p0 p1 p2 : Byte) : Touches [.ctl, .devPriority, .devPanel, .alert, .header] s (s.devPriorityRead p0 p1 p2) := by
  unfold State.devPriorityRead State.onRead
  dsimp only
  (repeat' split) <;> simp
@[simp] theorem State.devPriorityRead_touch (T : List Part) (s t : State) (p0 p1 p2 : Byte) (h : [.ctl, .devPriority, .devPanel, .alert, .header] ⊆ T) :
    Touches T s (t.devPriorityRead p0 p1 p2) ↔ Touches T s t := (t.devPriorityRead_touches p0 p1 p2).iff h s

theorem State.reminderOut_touches (s : State) (r : CondRef) : Touches [.panel, .devPanel, .alert, .live, .header] s (s.reminderOut r) := by
  unfold State.reminderOut
  (repeat' split) <;> simp
@[simp] theorem State.reminderOut_touch (T : List Part) (s t : State) (r : CondRef) (h : [.panel, .devPanel, .alert, .live, .header] ⊆ T) :
    Touches T s (t.reminderOut r) ↔ Touches T s t := (t.reminderOut_touches r).iff h s

theorem State.reminderOut_service_touches (s : State) (n : Svc) (c : SvcCond) :
    Touches [.panel, .live, .alert] s (s.reminderOut (.service n c)) := by
  unfold State.reminderOut
  dsimp only
  (repeat' split) <;> simp

theorem State.lateCauseWritten_touches (s : State) : Touches [.ctl, .host, .live, .header] s (s.lateCauseWritten) := by
  simp [State.lateCauseWritten]
@[simp] theorem State.lateCauseWritten_touch (T : List Part) (s t : State) (h : [.ctl, .host, .live, .header] ⊆ T) :
    Touches T s (t.lateCauseWritten) ↔ Touches T s t := (t.lateCauseWritten_touches).iff h s

theorem State.alertWritten_touches (s : State) : Touches [.ctl, .panel, .devPanel, .host, .alert, .live, .header] s (s.alertWritten) := by
  unfold State.alertWritten
  (repeat' split) <;> simp
@[simp] theorem State.alertWritten_touch (T : List Part) (s t : State) (h : [.ctl, .panel, .devPanel, .host, .alert, .live, .header] ⊆ T) :
    Touches T s (t.alertWritten) ↔ Touches T s t := (t.alertWritten_touches).iff h s

theorem State.sheetRead_touches (s : State) (n : Svc) (r : SheetRead) : Touches [.sched, .pool, .integ, .recorder, .panel, .alert, .live, .caption, .feed, .meter, .sheet, .ctl] s (s.sheetRead n r) := by
  unfold State.sheetRead State.onRead
  dsimp only
  (repeat' split) <;> simp
@[simp] theorem State.sheetRead_touch (T : List Part) (s t : State) (n : Svc) (r : SheetRead) (h : [.sched, .pool, .integ, .recorder, .panel, .alert, .live, .caption, .feed, .meter, .sheet, .ctl] ⊆ T) :
    Touches T s (t.sheetRead n r) ↔ Touches T s t := (t.sheetRead_touches n r).iff h s

end Sys2Proof.Machine
end

