-- ==== Sys2Proof/Laws/Frames.lean ====
section
/-! SUPPORT. The parts that an operation leaves alone, as rewrite rules. -/
namespace Sys2Proof.Machine

/-! ### Machine/Panels.lean -/

@[simp] theorem State.handCause_frame (s : State) :
    (s.handCause).powered = s.powered ∧ (s.handCause).ctl = s.ctl ∧
      (s.handCause).feed = s.feed ∧ (s.handCause).meter = s.meter ∧
      (s.handCause).caption = s.caption ∧ (s.handCause).sched = s.sched ∧
      (s.handCause).pool = s.pool ∧ (s.handCause).integ = s.integ ∧
      (s.handCause).proxy = s.proxy ∧ (s.handCause).recorder = s.recorder ∧
      (s.handCause).extents = s.extents ∧ (s.handCause).mover = s.mover ∧
      (s.handCause).panel = s.panel ∧ (s.handCause).devPanel = s.devPanel ∧
      (s.handCause).devPriority = s.devPriority ∧ (s.handCause).alert = s.alert ∧
      (s.handCause).sheet = s.sheet ∧ (s.handCause).store = s.store ∧
      (s.handCause).live = s.live ∧ (s.handCause).host = s.host ∧
      (s.handCause).pending = s.pending :=
  have h := s.handCause_touches
  ⟨h .powered (by decide), h .ctl (by decide), h .feed (by decide), h .meter (by decide), h .caption (by decide), h .sched (by decide), h .pool (by decide), h .integ (by decide), h .proxy (by decide), h .recorder (by decide), h .extents (by decide), h .mover (by decide), h .panel (by decide), h .devPanel (by decide), h .devPriority (by decide), h .alert (by decide), h .sheet (by decide), h .store (by decide), h .live (by decide), h .host (by decide), h .pending (by decide)⟩

@[simp] theorem State.queueEntry_frame (s : State) (r : CondRef) :
    (s.queueEntry r).powered = s.powered ∧ (s.queueEntry r).ctl = s.ctl ∧
      (s.queueEntry r).feed = s.feed ∧ (s.queueEntry r).meter = s.meter ∧
      (s.queueEntry r).caption = s.caption ∧ (s.queueEntry r).sched = s.sched ∧
      (s.queueEntry r).pool = s.pool ∧ (s.queueEntry r).integ = s.integ ∧
      (s.queueEntry r).proxy = s.proxy ∧ (s.queueEntry r).recorder = s.recorder ∧
      (s.queueEntry r).extents = s.extents ∧ (s.queueEntry r).mover = s.mover ∧
      (s.queueEntry r).panel = s.panel ∧ (s.queueEntry r).devPanel = s.devPanel ∧
      (s.queueEntry r).devPriority = s.devPriority ∧ (s.queueEntry r).alert = s.alert ∧
      (s.queueEntry r).sheet = s.sheet ∧ (s.queueEntry r).store = s.store ∧
      (s.queueEntry r).host = s.host ∧ (s.queueEntry r).pending = s.pending :=
  have h := s.queueEntry_touches r
  ⟨h .powered (by decide), h .ctl (by decide), h .feed (by decide), h .meter (by decide), h .caption (by decide), h .sched (by decide), h .pool (by decide), h .integ (by decide), h .proxy (by decide), h .recorder (by decide), h .extents (by decide), h .mover (by decide), h .panel (by decide), h .devPanel (by decide), h .devPriority (by decide), h .alert (by decide), h .sheet (by decide), h .store (by decide), h .host (by decide), h .pending (by decide)⟩

@[simp] theorem State.changeCond_frame (s : State) (r : CondRef) (f : CondEntry → CondEntry) :
    (s.changeCond r f).powered = s.powered ∧ (s.changeCond r f).ctl = s.ctl ∧
      (s.changeCond r f).feed = s.feed ∧ (s.changeCond r f).meter = s.meter ∧
      (s.changeCond r f).caption = s.caption ∧ (s.changeCond r f).sched = s.sched ∧
      (s.changeCond r f).pool = s.pool ∧ (s.changeCond r f).integ = s.integ ∧
      (s.changeCond r f).proxy = s.proxy ∧ (s.changeCond r f).recorder = s.recorder ∧
      (s.changeCond r f).extents = s.extents ∧ (s.changeCond r f).mover = s.mover ∧
      (s.changeCond r f).devPriority = s.devPriority ∧ (s.changeCond r f).alert = s.alert ∧
      (s.changeCond r f).sheet = s.sheet ∧ (s.changeCond r f).store = s.store ∧
      (s.changeCond r f).host = s.host ∧ (s.changeCond r f).pending = s.pending :=
  have h := s.changeCond_touches r f
  ⟨h .powered (by decide), h .ctl (by decide), h .feed (by decide), h .meter (by decide), h .caption (by decide), h .sched (by decide), h .pool (by decide), h .integ (by decide), h .proxy (by decide), h .recorder (by decide), h .extents (by decide), h .mover (by decide), h .devPriority (by decide), h .alert (by decide), h .sheet (by decide), h .store (by decide), h .host (by decide), h .pending (by decide)⟩

@[simp] theorem State.evaluate_frame (s : State) :
    (s.evaluate).powered = s.powered ∧ (s.evaluate).ctl = s.ctl ∧
      (s.evaluate).feed = s.feed ∧ (s.evaluate).meter = s.meter ∧
      (s.evaluate).caption = s.caption ∧ (s.evaluate).sched = s.sched ∧
      (s.evaluate).pool = s.pool ∧ (s.evaluate).integ = s.integ ∧
      (s.evaluate).proxy = s.proxy ∧ (s.evaluate).recorder = s.recorder ∧
      (s.evaluate).extents = s.extents ∧ (s.evaluate).mover = s.mover ∧
      (s.evaluate).panel = s.panel ∧ (s.evaluate).devPanel = s.devPanel ∧
      (s.evaluate).devPriority = s.devPriority ∧ (s.evaluate).sheet = s.sheet ∧
      (s.evaluate).store = s.store ∧ (s.evaluate).live = s.live ∧
      (s.evaluate).header = s.header ∧ (s.evaluate).host = s.host ∧
      (s.evaluate).pending = s.pending :=
  have h := s.evaluate_touches
  ⟨h .powered (by decide), h .ctl (by decide), h .feed (by decide), h .meter (by decide), h .caption (by decide), h .sched (by decide), h .pool (by decide), h .integ (by decide), h .proxy (by decide), h .recorder (by decide), h .extents (by decide), h .mover (by decide), h .panel (by decide), h .devPanel (by decide), h .devPriority (by decide), h .sheet (by decide), h .store (by decide), h .live (by decide), h .header (by decide), h .host (by decide), h .pending (by decide)⟩

@[simp] theorem State.raise_frame (s : State) (n : Svc) (c : SvcCond) :
    (s.raise n c).powered = s.powered ∧ (s.raise n c).ctl = s.ctl ∧
      (s.raise n c).feed = s.feed ∧ (s.raise n c).meter = s.meter ∧
      (s.raise n c).caption = s.caption ∧ (s.raise n c).sched = s.sched ∧
      (s.raise n c).pool = s.pool ∧ (s.raise n c).integ = s.integ ∧
      (s.raise n c).proxy = s.proxy ∧ (s.raise n c).recorder = s.recorder ∧
      (s.raise n c).extents = s.extents ∧ (s.raise n c).mover = s.mover ∧
      (s.raise n c).devPanel = s.devPanel ∧ (s.raise n c).devPriority = s.devPriority ∧
      (s.raise n c).sheet = s.sheet ∧ (s.raise n c).store = s.store ∧
      (s.raise n c).header = s.header ∧ (s.raise n c).host = s.host ∧
      (s.raise n c).pending = s.pending :=
  have h := s.raise_touches n c
  ⟨h .powered (by decide), h .ctl (by decide), h .feed (by decide), h .meter (by decide), h .caption (by decide), h .sched (by decide), h .pool (by decide), h .integ (by decide), h .proxy (by decide), h .recorder (by decide), h .extents (by decide), h .mover (by decide), h .devPanel (by decide), h .devPriority (by decide), h .sheet (by decide), h .store (by decide), h .header (by decide), h .host (by decide), h .pending (by decide)⟩

@[simp] theorem State.raiseDevice_frame (s : State) (c : DevCond) :
    (s.raiseDevice c).powered = s.powered ∧ (s.raiseDevice c).ctl = s.ctl ∧
      (s.raiseDevice c).feed = s.feed ∧ (s.raiseDevice c).meter = s.meter ∧
      (s.raiseDevice c).caption = s.caption ∧ (s.raiseDevice c).sched = s.sched ∧
      (s.raiseDevice c).pool = s.pool ∧ (s.raiseDevice c).integ = s.integ ∧
      (s.raiseDevice c).proxy = s.proxy ∧ (s.raiseDevice c).recorder = s.recorder ∧
      (s.raiseDevice c).extents = s.extents ∧ (s.raiseDevice c).mover = s.mover ∧
      (s.raiseDevice c).panel = s.panel ∧ (s.raiseDevice c).devPriority = s.devPriority ∧
      (s.raiseDevice c).sheet = s.sheet ∧ (s.raiseDevice c).store = s.store ∧
      (s.raiseDevice c).live = s.live ∧ (s.raiseDevice c).host = s.host ∧
      (s.raiseDevice c).pending = s.pending :=
  have h := s.raiseDevice_touches c
  ⟨h .powered (by decide), h .ctl (by decide), h .feed (by decide), h .meter (by decide), h .caption (by decide), h .sched (by decide), h .pool (by decide), h .integ (by decide), h .proxy (by decide), h .recorder (by decide), h .extents (by decide), h .mover (by decide), h .panel (by decide), h .devPriority (by decide), h .sheet (by decide), h .store (by decide), h .live (by decide), h .host (by decide), h .pending (by decide)⟩

@[simp] theorem State.setLive_frame (s : State) (n : Svc) (c : SvcCond) (live : Bool) :
    (s.setLive n c live).powered = s.powered ∧ (s.setLive n c live).ctl = s.ctl ∧
      (s.setLive n c live).feed = s.feed ∧ (s.setLive n c live).meter = s.meter ∧
      (s.setLive n c live).caption = s.caption ∧ (s.setLive n c live).sched = s.sched ∧
      (s.setLive n c live).pool = s.pool ∧ (s.setLive n c live).integ = s.integ ∧
      (s.setLive n c live).proxy = s.proxy ∧ (s.setLive n c live).recorder = s.recorder ∧
      (s.setLive n c live).extents = s.extents ∧ (s.setLive n c live).mover = s.mover ∧
      (s.setLive n c live).devPanel = s.devPanel ∧ (s.setLive n c live).devPriority = s.devPriority ∧
      (s.setLive n c live).sheet = s.sheet ∧ (s.setLive n c live).store = s.store ∧
      (s.setLive n c live).header = s.header ∧ (s.setLive n c live).host = s.host ∧
      (s.setLive n c live).pending = s.pending :=
  have h := s.setLive_touches n c live
  ⟨h .powered (by decide), h .ctl (by decide), h .feed (by decide), h .meter (by decide), h .caption (by decide), h .sched (by decide), h .pool (by decide), h .integ (by decide), h .proxy (by decide), h .recorder (by decide), h .extents (by decide), h .mover (by decide), h .devPanel (by decide), h .devPriority (by decide), h .sheet (by decide), h .store (by decide), h .header (by decide), h .host (by decide), h .pending (by decide)⟩

@[simp] theorem State.loadReminder_frame (s : State) (r : CondRef) :
    (s.loadReminder r).powered = s.powered ∧ (s.loadReminder r).ctl = s.ctl ∧
      (s.loadReminder r).feed = s.feed ∧ (s.loadReminder r).meter = s.meter ∧
      (s.loadReminder r).caption = s.caption ∧ (s.loadReminder r).sched = s.sched ∧
      (s.loadReminder r).pool = s.pool ∧ (s.loadReminder r).integ = s.integ ∧
      (s.loadReminder r).proxy = s.proxy ∧ (s.loadReminder r).recorder = s.recorder ∧
      (s.loadReminder r).extents = s.extents ∧ (s.loadReminder r).mover = s.mover ∧
      (s.loadReminder r).devPanel = s.devPanel ∧ (s.loadReminder r).devPriority = s.devPriority ∧
      (s.loadReminder r).alert = s.alert ∧ (s.loadReminder r).sheet = s.sheet ∧
      (s.loadReminder r).store = s.store ∧ (s.loadReminder r).live = s.live ∧
      (s.loadReminder r).header = s.header ∧ (s.loadReminder r).host = s.host ∧
      (s.loadReminder r).pending = s.pending :=
  have h := s.loadReminder_touches r
  ⟨h .powered (by decide), h .ctl (by decide), h .feed (by decide), h .meter (by decide), h .caption (by decide), h .sched (by decide), h .pool (by decide), h .integ (by decide), h .proxy (by decide), h .recorder (by decide), h .extents (by decide), h .mover (by decide), h .devPanel (by decide), h .devPriority (by decide), h .alert (by decide), h .sheet (by decide), h .store (by decide), h .live (by decide), h .header (by decide), h .host (by decide), h .pending (by decide)⟩

@[simp] theorem State.stopReminders_frame (s : State) :
    (s.stopReminders).powered = s.powered ∧ (s.stopReminders).ctl = s.ctl ∧
      (s.stopReminders).feed = s.feed ∧ (s.stopReminders).meter = s.meter ∧
      (s.stopReminders).caption = s.caption ∧ (s.stopReminders).sched = s.sched ∧
      (s.stopReminders).pool = s.pool ∧ (s.stopReminders).integ = s.integ ∧
      (s.stopReminders).proxy = s.proxy ∧ (s.stopReminders).recorder = s.recorder ∧
      (s.stopReminders).extents = s.extents ∧ (s.stopReminders).mover = s.mover ∧
      (s.stopReminders).devPriority = s.devPriority ∧ (s.stopReminders).alert = s.alert ∧
      (s.stopReminders).sheet = s.sheet ∧ (s.stopReminders).store = s.store ∧
      (s.stopReminders).live = s.live ∧ (s.stopReminders).header = s.header ∧
      (s.stopReminders).host = s.host ∧ (s.stopReminders).pending = s.pending :=
  have h := s.stopReminders_touches
  ⟨h .powered (by decide), h .ctl (by decide), h .feed (by decide), h .meter (by decide), h .caption (by decide), h .sched (by decide), h .pool (by decide), h .integ (by decide), h .proxy (by decide), h .recorder (by decide), h .extents (by decide), h .mover (by decide), h .devPriority (by decide), h .alert (by decide), h .sheet (by decide), h .store (by decide), h .live (by decide), h .header (by decide), h .host (by decide), h .pending (by decide)⟩

@[simp] theorem State.startReminders_frame (s : State) :
    (s.startReminders).powered = s.powered ∧ (s.startReminders).ctl = s.ctl ∧
      (s.startReminders).feed = s.feed ∧ (s.startReminders).meter = s.meter ∧
      (s.startReminders).caption = s.caption ∧ (s.startReminders).sched = s.sched ∧
      (s.startReminders).pool = s.pool ∧ (s.startReminders).integ = s.integ ∧
      (s.startReminders).proxy = s.proxy ∧ (s.startReminders).recorder = s.recorder ∧
      (s.startReminders).extents = s.extents ∧ (s.startReminders).mover = s.mover ∧
      (s.startReminders).devPanel = s.devPanel ∧ (s.startReminders).devPriority = s.devPriority ∧
      (s.startReminders).alert = s.alert ∧ (s.startReminders).sheet = s.sheet ∧
      (s.startReminders).store = s.store ∧ (s.startReminders).live = s.live ∧
      (s.startReminders).header = s.header ∧ (s.startReminders).host = s.host ∧
      (s.startReminders).pending = s.pending :=
  have h := s.startReminders_touches
  ⟨h .powered (by decide), h .ctl (by decide), h .feed (by decide), h .meter (by decide), h .caption (by decide), h .sched (by decide), h .pool (by decide), h .integ (by decide), h .proxy (by decide), h .recorder (by decide), h .extents (by decide), h .mover (by decide), h .devPanel (by decide), h .devPriority (by decide), h .alert (by decide), h .sheet (by decide), h .store (by decide), h .live (by decide), h .header (by decide), h .host (by decide), h .pending (by decide)⟩

@[simp] theorem State.landLive_frame (s : State) (n : Svc) (k : Nat) :
    (s.landLive n k).powered = s.powered ∧ (s.landLive n k).ctl = s.ctl ∧
      (s.landLive n k).feed = s.feed ∧ (s.landLive n k).meter = s.meter ∧
      (s.landLive n k).caption = s.caption ∧ (s.landLive n k).sched = s.sched ∧
      (s.landLive n k).pool = s.pool ∧ (s.landLive n k).integ = s.integ ∧
      (s.landLive n k).proxy = s.proxy ∧ (s.landLive n k).recorder = s.recorder ∧
      (s.landLive n k).extents = s.extents ∧ (s.landLive n k).mover = s.mover ∧
      (s.landLive n k).panel = s.panel ∧ (s.landLive n k).devPanel = s.devPanel ∧
      (s.landLive n k).devPriority = s.devPriority ∧ (s.landLive n k).alert = s.alert ∧
      (s.landLive n k).sheet = s.sheet ∧ (s.landLive n k).store = s.store ∧
      (s.landLive n k).header = s.header ∧ (s.landLive n k).pending = s.pending :=
  have h := s.landLive_touches n k
  ⟨h .powered (by decide), h .ctl (by decide), h .feed (by decide), h .meter (by decide), h .caption (by decide), h .sched (by decide), h .pool (by decide), h .integ (by decide), h .proxy (by decide), h .recorder (by decide), h .extents (by decide), h .mover (by decide), h .panel (by decide), h .devPanel (by decide), h .devPriority (by decide), h .alert (by decide), h .sheet (by decide), h .store (by decide), h .header (by decide), h .pending (by decide)⟩

@[simp] theorem State.landHeader_frame (s : State) (k : Nat) :
    (s.landHeader k).powered = s.powered ∧ (s.landHeader k).ctl = s.ctl ∧
      (s.landHeader k).feed = s.feed ∧ (s.landHeader k).meter = s.meter ∧
      (s.landHeader k).caption = s.caption ∧ (s.landHeader k).sched = s.sched ∧
      (s.landHeader k).pool = s.pool ∧ (s.landHeader k).integ = s.integ ∧
      (s.landHeader k).proxy = s.proxy ∧ (s.landHeader k).recorder = s.recorder ∧
      (s.landHeader k).extents = s.extents ∧ (s.landHeader k).mover = s.mover ∧
      (s.landHeader k).panel = s.panel ∧ (s.landHeader k).devPanel = s.devPanel ∧
      (s.landHeader k).devPriority = s.devPriority ∧ (s.landHeader k).alert = s.alert ∧
      (s.landHeader k).sheet = s.sheet ∧ (s.landHeader k).store = s.store ∧
      (s.landHeader k).live = s.live ∧ (s.landHeader k).pending = s.pending :=
  have h := s.landHeader_touches k
  ⟨h .powered (by decide), h .ctl (by decide), h .feed (by decide), h .meter (by decide), h .caption (by decide), h .sched (by decide), h .pool (by decide), h .integ (by decide), h .proxy (by decide), h .recorder (by decide), h .extents (by decide), h .mover (by decide), h .panel (by decide), h .devPanel (by decide), h .devPriority (by decide), h .alert (by decide), h .sheet (by decide), h .store (by decide), h .live (by decide), h .pending (by decide)⟩

@[simp] theorem State.dropOwed_frame (s : State) :
    (s.dropOwed).powered = s.powered ∧ (s.dropOwed).ctl = s.ctl ∧
      (s.dropOwed).feed = s.feed ∧ (s.dropOwed).meter = s.meter ∧
      (s.dropOwed).caption = s.caption ∧ (s.dropOwed).sched = s.sched ∧
      (s.dropOwed).pool = s.pool ∧ (s.dropOwed).integ = s.integ ∧
      (s.dropOwed).proxy = s.proxy ∧ (s.dropOwed).recorder = s.recorder ∧
      (s.dropOwed).extents = s.extents ∧ (s.dropOwed).mover = s.mover ∧
      (s.dropOwed).devPriority = s.devPriority ∧ (s.dropOwed).alert = s.alert ∧
      (s.dropOwed).sheet = s.sheet ∧ (s.dropOwed).store = s.store ∧
      (s.dropOwed).live = s.live ∧ (s.dropOwed).header = s.header ∧
      (s.dropOwed).host = s.host ∧ (s.dropOwed).pending = s.pending :=
  have h := s.dropOwed_touches
  ⟨h .powered (by decide), h .ctl (by decide), h .feed (by decide), h .meter (by decide), h .caption (by decide), h .sched (by decide), h .pool (by decide), h .integ (by decide), h .proxy (by decide), h .recorder (by decide), h .extents (by decide), h .mover (by decide), h .devPriority (by decide), h .alert (by decide), h .sheet (by decide), h .store (by decide), h .live (by decide), h .header (by decide), h .host (by decide), h .pending (by decide)⟩

@[simp] theorem State.retryEntry_frame (s : State) (r : CondRef) :
    (s.retryEntry r).powered = s.powered ∧ (s.retryEntry r).ctl = s.ctl ∧
      (s.retryEntry r).feed = s.feed ∧ (s.retryEntry r).meter = s.meter ∧
      (s.retryEntry r).caption = s.caption ∧ (s.retryEntry r).sched = s.sched ∧
      (s.retryEntry r).pool = s.pool ∧ (s.retryEntry r).integ = s.integ ∧
      (s.retryEntry r).proxy = s.proxy ∧ (s.retryEntry r).recorder = s.recorder ∧
      (s.retryEntry r).extents = s.extents ∧ (s.retryEntry r).mover = s.mover ∧
      (s.retryEntry r).devPriority = s.devPriority ∧ (s.retryEntry r).alert = s.alert ∧
      (s.retryEntry r).sheet = s.sheet ∧ (s.retryEntry r).store = s.store ∧
      (s.retryEntry r).host = s.host ∧ (s.retryEntry r).pending = s.pending :=
  have h := s.retryEntry_touches r
  ⟨h .powered (by decide), h .ctl (by decide), h .feed (by decide), h .meter (by decide), h .caption (by decide), h .sched (by decide), h .pool (by decide), h .integ (by decide), h .proxy (by decide), h .recorder (by decide), h .extents (by decide), h .mover (by decide), h .devPriority (by decide), h .alert (by decide), h .sheet (by decide), h .store (by decide), h .host (by decide), h .pending (by decide)⟩

@[simp] theorem State.handAlert_frame (s : State) :
    (s.handAlert).powered = s.powered ∧ (s.handAlert).ctl = s.ctl ∧
      (s.handAlert).feed = s.feed ∧ (s.handAlert).meter = s.meter ∧
      (s.handAlert).caption = s.caption ∧ (s.handAlert).sched = s.sched ∧
      (s.handAlert).pool = s.pool ∧ (s.handAlert).integ = s.integ ∧
      (s.handAlert).proxy = s.proxy ∧ (s.handAlert).recorder = s.recorder ∧
      (s.handAlert).extents = s.extents ∧ (s.handAlert).mover = s.mover ∧
      (s.handAlert).devPriority = s.devPriority ∧ (s.handAlert).alert = s.alert ∧
      (s.handAlert).sheet = s.sheet ∧ (s.handAlert).store = s.store ∧
      (s.handAlert).host = s.host ∧ (s.handAlert).pending = s.pending :=
  have h := s.handAlert_touches
  ⟨h .powered (by decide), h .ctl (by decide), h .feed (by decide), h .meter (by decide), h .caption (by decide), h .sched (by decide), h .pool (by decide), h .integ (by decide), h .proxy (by decide), h .recorder (by decide), h .extents (by decide), h .mover (by decide), h .devPriority (by decide), h .alert (by decide), h .sheet (by decide), h .store (by decide), h .host (by decide), h .pending (by decide)⟩

@[simp] theorem State.trimWaits_frame (s : State) :
    (s.trimWaits).powered = s.powered ∧ (s.trimWaits).ctl = s.ctl ∧
      (s.trimWaits).feed = s.feed ∧ (s.trimWaits).meter = s.meter ∧
      (s.trimWaits).caption = s.caption ∧ (s.trimWaits).sched = s.sched ∧
      (s.trimWaits).pool = s.pool ∧ (s.trimWaits).integ = s.integ ∧
      (s.trimWaits).proxy = s.proxy ∧ (s.trimWaits).recorder = s.recorder ∧
      (s.trimWaits).extents = s.extents ∧ (s.trimWaits).mover = s.mover ∧
      (s.trimWaits).panel = s.panel ∧ (s.trimWaits).devPanel = s.devPanel ∧
      (s.trimWaits).devPriority = s.devPriority ∧ (s.trimWaits).sheet = s.sheet ∧
      (s.trimWaits).store = s.store ∧ (s.trimWaits).live = s.live ∧
      (s.trimWaits).header = s.header ∧ (s.trimWaits).host = s.host ∧
      (s.trimWaits).pending = s.pending :=
  have h := s.trimWaits_touches
  ⟨h .powered (by decide), h .ctl (by decide), h .feed (by decide), h .meter (by decide), h .caption (by decide), h .sched (by decide), h .pool (by decide), h .integ (by decide), h .proxy (by decide), h .recorder (by decide), h .extents (by decide), h .mover (by decide), h .panel (by decide), h .devPanel (by decide), h .devPriority (by decide), h .sheet (by decide), h .store (by decide), h .live (by decide), h .header (by decide), h .host (by decide), h .pending (by decide)⟩

@[simp] theorem State.announce_frame (s : State) (r : CondRef) (noted : BitVec 16) :
    (s.announce r noted).powered = s.powered ∧ (s.announce r noted).ctl = s.ctl ∧
      (s.announce r noted).feed = s.feed ∧ (s.announce r noted).meter = s.meter ∧
      (s.announce r noted).caption = s.caption ∧ (s.announce r noted).sched = s.sched ∧
      (s.announce r noted).pool = s.pool ∧ (s.announce r noted).integ = s.integ ∧
      (s.announce r noted).proxy = s.proxy ∧ (s.announce r noted).recorder = s.recorder ∧
      (s.announce r noted).extents = s.extents ∧ (s.announce r noted).mover = s.mover ∧
      (s.announce r noted).devPriority = s.devPriority ∧ (s.announce r noted).alert = s.alert ∧
      (s.announce r noted).sheet = s.sheet ∧ (s.announce r noted).store = s.store ∧
      (s.announce r noted).host = s.host ∧ (s.announce r noted).pending = s.pending :=
  have h := s.announce_touches r noted
  ⟨h .powered (by decide), h .ctl (by decide), h .feed (by decide), h .meter (by decide), h .caption (by decide), h .sched (by decide), h .pool (by decide), h .integ (by decide), h .proxy (by decide), h .recorder (by decide), h .extents (by decide), h .mover (by decide), h .devPriority (by decide), h .alert (by decide), h .sheet (by decide), h .store (by decide), h .host (by decide), h .pending (by decide)⟩

@[simp] theorem State.landWaits_frame (s : State) (a : AlertRun) :
    (s.landWaits a).powered = s.powered ∧ (s.landWaits a).ctl = s.ctl ∧
      (s.landWaits a).feed = s.feed ∧ (s.landWaits a).meter = s.meter ∧
      (s.landWaits a).caption = s.caption ∧ (s.landWaits a).sched = s.sched ∧
      (s.landWaits a).pool = s.pool ∧ (s.landWaits a).integ = s.integ ∧
      (s.landWaits a).proxy = s.proxy ∧ (s.landWaits a).recorder = s.recorder ∧
      (s.landWaits a).extents = s.extents ∧ (s.landWaits a).mover = s.mover ∧
      (s.landWaits a).panel = s.panel ∧ (s.landWaits a).devPanel = s.devPanel ∧
      (s.landWaits a).devPriority = s.devPriority ∧ (s.landWaits a).alert = s.alert ∧
      (s.landWaits a).sheet = s.sheet ∧ (s.landWaits a).store = s.store ∧
      (s.landWaits a).pending = s.pending :=
  have h := s.landWaits_touches a
  ⟨h .powered (by decide), h .ctl (by decide), h .feed (by decide), h .meter (by decide), h .caption (by decide), h .sched (by decide), h .pool (by decide), h .integ (by decide), h .proxy (by decide), h .recorder (by decide), h .extents (by decide), h .mover (by decide), h .panel (by decide), h .devPanel (by decide), h .devPriority (by decide), h .alert (by decide), h .sheet (by decide), h .store (by decide), h .pending (by decide)⟩

@[simp] theorem State.readyCause_frame (s : State) (a : AlertRun) :
    (s.readyCause a).powered = s.powered ∧ (s.readyCause a).ctl = s.ctl ∧
      (s.readyCause a).feed = s.feed ∧ (s.readyCause a).meter = s.meter ∧
      (s.readyCause a).caption = s.caption ∧ (s.readyCause a).sched = s.sched ∧
      (s.readyCause a).pool = s.pool ∧ (s.readyCause a).integ = s.integ ∧
      (s.readyCause a).proxy = s.proxy ∧ (s.readyCause a).recorder = s.recorder ∧
      (s.readyCause a).extents = s.extents ∧ (s.readyCause a).mover = s.mover ∧
      (s.readyCause a).panel = s.panel ∧ (s.readyCause a).devPanel = s.devPanel ∧
      (s.readyCause a).devPriority = s.devPriority ∧ (s.readyCause a).alert = s.alert ∧
      (s.readyCause a).sheet = s.sheet ∧ (s.readyCause a).store = s.store ∧
      (s.readyCause a).pending = s.pending :=
  have h := s.readyCause_touches a
  ⟨h .powered (by decide), h .ctl (by decide), h .feed (by decide), h .meter (by decide), h .caption (by decide), h .sched (by decide), h .pool (by decide), h .integ (by decide), h .proxy (by decide), h .recorder (by decide), h .extents (by decide), h .mover (by decide), h .panel (by decide), h .devPanel (by decide), h .devPriority (by decide), h .alert (by decide), h .sheet (by decide), h .store (by decide), h .pending (by decide)⟩

@[simp] theorem State.finishAlert_frame (s : State) (a : AlertRun) :
    (s.finishAlert a).powered = s.powered ∧ (s.finishAlert a).ctl = s.ctl ∧
      (s.finishAlert a).feed = s.feed ∧ (s.finishAlert a).meter = s.meter ∧
      (s.finishAlert a).caption = s.caption ∧ (s.finishAlert a).sched = s.sched ∧
      (s.finishAlert a).pool = s.pool ∧ (s.finishAlert a).integ = s.integ ∧
      (s.finishAlert a).proxy = s.proxy ∧ (s.finishAlert a).recorder = s.recorder ∧
      (s.finishAlert a).extents = s.extents ∧ (s.finishAlert a).mover = s.mover ∧
      (s.finishAlert a).devPriority = s.devPriority ∧ (s.finishAlert a).sheet = s.sheet ∧
      (s.finishAlert a).store = s.store ∧ (s.finishAlert a).pending = s.pending :=
  have h := s.finishAlert_touches a
  ⟨h .powered (by decide), h .ctl (by decide), h .feed (by decide), h .meter (by decide), h .caption (by decide), h .sched (by decide), h .pool (by decide), h .integ (by decide), h .proxy (by decide), h .recorder (by decide), h .extents (by decide), h .mover (by decide), h .devPriority (by decide), h .sheet (by decide), h .store (by decide), h .pending (by decide)⟩

@[simp] theorem State.abandonAlert_frame (s : State) :
    (s.abandonAlert).powered = s.powered ∧ (s.abandonAlert).ctl = s.ctl ∧
      (s.abandonAlert).feed = s.feed ∧ (s.abandonAlert).meter = s.meter ∧
      (s.abandonAlert).caption = s.caption ∧ (s.abandonAlert).sched = s.sched ∧
      (s.abandonAlert).pool = s.pool ∧ (s.abandonAlert).integ = s.integ ∧
      (s.abandonAlert).proxy = s.proxy ∧ (s.abandonAlert).recorder = s.recorder ∧
      (s.abandonAlert).extents = s.extents ∧ (s.abandonAlert).mover = s.mover ∧
      (s.abandonAlert).panel = s.panel ∧ (s.abandonAlert).devPanel = s.devPanel ∧
      (s.abandonAlert).devPriority = s.devPriority ∧ (s.abandonAlert).sheet = s.sheet ∧
      (s.abandonAlert).store = s.store ∧ (s.abandonAlert).live = s.live ∧
      (s.abandonAlert).header = s.header ∧ (s.abandonAlert).host = s.host ∧
      (s.abandonAlert).pending = s.pending :=
  have h := s.abandonAlert_touches
  ⟨h .powered (by decide), h .ctl (by decide), h .feed (by decide), h .meter (by decide), h .caption (by decide), h .sched (by decide), h .pool (by decide), h .integ (by decide), h .proxy (by decide), h .recorder (by decide), h .extents (by decide), h .mover (by decide), h .panel (by decide), h .devPanel (by decide), h .devPriority (by decide), h .sheet (by decide), h .store (by decide), h .live (by decide), h .header (by decide), h .host (by decide), h .pending (by decide)⟩

/-! ### Machine/Pool.lean -/

@[simp] theorem State.claim_frame (s : State) (c : CtxId) (owner : Owner) (sn : Snapshot) (paused : Bool) :
    (s.claim c owner sn paused).powered = s.powered ∧ (s.claim c owner sn paused).ctl = s.ctl ∧
      (s.claim c owner sn paused).feed = s.feed ∧ (s.claim c owner sn paused).meter = s.meter ∧
      (s.claim c owner sn paused).caption = s.caption ∧ (s.claim c owner sn paused).sched = s.sched ∧
      (s.claim c owner sn paused).integ = s.integ ∧ (s.claim c owner sn paused).proxy = s.proxy ∧
      (s.claim c owner sn paused).recorder = s.recorder ∧ (s.claim c owner sn paused).extents = s.extents ∧
      (s.claim c owner sn paused).mover = s.mover ∧ (s.claim c owner sn paused).panel = s.panel ∧
      (s.claim c owner sn paused).devPanel = s.devPanel ∧ (s.claim c owner sn paused).devPriority = s.devPriority ∧
      (s.claim c owner sn paused).alert = s.alert ∧ (s.claim c owner sn paused).sheet = s.sheet ∧
      (s.claim c owner sn paused).store = s.store ∧ (s.claim c owner sn paused).live = s.live ∧
      (s.claim c owner sn paused).header = s.header ∧ (s.claim c owner sn paused).host = s.host ∧
      (s.claim c owner sn paused).pending = s.pending :=
  have h := s.claim_touches c owner sn paused
  ⟨h .powered (by decide), h .ctl (by decide), h .feed (by decide), h .meter (by decide), h .caption (by decide), h .sched (by decide), h .integ (by decide), h .proxy (by decide), h .recorder (by decide), h .extents (by decide), h .mover (by decide), h .panel (by decide), h .devPanel (by decide), h .devPriority (by decide), h .alert (by decide), h .sheet (by decide), h .store (by decide), h .live (by decide), h .header (by decide), h .host (by decide), h .pending (by decide)⟩

@[simp] theorem State.closeContext_frame (s : State) (n : Svc) (c : CtxId) (cls : SegClass) :
    (s.closeContext n c cls).powered = s.powered ∧ (s.closeContext n c cls).ctl = s.ctl ∧
      (s.closeContext n c cls).feed = s.feed ∧ (s.closeContext n c cls).meter = s.meter ∧
      (s.closeContext n c cls).caption = s.caption ∧ (s.closeContext n c cls).sched = s.sched ∧
      (s.closeContext n c cls).proxy = s.proxy ∧ (s.closeContext n c cls).recorder = s.recorder ∧
      (s.closeContext n c cls).extents = s.extents ∧ (s.closeContext n c cls).mover = s.mover ∧
      (s.closeContext n c cls).panel = s.panel ∧ (s.closeContext n c cls).devPanel = s.devPanel ∧
      (s.closeContext n c cls).devPriority = s.devPriority ∧ (s.closeContext n c cls).alert = s.alert ∧
      (s.closeContext n c cls).sheet = s.sheet ∧ (s.closeContext n c cls).store = s.store ∧
      (s.closeContext n c cls).live = s.live ∧ (s.closeContext n c cls).header = s.header ∧
      (s.closeContext n c cls).host = s.host ∧ (s.closeContext n c cls).pending = s.pending :=
  have h := s.closeContext_touches n c cls
  ⟨h .powered (by decide), h .ctl (by decide), h .feed (by decide), h .meter (by decide), h .caption (by decide), h .sched (by decide), h .proxy (by decide), h .recorder (by decide), h .extents (by decide), h .mover (by decide), h .panel (by decide), h .devPanel (by decide), h .devPriority (by decide), h .alert (by decide), h .sheet (by decide), h .store (by decide), h .live (by decide), h .header (by decide), h .host (by decide), h .pending (by decide)⟩

@[simp] theorem State.breakContextRuns_frame (s : State) (n : Svc) :
    (s.breakContextRuns n).powered = s.powered ∧ (s.breakContextRuns n).ctl = s.ctl ∧
      (s.breakContextRuns n).feed = s.feed ∧ (s.breakContextRuns n).meter = s.meter ∧
      (s.breakContextRuns n).caption = s.caption ∧ (s.breakContextRuns n).sched = s.sched ∧
      (s.breakContextRuns n).integ = s.integ ∧ (s.breakContextRuns n).proxy = s.proxy ∧
      (s.breakContextRuns n).recorder = s.recorder ∧ (s.breakContextRuns n).extents = s.extents ∧
      (s.breakContextRuns n).mover = s.mover ∧ (s.breakContextRuns n).panel = s.panel ∧
      (s.breakContextRuns n).devPanel = s.devPanel ∧ (s.breakContextRuns n).devPriority = s.devPriority ∧
      (s.breakContextRuns n).alert = s.alert ∧ (s.breakContextRuns n).sheet = s.sheet ∧
      (s.breakContextRuns n).store = s.store ∧ (s.breakContextRuns n).live = s.live ∧
      (s.breakContextRuns n).header = s.header ∧ (s.breakContextRuns n).host = s.host ∧
      (s.breakContextRuns n).pending = s.pending :=
  have h := s.breakContextRuns_touches n
  ⟨h .powered (by decide), h .ctl (by decide), h .feed (by decide), h .meter (by decide), h .caption (by decide), h .sched (by decide), h .integ (by decide), h .proxy (by decide), h .recorder (by decide), h .extents (by decide), h .mover (by decide), h .panel (by decide), h .devPanel (by decide), h .devPriority (by decide), h .alert (by decide), h .sheet (by decide), h .store (by decide), h .live (by decide), h .header (by decide), h .host (by decide), h .pending (by decide)⟩

@[simp] theorem State.startIntegration_frame (s : State) :
    (s.startIntegration).powered = s.powered ∧ (s.startIntegration).ctl = s.ctl ∧
      (s.startIntegration).feed = s.feed ∧ (s.startIntegration).meter = s.meter ∧
      (s.startIntegration).caption = s.caption ∧ (s.startIntegration).sched = s.sched ∧
      (s.startIntegration).proxy = s.proxy ∧ (s.startIntegration).recorder = s.recorder ∧
      (s.startIntegration).extents = s.extents ∧ (s.startIntegration).mover = s.mover ∧
      (s.startIntegration).panel = s.panel ∧ (s.startIntegration).devPanel = s.devPanel ∧
      (s.startIntegration).devPriority = s.devPriority ∧ (s.startIntegration).alert = s.alert ∧
      (s.startIntegration).sheet = s.sheet ∧ (s.startIntegration).store = s.store ∧
      (s.startIntegration).live = s.live ∧ (s.startIntegration).header = s.header ∧
      (s.startIntegration).host = s.host ∧ (s.startIntegration).pending = s.pending :=
  have h := s.startIntegration_touches
  ⟨h .powered (by decide), h .ctl (by decide), h .feed (by decide), h .meter (by decide), h .caption (by decide), h .sched (by decide), h .proxy (by decide), h .recorder (by decide), h .extents (by decide), h .mover (by decide), h .panel (by decide), h .devPanel (by decide), h .devPriority (by decide), h .alert (by decide), h .sheet (by decide), h .store (by decide), h .live (by decide), h .header (by decide), h .host (by decide), h .pending (by decide)⟩

/-! ### Machine/Captions.lean -/

@[simp] theorem State.judgeCaptions_frame (s : State) (n : Svc) :
    (s.judgeCaptions n).powered = s.powered ∧ (s.judgeCaptions n).ctl = s.ctl ∧
      (s.judgeCaptions n).feed = s.feed ∧ (s.judgeCaptions n).meter = s.meter ∧
      (s.judgeCaptions n).caption = s.caption ∧ (s.judgeCaptions n).sched = s.sched ∧
      (s.judgeCaptions n).pool = s.pool ∧ (s.judgeCaptions n).integ = s.integ ∧
      (s.judgeCaptions n).proxy = s.proxy ∧ (s.judgeCaptions n).recorder = s.recorder ∧
      (s.judgeCaptions n).extents = s.extents ∧ (s.judgeCaptions n).mover = s.mover ∧
      (s.judgeCaptions n).devPanel = s.devPanel ∧ (s.judgeCaptions n).devPriority = s.devPriority ∧
      (s.judgeCaptions n).sheet = s.sheet ∧ (s.judgeCaptions n).store = s.store ∧
      (s.judgeCaptions n).header = s.header ∧ (s.judgeCaptions n).host = s.host ∧
      (s.judgeCaptions n).pending = s.pending :=
  have h := s.judgeCaptions_touches n
  ⟨h .powered (by decide), h .ctl (by decide), h .feed (by decide), h .meter (by decide), h .caption (by decide), h .sched (by decide), h .pool (by decide), h .integ (by decide), h .proxy (by decide), h .recorder (by decide), h .extents (by decide), h .mover (by decide), h .devPanel (by decide), h .devPriority (by decide), h .sheet (by decide), h .store (by decide), h .header (by decide), h .host (by decide), h .pending (by decide)⟩

@[simp] theorem State.refreshRequirement_frame (s : State) (n : Svc) :
    (s.refreshRequirement n).powered = s.powered ∧ (s.refreshRequirement n).ctl = s.ctl ∧
      (s.refreshRequirement n).feed = s.feed ∧ (s.refreshRequirement n).meter = s.meter ∧
      (s.refreshRequirement n).sched = s.sched ∧ (s.refreshRequirement n).pool = s.pool ∧
      (s.refreshRequirement n).integ = s.integ ∧ (s.refreshRequirement n).proxy = s.proxy ∧
      (s.refreshRequirement n).recorder = s.recorder ∧ (s.refreshRequirement n).extents = s.extents ∧
      (s.refreshRequirement n).mover = s.mover ∧ (s.refreshRequirement n).devPanel = s.devPanel ∧
      (s.refreshRequirement n).devPriority = s.devPriority ∧ (s.refreshRequirement n).sheet = s.sheet ∧
      (s.refreshRequirement n).store = s.store ∧ (s.refreshRequirement n).header = s.header ∧
      (s.refreshRequirement n).host = s.host ∧ (s.refreshRequirement n).pending = s.pending :=
  have h := s.refreshRequirement_touches n
  ⟨h .powered (by decide), h .ctl (by decide), h .feed (by decide), h .meter (by decide), h .sched (by decide), h .pool (by decide), h .integ (by decide), h .proxy (by decide), h .recorder (by decide), h .extents (by decide), h .mover (by decide), h .devPanel (by decide), h .devPriority (by decide), h .sheet (by decide), h .store (by decide), h .header (by decide), h .host (by decide), h .pending (by decide)⟩

@[simp] theorem State.modEntriesWhere_frame (s : State) (n : Svc) (p : Entry → Bool) (f : Entry → Entry) :
    (s.modEntriesWhere n p f).powered = s.powered ∧ (s.modEntriesWhere n p f).ctl = s.ctl ∧
      (s.modEntriesWhere n p f).feed = s.feed ∧ (s.modEntriesWhere n p f).meter = s.meter ∧
      (s.modEntriesWhere n p f).caption = s.caption ∧ (s.modEntriesWhere n p f).pool = s.pool ∧
      (s.modEntriesWhere n p f).integ = s.integ ∧ (s.modEntriesWhere n p f).proxy = s.proxy ∧
      (s.modEntriesWhere n p f).recorder = s.recorder ∧ (s.modEntriesWhere n p f).extents = s.extents ∧
      (s.modEntriesWhere n p f).mover = s.mover ∧ (s.modEntriesWhere n p f).panel = s.panel ∧
      (s.modEntriesWhere n p f).devPanel = s.devPanel ∧ (s.modEntriesWhere n p f).devPriority = s.devPriority ∧
      (s.modEntriesWhere n p f).alert = s.alert ∧ (s.modEntriesWhere n p f).sheet = s.sheet ∧
      (s.modEntriesWhere n p f).store = s.store ∧ (s.modEntriesWhere n p f).live = s.live ∧
      (s.modEntriesWhere n p f).header = s.header ∧ (s.modEntriesWhere n p f).host = s.host ∧
      (s.modEntriesWhere n p f).pending = s.pending :=
  have h := s.modEntriesWhere_touches n p f
  ⟨h .powered (by decide), h .ctl (by decide), h .feed (by decide), h .meter (by decide), h .caption (by decide), h .pool (by decide), h .integ (by decide), h .proxy (by decide), h .recorder (by decide), h .extents (by decide), h .mover (by decide), h .panel (by decide), h .devPanel (by decide), h .devPriority (by decide), h .alert (by decide), h .sheet (by decide), h .store (by decide), h .live (by decide), h .header (by decide), h .host (by decide), h .pending (by decide)⟩

@[simp] theorem State.modTallies_frame (s : State) (n : Svc) (f : Tally → Tally) :
    (s.modTallies n f).powered = s.powered ∧ (s.modTallies n f).ctl = s.ctl ∧
      (s.modTallies n f).feed = s.feed ∧ (s.modTallies n f).meter = s.meter ∧
      (s.modTallies n f).caption = s.caption ∧ (s.modTallies n f).pool = s.pool ∧
      (s.modTallies n f).integ = s.integ ∧ (s.modTallies n f).proxy = s.proxy ∧
      (s.modTallies n f).recorder = s.recorder ∧ (s.modTallies n f).extents = s.extents ∧
      (s.modTallies n f).mover = s.mover ∧ (s.modTallies n f).panel = s.panel ∧
      (s.modTallies n f).devPanel = s.devPanel ∧ (s.modTallies n f).devPriority = s.devPriority ∧
      (s.modTallies n f).alert = s.alert ∧ (s.modTallies n f).sheet = s.sheet ∧
      (s.modTallies n f).store = s.store ∧ (s.modTallies n f).live = s.live ∧
      (s.modTallies n f).header = s.header ∧ (s.modTallies n f).host = s.host ∧
      (s.modTallies n f).pending = s.pending :=
  have h := s.modTallies_touches n f
  ⟨h .powered (by decide), h .ctl (by decide), h .feed (by decide), h .meter (by decide), h .caption (by decide), h .pool (by decide), h .integ (by decide), h .proxy (by decide), h .recorder (by decide), h .extents (by decide), h .mover (by decide), h .panel (by decide), h .devPanel (by decide), h .devPriority (by decide), h .alert (by decide), h .sheet (by decide), h .store (by decide), h .live (by decide), h .header (by decide), h .host (by decide), h .pending (by decide)⟩

@[simp] theorem State.judgeFrame_frame (s : State) (n : Svc) :
    (s.judgeFrame n).powered = s.powered ∧ (s.judgeFrame n).ctl = s.ctl ∧
      (s.judgeFrame n).feed = s.feed ∧ (s.judgeFrame n).meter = s.meter ∧
      (s.judgeFrame n).pool = s.pool ∧ (s.judgeFrame n).integ = s.integ ∧
      (s.judgeFrame n).proxy = s.proxy ∧ (s.judgeFrame n).recorder = s.recorder ∧
      (s.judgeFrame n).extents = s.extents ∧ (s.judgeFrame n).mover = s.mover ∧
      (s.judgeFrame n).devPanel = s.devPanel ∧ (s.judgeFrame n).devPriority = s.devPriority ∧
      (s.judgeFrame n).sheet = s.sheet ∧ (s.judgeFrame n).store = s.store ∧
      (s.judgeFrame n).header = s.header ∧ (s.judgeFrame n).host = s.host ∧
      (s.judgeFrame n).pending = s.pending :=
  have h := s.judgeFrame_touches n
  ⟨h .powered (by decide), h .ctl (by decide), h .feed (by decide), h .meter (by decide), h .pool (by decide), h .integ (by decide), h .proxy (by decide), h .recorder (by decide), h .extents (by decide), h .mover (by decide), h .devPanel (by decide), h .devPriority (by decide), h .sheet (by decide), h .store (by decide), h .header (by decide), h .host (by decide), h .pending (by decide)⟩

@[simp] theorem State.countDiscontinuity_frame (s : State) (n : Svc) :
    (s.countDiscontinuity n).powered = s.powered ∧ (s.countDiscontinuity n).ctl = s.ctl ∧
      (s.countDiscontinuity n).feed = s.feed ∧ (s.countDiscontinuity n).meter = s.meter ∧
      (s.countDiscontinuity n).pool = s.pool ∧ (s.countDiscontinuity n).integ = s.integ ∧
      (s.countDiscontinuity n).proxy = s.proxy ∧ (s.countDiscontinuity n).recorder = s.recorder ∧
      (s.countDiscontinuity n).extents = s.extents ∧ (s.countDiscontinuity n).mover = s.mover ∧
      (s.countDiscontinuity n).panel = s.panel ∧ (s.countDiscontinuity n).devPanel = s.devPanel ∧
      (s.countDiscontinuity n).devPriority = s.devPriority ∧ (s.countDiscontinuity n).alert = s.alert ∧
      (s.countDiscontinuity n).sheet = s.sheet ∧ (s.countDiscontinuity n).store = s.store ∧
      (s.countDiscontinuity n).live = s.live ∧ (s.countDiscontinuity n).header = s.header ∧
      (s.countDiscontinuity n).host = s.host ∧ (s.countDiscontinuity n).pending = s.pending :=
  have h := s.countDiscontinuity_touches n
  ⟨h .powered (by decide), h .ctl (by decide), h .feed (by decide), h .meter (by decide), h .pool (by decide), h .integ (by decide), h .proxy (by decide), h .recorder (by decide), h .extents (by decide), h .mover (by decide), h .panel (by decide), h .devPanel (by decide), h .devPriority (by decide), h .alert (by decide), h .sheet (by decide), h .store (by decide), h .live (by decide), h .header (by decide), h .host (by decide), h .pending (by decide)⟩

@[simp] theorem State.countMismatch_frame (s : State) (n : Svc) :
    (s.countMismatch n).powered = s.powered ∧ (s.countMismatch n).ctl = s.ctl ∧
      (s.countMismatch n).feed = s.feed ∧ (s.countMismatch n).meter = s.meter ∧
      (s.countMismatch n).pool = s.pool ∧ (s.countMismatch n).integ = s.integ ∧
      (s.countMismatch n).proxy = s.proxy ∧ (s.countMismatch n).recorder = s.recorder ∧
      (s.countMismatch n).extents = s.extents ∧ (s.countMismatch n).mover = s.mover ∧
      (s.countMismatch n).panel = s.panel ∧ (s.countMismatch n).devPanel = s.devPanel ∧
      (s.countMismatch n).devPriority = s.devPriority ∧ (s.countMismatch n).alert = s.alert ∧
      (s.countMismatch n).sheet = s.sheet ∧ (s.countMismatch n).store = s.store ∧
      (s.countMismatch n).live = s.live ∧ (s.countMismatch n).header = s.header ∧
      (s.countMismatch n).host = s.host ∧ (s.countMismatch n).pending = s.pending :=
  have h := s.countMismatch_touches n
  ⟨h .powered (by decide), h .ctl (by decide), h .feed (by decide), h .meter (by decide), h .pool (by decide), h .integ (by decide), h .proxy (by decide), h .recorder (by decide), h .extents (by decide), h .mover (by decide), h .panel (by decide), h .devPanel (by decide), h .devPriority (by decide), h .alert (by decide), h .sheet (by decide), h .store (by decide), h .live (by decide), h .header (by decide), h .host (by decide), h .pending (by decide)⟩

@[simp] theorem State.sortPacket_frame (s : State) (n : Svc) (page : Byte) (lang : Lang) (kind : CaptionKind) (seq : Byte) :
    (s.sortPacket n page lang kind seq).powered = s.powered ∧ (s.sortPacket n page lang kind seq).ctl = s.ctl ∧
      (s.sortPacket n page lang kind seq).feed = s.feed ∧ (s.sortPacket n page lang kind seq).meter = s.meter ∧
      (s.sortPacket n page lang kind seq).pool = s.pool ∧ (s.sortPacket n page lang kind seq).integ = s.integ ∧
      (s.sortPacket n page lang kind seq).proxy = s.proxy ∧ (s.sortPacket n page lang kind seq).recorder = s.recorder ∧
      (s.sortPacket n page lang kind seq).extents = s.extents ∧ (s.sortPacket n page lang kind seq).mover = s.mover ∧
      (s.sortPacket n page lang kind seq).devPanel = s.devPanel ∧ (s.sortPacket n page lang kind seq).devPriority = s.devPriority ∧
      (s.sortPacket n page lang kind seq).sheet = s.sheet ∧ (s.sortPacket n page lang kind seq).store = s.store ∧
      (s.sortPacket n page lang kind seq).header = s.header ∧ (s.sortPacket n page lang kind seq).host = s.host ∧
      (s.sortPacket n page lang kind seq).pending = s.pending :=
  have h := s.sortPacket_touches n page lang kind seq
  ⟨h .powered (by decide), h .ctl (by decide), h .feed (by decide), h .meter (by decide), h .pool (by decide), h .integ (by decide), h .proxy (by decide), h .recorder (by decide), h .extents (by decide), h .mover (by decide), h .devPanel (by decide), h .devPriority (by decide), h .sheet (by decide), h .store (by decide), h .header (by decide), h .host (by decide), h .pending (by decide)⟩

@[simp] theorem State.loseStream_frame (s : State) (n : Svc) :
    (s.loseStream n).powered = s.powered ∧ (s.loseStream n).ctl = s.ctl ∧
      (s.loseStream n).feed = s.feed ∧ (s.loseStream n).meter = s.meter ∧
      (s.loseStream n).sched = s.sched ∧ (s.loseStream n).pool = s.pool ∧
      (s.loseStream n).integ = s.integ ∧ (s.loseStream n).proxy = s.proxy ∧
      (s.loseStream n).recorder = s.recorder ∧ (s.loseStream n).extents = s.extents ∧
      (s.loseStream n).mover = s.mover ∧ (s.loseStream n).panel = s.panel ∧
      (s.loseStream n).devPanel = s.devPanel ∧ (s.loseStream n).devPriority = s.devPriority ∧
      (s.loseStream n).alert = s.alert ∧ (s.loseStream n).sheet = s.sheet ∧
      (s.loseStream n).store = s.store ∧ (s.loseStream n).live = s.live ∧
      (s.loseStream n).header = s.header ∧ (s.loseStream n).host = s.host ∧
      (s.loseStream n).pending = s.pending :=
  have h := s.loseStream_touches n
  ⟨h .powered (by decide), h .ctl (by decide), h .feed (by decide), h .meter (by decide), h .sched (by decide), h .pool (by decide), h .integ (by decide), h .proxy (by decide), h .recorder (by decide), h .extents (by decide), h .mover (by decide), h .panel (by decide), h .devPanel (by decide), h .devPriority (by decide), h .alert (by decide), h .sheet (by decide), h .store (by decide), h .live (by decide), h .header (by decide), h .host (by decide), h .pending (by decide)⟩

/-! ### Machine/Scheduler.lean -/

@[simp] theorem State.pushWrite_frame (s : State) (n : Svc)(k : Slot) (w : SlotContent) :
    (s.pushWrite n k w).powered = s.powered ∧ (s.pushWrite n k w).ctl = s.ctl ∧
      (s.pushWrite n k w).feed = s.feed ∧ (s.pushWrite n k w).meter = s.meter ∧
      (s.pushWrite n k w).caption = s.caption ∧ (s.pushWrite n k w).pool = s.pool ∧
      (s.pushWrite n k w).integ = s.integ ∧ (s.pushWrite n k w).proxy = s.proxy ∧
      (s.pushWrite n k w).recorder = s.recorder ∧ (s.pushWrite n k w).extents = s.extents ∧
      (s.pushWrite n k w).mover = s.mover ∧ (s.pushWrite n k w).panel = s.panel ∧
      (s.pushWrite n k w).devPanel = s.devPanel ∧ (s.pushWrite n k w).devPriority = s.devPriority ∧
      (s.pushWrite n k w).alert = s.alert ∧ (s.pushWrite n k w).sheet = s.sheet ∧
      (s.pushWrite n k w).store = s.store ∧ (s.pushWrite n k w).live = s.live ∧
      (s.pushWrite n k w).header = s.header ∧ (s.pushWrite n k w).host = s.host ∧
      (s.pushWrite n k w).pending = s.pending :=
  have h := s.pushWrite_touches n k w
  ⟨h .powered (by decide), h .ctl (by decide), h .feed (by decide), h .meter (by decide), h .caption (by decide), h .pool (by decide), h .integ (by decide), h .proxy (by decide), h .recorder (by decide), h .extents (by decide), h .mover (by decide), h .panel (by decide), h .devPanel (by decide), h .devPriority (by decide), h .alert (by decide), h .sheet (by decide), h .store (by decide), h .live (by decide), h .header (by decide), h .host (by decide), h .pending (by decide)⟩

@[simp] theorem State.writeStanding_frame (s : State) (n : Svc)(k : Slot) :
    (s.writeStanding n k).powered = s.powered ∧ (s.writeStanding n k).ctl = s.ctl ∧
      (s.writeStanding n k).feed = s.feed ∧ (s.writeStanding n k).meter = s.meter ∧
      (s.writeStanding n k).caption = s.caption ∧ (s.writeStanding n k).pool = s.pool ∧
      (s.writeStanding n k).integ = s.integ ∧ (s.writeStanding n k).proxy = s.proxy ∧
      (s.writeStanding n k).recorder = s.recorder ∧ (s.writeStanding n k).extents = s.extents ∧
      (s.writeStanding n k).mover = s.mover ∧ (s.writeStanding n k).panel = s.panel ∧
      (s.writeStanding n k).devPanel = s.devPanel ∧ (s.writeStanding n k).devPriority = s.devPriority ∧
      (s.writeStanding n k).alert = s.alert ∧ (s.writeStanding n k).sheet = s.sheet ∧
      (s.writeStanding n k).store = s.store ∧ (s.writeStanding n k).live = s.live ∧
      (s.writeStanding n k).header = s.header ∧ (s.writeStanding n k).host = s.host ∧
      (s.writeStanding n k).pending = s.pending :=
  have h := s.writeStanding_touches n k
  ⟨h .powered (by decide), h .ctl (by decide), h .feed (by decide), h .meter (by decide), h .caption (by decide), h .pool (by decide), h .integ (by decide), h .proxy (by decide), h .recorder (by decide), h .extents (by decide), h .mover (by decide), h .panel (by decide), h .devPanel (by decide), h .devPriority (by decide), h .alert (by decide), h .sheet (by decide), h .store (by decide), h .live (by decide), h .header (by decide), h .host (by decide), h .pending (by decide)⟩

@[simp] theorem State.requestMark_frame (s : State) (n : Svc) (m : MarkRequest) :
    (s.requestMark n m).powered = s.powered ∧ (s.requestMark n m).ctl = s.ctl ∧
      (s.requestMark n m).feed = s.feed ∧ (s.requestMark n m).meter = s.meter ∧
      (s.requestMark n m).caption = s.caption ∧ (s.requestMark n m).sched = s.sched ∧
      (s.requestMark n m).pool = s.pool ∧ (s.requestMark n m).integ = s.integ ∧
      (s.requestMark n m).proxy = s.proxy ∧ (s.requestMark n m).extents = s.extents ∧
      (s.requestMark n m).mover = s.mover ∧ (s.requestMark n m).panel = s.panel ∧
      (s.requestMark n m).devPanel = s.devPanel ∧ (s.requestMark n m).devPriority = s.devPriority ∧
      (s.requestMark n m).alert = s.alert ∧ (s.requestMark n m).sheet = s.sheet ∧
      (s.requestMark n m).store = s.store ∧ (s.requestMark n m).live = s.live ∧
      (s.requestMark n m).header = s.header ∧ (s.requestMark n m).host = s.host ∧
      (s.requestMark n m).pending = s.pending :=
  have h := s.requestMark_touches n m
  ⟨h .powered (by decide), h .ctl (by decide), h .feed (by decide), h .meter (by decide), h .caption (by decide), h .sched (by decide), h .pool (by decide), h .integ (by decide), h .proxy (by decide), h .extents (by decide), h .mover (by decide), h .panel (by decide), h .devPanel (by decide), h .devPriority (by decide), h .alert (by decide), h .sheet (by decide), h .store (by decide), h .live (by decide), h .header (by decide), h .host (by decide), h .pending (by decide)⟩

@[simp] theorem State.raiseVerdict_frame (s : State) (n : Svc) (v : Verdict) :
    (s.raiseVerdict n v).powered = s.powered ∧ (s.raiseVerdict n v).ctl = s.ctl ∧
      (s.raiseVerdict n v).feed = s.feed ∧ (s.raiseVerdict n v).meter = s.meter ∧
      (s.raiseVerdict n v).caption = s.caption ∧ (s.raiseVerdict n v).sched = s.sched ∧
      (s.raiseVerdict n v).pool = s.pool ∧ (s.raiseVerdict n v).integ = s.integ ∧
      (s.raiseVerdict n v).proxy = s.proxy ∧ (s.raiseVerdict n v).recorder = s.recorder ∧
      (s.raiseVerdict n v).extents = s.extents ∧ (s.raiseVerdict n v).mover = s.mover ∧
      (s.raiseVerdict n v).devPanel = s.devPanel ∧ (s.raiseVerdict n v).devPriority = s.devPriority ∧
      (s.raiseVerdict n v).sheet = s.sheet ∧ (s.raiseVerdict n v).store = s.store ∧
      (s.raiseVerdict n v).header = s.header ∧ (s.raiseVerdict n v).host = s.host ∧
      (s.raiseVerdict n v).pending = s.pending :=
  have h := s.raiseVerdict_touches n v
  ⟨h .powered (by decide), h .ctl (by decide), h .feed (by decide), h .meter (by decide), h .caption (by decide), h .sched (by decide), h .pool (by decide), h .integ (by decide), h .proxy (by decide), h .recorder (by decide), h .extents (by decide), h .mover (by decide), h .devPanel (by decide), h .devPriority (by decide), h .sheet (by decide), h .store (by decide), h .header (by decide), h .host (by decide), h .pending (by decide)⟩

@[simp] theorem State.deliverVerdict_frame (s : State) (n : Svc)(k : Slot) (v : Verdict) :
    (s.deliverVerdict n k v).powered = s.powered ∧ (s.deliverVerdict n k v).ctl = s.ctl ∧
      (s.deliverVerdict n k v).feed = s.feed ∧ (s.deliverVerdict n k v).meter = s.meter ∧
      (s.deliverVerdict n k v).caption = s.caption ∧ (s.deliverVerdict n k v).pool = s.pool ∧
      (s.deliverVerdict n k v).integ = s.integ ∧ (s.deliverVerdict n k v).proxy = s.proxy ∧
      (s.deliverVerdict n k v).recorder = s.recorder ∧ (s.deliverVerdict n k v).extents = s.extents ∧
      (s.deliverVerdict n k v).mover = s.mover ∧ (s.deliverVerdict n k v).devPanel = s.devPanel ∧
      (s.deliverVerdict n k v).devPriority = s.devPriority ∧ (s.deliverVerdict n k v).sheet = s.sheet ∧
      (s.deliverVerdict n k v).store = s.store ∧ (s.deliverVerdict n k v).header = s.header ∧
      (s.deliverVerdict n k v).host = s.host ∧ (s.deliverVerdict n k v).pending = s.pending :=
  have h := s.deliverVerdict_touches n k v
  ⟨h .powered (by decide), h .ctl (by decide), h .feed (by decide), h .meter (by decide), h .caption (by decide), h .pool (by decide), h .integ (by decide), h .proxy (by decide), h .recorder (by decide), h .extents (by decide), h .mover (by decide), h .devPanel (by decide), h .devPriority (by decide), h .sheet (by decide), h .store (by decide), h .header (by decide), h .host (by decide), h .pending (by decide)⟩

@[simp] theorem State.finishVerdict_frame (s : State) (n : Svc)(k : Slot) (loud : LoudResult) :
    (s.finishVerdict n k loud).powered = s.powered ∧ (s.finishVerdict n k loud).ctl = s.ctl ∧
      (s.finishVerdict n k loud).feed = s.feed ∧ (s.finishVerdict n k loud).meter = s.meter ∧
      (s.finishVerdict n k loud).caption = s.caption ∧ (s.finishVerdict n k loud).pool = s.pool ∧
      (s.finishVerdict n k loud).integ = s.integ ∧ (s.finishVerdict n k loud).proxy = s.proxy ∧
      (s.finishVerdict n k loud).recorder = s.recorder ∧ (s.finishVerdict n k loud).extents = s.extents ∧
      (s.finishVerdict n k loud).mover = s.mover ∧ (s.finishVerdict n k loud).devPanel = s.devPanel ∧
      (s.finishVerdict n k loud).devPriority = s.devPriority ∧ (s.finishVerdict n k loud).sheet = s.sheet ∧
      (s.finishVerdict n k loud).store = s.store ∧ (s.finishVerdict n k loud).header = s.header ∧
      (s.finishVerdict n k loud).host = s.host ∧ (s.finishVerdict n k loud).pending = s.pending :=
  have h := s.finishVerdict_touches n k loud
  ⟨h .powered (by decide), h .ctl (by decide), h .feed (by decide), h .meter (by decide), h .caption (by decide), h .pool (by decide), h .integ (by decide), h .proxy (by decide), h .recorder (by decide), h .extents (by decide), h .mover (by decide), h .devPanel (by decide), h .devPriority (by decide), h .sheet (by decide), h .store (by decide), h .header (by decide), h .host (by decide), h .pending (by decide)⟩

@[simp] theorem State.modContextOf_frame (s : State) (e : Entry) (f : Context → Context) :
    (s.modContextOf e f).powered = s.powered ∧ (s.modContextOf e f).ctl = s.ctl ∧
      (s.modContextOf e f).feed = s.feed ∧ (s.modContextOf e f).meter = s.meter ∧
      (s.modContextOf e f).caption = s.caption ∧ (s.modContextOf e f).sched = s.sched ∧
      (s.modContextOf e f).integ = s.integ ∧ (s.modContextOf e f).proxy = s.proxy ∧
      (s.modContextOf e f).recorder = s.recorder ∧ (s.modContextOf e f).extents = s.extents ∧
      (s.modContextOf e f).mover = s.mover ∧ (s.modContextOf e f).panel = s.panel ∧
      (s.modContextOf e f).devPanel = s.devPanel ∧ (s.modContextOf e f).devPriority = s.devPriority ∧
      (s.modContextOf e f).alert = s.alert ∧ (s.modContextOf e f).sheet = s.sheet ∧
      (s.modContextOf e f).store = s.store ∧ (s.modContextOf e f).live = s.live ∧
      (s.modContextOf e f).header = s.header ∧ (s.modContextOf e f).host = s.host ∧
      (s.modContextOf e f).pending = s.pending :=
  have h := s.modContextOf_touches e f
  ⟨h .powered (by decide), h .ctl (by decide), h .feed (by decide), h .meter (by decide), h .caption (by decide), h .sched (by decide), h .integ (by decide), h .proxy (by decide), h .recorder (by decide), h .extents (by decide), h .mover (by decide), h .panel (by decide), h .devPanel (by decide), h .devPriority (by decide), h .alert (by decide), h .sheet (by decide), h .store (by decide), h .live (by decide), h .header (by decide), h .host (by decide), h .pending (by decide)⟩

@[simp] theorem State.pauseOuter_frame (s : State) (n : Svc) :
    (s.pauseOuter n).powered = s.powered ∧ (s.pauseOuter n).ctl = s.ctl ∧
      (s.pauseOuter n).feed = s.feed ∧ (s.pauseOuter n).meter = s.meter ∧
      (s.pauseOuter n).caption = s.caption ∧ (s.pauseOuter n).integ = s.integ ∧
      (s.pauseOuter n).proxy = s.proxy ∧ (s.pauseOuter n).recorder = s.recorder ∧
      (s.pauseOuter n).extents = s.extents ∧ (s.pauseOuter n).mover = s.mover ∧
      (s.pauseOuter n).panel = s.panel ∧ (s.pauseOuter n).devPanel = s.devPanel ∧
      (s.pauseOuter n).devPriority = s.devPriority ∧ (s.pauseOuter n).alert = s.alert ∧
      (s.pauseOuter n).sheet = s.sheet ∧ (s.pauseOuter n).store = s.store ∧
      (s.pauseOuter n).live = s.live ∧ (s.pauseOuter n).header = s.header ∧
      (s.pauseOuter n).host = s.host ∧ (s.pauseOuter n).pending = s.pending :=
  have h := s.pauseOuter_touches n
  ⟨h .powered (by decide), h .ctl (by decide), h .feed (by decide), h .meter (by decide), h .caption (by decide), h .integ (by decide), h .proxy (by decide), h .recorder (by decide), h .extents (by decide), h .mover (by decide), h .panel (by decide), h .devPanel (by decide), h .devPriority (by decide), h .alert (by decide), h .sheet (by decide), h .store (by decide), h .live (by decide), h .header (by decide), h .host (by decide), h .pending (by decide)⟩

@[simp] theorem State.resumeOuter_frame (s : State) (n : Svc) :
    (s.resumeOuter n).powered = s.powered ∧ (s.resumeOuter n).ctl = s.ctl ∧
      (s.resumeOuter n).feed = s.feed ∧ (s.resumeOuter n).meter = s.meter ∧
      (s.resumeOuter n).caption = s.caption ∧ (s.resumeOuter n).integ = s.integ ∧
      (s.resumeOuter n).proxy = s.proxy ∧ (s.resumeOuter n).recorder = s.recorder ∧
      (s.resumeOuter n).extents = s.extents ∧ (s.resumeOuter n).mover = s.mover ∧
      (s.resumeOuter n).panel = s.panel ∧ (s.resumeOuter n).devPanel = s.devPanel ∧
      (s.resumeOuter n).devPriority = s.devPriority ∧ (s.resumeOuter n).alert = s.alert ∧
      (s.resumeOuter n).sheet = s.sheet ∧ (s.resumeOuter n).store = s.store ∧
      (s.resumeOuter n).live = s.live ∧ (s.resumeOuter n).header = s.header ∧
      (s.resumeOuter n).host = s.host ∧ (s.resumeOuter n).pending = s.pending :=
  have h := s.resumeOuter_touches n
  ⟨h .powered (by decide), h .ctl (by decide), h .feed (by decide), h .meter (by decide), h .caption (by decide), h .integ (by decide), h .proxy (by decide), h .recorder (by decide), h .extents (by decide), h .mover (by decide), h .panel (by decide), h .devPanel (by decide), h .devPriority (by decide), h .alert (by decide), h .sheet (by decide), h .store (by decide), h .live (by decide), h .header (by decide), h .host (by decide), h .pending (by decide)⟩

@[simp] theorem State.markEnd_frame (s : State) (n : Svc)(k : Slot) (b : Body) :
    (s.markEnd n k b).powered = s.powered ∧ (s.markEnd n k b).ctl = s.ctl ∧
      (s.markEnd n k b).feed = s.feed ∧ (s.markEnd n k b).meter = s.meter ∧
      (s.markEnd n k b).caption = s.caption ∧ (s.markEnd n k b).sched = s.sched ∧
      (s.markEnd n k b).pool = s.pool ∧ (s.markEnd n k b).integ = s.integ ∧
      (s.markEnd n k b).proxy = s.proxy ∧ (s.markEnd n k b).extents = s.extents ∧
      (s.markEnd n k b).mover = s.mover ∧ (s.markEnd n k b).panel = s.panel ∧
      (s.markEnd n k b).devPanel = s.devPanel ∧ (s.markEnd n k b).devPriority = s.devPriority ∧
      (s.markEnd n k b).alert = s.alert ∧ (s.markEnd n k b).sheet = s.sheet ∧
      (s.markEnd n k b).store = s.store ∧ (s.markEnd n k b).live = s.live ∧
      (s.markEnd n k b).header = s.header ∧ (s.markEnd n k b).host = s.host ∧
      (s.markEnd n k b).pending = s.pending :=
  have h := s.markEnd_touches n k b
  ⟨h .powered (by decide), h .ctl (by decide), h .feed (by decide), h .meter (by decide), h .caption (by decide), h .sched (by decide), h .pool (by decide), h .integ (by decide), h .proxy (by decide), h .extents (by decide), h .mover (by decide), h .panel (by decide), h .devPanel (by decide), h .devPriority (by decide), h .alert (by decide), h .sheet (by decide), h .store (by decide), h .live (by decide), h .header (by decide), h .host (by decide), h .pending (by decide)⟩

@[simp] theorem State.closeContextOf_frame (s : State) (n : Svc) (e : Entry) (cls : SegClass) :
    (s.closeContextOf n e cls).powered = s.powered ∧ (s.closeContextOf n e cls).ctl = s.ctl ∧
      (s.closeContextOf n e cls).feed = s.feed ∧ (s.closeContextOf n e cls).meter = s.meter ∧
      (s.closeContextOf n e cls).caption = s.caption ∧ (s.closeContextOf n e cls).sched = s.sched ∧
      (s.closeContextOf n e cls).proxy = s.proxy ∧ (s.closeContextOf n e cls).recorder = s.recorder ∧
      (s.closeContextOf n e cls).extents = s.extents ∧ (s.closeContextOf n e cls).mover = s.mover ∧
      (s.closeContextOf n e cls).panel = s.panel ∧ (s.closeContextOf n e cls).devPanel = s.devPanel ∧
      (s.closeContextOf n e cls).devPriority = s.devPriority ∧ (s.closeContextOf n e cls).alert = s.alert ∧
      (s.closeContextOf n e cls).sheet = s.sheet ∧ (s.closeContextOf n e cls).store = s.store ∧
      (s.closeContextOf n e cls).live = s.live ∧ (s.closeContextOf n e cls).header = s.header ∧
      (s.closeContextOf n e cls).host = s.host ∧ (s.closeContextOf n e cls).pending = s.pending :=
  have h := s.closeContextOf_touches n e cls
  ⟨h .powered (by decide), h .ctl (by decide), h .feed (by decide), h .meter (by decide), h .caption (by decide), h .sched (by decide), h .proxy (by decide), h .recorder (by decide), h .extents (by decide), h .mover (by decide), h .panel (by decide), h .devPanel (by decide), h .devPriority (by decide), h .alert (by decide), h .sheet (by decide), h .store (by decide), h .live (by decide), h .header (by decide), h .host (by decide), h .pending (by decide)⟩

@[simp] theorem State.announceClose_frame (s : State) (n : Svc)(k : Slot) (metered : Bool) :
    (s.announceClose n k metered).powered = s.powered ∧ (s.announceClose n k metered).ctl = s.ctl ∧
      (s.announceClose n k metered).feed = s.feed ∧ (s.announceClose n k metered).meter = s.meter ∧
      (s.announceClose n k metered).caption = s.caption ∧ (s.announceClose n k metered).pool = s.pool ∧
      (s.announceClose n k metered).integ = s.integ ∧ (s.announceClose n k metered).proxy = s.proxy ∧
      (s.announceClose n k metered).recorder = s.recorder ∧ (s.announceClose n k metered).extents = s.extents ∧
      (s.announceClose n k metered).mover = s.mover ∧ (s.announceClose n k metered).devPanel = s.devPanel ∧
      (s.announceClose n k metered).devPriority = s.devPriority ∧ (s.announceClose n k metered).sheet = s.sheet ∧
      (s.announceClose n k metered).store = s.store ∧ (s.announceClose n k metered).header = s.header ∧
      (s.announceClose n k metered).host = s.host ∧ (s.announceClose n k metered).pending = s.pending :=
  have h := s.announceClose_touches n k metered
  ⟨h .powered (by decide), h .ctl (by decide), h .feed (by decide), h .meter (by decide), h .caption (by decide), h .pool (by decide), h .integ (by decide), h .proxy (by decide), h .recorder (by decide), h .extents (by decide), h .mover (by decide), h .devPanel (by decide), h .devPriority (by decide), h .sheet (by decide), h .store (by decide), h .header (by decide), h .host (by decide), h .pending (by decide)⟩

@[simp] theorem State.leaveLayer_frame (s : State) (n : Svc) (l : Layer) (k : Slot) :
    (s.leaveLayer n l k).powered = s.powered ∧ (s.leaveLayer n l k).ctl = s.ctl ∧
      (s.leaveLayer n l k).feed = s.feed ∧ (s.leaveLayer n l k).meter = s.meter ∧
      (s.leaveLayer n l k).caption = s.caption ∧ (s.leaveLayer n l k).pool = s.pool ∧
      (s.leaveLayer n l k).integ = s.integ ∧ (s.leaveLayer n l k).proxy = s.proxy ∧
      (s.leaveLayer n l k).recorder = s.recorder ∧ (s.leaveLayer n l k).extents = s.extents ∧
      (s.leaveLayer n l k).mover = s.mover ∧ (s.leaveLayer n l k).panel = s.panel ∧
      (s.leaveLayer n l k).devPanel = s.devPanel ∧ (s.leaveLayer n l k).devPriority = s.devPriority ∧
      (s.leaveLayer n l k).alert = s.alert ∧ (s.leaveLayer n l k).sheet = s.sheet ∧
      (s.leaveLayer n l k).store = s.store ∧ (s.leaveLayer n l k).live = s.live ∧
      (s.leaveLayer n l k).header = s.header ∧ (s.leaveLayer n l k).host = s.host ∧
      (s.leaveLayer n l k).pending = s.pending :=
  have h := s.leaveLayer_touches n l k
  ⟨h .powered (by decide), h .ctl (by decide), h .feed (by decide), h .meter (by decide), h .caption (by decide), h .pool (by decide), h .integ (by decide), h .proxy (by decide), h .recorder (by decide), h .extents (by decide), h .mover (by decide), h .panel (by decide), h .devPanel (by decide), h .devPriority (by decide), h .alert (by decide), h .sheet (by decide), h .store (by decide), h .live (by decide), h .header (by decide), h .host (by decide), h .pending (by decide)⟩

@[simp] theorem State.closeSegment_frame (s : State) (n : Svc)(k : Slot) (add : VerdictFlags) :
    (s.closeSegment n k add).powered = s.powered ∧ (s.closeSegment n k add).ctl = s.ctl ∧
      (s.closeSegment n k add).feed = s.feed ∧ (s.closeSegment n k add).meter = s.meter ∧
      (s.closeSegment n k add).caption = s.caption ∧ (s.closeSegment n k add).proxy = s.proxy ∧
      (s.closeSegment n k add).extents = s.extents ∧ (s.closeSegment n k add).mover = s.mover ∧
      (s.closeSegment n k add).devPanel = s.devPanel ∧ (s.closeSegment n k add).devPriority = s.devPriority ∧
      (s.closeSegment n k add).sheet = s.sheet ∧ (s.closeSegment n k add).store = s.store ∧
      (s.closeSegment n k add).header = s.header ∧ (s.closeSegment n k add).host = s.host ∧
      (s.closeSegment n k add).pending = s.pending :=
  have h := s.closeSegment_touches n k add
  ⟨h .powered (by decide), h .ctl (by decide), h .feed (by decide), h .meter (by decide), h .caption (by decide), h .proxy (by decide), h .extents (by decide), h .mover (by decide), h .devPanel (by decide), h .devPriority (by decide), h .sheet (by decide), h .store (by decide), h .header (by decide), h .host (by decide), h .pending (by decide)⟩

@[simp] theorem State.closeOnNext_frame (s : State) (n : Svc) (l : Layer) (f : Firing) :
    (s.closeOnNext n l f).powered = s.powered ∧ (s.closeOnNext n l f).ctl = s.ctl ∧
      (s.closeOnNext n l f).feed = s.feed ∧ (s.closeOnNext n l f).meter = s.meter ∧
      (s.closeOnNext n l f).caption = s.caption ∧ (s.closeOnNext n l f).proxy = s.proxy ∧
      (s.closeOnNext n l f).extents = s.extents ∧ (s.closeOnNext n l f).mover = s.mover ∧
      (s.closeOnNext n l f).devPanel = s.devPanel ∧ (s.closeOnNext n l f).devPriority = s.devPriority ∧
      (s.closeOnNext n l f).sheet = s.sheet ∧ (s.closeOnNext n l f).store = s.store ∧
      (s.closeOnNext n l f).header = s.header ∧ (s.closeOnNext n l f).host = s.host ∧
      (s.closeOnNext n l f).pending = s.pending :=
  have h := s.closeOnNext_touches n l f
  ⟨h .powered (by decide), h .ctl (by decide), h .feed (by decide), h .meter (by decide), h .caption (by decide), h .proxy (by decide), h .extents (by decide), h .mover (by decide), h .devPanel (by decide), h .devPriority (by decide), h .sheet (by decide), h .store (by decide), h .header (by decide), h .host (by decide), h .pending (by decide)⟩

@[simp] theorem State.claimFor_frame (s : State) (n : Svc)(k : Slot) (sn : Snapshot) (paused : Bool) :
    (s.claimFor n k sn paused).powered = s.powered ∧ (s.claimFor n k sn paused).ctl = s.ctl ∧
      (s.claimFor n k sn paused).feed = s.feed ∧ (s.claimFor n k sn paused).meter = s.meter ∧
      (s.claimFor n k sn paused).caption = s.caption ∧ (s.claimFor n k sn paused).integ = s.integ ∧
      (s.claimFor n k sn paused).proxy = s.proxy ∧ (s.claimFor n k sn paused).recorder = s.recorder ∧
      (s.claimFor n k sn paused).extents = s.extents ∧ (s.claimFor n k sn paused).mover = s.mover ∧
      (s.claimFor n k sn paused).devPanel = s.devPanel ∧ (s.claimFor n k sn paused).devPriority = s.devPriority ∧
      (s.claimFor n k sn paused).sheet = s.sheet ∧ (s.claimFor n k sn paused).store = s.store ∧
      (s.claimFor n k sn paused).header = s.header ∧ (s.claimFor n k sn paused).host = s.host ∧
      (s.claimFor n k sn paused).pending = s.pending :=
  have h := s.claimFor_touches n k sn paused
  ⟨h .powered (by decide), h .ctl (by decide), h .feed (by decide), h .meter (by decide), h .caption (by decide), h .integ (by decide), h .proxy (by decide), h .recorder (by decide), h .extents (by decide), h .mover (by decide), h .devPanel (by decide), h .devPriority (by decide), h .sheet (by decide), h .store (by decide), h .header (by decide), h .host (by decide), h .pending (by decide)⟩

@[simp] theorem State.openSegment_frame (s : State) (n : Svc)(k : Slot) (f : Firing) :
    (s.openSegment n k f).powered = s.powered ∧ (s.openSegment n k f).ctl = s.ctl ∧
      (s.openSegment n k f).feed = s.feed ∧ (s.openSegment n k f).meter = s.meter ∧
      (s.openSegment n k f).caption = s.caption ∧ (s.openSegment n k f).proxy = s.proxy ∧
      (s.openSegment n k f).extents = s.extents ∧ (s.openSegment n k f).mover = s.mover ∧
      (s.openSegment n k f).devPanel = s.devPanel ∧ (s.openSegment n k f).devPriority = s.devPriority ∧
      (s.openSegment n k f).sheet = s.sheet ∧ (s.openSegment n k f).store = s.store ∧
      (s.openSegment n k f).header = s.header ∧ (s.openSegment n k f).host = s.host ∧
      (s.openSegment n k f).pending = s.pending :=
  have h := s.openSegment_touches n k f
  ⟨h .powered (by decide), h .ctl (by decide), h .feed (by decide), h .meter (by decide), h .caption (by decide), h .proxy (by decide), h .extents (by decide), h .mover (by decide), h .devPanel (by decide), h .devPriority (by decide), h .sheet (by decide), h .store (by decide), h .header (by decide), h .host (by decide), h .pending (by decide)⟩

@[simp] theorem State.fireBoundary_frame (s : State) (n : Svc) (f : Firing) (b : Boundary) :
    (s.fireBoundary n f b).powered = s.powered ∧ (s.fireBoundary n f b).ctl = s.ctl ∧
      (s.fireBoundary n f b).feed = s.feed ∧ (s.fireBoundary n f b).meter = s.meter ∧
      (s.fireBoundary n f b).caption = s.caption ∧ (s.fireBoundary n f b).proxy = s.proxy ∧
      (s.fireBoundary n f b).extents = s.extents ∧ (s.fireBoundary n f b).mover = s.mover ∧
      (s.fireBoundary n f b).devPanel = s.devPanel ∧ (s.fireBoundary n f b).devPriority = s.devPriority ∧
      (s.fireBoundary n f b).sheet = s.sheet ∧ (s.fireBoundary n f b).store = s.store ∧
      (s.fireBoundary n f b).header = s.header ∧ (s.fireBoundary n f b).host = s.host ∧
      (s.fireBoundary n f b).pending = s.pending :=
  have h := s.fireBoundary_touches n f b
  ⟨h .powered (by decide), h .ctl (by decide), h .feed (by decide), h .meter (by decide), h .caption (by decide), h .proxy (by decide), h .extents (by decide), h .mover (by decide), h .devPanel (by decide), h .devPriority (by decide), h .sheet (by decide), h .store (by decide), h .header (by decide), h .host (by decide), h .pending (by decide)⟩

@[simp] theorem State.fireAll_frame (s : State) (n : Svc) (c : FireCause) (bs : List Boundary) :
    (s.fireAll n c bs).powered = s.powered ∧ (s.fireAll n c bs).ctl = s.ctl ∧
      (s.fireAll n c bs).feed = s.feed ∧ (s.fireAll n c bs).meter = s.meter ∧
      (s.fireAll n c bs).caption = s.caption ∧ (s.fireAll n c bs).proxy = s.proxy ∧
      (s.fireAll n c bs).extents = s.extents ∧ (s.fireAll n c bs).mover = s.mover ∧
      (s.fireAll n c bs).devPanel = s.devPanel ∧ (s.fireAll n c bs).devPriority = s.devPriority ∧
      (s.fireAll n c bs).sheet = s.sheet ∧ (s.fireAll n c bs).store = s.store ∧
      (s.fireAll n c bs).header = s.header ∧ (s.fireAll n c bs).host = s.host ∧
      (s.fireAll n c bs).pending = s.pending :=
  have h := s.fireAll_touches n c bs
  ⟨h .powered (by decide), h .ctl (by decide), h .feed (by decide), h .meter (by decide), h .caption (by decide), h .proxy (by decide), h .extents (by decide), h .mover (by decide), h .devPanel (by decide), h .devPriority (by decide), h .sheet (by decide), h .store (by decide), h .header (by decide), h .host (by decide), h .pending (by decide)⟩

@[simp] theorem State.advanceBoundaries_frame (s : State) (n : Svc) (c : FireCause) (t0 t1 : Nat) :
    (s.advanceBoundaries n c t0 t1).powered = s.powered ∧ (s.advanceBoundaries n c t0 t1).ctl = s.ctl ∧
      (s.advanceBoundaries n c t0 t1).feed = s.feed ∧ (s.advanceBoundaries n c t0 t1).meter = s.meter ∧
      (s.advanceBoundaries n c t0 t1).proxy = s.proxy ∧ (s.advanceBoundaries n c t0 t1).extents = s.extents ∧
      (s.advanceBoundaries n c t0 t1).mover = s.mover ∧ (s.advanceBoundaries n c t0 t1).devPanel = s.devPanel ∧
      (s.advanceBoundaries n c t0 t1).devPriority = s.devPriority ∧ (s.advanceBoundaries n c t0 t1).sheet = s.sheet ∧
      (s.advanceBoundaries n c t0 t1).store = s.store ∧ (s.advanceBoundaries n c t0 t1).header = s.header ∧
      (s.advanceBoundaries n c t0 t1).host = s.host ∧ (s.advanceBoundaries n c t0 t1).pending = s.pending :=
  have h := s.advanceBoundaries_touches n c t0 t1
  ⟨h .powered (by decide), h .ctl (by decide), h .feed (by decide), h .meter (by decide), h .proxy (by decide), h .extents (by decide), h .mover (by decide), h .devPanel (by decide), h .devPriority (by decide), h .sheet (by decide), h .store (by decide), h .header (by decide), h .host (by decide), h .pending (by decide)⟩

@[simp] theorem State.seedBoundaries_frame (s : State) (n : Svc) (u : Nat) :
    (s.seedBoundaries n u).powered = s.powered ∧ (s.seedBoundaries n u).ctl = s.ctl ∧
      (s.seedBoundaries n u).feed = s.feed ∧ (s.seedBoundaries n u).meter = s.meter ∧
      (s.seedBoundaries n u).proxy = s.proxy ∧ (s.seedBoundaries n u).extents = s.extents ∧
      (s.seedBoundaries n u).mover = s.mover ∧ (s.seedBoundaries n u).devPanel = s.devPanel ∧
      (s.seedBoundaries n u).devPriority = s.devPriority ∧ (s.seedBoundaries n u).sheet = s.sheet ∧
      (s.seedBoundaries n u).store = s.store ∧ (s.seedBoundaries n u).header = s.header ∧
      (s.seedBoundaries n u).host = s.host ∧ (s.seedBoundaries n u).pending = s.pending :=
  have h := s.seedBoundaries_touches n u
  ⟨h .powered (by decide), h .ctl (by decide), h .feed (by decide), h .meter (by decide), h .proxy (by decide), h .extents (by decide), h .mover (by decide), h .devPanel (by decide), h .devPriority (by decide), h .sheet (by decide), h .store (by decide), h .header (by decide), h .host (by decide), h .pending (by decide)⟩

@[simp] theorem State.release_frame (s : State) (n : Svc)(k : Slot) :
    (s.release n k).powered = s.powered ∧ (s.release n k).ctl = s.ctl ∧
      (s.release n k).feed = s.feed ∧ (s.release n k).meter = s.meter ∧
      (s.release n k).caption = s.caption ∧ (s.release n k).pool = s.pool ∧
      (s.release n k).integ = s.integ ∧ (s.release n k).proxy = s.proxy ∧
      (s.release n k).recorder = s.recorder ∧ (s.release n k).extents = s.extents ∧
      (s.release n k).mover = s.mover ∧ (s.release n k).panel = s.panel ∧
      (s.release n k).devPanel = s.devPanel ∧ (s.release n k).devPriority = s.devPriority ∧
      (s.release n k).alert = s.alert ∧ (s.release n k).sheet = s.sheet ∧
      (s.release n k).store = s.store ∧ (s.release n k).live = s.live ∧
      (s.release n k).header = s.header ∧ (s.release n k).host = s.host ∧
      (s.release n k).pending = s.pending :=
  have h := s.release_touches n k
  ⟨h .powered (by decide), h .ctl (by decide), h .feed (by decide), h .meter (by decide), h .caption (by decide), h .pool (by decide), h .integ (by decide), h .proxy (by decide), h .recorder (by decide), h .extents (by decide), h .mover (by decide), h .panel (by decide), h .devPanel (by decide), h .devPriority (by decide), h .alert (by decide), h .sheet (by decide), h .store (by decide), h .live (by decide), h .header (by decide), h .host (by decide), h .pending (by decide)⟩

@[simp] theorem State.flagOpen_frame (s : State) (n : Svc) (f : VerdictFlags) :
    (s.flagOpen n f).powered = s.powered ∧ (s.flagOpen n f).ctl = s.ctl ∧
      (s.flagOpen n f).feed = s.feed ∧ (s.flagOpen n f).meter = s.meter ∧
      (s.flagOpen n f).caption = s.caption ∧ (s.flagOpen n f).pool = s.pool ∧
      (s.flagOpen n f).integ = s.integ ∧ (s.flagOpen n f).proxy = s.proxy ∧
      (s.flagOpen n f).recorder = s.recorder ∧ (s.flagOpen n f).extents = s.extents ∧
      (s.flagOpen n f).mover = s.mover ∧ (s.flagOpen n f).panel = s.panel ∧
      (s.flagOpen n f).devPanel = s.devPanel ∧ (s.flagOpen n f).devPriority = s.devPriority ∧
      (s.flagOpen n f).alert = s.alert ∧ (s.flagOpen n f).sheet = s.sheet ∧
      (s.flagOpen n f).store = s.store ∧ (s.flagOpen n f).live = s.live ∧
      (s.flagOpen n f).header = s.header ∧ (s.flagOpen n f).host = s.host ∧
      (s.flagOpen n f).pending = s.pending :=
  have h := s.flagOpen_touches n f
  ⟨h .powered (by decide), h .ctl (by decide), h .feed (by decide), h .meter (by decide), h .caption (by decide), h .pool (by decide), h .integ (by decide), h .proxy (by decide), h .recorder (by decide), h .extents (by decide), h .mover (by decide), h .panel (by decide), h .devPanel (by decide), h .devPriority (by decide), h .alert (by decide), h .sheet (by decide), h .store (by decide), h .live (by decide), h .header (by decide), h .host (by decide), h .pending (by decide)⟩

@[simp] theorem State.raiseTimeFault_frame (s : State) (n : Svc) :
    (s.raiseTimeFault n).powered = s.powered ∧ (s.raiseTimeFault n).ctl = s.ctl ∧
      (s.raiseTimeFault n).feed = s.feed ∧ (s.raiseTimeFault n).meter = s.meter ∧
      (s.raiseTimeFault n).caption = s.caption ∧ (s.raiseTimeFault n).pool = s.pool ∧
      (s.raiseTimeFault n).integ = s.integ ∧ (s.raiseTimeFault n).proxy = s.proxy ∧
      (s.raiseTimeFault n).recorder = s.recorder ∧ (s.raiseTimeFault n).extents = s.extents ∧
      (s.raiseTimeFault n).mover = s.mover ∧ (s.raiseTimeFault n).devPanel = s.devPanel ∧
      (s.raiseTimeFault n).devPriority = s.devPriority ∧ (s.raiseTimeFault n).sheet = s.sheet ∧
      (s.raiseTimeFault n).store = s.store ∧ (s.raiseTimeFault n).header = s.header ∧
      (s.raiseTimeFault n).host = s.host ∧ (s.raiseTimeFault n).pending = s.pending :=
  have h := s.raiseTimeFault_touches n
  ⟨h .powered (by decide), h .ctl (by decide), h .feed (by decide), h .meter (by decide), h .caption (by decide), h .pool (by decide), h .integ (by decide), h .proxy (by decide), h .recorder (by decide), h .extents (by decide), h .mover (by decide), h .devPanel (by decide), h .devPriority (by decide), h .sheet (by decide), h .store (by decide), h .header (by decide), h .host (by decide), h .pending (by decide)⟩

@[simp] theorem State.closeLayer_frame (s : State) (n : Svc) (l : Layer) (f : VerdictFlags) :
    (s.closeLayer n l f).powered = s.powered ∧ (s.closeLayer n l f).ctl = s.ctl ∧
      (s.closeLayer n l f).feed = s.feed ∧ (s.closeLayer n l f).meter = s.meter ∧
      (s.closeLayer n l f).caption = s.caption ∧ (s.closeLayer n l f).proxy = s.proxy ∧
      (s.closeLayer n l f).extents = s.extents ∧ (s.closeLayer n l f).mover = s.mover ∧
      (s.closeLayer n l f).devPanel = s.devPanel ∧ (s.closeLayer n l f).devPriority = s.devPriority ∧
      (s.closeLayer n l f).sheet = s.sheet ∧ (s.closeLayer n l f).store = s.store ∧
      (s.closeLayer n l f).header = s.header ∧ (s.closeLayer n l f).host = s.host ∧
      (s.closeLayer n l f).pending = s.pending :=
  have h := s.closeLayer_touches n l f
  ⟨h .powered (by decide), h .ctl (by decide), h .feed (by decide), h .meter (by decide), h .caption (by decide), h .proxy (by decide), h .extents (by decide), h .mover (by decide), h .devPanel (by decide), h .devPriority (by decide), h .sheet (by decide), h .store (by decide), h .header (by decide), h .host (by decide), h .pending (by decide)⟩

@[simp] theorem State.closeOpen_frame (s : State) (n : Svc) (f : VerdictFlags) :
    (s.closeOpen n f).powered = s.powered ∧ (s.closeOpen n f).ctl = s.ctl ∧
      (s.closeOpen n f).feed = s.feed ∧ (s.closeOpen n f).meter = s.meter ∧
      (s.closeOpen n f).proxy = s.proxy ∧ (s.closeOpen n f).extents = s.extents ∧
      (s.closeOpen n f).mover = s.mover ∧ (s.closeOpen n f).devPanel = s.devPanel ∧
      (s.closeOpen n f).devPriority = s.devPriority ∧ (s.closeOpen n f).sheet = s.sheet ∧
      (s.closeOpen n f).store = s.store ∧ (s.closeOpen n f).header = s.header ∧
      (s.closeOpen n f).host = s.host ∧ (s.closeOpen n f).pending = s.pending :=
  have h := s.closeOpen_touches n f
  ⟨h .powered (by decide), h .ctl (by decide), h .feed (by decide), h .meter (by decide), h .proxy (by decide), h .extents (by decide), h .mover (by decide), h .devPanel (by decide), h .devPriority (by decide), h .sheet (by decide), h .store (by decide), h .header (by decide), h .host (by decide), h .pending (by decide)⟩

@[simp] theorem State.forgetWaiting_frame (s : State) (n : Svc) :
    (s.forgetWaiting n).powered = s.powered ∧ (s.forgetWaiting n).ctl = s.ctl ∧
      (s.forgetWaiting n).feed = s.feed ∧ (s.forgetWaiting n).meter = s.meter ∧
      (s.forgetWaiting n).caption = s.caption ∧ (s.forgetWaiting n).pool = s.pool ∧
      (s.forgetWaiting n).integ = s.integ ∧ (s.forgetWaiting n).proxy = s.proxy ∧
      (s.forgetWaiting n).recorder = s.recorder ∧ (s.forgetWaiting n).extents = s.extents ∧
      (s.forgetWaiting n).mover = s.mover ∧ (s.forgetWaiting n).panel = s.panel ∧
      (s.forgetWaiting n).devPanel = s.devPanel ∧ (s.forgetWaiting n).devPriority = s.devPriority ∧
      (s.forgetWaiting n).alert = s.alert ∧ (s.forgetWaiting n).sheet = s.sheet ∧
      (s.forgetWaiting n).store = s.store ∧ (s.forgetWaiting n).live = s.live ∧
      (s.forgetWaiting n).header = s.header ∧ (s.forgetWaiting n).host = s.host ∧
      (s.forgetWaiting n).pending = s.pending :=
  have h := s.forgetWaiting_touches n
  ⟨h .powered (by decide), h .ctl (by decide), h .feed (by decide), h .meter (by decide), h .caption (by decide), h .pool (by decide), h .integ (by decide), h .proxy (by decide), h .recorder (by decide), h .extents (by decide), h .mover (by decide), h .panel (by decide), h .devPanel (by decide), h .devPriority (by decide), h .alert (by decide), h .sheet (by decide), h .store (by decide), h .live (by decide), h .header (by decide), h .host (by decide), h .pending (by decide)⟩

@[simp] theorem State.emptyDockets_frame (s : State) (n : Svc) :
    (s.emptyDockets n).powered = s.powered ∧ (s.emptyDockets n).ctl = s.ctl ∧
      (s.emptyDockets n).feed = s.feed ∧ (s.emptyDockets n).meter = s.meter ∧
      (s.emptyDockets n).pool = s.pool ∧ (s.emptyDockets n).integ = s.integ ∧
      (s.emptyDockets n).proxy = s.proxy ∧ (s.emptyDockets n).recorder = s.recorder ∧
      (s.emptyDockets n).extents = s.extents ∧ (s.emptyDockets n).mover = s.mover ∧
      (s.emptyDockets n).devPanel = s.devPanel ∧ (s.emptyDockets n).devPriority = s.devPriority ∧
      (s.emptyDockets n).sheet = s.sheet ∧ (s.emptyDockets n).store = s.store ∧
      (s.emptyDockets n).header = s.header ∧ (s.emptyDockets n).host = s.host ∧
      (s.emptyDockets n).pending = s.pending :=
  have h := s.emptyDockets_touches n
  ⟨h .powered (by decide), h .ctl (by decide), h .feed (by decide), h .meter (by decide), h .pool (by decide), h .integ (by decide), h .proxy (by decide), h .recorder (by decide), h .extents (by decide), h .mover (by decide), h .devPanel (by decide), h .devPriority (by decide), h .sheet (by decide), h .store (by decide), h .header (by decide), h .host (by decide), h .pending (by decide)⟩

/-! ### Machine/Feed.lean -/

@[simp] theorem State.runBreak_frame (s : State) (n : Svc) :
    (s.runBreak n).powered = s.powered ∧ (s.runBreak n).ctl = s.ctl ∧
      (s.runBreak n).feed = s.feed ∧ (s.runBreak n).caption = s.caption ∧
      (s.runBreak n).sched = s.sched ∧ (s.runBreak n).integ = s.integ ∧
      (s.runBreak n).proxy = s.proxy ∧ (s.runBreak n).recorder = s.recorder ∧
      (s.runBreak n).extents = s.extents ∧ (s.runBreak n).mover = s.mover ∧
      (s.runBreak n).panel = s.panel ∧ (s.runBreak n).devPanel = s.devPanel ∧
      (s.runBreak n).devPriority = s.devPriority ∧ (s.runBreak n).alert = s.alert ∧
      (s.runBreak n).sheet = s.sheet ∧ (s.runBreak n).store = s.store ∧
      (s.runBreak n).live = s.live ∧ (s.runBreak n).header = s.header ∧
      (s.runBreak n).host = s.host ∧ (s.runBreak n).pending = s.pending :=
  have h := s.runBreak_touches n
  ⟨h .powered (by decide), h .ctl (by decide), h .feed (by decide), h .caption (by decide), h .sched (by decide), h .integ (by decide), h .proxy (by decide), h .recorder (by decide), h .extents (by decide), h .mover (by decide), h .panel (by decide), h .devPanel (by decide), h .devPriority (by decide), h .alert (by decide), h .sheet (by decide), h .store (by decide), h .live (by decide), h .header (by decide), h .host (by decide), h .pending (by decide)⟩

@[simp] theorem State.advanceTo_frame (s : State) (n : Svc) (c : FireCause) (t1 : Nat) :
    (s.advanceTo n c t1).powered = s.powered ∧ (s.advanceTo n c t1).ctl = s.ctl ∧
      (s.advanceTo n c t1).meter = s.meter ∧ (s.advanceTo n c t1).proxy = s.proxy ∧
      (s.advanceTo n c t1).extents = s.extents ∧ (s.advanceTo n c t1).mover = s.mover ∧
      (s.advanceTo n c t1).devPanel = s.devPanel ∧ (s.advanceTo n c t1).devPriority = s.devPriority ∧
      (s.advanceTo n c t1).sheet = s.sheet ∧ (s.advanceTo n c t1).store = s.store ∧
      (s.advanceTo n c t1).header = s.header ∧ (s.advanceTo n c t1).host = s.host ∧
      (s.advanceTo n c t1).pending = s.pending :=
  have h := s.advanceTo_touches n c t1
  ⟨h .powered (by decide), h .ctl (by decide), h .meter (by decide), h .proxy (by decide), h .extents (by decide), h .mover (by decide), h .devPanel (by decide), h .devPriority (by decide), h .sheet (by decide), h .store (by decide), h .header (by decide), h .host (by decide), h .pending (by decide)⟩

@[simp] theorem State.flyAdvance_frame (s : State) (n : Svc) :
    (s.flyAdvance n).powered = s.powered ∧ (s.flyAdvance n).ctl = s.ctl ∧
      (s.flyAdvance n).meter = s.meter ∧ (s.flyAdvance n).proxy = s.proxy ∧
      (s.flyAdvance n).extents = s.extents ∧ (s.flyAdvance n).mover = s.mover ∧
      (s.flyAdvance n).devPanel = s.devPanel ∧ (s.flyAdvance n).devPriority = s.devPriority ∧
      (s.flyAdvance n).sheet = s.sheet ∧ (s.flyAdvance n).store = s.store ∧
      (s.flyAdvance n).header = s.header ∧ (s.flyAdvance n).host = s.host ∧
      (s.flyAdvance n).pending = s.pending :=
  have h := s.flyAdvance_touches n
  ⟨h .powered (by decide), h .ctl (by decide), h .meter (by decide), h .proxy (by decide), h .extents (by decide), h .mover (by decide), h .devPanel (by decide), h .devPriority (by decide), h .sheet (by decide), h .store (by decide), h .header (by decide), h .host (by decide), h .pending (by decide)⟩

@[simp] theorem State.enterFlywheel_frame (s : State) (n : Svc) (due : Nat) :
    (s.enterFlywheel n due).powered = s.powered ∧ (s.enterFlywheel n due).ctl = s.ctl ∧
      (s.enterFlywheel n due).proxy = s.proxy ∧ (s.enterFlywheel n due).extents = s.extents ∧
      (s.enterFlywheel n due).mover = s.mover ∧ (s.enterFlywheel n due).devPanel = s.devPanel ∧
      (s.enterFlywheel n due).devPriority = s.devPriority ∧ (s.enterFlywheel n due).sheet = s.sheet ∧
      (s.enterFlywheel n due).store = s.store ∧ (s.enterFlywheel n due).header = s.header ∧
      (s.enterFlywheel n due).host = s.host ∧ (s.enterFlywheel n due).pending = s.pending :=
  have h := s.enterFlywheel_touches n due
  ⟨h .powered (by decide), h .ctl (by decide), h .proxy (by decide), h .extents (by decide), h .mover (by decide), h .devPanel (by decide), h .devPriority (by decide), h .sheet (by decide), h .store (by decide), h .header (by decide), h .host (by decide), h .pending (by decide)⟩

@[simp] theorem State.leaveFlywheel_frame (s : State) (n : Svc) :
    (s.leaveFlywheel n).powered = s.powered ∧ (s.leaveFlywheel n).ctl = s.ctl ∧
      (s.leaveFlywheel n).caption = s.caption ∧ (s.leaveFlywheel n).sched = s.sched ∧
      (s.leaveFlywheel n).integ = s.integ ∧ (s.leaveFlywheel n).proxy = s.proxy ∧
      (s.leaveFlywheel n).recorder = s.recorder ∧ (s.leaveFlywheel n).extents = s.extents ∧
      (s.leaveFlywheel n).mover = s.mover ∧ (s.leaveFlywheel n).devPanel = s.devPanel ∧
      (s.leaveFlywheel n).devPriority = s.devPriority ∧ (s.leaveFlywheel n).sheet = s.sheet ∧
      (s.leaveFlywheel n).store = s.store ∧ (s.leaveFlywheel n).header = s.header ∧
      (s.leaveFlywheel n).host = s.host ∧ (s.leaveFlywheel n).pending = s.pending :=
  have h := s.leaveFlywheel_touches n
  ⟨h .powered (by decide), h .ctl (by decide), h .caption (by decide), h .sched (by decide), h .integ (by decide), h .proxy (by decide), h .recorder (by decide), h .extents (by decide), h .mover (by decide), h .devPanel (by decide), h .devPriority (by decide), h .sheet (by decide), h .store (by decide), h .header (by decide), h .host (by decide), h .pending (by decide)⟩

@[simp] theorem State.seedTime_frame (s : State) (n : Svc) (u : Nat) :
    (s.seedTime n u).powered = s.powered ∧ (s.seedTime n u).ctl = s.ctl ∧
      (s.seedTime n u).meter = s.meter ∧ (s.seedTime n u).proxy = s.proxy ∧
      (s.seedTime n u).extents = s.extents ∧ (s.seedTime n u).mover = s.mover ∧
      (s.seedTime n u).devPanel = s.devPanel ∧ (s.seedTime n u).devPriority = s.devPriority ∧
      (s.seedTime n u).sheet = s.sheet ∧ (s.seedTime n u).store = s.store ∧
      (s.seedTime n u).header = s.header ∧ (s.seedTime n u).host = s.host ∧
      (s.seedTime n u).pending = s.pending :=
  have h := s.seedTime_touches n u
  ⟨h .powered (by decide), h .ctl (by decide), h .meter (by decide), h .proxy (by decide), h .extents (by decide), h .mover (by decide), h .devPanel (by decide), h .devPriority (by decide), h .sheet (by decide), h .store (by decide), h .header (by decide), h .host (by decide), h .pending (by decide)⟩

@[simp] theorem State.jumpTo_frame (s : State) (n : Svc) (u : Nat) :
    (s.jumpTo n u).powered = s.powered ∧ (s.jumpTo n u).ctl = s.ctl ∧
      (s.jumpTo n u).meter = s.meter ∧ (s.jumpTo n u).proxy = s.proxy ∧
      (s.jumpTo n u).extents = s.extents ∧ (s.jumpTo n u).mover = s.mover ∧
      (s.jumpTo n u).devPanel = s.devPanel ∧ (s.jumpTo n u).devPriority = s.devPriority ∧
      (s.jumpTo n u).sheet = s.sheet ∧ (s.jumpTo n u).store = s.store ∧
      (s.jumpTo n u).header = s.header ∧ (s.jumpTo n u).host = s.host ∧
      (s.jumpTo n u).pending = s.pending :=
  have h := s.jumpTo_touches n u
  ⟨h .powered (by decide), h .ctl (by decide), h .meter (by decide), h .proxy (by decide), h .extents (by decide), h .mover (by decide), h .devPanel (by decide), h .devPriority (by decide), h .sheet (by decide), h .store (by decide), h .header (by decide), h .host (by decide), h .pending (by decide)⟩

@[simp] theorem State.judgeStamp_frame (s : State) (n : Svc) (u : Nat) :
    (s.judgeStamp n u).powered = s.powered ∧ (s.judgeStamp n u).ctl = s.ctl ∧
      (s.judgeStamp n u).meter = s.meter ∧ (s.judgeStamp n u).proxy = s.proxy ∧
      (s.judgeStamp n u).extents = s.extents ∧ (s.judgeStamp n u).mover = s.mover ∧
      (s.judgeStamp n u).devPanel = s.devPanel ∧ (s.judgeStamp n u).devPriority = s.devPriority ∧
      (s.judgeStamp n u).sheet = s.sheet ∧ (s.judgeStamp n u).store = s.store ∧
      (s.judgeStamp n u).header = s.header ∧ (s.judgeStamp n u).host = s.host ∧
      (s.judgeStamp n u).pending = s.pending :=
  have h := s.judgeStamp_touches n u
  ⟨h .powered (by decide), h .ctl (by decide), h .meter (by decide), h .proxy (by decide), h .extents (by decide), h .mover (by decide), h .devPanel (by decide), h .devPriority (by decide), h .sheet (by decide), h .store (by decide), h .header (by decide), h .host (by decide), h .pending (by decide)⟩

@[simp] theorem State.reloadLoss_frame (s : State) (n : Svc) :
    (s.reloadLoss n).powered = s.powered ∧ (s.reloadLoss n).ctl = s.ctl ∧
      (s.reloadLoss n).meter = s.meter ∧ (s.reloadLoss n).caption = s.caption ∧
      (s.reloadLoss n).sched = s.sched ∧ (s.reloadLoss n).pool = s.pool ∧
      (s.reloadLoss n).integ = s.integ ∧ (s.reloadLoss n).proxy = s.proxy ∧
      (s.reloadLoss n).recorder = s.recorder ∧ (s.reloadLoss n).extents = s.extents ∧
      (s.reloadLoss n).mover = s.mover ∧ (s.reloadLoss n).panel = s.panel ∧
      (s.reloadLoss n).devPanel = s.devPanel ∧ (s.reloadLoss n).devPriority = s.devPriority ∧
      (s.reloadLoss n).alert = s.alert ∧ (s.reloadLoss n).sheet = s.sheet ∧
      (s.reloadLoss n).store = s.store ∧ (s.reloadLoss n).live = s.live ∧
      (s.reloadLoss n).header = s.header ∧ (s.reloadLoss n).host = s.host ∧
      (s.reloadLoss n).pending = s.pending :=
  have h := s.reloadLoss_touches n
  ⟨h .powered (by decide), h .ctl (by decide), h .meter (by decide), h .caption (by decide), h .sched (by decide), h .pool (by decide), h .integ (by decide), h .proxy (by decide), h .recorder (by decide), h .extents (by decide), h .mover (by decide), h .panel (by decide), h .devPanel (by decide), h .devPriority (by decide), h .alert (by decide), h .sheet (by decide), h .store (by decide), h .live (by decide), h .header (by decide), h .host (by decide), h .pending (by decide)⟩

@[simp] theorem State.applyStamp_frame (s : State) (n : Svc) (u : Nat) :
    (s.applyStamp n u).powered = s.powered ∧ (s.applyStamp n u).ctl = s.ctl ∧
      (s.applyStamp n u).proxy = s.proxy ∧ (s.applyStamp n u).extents = s.extents ∧
      (s.applyStamp n u).mover = s.mover ∧ (s.applyStamp n u).devPanel = s.devPanel ∧
      (s.applyStamp n u).devPriority = s.devPriority ∧ (s.applyStamp n u).sheet = s.sheet ∧
      (s.applyStamp n u).store = s.store ∧ (s.applyStamp n u).header = s.header ∧
      (s.applyStamp n u).host = s.host ∧ (s.applyStamp n u).pending = s.pending :=
  have h := s.applyStamp_touches n u
  ⟨h .powered (by decide), h .ctl (by decide), h .proxy (by decide), h .extents (by decide), h .mover (by decide), h .devPanel (by decide), h .devPriority (by decide), h .sheet (by decide), h .store (by decide), h .header (by decide), h .host (by decide), h .pending (by decide)⟩

@[simp] theorem State.judgeRate_frame (s : State) (n : Svc) (code : BitVec 16) :
    (s.judgeRate n code).powered = s.powered ∧ (s.judgeRate n code).ctl = s.ctl ∧
      (s.judgeRate n code).meter = s.meter ∧ (s.judgeRate n code).caption = s.caption ∧
      (s.judgeRate n code).pool = s.pool ∧ (s.judgeRate n code).integ = s.integ ∧
      (s.judgeRate n code).proxy = s.proxy ∧ (s.judgeRate n code).recorder = s.recorder ∧
      (s.judgeRate n code).extents = s.extents ∧ (s.judgeRate n code).mover = s.mover ∧
      (s.judgeRate n code).devPanel = s.devPanel ∧ (s.judgeRate n code).devPriority = s.devPriority ∧
      (s.judgeRate n code).sheet = s.sheet ∧ (s.judgeRate n code).store = s.store ∧
      (s.judgeRate n code).header = s.header ∧ (s.judgeRate n code).host = s.host ∧
      (s.judgeRate n code).pending = s.pending :=
  have h := s.judgeRate_touches n code
  ⟨h .powered (by decide), h .ctl (by decide), h .meter (by decide), h .caption (by decide), h .pool (by decide), h .integ (by decide), h .proxy (by decide), h .recorder (by decide), h .extents (by decide), h .mover (by decide), h .devPanel (by decide), h .devPriority (by decide), h .sheet (by decide), h .store (by decide), h .header (by decide), h .host (by decide), h .pending (by decide)⟩

@[simp] theorem State.takeFrame_frame (s : State) (n : Svc) (u : Nat) (code : BitVec 16) :
    (s.takeFrame n u code).powered = s.powered ∧ (s.takeFrame n u code).ctl = s.ctl ∧
      (s.takeFrame n u code).proxy = s.proxy ∧ (s.takeFrame n u code).extents = s.extents ∧
      (s.takeFrame n u code).mover = s.mover ∧ (s.takeFrame n u code).devPanel = s.devPanel ∧
      (s.takeFrame n u code).devPriority = s.devPriority ∧ (s.takeFrame n u code).sheet = s.sheet ∧
      (s.takeFrame n u code).store = s.store ∧ (s.takeFrame n u code).header = s.header ∧
      (s.takeFrame n u code).host = s.host ∧ (s.takeFrame n u code).pending = s.pending :=
  have h := s.takeFrame_touches n u code
  ⟨h .powered (by decide), h .ctl (by decide), h .proxy (by decide), h .extents (by decide), h .mover (by decide), h .devPanel (by decide), h .devPriority (by decide), h .sheet (by decide), h .store (by decide), h .header (by decide), h .host (by decide), h .pending (by decide)⟩

@[simp] theorem State.discardMessage_frame (s : State) (n : Svc) :
    (s.discardMessage n).powered = s.powered ∧ (s.discardMessage n).ctl = s.ctl ∧
      (s.discardMessage n).meter = s.meter ∧ (s.discardMessage n).caption = s.caption ∧
      (s.discardMessage n).sched = s.sched ∧ (s.discardMessage n).pool = s.pool ∧
      (s.discardMessage n).integ = s.integ ∧ (s.discardMessage n).proxy = s.proxy ∧
      (s.discardMessage n).recorder = s.recorder ∧ (s.discardMessage n).extents = s.extents ∧
      (s.discardMessage n).mover = s.mover ∧ (s.discardMessage n).panel = s.panel ∧
      (s.discardMessage n).devPanel = s.devPanel ∧ (s.discardMessage n).devPriority = s.devPriority ∧
      (s.discardMessage n).alert = s.alert ∧ (s.discardMessage n).sheet = s.sheet ∧
      (s.discardMessage n).store = s.store ∧ (s.discardMessage n).live = s.live ∧
      (s.discardMessage n).header = s.header ∧ (s.discardMessage n).host = s.host ∧
      (s.discardMessage n).pending = s.pending :=
  have h := s.discardMessage_touches n
  ⟨h .powered (by decide), h .ctl (by decide), h .meter (by decide), h .caption (by decide), h .sched (by decide), h .pool (by decide), h .integ (by decide), h .proxy (by decide), h .recorder (by decide), h .extents (by decide), h .mover (by decide), h .panel (by decide), h .devPanel (by decide), h .devPriority (by decide), h .alert (by decide), h .sheet (by decide), h .store (by decide), h .live (by decide), h .header (by decide), h .host (by decide), h .pending (by decide)⟩

@[simp] theorem State.takeLoss_frame (s : State) (n : Svc) (late : Bool) :
    (s.takeLoss n late).powered = s.powered ∧ (s.takeLoss n late).ctl = s.ctl ∧
      (s.takeLoss n late).proxy = s.proxy ∧ (s.takeLoss n late).extents = s.extents ∧
      (s.takeLoss n late).mover = s.mover ∧ (s.takeLoss n late).devPanel = s.devPanel ∧
      (s.takeLoss n late).devPriority = s.devPriority ∧ (s.takeLoss n late).sheet = s.sheet ∧
      (s.takeLoss n late).store = s.store ∧ (s.takeLoss n late).header = s.header ∧
      (s.takeLoss n late).host = s.host ∧ (s.takeLoss n late).pending = s.pending :=
  have h := s.takeLoss_touches n late
  ⟨h .powered (by decide), h .ctl (by decide), h .proxy (by decide), h .extents (by decide), h .mover (by decide), h .devPanel (by decide), h .devPriority (by decide), h .sheet (by decide), h .store (by decide), h .header (by decide), h .host (by decide), h .pending (by decide)⟩

@[simp] theorem State.lossTimerOut_frame (s : State) (n : Svc) :
    (s.lossTimerOut n).powered = s.powered ∧ (s.lossTimerOut n).ctl = s.ctl ∧
      (s.lossTimerOut n).proxy = s.proxy ∧ (s.lossTimerOut n).extents = s.extents ∧
      (s.lossTimerOut n).mover = s.mover ∧ (s.lossTimerOut n).devPanel = s.devPanel ∧
      (s.lossTimerOut n).devPriority = s.devPriority ∧ (s.lossTimerOut n).sheet = s.sheet ∧
      (s.lossTimerOut n).store = s.store ∧ (s.lossTimerOut n).header = s.header ∧
      (s.lossTimerOut n).host = s.host ∧ (s.lossTimerOut n).pending = s.pending :=
  have h := s.lossTimerOut_touches n
  ⟨h .powered (by decide), h .ctl (by decide), h .proxy (by decide), h .extents (by decide), h .mover (by decide), h .devPanel (by decide), h .devPriority (by decide), h .sheet (by decide), h .store (by decide), h .header (by decide), h .host (by decide), h .pending (by decide)⟩

@[simp] theorem State.frameTimerDue_frame (s : State) (n : Svc) :
    (s.frameTimerDue n).powered = s.powered ∧ (s.frameTimerDue n).ctl = s.ctl ∧
      (s.frameTimerDue n).meter = s.meter ∧ (s.frameTimerDue n).proxy = s.proxy ∧
      (s.frameTimerDue n).extents = s.extents ∧ (s.frameTimerDue n).mover = s.mover ∧
      (s.frameTimerDue n).devPanel = s.devPanel ∧ (s.frameTimerDue n).devPriority = s.devPriority ∧
      (s.frameTimerDue n).sheet = s.sheet ∧ (s.frameTimerDue n).store = s.store ∧
      (s.frameTimerDue n).header = s.header ∧ (s.frameTimerDue n).host = s.host ∧
      (s.frameTimerDue n).pending = s.pending :=
  have h := s.frameTimerDue_touches n
  ⟨h .powered (by decide), h .ctl (by decide), h .meter (by decide), h .proxy (by decide), h .extents (by decide), h .mover (by decide), h .devPanel (by decide), h .devPriority (by decide), h .sheet (by decide), h .store (by decide), h .header (by decide), h .host (by decide), h .pending (by decide)⟩

@[simp] theorem State.cueSlot_frame (s : State) (n : Svc) (kind : CueKind) (k : Slot) :
    (s.cueSlot n kind k).powered = s.powered ∧ (s.cueSlot n kind k).ctl = s.ctl ∧
      (s.cueSlot n kind k).feed = s.feed ∧ (s.cueSlot n kind k).meter = s.meter ∧
      (s.cueSlot n kind k).caption = s.caption ∧ (s.cueSlot n kind k).proxy = s.proxy ∧
      (s.cueSlot n kind k).extents = s.extents ∧ (s.cueSlot n kind k).mover = s.mover ∧
      (s.cueSlot n kind k).devPanel = s.devPanel ∧ (s.cueSlot n kind k).devPriority = s.devPriority ∧
      (s.cueSlot n kind k).sheet = s.sheet ∧ (s.cueSlot n kind k).store = s.store ∧
      (s.cueSlot n kind k).header = s.header ∧ (s.cueSlot n kind k).host = s.host ∧
      (s.cueSlot n kind k).pending = s.pending :=
  have h := s.cueSlot_touches n kind k
  ⟨h .powered (by decide), h .ctl (by decide), h .feed (by decide), h .meter (by decide), h .caption (by decide), h .proxy (by decide), h .extents (by decide), h .mover (by decide), h .devPanel (by decide), h .devPriority (by decide), h .sheet (by decide), h .store (by decide), h .header (by decide), h .host (by decide), h .pending (by decide)⟩

@[simp] theorem State.takeCue_frame (s : State) (n : Svc) (id : BitVec 16) (kind : CueKind) :
    (s.takeCue n id kind).powered = s.powered ∧ (s.takeCue n id kind).ctl = s.ctl ∧
      (s.takeCue n id kind).feed = s.feed ∧ (s.takeCue n id kind).meter = s.meter ∧
      (s.takeCue n id kind).proxy = s.proxy ∧ (s.takeCue n id kind).extents = s.extents ∧
      (s.takeCue n id kind).mover = s.mover ∧ (s.takeCue n id kind).devPanel = s.devPanel ∧
      (s.takeCue n id kind).devPriority = s.devPriority ∧ (s.takeCue n id kind).sheet = s.sheet ∧
      (s.takeCue n id kind).store = s.store ∧ (s.takeCue n id kind).header = s.header ∧
      (s.takeCue n id kind).host = s.host ∧ (s.takeCue n id kind).pending = s.pending :=
  have h := s.takeCue_touches n id kind
  ⟨h .powered (by decide), h .ctl (by decide), h .feed (by decide), h .meter (by decide), h .proxy (by decide), h .extents (by decide), h .mover (by decide), h .devPanel (by decide), h .devPriority (by decide), h .sheet (by decide), h .store (by decide), h .header (by decide), h .host (by decide), h .pending (by decide)⟩

@[simp] theorem State.takeCaption_frame (s : State) (n : Svc) (page : Byte) (lang : Lang) (kind : CaptionKind) (seq : Byte) :
    (s.takeCaption n page lang kind seq).powered = s.powered ∧ (s.takeCaption n page lang kind seq).ctl = s.ctl ∧
      (s.takeCaption n page lang kind seq).meter = s.meter ∧ (s.takeCaption n page lang kind seq).pool = s.pool ∧
      (s.takeCaption n page lang kind seq).integ = s.integ ∧ (s.takeCaption n page lang kind seq).proxy = s.proxy ∧
      (s.takeCaption n page lang kind seq).recorder = s.recorder ∧ (s.takeCaption n page lang kind seq).extents = s.extents ∧
      (s.takeCaption n page lang kind seq).mover = s.mover ∧ (s.takeCaption n page lang kind seq).devPanel = s.devPanel ∧
      (s.takeCaption n page lang kind seq).devPriority = s.devPriority ∧ (s.takeCaption n page lang kind seq).sheet = s.sheet ∧
      (s.takeCaption n page lang kind seq).store = s.store ∧ (s.takeCaption n page lang kind seq).header = s.header ∧
      (s.takeCaption n page lang kind seq).host = s.host ∧ (s.takeCaption n page lang kind seq).pending = s.pending :=
  have h := s.takeCaption_touches n page lang kind seq
  ⟨h .powered (by decide), h .ctl (by decide), h .meter (by decide), h .pool (by decide), h .integ (by decide), h .proxy (by decide), h .recorder (by decide), h .extents (by decide), h .mover (by decide), h .devPanel (by decide), h .devPriority (by decide), h .sheet (by decide), h .store (by decide), h .header (by decide), h .host (by decide), h .pending (by decide)⟩

/-! ### Machine/Meter.lean -/

@[simp] theorem State.takeClips_frame (s : State) (n : Svc) (raw : List (Option (BitVec 24))) :
    (s.takeClips n raw).powered = s.powered ∧ (s.takeClips n raw).ctl = s.ctl ∧
      (s.takeClips n raw).feed = s.feed ∧ (s.takeClips n raw).caption = s.caption ∧
      (s.takeClips n raw).sched = s.sched ∧ (s.takeClips n raw).pool = s.pool ∧
      (s.takeClips n raw).integ = s.integ ∧ (s.takeClips n raw).proxy = s.proxy ∧
      (s.takeClips n raw).recorder = s.recorder ∧ (s.takeClips n raw).extents = s.extents ∧
      (s.takeClips n raw).mover = s.mover ∧ (s.takeClips n raw).devPanel = s.devPanel ∧
      (s.takeClips n raw).devPriority = s.devPriority ∧ (s.takeClips n raw).sheet = s.sheet ∧
      (s.takeClips n raw).store = s.store ∧ (s.takeClips n raw).header = s.header ∧
      (s.takeClips n raw).host = s.host ∧ (s.takeClips n raw).pending = s.pending :=
  have h := s.takeClips_touches n raw
  ⟨h .powered (by decide), h .ctl (by decide), h .feed (by decide), h .caption (by decide), h .sched (by decide), h .pool (by decide), h .integ (by decide), h .proxy (by decide), h .recorder (by decide), h .extents (by decide), h .mover (by decide), h .devPanel (by decide), h .devPriority (by decide), h .sheet (by decide), h .store (by decide), h .header (by decide), h .host (by decide), h .pending (by decide)⟩

@[simp] theorem State.judgeSilence_frame (s : State) (n : Svc) (lv : Int) :
    (s.judgeSilence n lv).powered = s.powered ∧ (s.judgeSilence n lv).ctl = s.ctl ∧
      (s.judgeSilence n lv).feed = s.feed ∧ (s.judgeSilence n lv).caption = s.caption ∧
      (s.judgeSilence n lv).sched = s.sched ∧ (s.judgeSilence n lv).pool = s.pool ∧
      (s.judgeSilence n lv).integ = s.integ ∧ (s.judgeSilence n lv).proxy = s.proxy ∧
      (s.judgeSilence n lv).recorder = s.recorder ∧ (s.judgeSilence n lv).extents = s.extents ∧
      (s.judgeSilence n lv).mover = s.mover ∧ (s.judgeSilence n lv).devPanel = s.devPanel ∧
      (s.judgeSilence n lv).devPriority = s.devPriority ∧ (s.judgeSilence n lv).sheet = s.sheet ∧
      (s.judgeSilence n lv).store = s.store ∧ (s.judgeSilence n lv).header = s.header ∧
      (s.judgeSilence n lv).host = s.host ∧ (s.judgeSilence n lv).pending = s.pending :=
  have h := s.judgeSilence_touches n lv
  ⟨h .powered (by decide), h .ctl (by decide), h .feed (by decide), h .caption (by decide), h .sched (by decide), h .pool (by decide), h .integ (by decide), h .proxy (by decide), h .recorder (by decide), h .extents (by decide), h .mover (by decide), h .devPanel (by decide), h .devPriority (by decide), h .sheet (by decide), h .store (by decide), h .header (by decide), h .host (by decide), h .pending (by decide)⟩

@[simp] theorem State.rollingMomentary_frame (s : State) (n : Svc) :
    (s.rollingMomentary n).powered = s.powered ∧ (s.rollingMomentary n).ctl = s.ctl ∧
      (s.rollingMomentary n).feed = s.feed ∧ (s.rollingMomentary n).caption = s.caption ∧
      (s.rollingMomentary n).sched = s.sched ∧ (s.rollingMomentary n).pool = s.pool ∧
      (s.rollingMomentary n).integ = s.integ ∧ (s.rollingMomentary n).proxy = s.proxy ∧
      (s.rollingMomentary n).recorder = s.recorder ∧ (s.rollingMomentary n).extents = s.extents ∧
      (s.rollingMomentary n).mover = s.mover ∧ (s.rollingMomentary n).panel = s.panel ∧
      (s.rollingMomentary n).devPanel = s.devPanel ∧ (s.rollingMomentary n).devPriority = s.devPriority ∧
      (s.rollingMomentary n).alert = s.alert ∧ (s.rollingMomentary n).sheet = s.sheet ∧
      (s.rollingMomentary n).store = s.store ∧ (s.rollingMomentary n).live = s.live ∧
      (s.rollingMomentary n).header = s.header ∧ (s.rollingMomentary n).host = s.host ∧
      (s.rollingMomentary n).pending = s.pending :=
  have h := s.rollingMomentary_touches n
  ⟨h .powered (by decide), h .ctl (by decide), h .feed (by decide), h .caption (by decide), h .sched (by decide), h .pool (by decide), h .integ (by decide), h .proxy (by decide), h .recorder (by decide), h .extents (by decide), h .mover (by decide), h .panel (by decide), h .devPanel (by decide), h .devPriority (by decide), h .alert (by decide), h .sheet (by decide), h .store (by decide), h .live (by decide), h .header (by decide), h .host (by decide), h .pending (by decide)⟩

@[simp] theorem State.rollingShort_frame (s : State) (n : Svc) :
    (s.rollingShort n).powered = s.powered ∧ (s.rollingShort n).ctl = s.ctl ∧
      (s.rollingShort n).feed = s.feed ∧ (s.rollingShort n).caption = s.caption ∧
      (s.rollingShort n).sched = s.sched ∧ (s.rollingShort n).pool = s.pool ∧
      (s.rollingShort n).integ = s.integ ∧ (s.rollingShort n).proxy = s.proxy ∧
      (s.rollingShort n).recorder = s.recorder ∧ (s.rollingShort n).extents = s.extents ∧
      (s.rollingShort n).mover = s.mover ∧ (s.rollingShort n).devPanel = s.devPanel ∧
      (s.rollingShort n).devPriority = s.devPriority ∧ (s.rollingShort n).sheet = s.sheet ∧
      (s.rollingShort n).store = s.store ∧ (s.rollingShort n).header = s.header ∧
      (s.rollingShort n).host = s.host ∧ (s.rollingShort n).pending = s.pending :=
  have h := s.rollingShort_touches n
  ⟨h .powered (by decide), h .ctl (by decide), h .feed (by decide), h .caption (by decide), h .sched (by decide), h .pool (by decide), h .integ (by decide), h .proxy (by decide), h .recorder (by decide), h .extents (by decide), h .mover (by decide), h .devPanel (by decide), h .devPriority (by decide), h .sheet (by decide), h .store (by decide), h .header (by decide), h .host (by decide), h .pending (by decide)⟩

@[simp] theorem State.handLive_frame (s : State) (n : Svc) :
    (s.handLive n).powered = s.powered ∧ (s.handLive n).ctl = s.ctl ∧
      (s.handLive n).feed = s.feed ∧ (s.handLive n).meter = s.meter ∧
      (s.handLive n).caption = s.caption ∧ (s.handLive n).sched = s.sched ∧
      (s.handLive n).pool = s.pool ∧ (s.handLive n).integ = s.integ ∧
      (s.handLive n).proxy = s.proxy ∧ (s.handLive n).recorder = s.recorder ∧
      (s.handLive n).extents = s.extents ∧ (s.handLive n).mover = s.mover ∧
      (s.handLive n).devPanel = s.devPanel ∧ (s.handLive n).devPriority = s.devPriority ∧
      (s.handLive n).alert = s.alert ∧ (s.handLive n).sheet = s.sheet ∧
      (s.handLive n).store = s.store ∧ (s.handLive n).header = s.header ∧
      (s.handLive n).host = s.host ∧ (s.handLive n).pending = s.pending :=
  have h := s.handLive_touches n
  ⟨h .powered (by decide), h .ctl (by decide), h .feed (by decide), h .meter (by decide), h .caption (by decide), h .sched (by decide), h .pool (by decide), h .integ (by decide), h .proxy (by decide), h .recorder (by decide), h .extents (by decide), h .mover (by decide), h .devPanel (by decide), h .devPriority (by decide), h .alert (by decide), h .sheet (by decide), h .store (by decide), h .header (by decide), h .host (by decide), h .pending (by decide)⟩

@[simp] theorem State.dueWrite_frame (s : State) (n : Svc) :
    (s.dueWrite n).powered = s.powered ∧ (s.dueWrite n).ctl = s.ctl ∧
      (s.dueWrite n).feed = s.feed ∧ (s.dueWrite n).caption = s.caption ∧
      (s.dueWrite n).sched = s.sched ∧ (s.dueWrite n).pool = s.pool ∧
      (s.dueWrite n).integ = s.integ ∧ (s.dueWrite n).proxy = s.proxy ∧
      (s.dueWrite n).recorder = s.recorder ∧ (s.dueWrite n).extents = s.extents ∧
      (s.dueWrite n).mover = s.mover ∧ (s.dueWrite n).devPanel = s.devPanel ∧
      (s.dueWrite n).devPriority = s.devPriority ∧ (s.dueWrite n).alert = s.alert ∧
      (s.dueWrite n).sheet = s.sheet ∧ (s.dueWrite n).store = s.store ∧
      (s.dueWrite n).header = s.header ∧ (s.dueWrite n).host = s.host ∧
      (s.dueWrite n).pending = s.pending :=
  have h := s.dueWrite_touches n
  ⟨h .powered (by decide), h .ctl (by decide), h .feed (by decide), h .caption (by decide), h .sched (by decide), h .pool (by decide), h .integ (by decide), h .proxy (by decide), h .recorder (by decide), h .extents (by decide), h .mover (by decide), h .devPanel (by decide), h .devPriority (by decide), h .alert (by decide), h .sheet (by decide), h .store (by decide), h .header (by decide), h .host (by decide), h .pending (by decide)⟩

@[simp] theorem State.rollingTake_frame (s : State) (n : Svc) (squares : List Nat) :
    (s.rollingTake n squares).1.powered = s.powered ∧ (s.rollingTake n squares).1.ctl = s.ctl ∧
      (s.rollingTake n squares).1.feed = s.feed ∧ (s.rollingTake n squares).1.caption = s.caption ∧
      (s.rollingTake n squares).1.sched = s.sched ∧ (s.rollingTake n squares).1.pool = s.pool ∧
      (s.rollingTake n squares).1.integ = s.integ ∧ (s.rollingTake n squares).1.proxy = s.proxy ∧
      (s.rollingTake n squares).1.recorder = s.recorder ∧ (s.rollingTake n squares).1.extents = s.extents ∧
      (s.rollingTake n squares).1.mover = s.mover ∧ (s.rollingTake n squares).1.devPanel = s.devPanel ∧
      (s.rollingTake n squares).1.devPriority = s.devPriority ∧ (s.rollingTake n squares).1.sheet = s.sheet ∧
      (s.rollingTake n squares).1.store = s.store ∧ (s.rollingTake n squares).1.header = s.header ∧
      (s.rollingTake n squares).1.host = s.host ∧ (s.rollingTake n squares).1.pending = s.pending :=
  have h := s.rollingTake_touches n squares
  ⟨h .powered (by decide), h .ctl (by decide), h .feed (by decide), h .caption (by decide), h .sched (by decide), h .pool (by decide), h .integ (by decide), h .proxy (by decide), h .recorder (by decide), h .extents (by decide), h .mover (by decide), h .devPanel (by decide), h .devPriority (by decide), h .sheet (by decide), h .store (by decide), h .header (by decide), h .host (by decide), h .pending (by decide)⟩

@[simp] theorem State.contextTake_frame (s : State) (n : Svc) (squares mags : List Nat) (c : CtxId) :
    (s.contextTake n squares mags c).powered = s.powered ∧ (s.contextTake n squares mags c).ctl = s.ctl ∧
      (s.contextTake n squares mags c).feed = s.feed ∧ (s.contextTake n squares mags c).meter = s.meter ∧
      (s.contextTake n squares mags c).caption = s.caption ∧ (s.contextTake n squares mags c).sched = s.sched ∧
      (s.contextTake n squares mags c).integ = s.integ ∧ (s.contextTake n squares mags c).proxy = s.proxy ∧
      (s.contextTake n squares mags c).recorder = s.recorder ∧ (s.contextTake n squares mags c).extents = s.extents ∧
      (s.contextTake n squares mags c).mover = s.mover ∧ (s.contextTake n squares mags c).devPanel = s.devPanel ∧
      (s.contextTake n squares mags c).devPriority = s.devPriority ∧ (s.contextTake n squares mags c).sheet = s.sheet ∧
      (s.contextTake n squares mags c).store = s.store ∧ (s.contextTake n squares mags c).header = s.header ∧
      (s.contextTake n squares mags c).host = s.host ∧ (s.contextTake n squares mags c).pending = s.pending :=
  have h := s.contextTake_touches n squares mags c
  ⟨h .powered (by decide), h .ctl (by decide), h .feed (by decide), h .meter (by decide), h .caption (by decide), h .sched (by decide), h .integ (by decide), h .proxy (by decide), h .recorder (by decide), h .extents (by decide), h .mover (by decide), h .devPanel (by decide), h .devPriority (by decide), h .sheet (by decide), h .store (by decide), h .header (by decide), h .host (by decide), h .pending (by decide)⟩

@[simp] theorem State.countBlock_frame (s : State) (n : Svc) :
    (s.countBlock n).powered = s.powered ∧ (s.countBlock n).ctl = s.ctl ∧
      (s.countBlock n).feed = s.feed ∧ (s.countBlock n).caption = s.caption ∧
      (s.countBlock n).sched = s.sched ∧ (s.countBlock n).pool = s.pool ∧
      (s.countBlock n).integ = s.integ ∧ (s.countBlock n).proxy = s.proxy ∧
      (s.countBlock n).recorder = s.recorder ∧ (s.countBlock n).extents = s.extents ∧
      (s.countBlock n).mover = s.mover ∧ (s.countBlock n).devPanel = s.devPanel ∧
      (s.countBlock n).devPriority = s.devPriority ∧ (s.countBlock n).alert = s.alert ∧
      (s.countBlock n).sheet = s.sheet ∧ (s.countBlock n).store = s.store ∧
      (s.countBlock n).header = s.header ∧ (s.countBlock n).host = s.host ∧
      (s.countBlock n).pending = s.pending :=
  have h := s.countBlock_touches n
  ⟨h .powered (by decide), h .ctl (by decide), h .feed (by decide), h .caption (by decide), h .sched (by decide), h .pool (by decide), h .integ (by decide), h .proxy (by decide), h .recorder (by decide), h .extents (by decide), h .mover (by decide), h .devPanel (by decide), h .devPriority (by decide), h .alert (by decide), h .sheet (by decide), h .store (by decide), h .header (by decide), h .host (by decide), h .pending (by decide)⟩

@[simp] theorem State.takeAudio_frame (s : State) (n : Svc) (samples : Vector (BitVec 24) 16) :
    (s.takeAudio n samples).powered = s.powered ∧ (s.takeAudio n samples).ctl = s.ctl ∧
      (s.takeAudio n samples).feed = s.feed ∧ (s.takeAudio n samples).caption = s.caption ∧
      (s.takeAudio n samples).sched = s.sched ∧ (s.takeAudio n samples).integ = s.integ ∧
      (s.takeAudio n samples).proxy = s.proxy ∧ (s.takeAudio n samples).recorder = s.recorder ∧
      (s.takeAudio n samples).extents = s.extents ∧ (s.takeAudio n samples).mover = s.mover ∧
      (s.takeAudio n samples).devPanel = s.devPanel ∧ (s.takeAudio n samples).devPriority = s.devPriority ∧
      (s.takeAudio n samples).sheet = s.sheet ∧ (s.takeAudio n samples).store = s.store ∧
      (s.takeAudio n samples).header = s.header ∧ (s.takeAudio n samples).host = s.host ∧
      (s.takeAudio n samples).pending = s.pending :=
  have h := s.takeAudio_touches n samples
  ⟨h .powered (by decide), h .ctl (by decide), h .feed (by decide), h .caption (by decide), h .sched (by decide), h .integ (by decide), h .proxy (by decide), h .recorder (by decide), h .extents (by decide), h .mover (by decide), h .devPanel (by decide), h .devPriority (by decide), h .sheet (by decide), h .store (by decide), h .header (by decide), h .host (by decide), h .pending (by decide)⟩

@[simp] theorem State.mixChange_frame (s : State) (n : Svc) :
    (s.mixChange n).powered = s.powered ∧ (s.mixChange n).ctl = s.ctl ∧
      (s.mixChange n).feed = s.feed ∧ (s.mixChange n).caption = s.caption ∧
      (s.mixChange n).integ = s.integ ∧ (s.mixChange n).proxy = s.proxy ∧
      (s.mixChange n).recorder = s.recorder ∧ (s.mixChange n).extents = s.extents ∧
      (s.mixChange n).mover = s.mover ∧ (s.mixChange n).panel = s.panel ∧
      (s.mixChange n).devPanel = s.devPanel ∧ (s.mixChange n).devPriority = s.devPriority ∧
      (s.mixChange n).alert = s.alert ∧ (s.mixChange n).sheet = s.sheet ∧
      (s.mixChange n).store = s.store ∧ (s.mixChange n).live = s.live ∧
      (s.mixChange n).header = s.header ∧ (s.mixChange n).host = s.host ∧
      (s.mixChange n).pending = s.pending :=
  have h := s.mixChange_touches n
  ⟨h .powered (by decide), h .ctl (by decide), h .feed (by decide), h .caption (by decide), h .integ (by decide), h .proxy (by decide), h .recorder (by decide), h .extents (by decide), h .mover (by decide), h .panel (by decide), h .devPanel (by decide), h .devPriority (by decide), h .alert (by decide), h .sheet (by decide), h .store (by decide), h .live (by decide), h .header (by decide), h .host (by decide), h .pending (by decide)⟩

@[simp] theorem State.takeCountLimit_frame (s : State) (n : Svc)(k : Slot) :
    (s.takeCountLimit n k).powered = s.powered ∧ (s.takeCountLimit n k).ctl = s.ctl ∧
      (s.takeCountLimit n k).feed = s.feed ∧ (s.takeCountLimit n k).meter = s.meter ∧
      (s.takeCountLimit n k).proxy = s.proxy ∧ (s.takeCountLimit n k).extents = s.extents ∧
      (s.takeCountLimit n k).mover = s.mover ∧ (s.takeCountLimit n k).devPanel = s.devPanel ∧
      (s.takeCountLimit n k).devPriority = s.devPriority ∧ (s.takeCountLimit n k).sheet = s.sheet ∧
      (s.takeCountLimit n k).store = s.store ∧ (s.takeCountLimit n k).header = s.header ∧
      (s.takeCountLimit n k).host = s.host ∧ (s.takeCountLimit n k).pending = s.pending :=
  have h := s.takeCountLimit_touches n k
  ⟨h .powered (by decide), h .ctl (by decide), h .feed (by decide), h .meter (by decide), h .proxy (by decide), h .extents (by decide), h .mover (by decide), h .devPanel (by decide), h .devPriority (by decide), h .sheet (by decide), h .store (by decide), h .header (by decide), h .host (by decide), h .pending (by decide)⟩

@[simp] theorem State.countdownOut_frame (s : State) (n : Svc) :
    (s.countdownOut n).powered = s.powered ∧ (s.countdownOut n).ctl = s.ctl ∧
      (s.countdownOut n).feed = s.feed ∧ (s.countdownOut n).caption = s.caption ∧
      (s.countdownOut n).sched = s.sched ∧ (s.countdownOut n).pool = s.pool ∧
      (s.countdownOut n).integ = s.integ ∧ (s.countdownOut n).proxy = s.proxy ∧
      (s.countdownOut n).recorder = s.recorder ∧ (s.countdownOut n).extents = s.extents ∧
      (s.countdownOut n).mover = s.mover ∧ (s.countdownOut n).devPanel = s.devPanel ∧
      (s.countdownOut n).devPriority = s.devPriority ∧ (s.countdownOut n).alert = s.alert ∧
      (s.countdownOut n).sheet = s.sheet ∧ (s.countdownOut n).store = s.store ∧
      (s.countdownOut n).header = s.header ∧ (s.countdownOut n).host = s.host ∧
      (s.countdownOut n).pending = s.pending :=
  have h := s.countdownOut_touches n
  ⟨h .powered (by decide), h .ctl (by decide), h .feed (by decide), h .caption (by decide), h .sched (by decide), h .pool (by decide), h .integ (by decide), h .proxy (by decide), h .recorder (by decide), h .extents (by decide), h .mover (by decide), h .devPanel (by decide), h .devPriority (by decide), h .alert (by decide), h .sheet (by decide), h .store (by decide), h .header (by decide), h .host (by decide), h .pending (by decide)⟩

@[simp] theorem State.writeTimerOut_frame (s : State) (n : Svc) :
    (s.writeTimerOut n).powered = s.powered ∧ (s.writeTimerOut n).ctl = s.ctl ∧
      (s.writeTimerOut n).feed = s.feed ∧ (s.writeTimerOut n).caption = s.caption ∧
      (s.writeTimerOut n).sched = s.sched ∧ (s.writeTimerOut n).pool = s.pool ∧
      (s.writeTimerOut n).integ = s.integ ∧ (s.writeTimerOut n).proxy = s.proxy ∧
      (s.writeTimerOut n).recorder = s.recorder ∧ (s.writeTimerOut n).extents = s.extents ∧
      (s.writeTimerOut n).mover = s.mover ∧ (s.writeTimerOut n).devPanel = s.devPanel ∧
      (s.writeTimerOut n).devPriority = s.devPriority ∧ (s.writeTimerOut n).alert = s.alert ∧
      (s.writeTimerOut n).sheet = s.sheet ∧ (s.writeTimerOut n).store = s.store ∧
      (s.writeTimerOut n).header = s.header ∧ (s.writeTimerOut n).host = s.host ∧
      (s.writeTimerOut n).pending = s.pending :=
  have h := s.writeTimerOut_touches n
  ⟨h .powered (by decide), h .ctl (by decide), h .feed (by decide), h .caption (by decide), h .sched (by decide), h .pool (by decide), h .integ (by decide), h .proxy (by decide), h .recorder (by decide), h .extents (by decide), h .mover (by decide), h .devPanel (by decide), h .devPriority (by decide), h .alert (by decide), h .sheet (by decide), h .store (by decide), h .header (by decide), h .host (by decide), h .pending (by decide)⟩

@[simp] theorem State.completeLive_frame (s : State) (n : Svc) :
    (s.completeLive n).powered = s.powered ∧ (s.completeLive n).feed = s.feed ∧
      (s.completeLive n).meter = s.meter ∧ (s.completeLive n).caption = s.caption ∧
      (s.completeLive n).sched = s.sched ∧ (s.completeLive n).pool = s.pool ∧
      (s.completeLive n).integ = s.integ ∧ (s.completeLive n).proxy = s.proxy ∧
      (s.completeLive n).recorder = s.recorder ∧ (s.completeLive n).extents = s.extents ∧
      (s.completeLive n).mover = s.mover ∧ (s.completeLive n).panel = s.panel ∧
      (s.completeLive n).devPanel = s.devPanel ∧ (s.completeLive n).devPriority = s.devPriority ∧
      (s.completeLive n).sheet = s.sheet ∧ (s.completeLive n).store = s.store ∧
      (s.completeLive n).header = s.header ∧ (s.completeLive n).pending = s.pending :=
  have h := s.completeLive_touches n
  ⟨h .powered (by decide), h .feed (by decide), h .meter (by decide), h .caption (by decide), h .sched (by decide), h .pool (by decide), h .integ (by decide), h .proxy (by decide), h .recorder (by decide), h .extents (by decide), h .mover (by decide), h .panel (by decide), h .devPanel (by decide), h .devPriority (by decide), h .sheet (by decide), h .store (by decide), h .header (by decide), h .pending (by decide)⟩

/-! ### Machine/Measure.lean -/

@[simp] theorem State.livenessOut_frame (s : State) (n : Svc) :
    (s.livenessOut n).powered = s.powered ∧ (s.livenessOut n).ctl = s.ctl ∧
      (s.livenessOut n).feed = s.feed ∧ (s.livenessOut n).meter = s.meter ∧
      (s.livenessOut n).pool = s.pool ∧ (s.livenessOut n).integ = s.integ ∧
      (s.livenessOut n).proxy = s.proxy ∧ (s.livenessOut n).recorder = s.recorder ∧
      (s.livenessOut n).extents = s.extents ∧ (s.livenessOut n).mover = s.mover ∧
      (s.livenessOut n).devPanel = s.devPanel ∧ (s.livenessOut n).devPriority = s.devPriority ∧
      (s.livenessOut n).sheet = s.sheet ∧ (s.livenessOut n).store = s.store ∧
      (s.livenessOut n).header = s.header ∧ (s.livenessOut n).host = s.host ∧
      (s.livenessOut n).pending = s.pending :=
  have h := s.livenessOut_touches n
  ⟨h .powered (by decide), h .ctl (by decide), h .feed (by decide), h .meter (by decide), h .pool (by decide), h .integ (by decide), h .proxy (by decide), h .recorder (by decide), h .extents (by decide), h .mover (by decide), h .devPanel (by decide), h .devPriority (by decide), h .sheet (by decide), h .store (by decide), h .header (by decide), h .host (by decide), h .pending (by decide)⟩

@[simp] theorem State.contentOut_frame (s : State) (n : Svc) :
    (s.contentOut n).powered = s.powered ∧ (s.contentOut n).ctl = s.ctl ∧
      (s.contentOut n).feed = s.feed ∧ (s.contentOut n).meter = s.meter ∧
      (s.contentOut n).pool = s.pool ∧ (s.contentOut n).integ = s.integ ∧
      (s.contentOut n).proxy = s.proxy ∧ (s.contentOut n).recorder = s.recorder ∧
      (s.contentOut n).extents = s.extents ∧ (s.contentOut n).mover = s.mover ∧
      (s.contentOut n).devPanel = s.devPanel ∧ (s.contentOut n).devPriority = s.devPriority ∧
      (s.contentOut n).sheet = s.sheet ∧ (s.contentOut n).store = s.store ∧
      (s.contentOut n).header = s.header ∧ (s.contentOut n).host = s.host ∧
      (s.contentOut n).pending = s.pending :=
  have h := s.contentOut_touches n
  ⟨h .powered (by decide), h .ctl (by decide), h .feed (by decide), h .meter (by decide), h .pool (by decide), h .integ (by decide), h .proxy (by decide), h .recorder (by decide), h .extents (by decide), h .mover (by decide), h .devPanel (by decide), h .devPriority (by decide), h .sheet (by decide), h .store (by decide), h .header (by decide), h .host (by decide), h .pending (by decide)⟩

/-! ### Machine/Spool.lean -/

@[simp] theorem State.judgeUnit_frame (s : State) (n : Svc) (u : SpoolUnit) :
    (s.judgeUnit n u).powered = s.powered ∧ (s.judgeUnit n u).ctl = s.ctl ∧
      (s.judgeUnit n u).feed = s.feed ∧ (s.judgeUnit n u).meter = s.meter ∧
      (s.judgeUnit n u).caption = s.caption ∧ (s.judgeUnit n u).sched = s.sched ∧
      (s.judgeUnit n u).pool = s.pool ∧ (s.judgeUnit n u).integ = s.integ ∧
      (s.judgeUnit n u).recorder = s.recorder ∧ (s.judgeUnit n u).extents = s.extents ∧
      (s.judgeUnit n u).mover = s.mover ∧ (s.judgeUnit n u).devPanel = s.devPanel ∧
      (s.judgeUnit n u).devPriority = s.devPriority ∧ (s.judgeUnit n u).sheet = s.sheet ∧
      (s.judgeUnit n u).store = s.store ∧ (s.judgeUnit n u).header = s.header ∧
      (s.judgeUnit n u).host = s.host ∧ (s.judgeUnit n u).pending = s.pending :=
  have h := s.judgeUnit_touches n u
  ⟨h .powered (by decide), h .ctl (by decide), h .feed (by decide), h .meter (by decide), h .caption (by decide), h .sched (by decide), h .pool (by decide), h .integ (by decide), h .recorder (by decide), h .extents (by decide), h .mover (by decide), h .devPanel (by decide), h .devPriority (by decide), h .sheet (by decide), h .store (by decide), h .header (by decide), h .host (by decide), h .pending (by decide)⟩

@[simp] theorem State.markStart_frame (s : State) (n : Svc)(k : Slot) (seq : Nat) (e : Entry) :
    (s.markStart n k seq e).powered = s.powered ∧ (s.markStart n k seq e).ctl = s.ctl ∧
      (s.markStart n k seq e).feed = s.feed ∧ (s.markStart n k seq e).meter = s.meter ∧
      (s.markStart n k seq e).caption = s.caption ∧ (s.markStart n k seq e).sched = s.sched ∧
      (s.markStart n k seq e).pool = s.pool ∧ (s.markStart n k seq e).integ = s.integ ∧
      (s.markStart n k seq e).proxy = s.proxy ∧ (s.markStart n k seq e).extents = s.extents ∧
      (s.markStart n k seq e).mover = s.mover ∧ (s.markStart n k seq e).panel = s.panel ∧
      (s.markStart n k seq e).devPanel = s.devPanel ∧ (s.markStart n k seq e).devPriority = s.devPriority ∧
      (s.markStart n k seq e).alert = s.alert ∧ (s.markStart n k seq e).sheet = s.sheet ∧
      (s.markStart n k seq e).store = s.store ∧ (s.markStart n k seq e).live = s.live ∧
      (s.markStart n k seq e).header = s.header ∧ (s.markStart n k seq e).host = s.host ∧
      (s.markStart n k seq e).pending = s.pending :=
  have h := s.markStart_touches n k seq e
  ⟨h .powered (by decide), h .ctl (by decide), h .feed (by decide), h .meter (by decide), h .caption (by decide), h .sched (by decide), h .pool (by decide), h .integ (by decide), h .proxy (by decide), h .extents (by decide), h .mover (by decide), h .panel (by decide), h .devPanel (by decide), h .devPriority (by decide), h .alert (by decide), h .sheet (by decide), h .store (by decide), h .live (by decide), h .header (by decide), h .host (by decide), h .pending (by decide)⟩

@[simp] theorem State.countUnit_frame (s : State) (n : Svc) (seq : Nat) (dropped : Bool) (k : Slot) :
    (s.countUnit n seq dropped k).powered = s.powered ∧ (s.countUnit n seq dropped k).ctl = s.ctl ∧
      (s.countUnit n seq dropped k).feed = s.feed ∧ (s.countUnit n seq dropped k).meter = s.meter ∧
      (s.countUnit n seq dropped k).caption = s.caption ∧ (s.countUnit n seq dropped k).pool = s.pool ∧
      (s.countUnit n seq dropped k).integ = s.integ ∧ (s.countUnit n seq dropped k).proxy = s.proxy ∧
      (s.countUnit n seq dropped k).extents = s.extents ∧ (s.countUnit n seq dropped k).mover = s.mover ∧
      (s.countUnit n seq dropped k).panel = s.panel ∧ (s.countUnit n seq dropped k).devPanel = s.devPanel ∧
      (s.countUnit n seq dropped k).devPriority = s.devPriority ∧ (s.countUnit n seq dropped k).alert = s.alert ∧
      (s.countUnit n seq dropped k).sheet = s.sheet ∧ (s.countUnit n seq dropped k).store = s.store ∧
      (s.countUnit n seq dropped k).live = s.live ∧ (s.countUnit n seq dropped k).header = s.header ∧
      (s.countUnit n seq dropped k).host = s.host ∧ (s.countUnit n seq dropped k).pending = s.pending :=
  have h := s.countUnit_touches n seq dropped k
  ⟨h .powered (by decide), h .ctl (by decide), h .feed (by decide), h .meter (by decide), h .caption (by decide), h .pool (by decide), h .integ (by decide), h .proxy (by decide), h .extents (by decide), h .mover (by decide), h .panel (by decide), h .devPanel (by decide), h .devPriority (by decide), h .alert (by decide), h .sheet (by decide), h .store (by decide), h .live (by decide), h .header (by decide), h .host (by decide), h .pending (by decide)⟩

@[simp] theorem State.takeChunk_frame (s : State) (n : Svc) (c : Chunk) :
    (s.takeChunk n c).powered = s.powered ∧ (s.takeChunk n c).ctl = s.ctl ∧
      (s.takeChunk n c).feed = s.feed ∧ (s.takeChunk n c).meter = s.meter ∧
      (s.takeChunk n c).caption = s.caption ∧ (s.takeChunk n c).pool = s.pool ∧
      (s.takeChunk n c).integ = s.integ ∧ (s.takeChunk n c).extents = s.extents ∧
      (s.takeChunk n c).mover = s.mover ∧ (s.takeChunk n c).devPanel = s.devPanel ∧
      (s.takeChunk n c).devPriority = s.devPriority ∧ (s.takeChunk n c).sheet = s.sheet ∧
      (s.takeChunk n c).store = s.store ∧ (s.takeChunk n c).header = s.header ∧
      (s.takeChunk n c).host = s.host ∧ (s.takeChunk n c).pending = s.pending :=
  have h := s.takeChunk_touches n c
  ⟨h .powered (by decide), h .ctl (by decide), h .feed (by decide), h .meter (by decide), h .caption (by decide), h .pool (by decide), h .integ (by decide), h .extents (by decide), h .mover (by decide), h .devPanel (by decide), h .devPriority (by decide), h .sheet (by decide), h .store (by decide), h .header (by decide), h .host (by decide), h .pending (by decide)⟩

/-! ### Machine/Mover.lean -/

@[simp] theorem State.setWork_frame (s : State) (w : MoverWork) :
    (s.setWork w).powered = s.powered ∧ (s.setWork w).ctl = s.ctl ∧
      (s.setWork w).feed = s.feed ∧ (s.setWork w).meter = s.meter ∧
      (s.setWork w).caption = s.caption ∧ (s.setWork w).sched = s.sched ∧
      (s.setWork w).pool = s.pool ∧ (s.setWork w).integ = s.integ ∧
      (s.setWork w).proxy = s.proxy ∧ (s.setWork w).recorder = s.recorder ∧
      (s.setWork w).extents = s.extents ∧ (s.setWork w).panel = s.panel ∧
      (s.setWork w).devPanel = s.devPanel ∧ (s.setWork w).devPriority = s.devPriority ∧
      (s.setWork w).alert = s.alert ∧ (s.setWork w).sheet = s.sheet ∧
      (s.setWork w).store = s.store ∧ (s.setWork w).live = s.live ∧
      (s.setWork w).header = s.header ∧ (s.setWork w).host = s.host ∧
      (s.setWork w).pending = s.pending :=
  have h := s.setWork_touches w
  ⟨h .powered (by decide), h .ctl (by decide), h .feed (by decide), h .meter (by decide), h .caption (by decide), h .sched (by decide), h .pool (by decide), h .integ (by decide), h .proxy (by decide), h .recorder (by decide), h .extents (by decide), h .panel (by decide), h .devPanel (by decide), h .devPriority (by decide), h .alert (by decide), h .sheet (by decide), h .store (by decide), h .live (by decide), h .header (by decide), h .host (by decide), h .pending (by decide)⟩

@[simp] theorem State.handUpdate_frame (s : State) (x : ExtId) (again : Bool) :
    (s.handUpdate x again).powered = s.powered ∧ (s.handUpdate x again).ctl = s.ctl ∧
      (s.handUpdate x again).feed = s.feed ∧ (s.handUpdate x again).meter = s.meter ∧
      (s.handUpdate x again).caption = s.caption ∧ (s.handUpdate x again).sched = s.sched ∧
      (s.handUpdate x again).pool = s.pool ∧ (s.handUpdate x again).integ = s.integ ∧
      (s.handUpdate x again).proxy = s.proxy ∧ (s.handUpdate x again).recorder = s.recorder ∧
      (s.handUpdate x again).extents = s.extents ∧ (s.handUpdate x again).panel = s.panel ∧
      (s.handUpdate x again).devPanel = s.devPanel ∧ (s.handUpdate x again).devPriority = s.devPriority ∧
      (s.handUpdate x again).alert = s.alert ∧ (s.handUpdate x again).sheet = s.sheet ∧
      (s.handUpdate x again).store = s.store ∧ (s.handUpdate x again).live = s.live ∧
      (s.handUpdate x again).header = s.header ∧ (s.handUpdate x again).host = s.host ∧
      (s.handUpdate x again).pending = s.pending :=
  have h := s.handUpdate_touches x again
  ⟨h .powered (by decide), h .ctl (by decide), h .feed (by decide), h .meter (by decide), h .caption (by decide), h .sched (by decide), h .pool (by decide), h .integ (by decide), h .proxy (by decide), h .recorder (by decide), h .extents (by decide), h .panel (by decide), h .devPanel (by decide), h .devPriority (by decide), h .alert (by decide), h .sheet (by decide), h .store (by decide), h .live (by decide), h .header (by decide), h .host (by decide), h .pending (by decide)⟩

@[simp] theorem State.beginWalk_frame (s : State) (n : Svc) (retest : Bool) (x : ExtId) (rest : List ExtId) :
    (s.beginWalk n retest x rest).powered = s.powered ∧ (s.beginWalk n retest x rest).ctl = s.ctl ∧
      (s.beginWalk n retest x rest).feed = s.feed ∧ (s.beginWalk n retest x rest).meter = s.meter ∧
      (s.beginWalk n retest x rest).caption = s.caption ∧ (s.beginWalk n retest x rest).sched = s.sched ∧
      (s.beginWalk n retest x rest).pool = s.pool ∧ (s.beginWalk n retest x rest).integ = s.integ ∧
      (s.beginWalk n retest x rest).proxy = s.proxy ∧ (s.beginWalk n retest x rest).extents = s.extents ∧
      (s.beginWalk n retest x rest).panel = s.panel ∧ (s.beginWalk n retest x rest).devPanel = s.devPanel ∧
      (s.beginWalk n retest x rest).devPriority = s.devPriority ∧ (s.beginWalk n retest x rest).alert = s.alert ∧
      (s.beginWalk n retest x rest).sheet = s.sheet ∧ (s.beginWalk n retest x rest).store = s.store ∧
      (s.beginWalk n retest x rest).live = s.live ∧ (s.beginWalk n retest x rest).header = s.header ∧
      (s.beginWalk n retest x rest).host = s.host ∧ (s.beginWalk n retest x rest).pending = s.pending :=
  have h := s.beginWalk_touches n retest x rest
  ⟨h .powered (by decide), h .ctl (by decide), h .feed (by decide), h .meter (by decide), h .caption (by decide), h .sched (by decide), h .pool (by decide), h .integ (by decide), h .proxy (by decide), h .extents (by decide), h .panel (by decide), h .devPanel (by decide), h .devPriority (by decide), h .alert (by decide), h .sheet (by decide), h .store (by decide), h .live (by decide), h .header (by decide), h .host (by decide), h .pending (by decide)⟩

@[simp] theorem State.nextRetest_frame (s : State) (ns : List Svc) :
    (s.nextRetest ns).powered = s.powered ∧ (s.nextRetest ns).ctl = s.ctl ∧
      (s.nextRetest ns).feed = s.feed ∧ (s.nextRetest ns).meter = s.meter ∧
      (s.nextRetest ns).caption = s.caption ∧ (s.nextRetest ns).sched = s.sched ∧
      (s.nextRetest ns).pool = s.pool ∧ (s.nextRetest ns).integ = s.integ ∧
      (s.nextRetest ns).proxy = s.proxy ∧ (s.nextRetest ns).extents = s.extents ∧
      (s.nextRetest ns).panel = s.panel ∧ (s.nextRetest ns).devPanel = s.devPanel ∧
      (s.nextRetest ns).devPriority = s.devPriority ∧ (s.nextRetest ns).alert = s.alert ∧
      (s.nextRetest ns).sheet = s.sheet ∧ (s.nextRetest ns).store = s.store ∧
      (s.nextRetest ns).live = s.live ∧ (s.nextRetest ns).header = s.header ∧
      (s.nextRetest ns).host = s.host ∧ (s.nextRetest ns).pending = s.pending :=
  have h := s.nextRetest_touches ns
  ⟨h .powered (by decide), h .ctl (by decide), h .feed (by decide), h .meter (by decide), h .caption (by decide), h .sched (by decide), h .pool (by decide), h .integ (by decide), h .proxy (by decide), h .extents (by decide), h .panel (by decide), h .devPanel (by decide), h .devPriority (by decide), h .alert (by decide), h .sheet (by decide), h .store (by decide), h .live (by decide), h .header (by decide), h .host (by decide), h .pending (by decide)⟩

@[simp] theorem State.turnEnd_frame (s : State) :
    (s.turnEnd).powered = s.powered ∧ (s.turnEnd).ctl = s.ctl ∧
      (s.turnEnd).feed = s.feed ∧ (s.turnEnd).meter = s.meter ∧
      (s.turnEnd).caption = s.caption ∧ (s.turnEnd).sched = s.sched ∧
      (s.turnEnd).pool = s.pool ∧ (s.turnEnd).integ = s.integ ∧
      (s.turnEnd).proxy = s.proxy ∧ (s.turnEnd).extents = s.extents ∧
      (s.turnEnd).panel = s.panel ∧ (s.turnEnd).devPanel = s.devPanel ∧
      (s.turnEnd).devPriority = s.devPriority ∧ (s.turnEnd).alert = s.alert ∧
      (s.turnEnd).sheet = s.sheet ∧ (s.turnEnd).store = s.store ∧
      (s.turnEnd).live = s.live ∧ (s.turnEnd).header = s.header ∧
      (s.turnEnd).host = s.host ∧ (s.turnEnd).pending = s.pending :=
  have h := s.turnEnd_touches
  ⟨h .powered (by decide), h .ctl (by decide), h .feed (by decide), h .meter (by decide), h .caption (by decide), h .sched (by decide), h .pool (by decide), h .integ (by decide), h .proxy (by decide), h .extents (by decide), h .panel (by decide), h .devPanel (by decide), h .devPriority (by decide), h .alert (by decide), h .sheet (by decide), h .store (by decide), h .live (by decide), h .header (by decide), h .host (by decide), h .pending (by decide)⟩

@[simp] theorem State.writeHead_frame (s : State) (n : Svc) :
    (s.writeHead n).powered = s.powered ∧ (s.writeHead n).ctl = s.ctl ∧
      (s.writeHead n).feed = s.feed ∧ (s.writeHead n).meter = s.meter ∧
      (s.writeHead n).caption = s.caption ∧ (s.writeHead n).sched = s.sched ∧
      (s.writeHead n).pool = s.pool ∧ (s.writeHead n).integ = s.integ ∧
      (s.writeHead n).proxy = s.proxy ∧ (s.writeHead n).recorder = s.recorder ∧
      (s.writeHead n).extents = s.extents ∧ (s.writeHead n).panel = s.panel ∧
      (s.writeHead n).devPanel = s.devPanel ∧ (s.writeHead n).devPriority = s.devPriority ∧
      (s.writeHead n).alert = s.alert ∧ (s.writeHead n).sheet = s.sheet ∧
      (s.writeHead n).store = s.store ∧ (s.writeHead n).live = s.live ∧
      (s.writeHead n).header = s.header ∧ (s.writeHead n).host = s.host ∧
      (s.writeHead n).pending = s.pending :=
  have h := s.writeHead_touches n
  ⟨h .powered (by decide), h .ctl (by decide), h .feed (by decide), h .meter (by decide), h .caption (by decide), h .sched (by decide), h .pool (by decide), h .integ (by decide), h .proxy (by decide), h .recorder (by decide), h .extents (by decide), h .panel (by decide), h .devPanel (by decide), h .devPriority (by decide), h .alert (by decide), h .sheet (by decide), h .store (by decide), h .live (by decide), h .header (by decide), h .host (by decide), h .pending (by decide)⟩

@[simp] theorem State.goOn_frame (s : State) (n : Svc) (write : Bool) :
    (s.goOn n write).powered = s.powered ∧ (s.goOn n write).ctl = s.ctl ∧
      (s.goOn n write).feed = s.feed ∧ (s.goOn n write).meter = s.meter ∧
      (s.goOn n write).caption = s.caption ∧ (s.goOn n write).sched = s.sched ∧
      (s.goOn n write).pool = s.pool ∧ (s.goOn n write).integ = s.integ ∧
      (s.goOn n write).proxy = s.proxy ∧ (s.goOn n write).extents = s.extents ∧
      (s.goOn n write).panel = s.panel ∧ (s.goOn n write).devPanel = s.devPanel ∧
      (s.goOn n write).devPriority = s.devPriority ∧ (s.goOn n write).alert = s.alert ∧
      (s.goOn n write).sheet = s.sheet ∧ (s.goOn n write).store = s.store ∧
      (s.goOn n write).live = s.live ∧ (s.goOn n write).header = s.header ∧
      (s.goOn n write).host = s.host ∧ (s.goOn n write).pending = s.pending :=
  have h := s.goOn_touches n write
  ⟨h .powered (by decide), h .ctl (by decide), h .feed (by decide), h .meter (by decide), h .caption (by decide), h .sched (by decide), h .pool (by decide), h .integ (by decide), h .proxy (by decide), h .extents (by decide), h .panel (by decide), h .devPanel (by decide), h .devPriority (by decide), h .alert (by decide), h .sheet (by decide), h .store (by decide), h .live (by decide), h .header (by decide), h .host (by decide), h .pending (by decide)⟩

@[simp] theorem State.endLastBlock_frame (s : State) (n : Svc) (x : ExtId) (found write : Bool) :
    (s.endLastBlock n x found write).powered = s.powered ∧ (s.endLastBlock n x found write).ctl = s.ctl ∧
      (s.endLastBlock n x found write).feed = s.feed ∧ (s.endLastBlock n x found write).meter = s.meter ∧
      (s.endLastBlock n x found write).caption = s.caption ∧ (s.endLastBlock n x found write).sched = s.sched ∧
      (s.endLastBlock n x found write).pool = s.pool ∧ (s.endLastBlock n x found write).integ = s.integ ∧
      (s.endLastBlock n x found write).proxy = s.proxy ∧ (s.endLastBlock n x found write).devPanel = s.devPanel ∧
      (s.endLastBlock n x found write).devPriority = s.devPriority ∧ (s.endLastBlock n x found write).sheet = s.sheet ∧
      (s.endLastBlock n x found write).store = s.store ∧ (s.endLastBlock n x found write).header = s.header ∧
      (s.endLastBlock n x found write).host = s.host ∧ (s.endLastBlock n x found write).pending = s.pending :=
  have h := s.endLastBlock_touches n x found write
  ⟨h .powered (by decide), h .ctl (by decide), h .feed (by decide), h .meter (by decide), h .caption (by decide), h .sched (by decide), h .pool (by decide), h .integ (by decide), h .proxy (by decide), h .devPanel (by decide), h .devPriority (by decide), h .sheet (by decide), h .store (by decide), h .header (by decide), h .host (by decide), h .pending (by decide)⟩

@[simp] theorem State.stepLastBlock_frame (s : State) (n : Svc) (x : ExtId) (rest : List ExtId) (found write : Bool) :
    (s.stepLastBlock n x rest found write).powered = s.powered ∧ (s.stepLastBlock n x rest found write).ctl = s.ctl ∧
      (s.stepLastBlock n x rest found write).feed = s.feed ∧ (s.stepLastBlock n x rest found write).meter = s.meter ∧
      (s.stepLastBlock n x rest found write).caption = s.caption ∧ (s.stepLastBlock n x rest found write).sched = s.sched ∧
      (s.stepLastBlock n x rest found write).pool = s.pool ∧ (s.stepLastBlock n x rest found write).integ = s.integ ∧
      (s.stepLastBlock n x rest found write).proxy = s.proxy ∧ (s.stepLastBlock n x rest found write).devPanel = s.devPanel ∧
      (s.stepLastBlock n x rest found write).devPriority = s.devPriority ∧ (s.stepLastBlock n x rest found write).sheet = s.sheet ∧
      (s.stepLastBlock n x rest found write).store = s.store ∧ (s.stepLastBlock n x rest found write).header = s.header ∧
      (s.stepLastBlock n x rest found write).host = s.host ∧ (s.stepLastBlock n x rest found write).pending = s.pending :=
  have h := s.stepLastBlock_touches n x rest found write
  ⟨h .powered (by decide), h .ctl (by decide), h .feed (by decide), h .meter (by decide), h .caption (by decide), h .sched (by decide), h .pool (by decide), h .integ (by decide), h .proxy (by decide), h .devPanel (by decide), h .devPriority (by decide), h .sheet (by decide), h .store (by decide), h .header (by decide), h .host (by decide), h .pending (by decide)⟩

@[simp] theorem State.startLastBlock_frame (s : State) (n : Svc) (x : ExtId) (write : Bool) :
    (s.startLastBlock n x write).powered = s.powered ∧ (s.startLastBlock n x write).ctl = s.ctl ∧
      (s.startLastBlock n x write).feed = s.feed ∧ (s.startLastBlock n x write).meter = s.meter ∧
      (s.startLastBlock n x write).caption = s.caption ∧ (s.startLastBlock n x write).sched = s.sched ∧
      (s.startLastBlock n x write).pool = s.pool ∧ (s.startLastBlock n x write).integ = s.integ ∧
      (s.startLastBlock n x write).proxy = s.proxy ∧ (s.startLastBlock n x write).devPanel = s.devPanel ∧
      (s.startLastBlock n x write).devPriority = s.devPriority ∧ (s.startLastBlock n x write).sheet = s.sheet ∧
      (s.startLastBlock n x write).store = s.store ∧ (s.startLastBlock n x write).header = s.header ∧
      (s.startLastBlock n x write).host = s.host ∧ (s.startLastBlock n x write).pending = s.pending :=
  have h := s.startLastBlock_touches n x write
  ⟨h .powered (by decide), h .ctl (by decide), h .feed (by decide), h .meter (by decide), h .caption (by decide), h .sched (by decide), h .pool (by decide), h .integ (by decide), h .proxy (by decide), h .devPanel (by decide), h .devPriority (by decide), h .sheet (by decide), h .store (by decide), h .header (by decide), h .host (by decide), h .pending (by decide)⟩

@[simp] theorem State.spanLost_frame (s : State) (o : Svc) (first last : Nat) :
    (s.spanLost o first last).powered = s.powered ∧ (s.spanLost o first last).ctl = s.ctl ∧
      (s.spanLost o first last).feed = s.feed ∧ (s.spanLost o first last).meter = s.meter ∧
      (s.spanLost o first last).caption = s.caption ∧ (s.spanLost o first last).pool = s.pool ∧
      (s.spanLost o first last).integ = s.integ ∧ (s.spanLost o first last).proxy = s.proxy ∧
      (s.spanLost o first last).recorder = s.recorder ∧ (s.spanLost o first last).extents = s.extents ∧
      (s.spanLost o first last).mover = s.mover ∧ (s.spanLost o first last).panel = s.panel ∧
      (s.spanLost o first last).devPanel = s.devPanel ∧ (s.spanLost o first last).devPriority = s.devPriority ∧
      (s.spanLost o first last).alert = s.alert ∧ (s.spanLost o first last).sheet = s.sheet ∧
      (s.spanLost o first last).store = s.store ∧ (s.spanLost o first last).live = s.live ∧
      (s.spanLost o first last).header = s.header ∧ (s.spanLost o first last).host = s.host ∧
      (s.spanLost o first last).pending = s.pending :=
  have h := s.spanLost_touches o first last
  ⟨h .powered (by decide), h .ctl (by decide), h .feed (by decide), h .meter (by decide), h .caption (by decide), h .pool (by decide), h .integ (by decide), h .proxy (by decide), h .recorder (by decide), h .extents (by decide), h .mover (by decide), h .panel (by decide), h .devPanel (by decide), h .devPriority (by decide), h .alert (by decide), h .sheet (by decide), h .store (by decide), h .live (by decide), h .header (by decide), h .host (by decide), h .pending (by decide)⟩

@[simp] theorem State.handRange_frame (s : State) (e : Extent) :
    (s.handRange e).powered = s.powered ∧ (s.handRange e).ctl = s.ctl ∧
      (s.handRange e).feed = s.feed ∧ (s.handRange e).meter = s.meter ∧
      (s.handRange e).caption = s.caption ∧ (s.handRange e).pool = s.pool ∧
      (s.handRange e).integ = s.integ ∧ (s.handRange e).proxy = s.proxy ∧
      (s.handRange e).recorder = s.recorder ∧ (s.handRange e).extents = s.extents ∧
      (s.handRange e).mover = s.mover ∧ (s.handRange e).panel = s.panel ∧
      (s.handRange e).devPanel = s.devPanel ∧ (s.handRange e).devPriority = s.devPriority ∧
      (s.handRange e).alert = s.alert ∧ (s.handRange e).sheet = s.sheet ∧
      (s.handRange e).store = s.store ∧ (s.handRange e).live = s.live ∧
      (s.handRange e).header = s.header ∧ (s.handRange e).host = s.host ∧
      (s.handRange e).pending = s.pending :=
  have h := s.handRange_touches e
  ⟨h .powered (by decide), h .ctl (by decide), h .feed (by decide), h .meter (by decide), h .caption (by decide), h .pool (by decide), h .integ (by decide), h .proxy (by decide), h .recorder (by decide), h .extents (by decide), h .mover (by decide), h .panel (by decide), h .devPanel (by decide), h .devPriority (by decide), h .alert (by decide), h .sheet (by decide), h .store (by decide), h .live (by decide), h .header (by decide), h .host (by decide), h .pending (by decide)⟩

@[simp] theorem State.openExtent_frame (s : State) (n : Svc) (x : ExtId) (d : Descriptor) (retest : Bool) :
    (s.openExtent n x d retest).powered = s.powered ∧ (s.openExtent n x d retest).ctl = s.ctl ∧
      (s.openExtent n x d retest).feed = s.feed ∧ (s.openExtent n x d retest).meter = s.meter ∧
      (s.openExtent n x d retest).caption = s.caption ∧ (s.openExtent n x d retest).pool = s.pool ∧
      (s.openExtent n x d retest).integ = s.integ ∧ (s.openExtent n x d retest).proxy = s.proxy ∧
      (s.openExtent n x d retest).panel = s.panel ∧ (s.openExtent n x d retest).devPanel = s.devPanel ∧
      (s.openExtent n x d retest).devPriority = s.devPriority ∧ (s.openExtent n x d retest).alert = s.alert ∧
      (s.openExtent n x d retest).sheet = s.sheet ∧ (s.openExtent n x d retest).store = s.store ∧
      (s.openExtent n x d retest).live = s.live ∧ (s.openExtent n x d retest).header = s.header ∧
      (s.openExtent n x d retest).host = s.host ∧ (s.openExtent n x d retest).pending = s.pending :=
  have h := s.openExtent_touches n x d retest
  ⟨h .powered (by decide), h .ctl (by decide), h .feed (by decide), h .meter (by decide), h .caption (by decide), h .pool (by decide), h .integ (by decide), h .proxy (by decide), h .panel (by decide), h .devPanel (by decide), h .devPriority (by decide), h .alert (by decide), h .sheet (by decide), h .store (by decide), h .live (by decide), h .header (by decide), h .host (by decide), h .pending (by decide)⟩

@[simp] theorem State.afterOpen_frame (s : State) (n : Svc) (x : ExtId) (write : Bool) :
    (s.afterOpen n x write).powered = s.powered ∧ (s.afterOpen n x write).ctl = s.ctl ∧
      (s.afterOpen n x write).feed = s.feed ∧ (s.afterOpen n x write).meter = s.meter ∧
      (s.afterOpen n x write).caption = s.caption ∧ (s.afterOpen n x write).sched = s.sched ∧
      (s.afterOpen n x write).pool = s.pool ∧ (s.afterOpen n x write).integ = s.integ ∧
      (s.afterOpen n x write).proxy = s.proxy ∧ (s.afterOpen n x write).devPanel = s.devPanel ∧
      (s.afterOpen n x write).devPriority = s.devPriority ∧ (s.afterOpen n x write).sheet = s.sheet ∧
      (s.afterOpen n x write).store = s.store ∧ (s.afterOpen n x write).header = s.header ∧
      (s.afterOpen n x write).host = s.host ∧ (s.afterOpen n x write).pending = s.pending :=
  have h := s.afterOpen_touches n x write
  ⟨h .powered (by decide), h .ctl (by decide), h .feed (by decide), h .meter (by decide), h .caption (by decide), h .sched (by decide), h .pool (by decide), h .integ (by decide), h .proxy (by decide), h .devPanel (by decide), h .devPriority (by decide), h .sheet (by decide), h .store (by decide), h .header (by decide), h .host (by decide), h .pending (by decide)⟩

@[simp] theorem State.closeRecord_frame (s : State) (n : Svc) (x : ExtId) (c : CloseCause) :
    (s.closeRecord n x c).powered = s.powered ∧ (s.closeRecord n x c).ctl = s.ctl ∧
      (s.closeRecord n x c).feed = s.feed ∧ (s.closeRecord n x c).meter = s.meter ∧
      (s.closeRecord n x c).caption = s.caption ∧ (s.closeRecord n x c).sched = s.sched ∧
      (s.closeRecord n x c).pool = s.pool ∧ (s.closeRecord n x c).integ = s.integ ∧
      (s.closeRecord n x c).proxy = s.proxy ∧ (s.closeRecord n x c).mover = s.mover ∧
      (s.closeRecord n x c).panel = s.panel ∧ (s.closeRecord n x c).devPanel = s.devPanel ∧
      (s.closeRecord n x c).devPriority = s.devPriority ∧ (s.closeRecord n x c).alert = s.alert ∧
      (s.closeRecord n x c).sheet = s.sheet ∧ (s.closeRecord n x c).store = s.store ∧
      (s.closeRecord n x c).live = s.live ∧ (s.closeRecord n x c).header = s.header ∧
      (s.closeRecord n x c).host = s.host ∧ (s.closeRecord n x c).pending = s.pending :=
  have h := s.closeRecord_touches n x c
  ⟨h .powered (by decide), h .ctl (by decide), h .feed (by decide), h .meter (by decide), h .caption (by decide), h .sched (by decide), h .pool (by decide), h .integ (by decide), h .proxy (by decide), h .mover (by decide), h .panel (by decide), h .devPanel (by decide), h .devPriority (by decide), h .alert (by decide), h .sheet (by decide), h .store (by decide), h .live (by decide), h .header (by decide), h .host (by decide), h .pending (by decide)⟩

@[simp] theorem State.closeFill_frame (s : State) (n : Svc) (x : ExtId) (c : CloseCause) :
    (s.closeFill n x c).powered = s.powered ∧ (s.closeFill n x c).ctl = s.ctl ∧
      (s.closeFill n x c).feed = s.feed ∧ (s.closeFill n x c).meter = s.meter ∧
      (s.closeFill n x c).caption = s.caption ∧ (s.closeFill n x c).sched = s.sched ∧
      (s.closeFill n x c).pool = s.pool ∧ (s.closeFill n x c).integ = s.integ ∧
      (s.closeFill n x c).proxy = s.proxy ∧ (s.closeFill n x c).panel = s.panel ∧
      (s.closeFill n x c).devPanel = s.devPanel ∧ (s.closeFill n x c).devPriority = s.devPriority ∧
      (s.closeFill n x c).alert = s.alert ∧ (s.closeFill n x c).sheet = s.sheet ∧
      (s.closeFill n x c).store = s.store ∧ (s.closeFill n x c).live = s.live ∧
      (s.closeFill n x c).header = s.header ∧ (s.closeFill n x c).host = s.host ∧
      (s.closeFill n x c).pending = s.pending :=
  have h := s.closeFill_touches n x c
  ⟨h .powered (by decide), h .ctl (by decide), h .feed (by decide), h .meter (by decide), h .caption (by decide), h .sched (by decide), h .pool (by decide), h .integ (by decide), h .proxy (by decide), h .panel (by decide), h .devPanel (by decide), h .devPriority (by decide), h .alert (by decide), h .sheet (by decide), h .store (by decide), h .live (by decide), h .header (by decide), h .host (by decide), h .pending (by decide)⟩

@[simp] theorem State.takeViolation_frame (s : State) (n : Svc) (v : Capture) :
    (s.takeViolation n v).powered = s.powered ∧ (s.takeViolation n v).ctl = s.ctl ∧
      (s.takeViolation n v).feed = s.feed ∧ (s.takeViolation n v).meter = s.meter ∧
      (s.takeViolation n v).caption = s.caption ∧ (s.takeViolation n v).sched = s.sched ∧
      (s.takeViolation n v).pool = s.pool ∧ (s.takeViolation n v).integ = s.integ ∧
      (s.takeViolation n v).proxy = s.proxy ∧ (s.takeViolation n v).extents = s.extents ∧
      (s.takeViolation n v).mover = s.mover ∧ (s.takeViolation n v).devPanel = s.devPanel ∧
      (s.takeViolation n v).devPriority = s.devPriority ∧ (s.takeViolation n v).sheet = s.sheet ∧
      (s.takeViolation n v).store = s.store ∧ (s.takeViolation n v).header = s.header ∧
      (s.takeViolation n v).host = s.host ∧ (s.takeViolation n v).pending = s.pending :=
  have h := s.takeViolation_touches n v
  ⟨h .powered (by decide), h .ctl (by decide), h .feed (by decide), h .meter (by decide), h .caption (by decide), h .sched (by decide), h .pool (by decide), h .integ (by decide), h .proxy (by decide), h .extents (by decide), h .mover (by decide), h .devPanel (by decide), h .devPriority (by decide), h .sheet (by decide), h .store (by decide), h .header (by decide), h .host (by decide), h .pending (by decide)⟩

@[simp] theorem State.stall_frame (s : State) (n : Svc) :
    (s.stall n).powered = s.powered ∧ (s.stall n).ctl = s.ctl ∧
      (s.stall n).feed = s.feed ∧ (s.stall n).meter = s.meter ∧
      (s.stall n).caption = s.caption ∧ (s.stall n).sched = s.sched ∧
      (s.stall n).pool = s.pool ∧ (s.stall n).integ = s.integ ∧
      (s.stall n).proxy = s.proxy ∧ (s.stall n).extents = s.extents ∧
      (s.stall n).mover = s.mover ∧ (s.stall n).panel = s.panel ∧
      (s.stall n).devPanel = s.devPanel ∧ (s.stall n).devPriority = s.devPriority ∧
      (s.stall n).alert = s.alert ∧ (s.stall n).sheet = s.sheet ∧
      (s.stall n).store = s.store ∧ (s.stall n).live = s.live ∧
      (s.stall n).header = s.header ∧ (s.stall n).host = s.host ∧
      (s.stall n).pending = s.pending :=
  have h := s.stall_touches n
  ⟨h .powered (by decide), h .ctl (by decide), h .feed (by decide), h .meter (by decide), h .caption (by decide), h .sched (by decide), h .pool (by decide), h .integ (by decide), h .proxy (by decide), h .extents (by decide), h .mover (by decide), h .panel (by decide), h .devPanel (by decide), h .devPriority (by decide), h .alert (by decide), h .sheet (by decide), h .store (by decide), h .live (by decide), h .header (by decide), h .host (by decide), h .pending (by decide)⟩

@[simp] theorem State.violate_frame (s : State) (n : Svc) (kind : ViolationKind) (x : Option ExtId) :
    (s.violate n kind x).powered = s.powered ∧ (s.violate n kind x).ctl = s.ctl ∧
      (s.violate n kind x).feed = s.feed ∧ (s.violate n kind x).meter = s.meter ∧
      (s.violate n kind x).caption = s.caption ∧ (s.violate n kind x).sched = s.sched ∧
      (s.violate n kind x).pool = s.pool ∧ (s.violate n kind x).integ = s.integ ∧
      (s.violate n kind x).proxy = s.proxy ∧ (s.violate n kind x).extents = s.extents ∧
      (s.violate n kind x).devPanel = s.devPanel ∧ (s.violate n kind x).devPriority = s.devPriority ∧
      (s.violate n kind x).sheet = s.sheet ∧ (s.violate n kind x).store = s.store ∧
      (s.violate n kind x).header = s.header ∧ (s.violate n kind x).host = s.host ∧
      (s.violate n kind x).pending = s.pending :=
  have h := s.violate_touches n kind x
  ⟨h .powered (by decide), h .ctl (by decide), h .feed (by decide), h .meter (by decide), h .caption (by decide), h .sched (by decide), h .pool (by decide), h .integ (by decide), h .proxy (by decide), h .extents (by decide), h .devPanel (by decide), h .devPriority (by decide), h .sheet (by decide), h .store (by decide), h .header (by decide), h .host (by decide), h .pending (by decide)⟩

@[simp] theorem State.stepWalk_frame (s : State) (n : Svc) (retest overwrite : Bool) (rest : List ExtId) :
    (s.stepWalk n retest overwrite rest).powered = s.powered ∧ (s.stepWalk n retest overwrite rest).ctl = s.ctl ∧
      (s.stepWalk n retest overwrite rest).feed = s.feed ∧ (s.stepWalk n retest overwrite rest).meter = s.meter ∧
      (s.stepWalk n retest overwrite rest).caption = s.caption ∧ (s.stepWalk n retest overwrite rest).sched = s.sched ∧
      (s.stepWalk n retest overwrite rest).pool = s.pool ∧ (s.stepWalk n retest overwrite rest).integ = s.integ ∧
      (s.stepWalk n retest overwrite rest).proxy = s.proxy ∧ (s.stepWalk n retest overwrite rest).extents = s.extents ∧
      (s.stepWalk n retest overwrite rest).devPanel = s.devPanel ∧ (s.stepWalk n retest overwrite rest).devPriority = s.devPriority ∧
      (s.stepWalk n retest overwrite rest).sheet = s.sheet ∧ (s.stepWalk n retest overwrite rest).store = s.store ∧
      (s.stepWalk n retest overwrite rest).header = s.header ∧ (s.stepWalk n retest overwrite rest).host = s.host ∧
      (s.stepWalk n retest overwrite rest).pending = s.pending :=
  have h := s.stepWalk_touches n retest overwrite rest
  ⟨h .powered (by decide), h .ctl (by decide), h .feed (by decide), h .meter (by decide), h .caption (by decide), h .sched (by decide), h .pool (by decide), h .integ (by decide), h .proxy (by decide), h .extents (by decide), h .devPanel (by decide), h .devPriority (by decide), h .sheet (by decide), h .store (by decide), h .header (by decide), h .host (by decide), h .pending (by decide)⟩

@[simp] theorem State.walkRead_frame (s : State) (n : Svc) (retest overwrite : Bool) (x : ExtId) (rest : List ExtId) (d : Descriptor) :
    (s.walkRead n retest overwrite x rest d).powered = s.powered ∧ (s.walkRead n retest overwrite x rest d).ctl = s.ctl ∧
      (s.walkRead n retest overwrite x rest d).feed = s.feed ∧ (s.walkRead n retest overwrite x rest d).meter = s.meter ∧
      (s.walkRead n retest overwrite x rest d).caption = s.caption ∧ (s.walkRead n retest overwrite x rest d).pool = s.pool ∧
      (s.walkRead n retest overwrite x rest d).integ = s.integ ∧ (s.walkRead n retest overwrite x rest d).proxy = s.proxy ∧
      (s.walkRead n retest overwrite x rest d).devPanel = s.devPanel ∧ (s.walkRead n retest overwrite x rest d).devPriority = s.devPriority ∧
      (s.walkRead n retest overwrite x rest d).sheet = s.sheet ∧ (s.walkRead n retest overwrite x rest d).store = s.store ∧
      (s.walkRead n retest overwrite x rest d).header = s.header ∧ (s.walkRead n retest overwrite x rest d).host = s.host ∧
      (s.walkRead n retest overwrite x rest d).pending = s.pending :=
  have h := s.walkRead_touches n retest overwrite x rest d
  ⟨h .powered (by decide), h .ctl (by decide), h .feed (by decide), h .meter (by decide), h .caption (by decide), h .pool (by decide), h .integ (by decide), h .proxy (by decide), h .devPanel (by decide), h .devPriority (by decide), h .sheet (by decide), h .store (by decide), h .header (by decide), h .host (by decide), h .pending (by decide)⟩

@[simp] theorem State.turnChoose_frame (s : State) (n : Svc) :
    (s.turnChoose n).powered = s.powered ∧ (s.turnChoose n).ctl = s.ctl ∧
      (s.turnChoose n).feed = s.feed ∧ (s.turnChoose n).meter = s.meter ∧
      (s.turnChoose n).caption = s.caption ∧ (s.turnChoose n).sched = s.sched ∧
      (s.turnChoose n).pool = s.pool ∧ (s.turnChoose n).integ = s.integ ∧
      (s.turnChoose n).proxy = s.proxy ∧ (s.turnChoose n).extents = s.extents ∧
      (s.turnChoose n).panel = s.panel ∧ (s.turnChoose n).devPanel = s.devPanel ∧
      (s.turnChoose n).devPriority = s.devPriority ∧ (s.turnChoose n).alert = s.alert ∧
      (s.turnChoose n).sheet = s.sheet ∧ (s.turnChoose n).store = s.store ∧
      (s.turnChoose n).live = s.live ∧ (s.turnChoose n).header = s.header ∧
      (s.turnChoose n).host = s.host ∧ (s.turnChoose n).pending = s.pending :=
  have h := s.turnChoose_touches n
  ⟨h .powered (by decide), h .ctl (by decide), h .feed (by decide), h .meter (by decide), h .caption (by decide), h .sched (by decide), h .pool (by decide), h .integ (by decide), h .proxy (by decide), h .extents (by decide), h .panel (by decide), h .devPanel (by decide), h .devPriority (by decide), h .alert (by decide), h .sheet (by decide), h .store (by decide), h .live (by decide), h .header (by decide), h .host (by decide), h .pending (by decide)⟩

@[simp] theorem State.turnBoundary_frame (s : State) (n : Svc) :
    (s.turnBoundary n).powered = s.powered ∧ (s.turnBoundary n).ctl = s.ctl ∧
      (s.turnBoundary n).feed = s.feed ∧ (s.turnBoundary n).meter = s.meter ∧
      (s.turnBoundary n).caption = s.caption ∧ (s.turnBoundary n).sched = s.sched ∧
      (s.turnBoundary n).pool = s.pool ∧ (s.turnBoundary n).integ = s.integ ∧
      (s.turnBoundary n).proxy = s.proxy ∧ (s.turnBoundary n).extents = s.extents ∧
      (s.turnBoundary n).panel = s.panel ∧ (s.turnBoundary n).devPanel = s.devPanel ∧
      (s.turnBoundary n).devPriority = s.devPriority ∧ (s.turnBoundary n).alert = s.alert ∧
      (s.turnBoundary n).sheet = s.sheet ∧ (s.turnBoundary n).store = s.store ∧
      (s.turnBoundary n).live = s.live ∧ (s.turnBoundary n).header = s.header ∧
      (s.turnBoundary n).host = s.host ∧ (s.turnBoundary n).pending = s.pending :=
  have h := s.turnBoundary_touches n
  ⟨h .powered (by decide), h .ctl (by decide), h .feed (by decide), h .meter (by decide), h .caption (by decide), h .sched (by decide), h .pool (by decide), h .integ (by decide), h .proxy (by decide), h .extents (by decide), h .panel (by decide), h .devPanel (by decide), h .devPriority (by decide), h .alert (by decide), h .sheet (by decide), h .store (by decide), h .live (by decide), h .header (by decide), h .host (by decide), h .pending (by decide)⟩

@[simp] theorem State.turnOwed_frame (s : State) (n : Svc) :
    (s.turnOwed n).powered = s.powered ∧ (s.turnOwed n).ctl = s.ctl ∧
      (s.turnOwed n).feed = s.feed ∧ (s.turnOwed n).meter = s.meter ∧
      (s.turnOwed n).caption = s.caption ∧ (s.turnOwed n).sched = s.sched ∧
      (s.turnOwed n).pool = s.pool ∧ (s.turnOwed n).integ = s.integ ∧
      (s.turnOwed n).proxy = s.proxy ∧ (s.turnOwed n).extents = s.extents ∧
      (s.turnOwed n).panel = s.panel ∧ (s.turnOwed n).devPanel = s.devPanel ∧
      (s.turnOwed n).devPriority = s.devPriority ∧ (s.turnOwed n).alert = s.alert ∧
      (s.turnOwed n).sheet = s.sheet ∧ (s.turnOwed n).store = s.store ∧
      (s.turnOwed n).live = s.live ∧ (s.turnOwed n).header = s.header ∧
      (s.turnOwed n).host = s.host ∧ (s.turnOwed n).pending = s.pending :=
  have h := s.turnOwed_touches n
  ⟨h .powered (by decide), h .ctl (by decide), h .feed (by decide), h .meter (by decide), h .caption (by decide), h .sched (by decide), h .pool (by decide), h .integ (by decide), h .proxy (by decide), h .extents (by decide), h .panel (by decide), h .devPanel (by decide), h .devPriority (by decide), h .alert (by decide), h .sheet (by decide), h .store (by decide), h .live (by decide), h .header (by decide), h .host (by decide), h .pending (by decide)⟩

@[simp] theorem State.startTurn_frame (s : State) :
    (s.startTurn).powered = s.powered ∧ (s.startTurn).ctl = s.ctl ∧
      (s.startTurn).feed = s.feed ∧ (s.startTurn).meter = s.meter ∧
      (s.startTurn).caption = s.caption ∧ (s.startTurn).sched = s.sched ∧
      (s.startTurn).pool = s.pool ∧ (s.startTurn).integ = s.integ ∧
      (s.startTurn).proxy = s.proxy ∧ (s.startTurn).extents = s.extents ∧
      (s.startTurn).panel = s.panel ∧ (s.startTurn).devPanel = s.devPanel ∧
      (s.startTurn).devPriority = s.devPriority ∧ (s.startTurn).alert = s.alert ∧
      (s.startTurn).sheet = s.sheet ∧ (s.startTurn).store = s.store ∧
      (s.startTurn).live = s.live ∧ (s.startTurn).header = s.header ∧
      (s.startTurn).host = s.host ∧ (s.startTurn).pending = s.pending :=
  have h := s.startTurn_touches
  ⟨h .powered (by decide), h .ctl (by decide), h .feed (by decide), h .meter (by decide), h .caption (by decide), h .sched (by decide), h .pool (by decide), h .integ (by decide), h .proxy (by decide), h .extents (by decide), h .panel (by decide), h .devPanel (by decide), h .devPriority (by decide), h .alert (by decide), h .sheet (by decide), h .store (by decide), h .live (by decide), h .header (by decide), h .host (by decide), h .pending (by decide)⟩

@[simp] theorem State.boundaryJudge_frame (s : State) (n : Svc) (x : ExtId) (resume : Bool) (d : Descriptor) (e : Extent) :
    (s.boundaryJudge n x resume d e).powered = s.powered ∧ (s.boundaryJudge n x resume d e).ctl = s.ctl ∧
      (s.boundaryJudge n x resume d e).feed = s.feed ∧ (s.boundaryJudge n x resume d e).meter = s.meter ∧
      (s.boundaryJudge n x resume d e).caption = s.caption ∧ (s.boundaryJudge n x resume d e).sched = s.sched ∧
      (s.boundaryJudge n x resume d e).pool = s.pool ∧ (s.boundaryJudge n x resume d e).integ = s.integ ∧
      (s.boundaryJudge n x resume d e).proxy = s.proxy ∧ (s.boundaryJudge n x resume d e).devPanel = s.devPanel ∧
      (s.boundaryJudge n x resume d e).devPriority = s.devPriority ∧ (s.boundaryJudge n x resume d e).sheet = s.sheet ∧
      (s.boundaryJudge n x resume d e).store = s.store ∧ (s.boundaryJudge n x resume d e).header = s.header ∧
      (s.boundaryJudge n x resume d e).host = s.host ∧ (s.boundaryJudge n x resume d e).pending = s.pending :=
  have h := s.boundaryJudge_touches n x resume d e
  ⟨h .powered (by decide), h .ctl (by decide), h .feed (by decide), h .meter (by decide), h .caption (by decide), h .sched (by decide), h .pool (by decide), h .integ (by decide), h .proxy (by decide), h .devPanel (by decide), h .devPriority (by decide), h .sheet (by decide), h .store (by decide), h .header (by decide), h .host (by decide), h .pending (by decide)⟩

@[simp] theorem State.boundaryRead_frame (s : State) (n : Svc) (x : ExtId) (resume : Bool) (d : Descriptor) :
    (s.boundaryRead n x resume d).powered = s.powered ∧ (s.boundaryRead n x resume d).ctl = s.ctl ∧
      (s.boundaryRead n x resume d).feed = s.feed ∧ (s.boundaryRead n x resume d).meter = s.meter ∧
      (s.boundaryRead n x resume d).caption = s.caption ∧ (s.boundaryRead n x resume d).sched = s.sched ∧
      (s.boundaryRead n x resume d).pool = s.pool ∧ (s.boundaryRead n x resume d).integ = s.integ ∧
      (s.boundaryRead n x resume d).proxy = s.proxy ∧ (s.boundaryRead n x resume d).devPanel = s.devPanel ∧
      (s.boundaryRead n x resume d).devPriority = s.devPriority ∧ (s.boundaryRead n x resume d).sheet = s.sheet ∧
      (s.boundaryRead n x resume d).store = s.store ∧ (s.boundaryRead n x resume d).header = s.header ∧
      (s.boundaryRead n x resume d).host = s.host ∧ (s.boundaryRead n x resume d).pending = s.pending :=
  have h := s.boundaryRead_touches n x resume d
  ⟨h .powered (by decide), h .ctl (by decide), h .feed (by decide), h .meter (by decide), h .caption (by decide), h .sched (by decide), h .pool (by decide), h .integ (by decide), h .proxy (by decide), h .devPanel (by decide), h .devPriority (by decide), h .sheet (by decide), h .store (by decide), h .header (by decide), h .host (by decide), h .pending (by decide)⟩

@[simp] theorem State.blockBoundary_frame (s : State) (n : Svc) (x : ExtId) :
    (s.blockBoundary n x).powered = s.powered ∧ (s.blockBoundary n x).ctl = s.ctl ∧
      (s.blockBoundary n x).feed = s.feed ∧ (s.blockBoundary n x).meter = s.meter ∧
      (s.blockBoundary n x).caption = s.caption ∧ (s.blockBoundary n x).sched = s.sched ∧
      (s.blockBoundary n x).pool = s.pool ∧ (s.blockBoundary n x).integ = s.integ ∧
      (s.blockBoundary n x).proxy = s.proxy ∧ (s.blockBoundary n x).panel = s.panel ∧
      (s.blockBoundary n x).devPanel = s.devPanel ∧ (s.blockBoundary n x).devPriority = s.devPriority ∧
      (s.blockBoundary n x).alert = s.alert ∧ (s.blockBoundary n x).sheet = s.sheet ∧
      (s.blockBoundary n x).store = s.store ∧ (s.blockBoundary n x).live = s.live ∧
      (s.blockBoundary n x).header = s.header ∧ (s.blockBoundary n x).host = s.host ∧
      (s.blockBoundary n x).pending = s.pending :=
  have h := s.blockBoundary_touches n x
  ⟨h .powered (by decide), h .ctl (by decide), h .feed (by decide), h .meter (by decide), h .caption (by decide), h .sched (by decide), h .pool (by decide), h .integ (by decide), h .proxy (by decide), h .panel (by decide), h .devPanel (by decide), h .devPriority (by decide), h .alert (by decide), h .sheet (by decide), h .store (by decide), h .live (by decide), h .header (by decide), h .host (by decide), h .pending (by decide)⟩

@[simp] theorem State.descriptorTaken_frame (s : State) (x : ExtId) (d : Descriptor) :
    (s.descriptorTaken x d).powered = s.powered ∧ (s.descriptorTaken x d).ctl = s.ctl ∧
      (s.descriptorTaken x d).feed = s.feed ∧ (s.descriptorTaken x d).meter = s.meter ∧
      (s.descriptorTaken x d).caption = s.caption ∧ (s.descriptorTaken x d).pool = s.pool ∧
      (s.descriptorTaken x d).integ = s.integ ∧ (s.descriptorTaken x d).proxy = s.proxy ∧
      (s.descriptorTaken x d).devPanel = s.devPanel ∧ (s.descriptorTaken x d).devPriority = s.devPriority ∧
      (s.descriptorTaken x d).sheet = s.sheet ∧ (s.descriptorTaken x d).store = s.store ∧
      (s.descriptorTaken x d).header = s.header ∧ (s.descriptorTaken x d).host = s.host ∧
      (s.descriptorTaken x d).pending = s.pending :=
  have h := s.descriptorTaken_touches x d
  ⟨h .powered (by decide), h .ctl (by decide), h .feed (by decide), h .meter (by decide), h .caption (by decide), h .pool (by decide), h .integ (by decide), h .proxy (by decide), h .devPanel (by decide), h .devPriority (by decide), h .sheet (by decide), h .store (by decide), h .header (by decide), h .host (by decide), h .pending (by decide)⟩

@[simp] theorem State.descriptorRead_frame (s : State) (x : ExtId) (d : Descriptor) :
    (s.descriptorRead x d).powered = s.powered ∧ (s.descriptorRead x d).feed = s.feed ∧
      (s.descriptorRead x d).meter = s.meter ∧ (s.descriptorRead x d).caption = s.caption ∧
      (s.descriptorRead x d).pool = s.pool ∧ (s.descriptorRead x d).integ = s.integ ∧
      (s.descriptorRead x d).proxy = s.proxy ∧ (s.descriptorRead x d).devPanel = s.devPanel ∧
      (s.descriptorRead x d).devPriority = s.devPriority ∧ (s.descriptorRead x d).sheet = s.sheet ∧
      (s.descriptorRead x d).store = s.store ∧ (s.descriptorRead x d).header = s.header ∧
      (s.descriptorRead x d).host = s.host ∧ (s.descriptorRead x d).pending = s.pending :=
  have h := s.descriptorRead_touches x d
  ⟨h .powered (by decide), h .feed (by decide), h .meter (by decide), h .caption (by decide), h .pool (by decide), h .integ (by decide), h .proxy (by decide), h .devPanel (by decide), h .devPriority (by decide), h .sheet (by decide), h .store (by decide), h .header (by decide), h .host (by decide), h .pending (by decide)⟩

@[simp] theorem State.walkFailed_frame (s : State) :
    (s.walkFailed).powered = s.powered ∧ (s.walkFailed).ctl = s.ctl ∧
      (s.walkFailed).feed = s.feed ∧ (s.walkFailed).meter = s.meter ∧
      (s.walkFailed).caption = s.caption ∧ (s.walkFailed).sched = s.sched ∧
      (s.walkFailed).pool = s.pool ∧ (s.walkFailed).integ = s.integ ∧
      (s.walkFailed).proxy = s.proxy ∧ (s.walkFailed).devPanel = s.devPanel ∧
      (s.walkFailed).devPriority = s.devPriority ∧ (s.walkFailed).sheet = s.sheet ∧
      (s.walkFailed).store = s.store ∧ (s.walkFailed).header = s.header ∧
      (s.walkFailed).host = s.host ∧ (s.walkFailed).pending = s.pending :=
  have h := s.walkFailed_touches
  ⟨h .powered (by decide), h .ctl (by decide), h .feed (by decide), h .meter (by decide), h .caption (by decide), h .sched (by decide), h .pool (by decide), h .integ (by decide), h .proxy (by decide), h .devPanel (by decide), h .devPriority (by decide), h .sheet (by decide), h .store (by decide), h .header (by decide), h .host (by decide), h .pending (by decide)⟩

@[simp] theorem State.descriptorReadFailed_frame (s : State) :
    (s.descriptorReadFailed).powered = s.powered ∧ (s.descriptorReadFailed).ctl = s.ctl ∧
      (s.descriptorReadFailed).feed = s.feed ∧ (s.descriptorReadFailed).meter = s.meter ∧
      (s.descriptorReadFailed).caption = s.caption ∧ (s.descriptorReadFailed).sched = s.sched ∧
      (s.descriptorReadFailed).pool = s.pool ∧ (s.descriptorReadFailed).integ = s.integ ∧
      (s.descriptorReadFailed).proxy = s.proxy ∧ (s.descriptorReadFailed).devPanel = s.devPanel ∧
      (s.descriptorReadFailed).devPriority = s.devPriority ∧ (s.descriptorReadFailed).sheet = s.sheet ∧
      (s.descriptorReadFailed).store = s.store ∧ (s.descriptorReadFailed).header = s.header ∧
      (s.descriptorReadFailed).host = s.host ∧ (s.descriptorReadFailed).pending = s.pending :=
  have h := s.descriptorReadFailed_touches
  ⟨h .powered (by decide), h .ctl (by decide), h .feed (by decide), h .meter (by decide), h .caption (by decide), h .sched (by decide), h .pool (by decide), h .integ (by decide), h .proxy (by decide), h .devPanel (by decide), h .devPriority (by decide), h .sheet (by decide), h .store (by decide), h .header (by decide), h .host (by decide), h .pending (by decide)⟩

@[simp] theorem State.updateEnded_frame (s : State) (x : ExtId) (ended : Bool) :
    (s.updateEnded x ended).powered = s.powered ∧ (s.updateEnded x ended).ctl = s.ctl ∧
      (s.updateEnded x ended).feed = s.feed ∧ (s.updateEnded x ended).meter = s.meter ∧
      (s.updateEnded x ended).caption = s.caption ∧ (s.updateEnded x ended).sched = s.sched ∧
      (s.updateEnded x ended).pool = s.pool ∧ (s.updateEnded x ended).integ = s.integ ∧
      (s.updateEnded x ended).proxy = s.proxy ∧ (s.updateEnded x ended).devPanel = s.devPanel ∧
      (s.updateEnded x ended).devPriority = s.devPriority ∧ (s.updateEnded x ended).sheet = s.sheet ∧
      (s.updateEnded x ended).store = s.store ∧ (s.updateEnded x ended).header = s.header ∧
      (s.updateEnded x ended).host = s.host ∧ (s.updateEnded x ended).pending = s.pending :=
  have h := s.updateEnded_touches x ended
  ⟨h .powered (by decide), h .ctl (by decide), h .feed (by decide), h .meter (by decide), h .caption (by decide), h .sched (by decide), h .pool (by decide), h .integ (by decide), h .proxy (by decide), h .devPanel (by decide), h .devPriority (by decide), h .sheet (by decide), h .store (by decide), h .header (by decide), h .host (by decide), h .pending (by decide)⟩

@[simp] theorem State.updateComplete_frame (s : State) (x : ExtId) :
    (s.updateComplete x).powered = s.powered ∧ (s.updateComplete x).feed = s.feed ∧
      (s.updateComplete x).meter = s.meter ∧ (s.updateComplete x).caption = s.caption ∧
      (s.updateComplete x).sched = s.sched ∧ (s.updateComplete x).pool = s.pool ∧
      (s.updateComplete x).integ = s.integ ∧ (s.updateComplete x).proxy = s.proxy ∧
      (s.updateComplete x).devPanel = s.devPanel ∧ (s.updateComplete x).devPriority = s.devPriority ∧
      (s.updateComplete x).sheet = s.sheet ∧ (s.updateComplete x).store = s.store ∧
      (s.updateComplete x).header = s.header ∧ (s.updateComplete x).pending = s.pending :=
  have h := s.updateComplete_touches x
  ⟨h .powered (by decide), h .feed (by decide), h .meter (by decide), h .caption (by decide), h .sched (by decide), h .pool (by decide), h .integ (by decide), h .proxy (by decide), h .devPanel (by decide), h .devPriority (by decide), h .sheet (by decide), h .store (by decide), h .header (by decide), h .pending (by decide)⟩

@[simp] theorem State.updateFailed_frame (s : State) (x : ExtId) :
    (s.updateFailed x).powered = s.powered ∧ (s.updateFailed x).ctl = s.ctl ∧
      (s.updateFailed x).feed = s.feed ∧ (s.updateFailed x).meter = s.meter ∧
      (s.updateFailed x).caption = s.caption ∧ (s.updateFailed x).sched = s.sched ∧
      (s.updateFailed x).pool = s.pool ∧ (s.updateFailed x).integ = s.integ ∧
      (s.updateFailed x).proxy = s.proxy ∧ (s.updateFailed x).devPanel = s.devPanel ∧
      (s.updateFailed x).devPriority = s.devPriority ∧ (s.updateFailed x).sheet = s.sheet ∧
      (s.updateFailed x).store = s.store ∧ (s.updateFailed x).header = s.header ∧
      (s.updateFailed x).host = s.host ∧ (s.updateFailed x).pending = s.pending :=
  have h := s.updateFailed_touches x
  ⟨h .powered (by decide), h .ctl (by decide), h .feed (by decide), h .meter (by decide), h .caption (by decide), h .sched (by decide), h .pool (by decide), h .integ (by decide), h .proxy (by decide), h .devPanel (by decide), h .devPriority (by decide), h .sheet (by decide), h .store (by decide), h .header (by decide), h .host (by decide), h .pending (by decide)⟩

@[simp] theorem State.unitWritten_frame (s : State) (n : Svc) (x : ExtId) (u : SpoolUnit) :
    (s.unitWritten n x u).powered = s.powered ∧ (s.unitWritten n x u).feed = s.feed ∧
      (s.unitWritten n x u).meter = s.meter ∧ (s.unitWritten n x u).caption = s.caption ∧
      (s.unitWritten n x u).sched = s.sched ∧ (s.unitWritten n x u).pool = s.pool ∧
      (s.unitWritten n x u).integ = s.integ ∧ (s.unitWritten n x u).mover = s.mover ∧
      (s.unitWritten n x u).panel = s.panel ∧ (s.unitWritten n x u).devPanel = s.devPanel ∧
      (s.unitWritten n x u).devPriority = s.devPriority ∧ (s.unitWritten n x u).alert = s.alert ∧
      (s.unitWritten n x u).sheet = s.sheet ∧ (s.unitWritten n x u).store = s.store ∧
      (s.unitWritten n x u).live = s.live ∧ (s.unitWritten n x u).header = s.header ∧
      (s.unitWritten n x u).pending = s.pending :=
  have h := s.unitWritten_touches n x u
  ⟨h .powered (by decide), h .feed (by decide), h .meter (by decide), h .caption (by decide), h .sched (by decide), h .pool (by decide), h .integ (by decide), h .mover (by decide), h .panel (by decide), h .devPanel (by decide), h .devPriority (by decide), h .alert (by decide), h .sheet (by decide), h .store (by decide), h .live (by decide), h .header (by decide), h .pending (by decide)⟩

@[simp] theorem State.closeCurrent_frame (s : State) (n : Svc) :
    (s.closeCurrent n).powered = s.powered ∧ (s.closeCurrent n).ctl = s.ctl ∧
      (s.closeCurrent n).feed = s.feed ∧ (s.closeCurrent n).meter = s.meter ∧
      (s.closeCurrent n).caption = s.caption ∧ (s.closeCurrent n).sched = s.sched ∧
      (s.closeCurrent n).pool = s.pool ∧ (s.closeCurrent n).integ = s.integ ∧
      (s.closeCurrent n).proxy = s.proxy ∧ (s.closeCurrent n).mover = s.mover ∧
      (s.closeCurrent n).panel = s.panel ∧ (s.closeCurrent n).devPanel = s.devPanel ∧
      (s.closeCurrent n).devPriority = s.devPriority ∧ (s.closeCurrent n).alert = s.alert ∧
      (s.closeCurrent n).sheet = s.sheet ∧ (s.closeCurrent n).store = s.store ∧
      (s.closeCurrent n).live = s.live ∧ (s.closeCurrent n).header = s.header ∧
      (s.closeCurrent n).host = s.host ∧ (s.closeCurrent n).pending = s.pending :=
  have h := s.closeCurrent_touches n
  ⟨h .powered (by decide), h .ctl (by decide), h .feed (by decide), h .meter (by decide), h .caption (by decide), h .sched (by decide), h .pool (by decide), h .integ (by decide), h .proxy (by decide), h .mover (by decide), h .panel (by decide), h .devPanel (by decide), h .devPriority (by decide), h .alert (by decide), h .sheet (by decide), h .store (by decide), h .live (by decide), h .header (by decide), h .host (by decide), h .pending (by decide)⟩

@[simp] theorem State.unlinkRecorder_frame (s : State) (n : Svc) :
    (s.unlinkRecorder n).powered = s.powered ∧ (s.unlinkRecorder n).ctl = s.ctl ∧
      (s.unlinkRecorder n).feed = s.feed ∧ (s.unlinkRecorder n).meter = s.meter ∧
      (s.unlinkRecorder n).caption = s.caption ∧ (s.unlinkRecorder n).sched = s.sched ∧
      (s.unlinkRecorder n).pool = s.pool ∧ (s.unlinkRecorder n).integ = s.integ ∧
      (s.unlinkRecorder n).proxy = s.proxy ∧ (s.unlinkRecorder n).mover = s.mover ∧
      (s.unlinkRecorder n).panel = s.panel ∧ (s.unlinkRecorder n).devPanel = s.devPanel ∧
      (s.unlinkRecorder n).devPriority = s.devPriority ∧ (s.unlinkRecorder n).alert = s.alert ∧
      (s.unlinkRecorder n).sheet = s.sheet ∧ (s.unlinkRecorder n).store = s.store ∧
      (s.unlinkRecorder n).live = s.live ∧ (s.unlinkRecorder n).header = s.header ∧
      (s.unlinkRecorder n).host = s.host ∧ (s.unlinkRecorder n).pending = s.pending :=
  have h := s.unlinkRecorder_touches n
  ⟨h .powered (by decide), h .ctl (by decide), h .feed (by decide), h .meter (by decide), h .caption (by decide), h .sched (by decide), h .pool (by decide), h .integ (by decide), h .proxy (by decide), h .mover (by decide), h .panel (by decide), h .devPanel (by decide), h .devPriority (by decide), h .alert (by decide), h .sheet (by decide), h .store (by decide), h .live (by decide), h .header (by decide), h .host (by decide), h .pending (by decide)⟩

@[simp] theorem State.retryOwed_frame (s : State) (x : Option ExtId) :
    (s.retryOwed x).powered = s.powered ∧ (s.retryOwed x).ctl = s.ctl ∧
      (s.retryOwed x).feed = s.feed ∧ (s.retryOwed x).meter = s.meter ∧
      (s.retryOwed x).caption = s.caption ∧ (s.retryOwed x).sched = s.sched ∧
      (s.retryOwed x).pool = s.pool ∧ (s.retryOwed x).integ = s.integ ∧
      (s.retryOwed x).proxy = s.proxy ∧ (s.retryOwed x).recorder = s.recorder ∧
      (s.retryOwed x).extents = s.extents ∧ (s.retryOwed x).panel = s.panel ∧
      (s.retryOwed x).devPanel = s.devPanel ∧ (s.retryOwed x).devPriority = s.devPriority ∧
      (s.retryOwed x).alert = s.alert ∧ (s.retryOwed x).sheet = s.sheet ∧
      (s.retryOwed x).store = s.store ∧ (s.retryOwed x).live = s.live ∧
      (s.retryOwed x).header = s.header ∧ (s.retryOwed x).host = s.host ∧
      (s.retryOwed x).pending = s.pending :=
  have h := s.retryOwed_touches x
  ⟨h .powered (by decide), h .ctl (by decide), h .feed (by decide), h .meter (by decide), h .caption (by decide), h .sched (by decide), h .pool (by decide), h .integ (by decide), h .proxy (by decide), h .recorder (by decide), h .extents (by decide), h .panel (by decide), h .devPanel (by decide), h .devPriority (by decide), h .alert (by decide), h .sheet (by decide), h .store (by decide), h .live (by decide), h .header (by decide), h .host (by decide), h .pending (by decide)⟩

@[simp] theorem State.handFor_frame (s : State) (x : Option ExtId) :
    (s.handFor x).powered = s.powered ∧ (s.handFor x).ctl = s.ctl ∧
      (s.handFor x).feed = s.feed ∧ (s.handFor x).meter = s.meter ∧
      (s.handFor x).caption = s.caption ∧ (s.handFor x).sched = s.sched ∧
      (s.handFor x).pool = s.pool ∧ (s.handFor x).integ = s.integ ∧
      (s.handFor x).proxy = s.proxy ∧ (s.handFor x).recorder = s.recorder ∧
      (s.handFor x).extents = s.extents ∧ (s.handFor x).panel = s.panel ∧
      (s.handFor x).devPanel = s.devPanel ∧ (s.handFor x).devPriority = s.devPriority ∧
      (s.handFor x).alert = s.alert ∧ (s.handFor x).sheet = s.sheet ∧
      (s.handFor x).store = s.store ∧ (s.handFor x).live = s.live ∧
      (s.handFor x).header = s.header ∧ (s.handFor x).host = s.host ∧
      (s.handFor x).pending = s.pending :=
  have h := s.handFor_touches x
  ⟨h .powered (by decide), h .ctl (by decide), h .feed (by decide), h .meter (by decide), h .caption (by decide), h .sched (by decide), h .pool (by decide), h .integ (by decide), h .proxy (by decide), h .recorder (by decide), h .extents (by decide), h .panel (by decide), h .devPanel (by decide), h .devPriority (by decide), h .alert (by decide), h .sheet (by decide), h .store (by decide), h .live (by decide), h .header (by decide), h .host (by decide), h .pending (by decide)⟩

@[simp] theorem State.unlinkFill_frame (s : State) (n : Svc) :
    (s.unlinkFill n).powered = s.powered ∧ (s.unlinkFill n).ctl = s.ctl ∧
      (s.unlinkFill n).feed = s.feed ∧ (s.unlinkFill n).meter = s.meter ∧
      (s.unlinkFill n).caption = s.caption ∧ (s.unlinkFill n).sched = s.sched ∧
      (s.unlinkFill n).pool = s.pool ∧ (s.unlinkFill n).integ = s.integ ∧
      (s.unlinkFill n).proxy = s.proxy ∧ (s.unlinkFill n).panel = s.panel ∧
      (s.unlinkFill n).devPanel = s.devPanel ∧ (s.unlinkFill n).devPriority = s.devPriority ∧
      (s.unlinkFill n).alert = s.alert ∧ (s.unlinkFill n).sheet = s.sheet ∧
      (s.unlinkFill n).store = s.store ∧ (s.unlinkFill n).live = s.live ∧
      (s.unlinkFill n).header = s.header ∧ (s.unlinkFill n).host = s.host ∧
      (s.unlinkFill n).pending = s.pending :=
  have h := s.unlinkFill_touches n
  ⟨h .powered (by decide), h .ctl (by decide), h .feed (by decide), h .meter (by decide), h .caption (by decide), h .sched (by decide), h .pool (by decide), h .integ (by decide), h .proxy (by decide), h .panel (by decide), h .devPanel (by decide), h .devPriority (by decide), h .alert (by decide), h .sheet (by decide), h .store (by decide), h .live (by decide), h .header (by decide), h .host (by decide), h .pending (by decide)⟩

@[simp] theorem State.unlinkFills_frame (s : State) :
    (s.unlinkFills).powered = s.powered ∧ (s.unlinkFills).ctl = s.ctl ∧
      (s.unlinkFills).feed = s.feed ∧ (s.unlinkFills).meter = s.meter ∧
      (s.unlinkFills).caption = s.caption ∧ (s.unlinkFills).sched = s.sched ∧
      (s.unlinkFills).pool = s.pool ∧ (s.unlinkFills).integ = s.integ ∧
      (s.unlinkFills).proxy = s.proxy ∧ (s.unlinkFills).panel = s.panel ∧
      (s.unlinkFills).devPanel = s.devPanel ∧ (s.unlinkFills).devPriority = s.devPriority ∧
      (s.unlinkFills).alert = s.alert ∧ (s.unlinkFills).sheet = s.sheet ∧
      (s.unlinkFills).store = s.store ∧ (s.unlinkFills).live = s.live ∧
      (s.unlinkFills).header = s.header ∧ (s.unlinkFills).host = s.host ∧
      (s.unlinkFills).pending = s.pending :=
  have h := s.unlinkFills_touches
  ⟨h .powered (by decide), h .ctl (by decide), h .feed (by decide), h .meter (by decide), h .caption (by decide), h .sched (by decide), h .pool (by decide), h .integ (by decide), h .proxy (by decide), h .panel (by decide), h .devPanel (by decide), h .devPriority (by decide), h .alert (by decide), h .sheet (by decide), h .store (by decide), h .live (by decide), h .header (by decide), h .host (by decide), h .pending (by decide)⟩

@[simp] theorem State.moverUnlink_frame (s : State) :
    (s.moverUnlink).powered = s.powered ∧ (s.moverUnlink).ctl = s.ctl ∧
      (s.moverUnlink).feed = s.feed ∧ (s.moverUnlink).meter = s.meter ∧
      (s.moverUnlink).caption = s.caption ∧ (s.moverUnlink).sched = s.sched ∧
      (s.moverUnlink).pool = s.pool ∧ (s.moverUnlink).integ = s.integ ∧
      (s.moverUnlink).proxy = s.proxy ∧ (s.moverUnlink).panel = s.panel ∧
      (s.moverUnlink).devPanel = s.devPanel ∧ (s.moverUnlink).devPriority = s.devPriority ∧
      (s.moverUnlink).alert = s.alert ∧ (s.moverUnlink).sheet = s.sheet ∧
      (s.moverUnlink).store = s.store ∧ (s.moverUnlink).live = s.live ∧
      (s.moverUnlink).header = s.header ∧ (s.moverUnlink).host = s.host ∧
      (s.moverUnlink).pending = s.pending :=
  have h := s.moverUnlink_touches
  ⟨h .powered (by decide), h .ctl (by decide), h .feed (by decide), h .meter (by decide), h .caption (by decide), h .sched (by decide), h .pool (by decide), h .integ (by decide), h .proxy (by decide), h .panel (by decide), h .devPanel (by decide), h .devPriority (by decide), h .alert (by decide), h .sheet (by decide), h .store (by decide), h .live (by decide), h .header (by decide), h .host (by decide), h .pending (by decide)⟩

@[simp] theorem State.moverFault_frame (s : State) :
    (s.moverFault).powered = s.powered ∧ (s.moverFault).ctl = s.ctl ∧
      (s.moverFault).feed = s.feed ∧ (s.moverFault).meter = s.meter ∧
      (s.moverFault).caption = s.caption ∧ (s.moverFault).sched = s.sched ∧
      (s.moverFault).pool = s.pool ∧ (s.moverFault).integ = s.integ ∧
      (s.moverFault).proxy = s.proxy ∧ (s.moverFault).panel = s.panel ∧
      (s.moverFault).devPanel = s.devPanel ∧ (s.moverFault).devPriority = s.devPriority ∧
      (s.moverFault).alert = s.alert ∧ (s.moverFault).sheet = s.sheet ∧
      (s.moverFault).store = s.store ∧ (s.moverFault).live = s.live ∧
      (s.moverFault).header = s.header ∧ (s.moverFault).host = s.host ∧
      (s.moverFault).pending = s.pending :=
  have h := s.moverFault_touches
  ⟨h .powered (by decide), h .ctl (by decide), h .feed (by decide), h .meter (by decide), h .caption (by decide), h .sched (by decide), h .pool (by decide), h .integ (by decide), h .proxy (by decide), h .panel (by decide), h .devPanel (by decide), h .devPriority (by decide), h .alert (by decide), h .sheet (by decide), h .store (by decide), h .live (by decide), h .header (by decide), h .host (by decide), h .pending (by decide)⟩

@[simp] theorem State.afterUnit_frame (s : State) (n : Svc) (x : ExtId) :
    (s.afterUnit n x).powered = s.powered ∧ (s.afterUnit n x).ctl = s.ctl ∧
      (s.afterUnit n x).feed = s.feed ∧ (s.afterUnit n x).meter = s.meter ∧
      (s.afterUnit n x).caption = s.caption ∧ (s.afterUnit n x).sched = s.sched ∧
      (s.afterUnit n x).pool = s.pool ∧ (s.afterUnit n x).integ = s.integ ∧
      (s.afterUnit n x).proxy = s.proxy ∧ (s.afterUnit n x).panel = s.panel ∧
      (s.afterUnit n x).devPanel = s.devPanel ∧ (s.afterUnit n x).devPriority = s.devPriority ∧
      (s.afterUnit n x).alert = s.alert ∧ (s.afterUnit n x).sheet = s.sheet ∧
      (s.afterUnit n x).store = s.store ∧ (s.afterUnit n x).live = s.live ∧
      (s.afterUnit n x).header = s.header ∧ (s.afterUnit n x).host = s.host ∧
      (s.afterUnit n x).pending = s.pending :=
  have h := s.afterUnit_touches n x
  ⟨h .powered (by decide), h .ctl (by decide), h .feed (by decide), h .meter (by decide), h .caption (by decide), h .sched (by decide), h .pool (by decide), h .integ (by decide), h .proxy (by decide), h .panel (by decide), h .devPanel (by decide), h .devPriority (by decide), h .alert (by decide), h .sheet (by decide), h .store (by decide), h .live (by decide), h .header (by decide), h .host (by decide), h .pending (by decide)⟩

@[simp] theorem State.unitWriteFailed_frame (s : State) :
    (s.unitWriteFailed).powered = s.powered ∧ (s.unitWriteFailed).ctl = s.ctl ∧
      (s.unitWriteFailed).feed = s.feed ∧ (s.unitWriteFailed).meter = s.meter ∧
      (s.unitWriteFailed).caption = s.caption ∧ (s.unitWriteFailed).sched = s.sched ∧
      (s.unitWriteFailed).pool = s.pool ∧ (s.unitWriteFailed).integ = s.integ ∧
      (s.unitWriteFailed).proxy = s.proxy ∧ (s.unitWriteFailed).panel = s.panel ∧
      (s.unitWriteFailed).devPanel = s.devPanel ∧ (s.unitWriteFailed).devPriority = s.devPriority ∧
      (s.unitWriteFailed).alert = s.alert ∧ (s.unitWriteFailed).sheet = s.sheet ∧
      (s.unitWriteFailed).store = s.store ∧ (s.unitWriteFailed).live = s.live ∧
      (s.unitWriteFailed).header = s.header ∧ (s.unitWriteFailed).host = s.host ∧
      (s.unitWriteFailed).pending = s.pending :=
  have h := s.unitWriteFailed_touches
  ⟨h .powered (by decide), h .ctl (by decide), h .feed (by decide), h .meter (by decide), h .caption (by decide), h .sched (by decide), h .pool (by decide), h .integ (by decide), h .proxy (by decide), h .panel (by decide), h .devPanel (by decide), h .devPriority (by decide), h .alert (by decide), h .sheet (by decide), h .store (by decide), h .live (by decide), h .header (by decide), h .host (by decide), h .pending (by decide)⟩

@[simp] theorem State.takeCaptureAck_frame (s : State) (n : Svc) (ack : BitVec 16) :
    (s.takeCaptureAck n ack).powered = s.powered ∧ (s.takeCaptureAck n ack).ctl = s.ctl ∧
      (s.takeCaptureAck n ack).feed = s.feed ∧ (s.takeCaptureAck n ack).meter = s.meter ∧
      (s.takeCaptureAck n ack).caption = s.caption ∧ (s.takeCaptureAck n ack).sched = s.sched ∧
      (s.takeCaptureAck n ack).pool = s.pool ∧ (s.takeCaptureAck n ack).integ = s.integ ∧
      (s.takeCaptureAck n ack).proxy = s.proxy ∧ (s.takeCaptureAck n ack).extents = s.extents ∧
      (s.takeCaptureAck n ack).mover = s.mover ∧ (s.takeCaptureAck n ack).devPanel = s.devPanel ∧
      (s.takeCaptureAck n ack).devPriority = s.devPriority ∧ (s.takeCaptureAck n ack).sheet = s.sheet ∧
      (s.takeCaptureAck n ack).store = s.store ∧ (s.takeCaptureAck n ack).header = s.header ∧
      (s.takeCaptureAck n ack).host = s.host ∧ (s.takeCaptureAck n ack).pending = s.pending :=
  have h := s.takeCaptureAck_touches n ack
  ⟨h .powered (by decide), h .ctl (by decide), h .feed (by decide), h .meter (by decide), h .caption (by decide), h .sched (by decide), h .pool (by decide), h .integ (by decide), h .proxy (by decide), h .extents (by decide), h .mover (by decide), h .devPanel (by decide), h .devPriority (by decide), h .sheet (by decide), h .store (by decide), h .header (by decide), h .host (by decide), h .pending (by decide)⟩

@[simp] theorem State.moverLink_frame (s : State) :
    (s.moverLink).powered = s.powered ∧ (s.moverLink).ctl = s.ctl ∧
      (s.moverLink).feed = s.feed ∧ (s.moverLink).meter = s.meter ∧
      (s.moverLink).caption = s.caption ∧ (s.moverLink).sched = s.sched ∧
      (s.moverLink).pool = s.pool ∧ (s.moverLink).integ = s.integ ∧
      (s.moverLink).proxy = s.proxy ∧ (s.moverLink).panel = s.panel ∧
      (s.moverLink).devPanel = s.devPanel ∧ (s.moverLink).devPriority = s.devPriority ∧
      (s.moverLink).alert = s.alert ∧ (s.moverLink).sheet = s.sheet ∧
      (s.moverLink).store = s.store ∧ (s.moverLink).live = s.live ∧
      (s.moverLink).header = s.header ∧ (s.moverLink).host = s.host ∧
      (s.moverLink).pending = s.pending :=
  have h := s.moverLink_touches
  ⟨h .powered (by decide), h .ctl (by decide), h .feed (by decide), h .meter (by decide), h .caption (by decide), h .sched (by decide), h .pool (by decide), h .integ (by decide), h .proxy (by decide), h .panel (by decide), h .devPanel (by decide), h .devPriority (by decide), h .alert (by decide), h .sheet (by decide), h .store (by decide), h .live (by decide), h .header (by decide), h .host (by decide), h .pending (by decide)⟩

/-! ### Machine/Archive.lean -/

@[simp] theorem State.unitDone_frame (s : State) :
    (s.unitDone).powered = s.powered ∧ (s.unitDone).feed = s.feed ∧
      (s.unitDone).meter = s.meter ∧ (s.unitDone).caption = s.caption ∧
      (s.unitDone).sched = s.sched ∧ (s.unitDone).pool = s.pool ∧
      (s.unitDone).integ = s.integ ∧ (s.unitDone).panel = s.panel ∧
      (s.unitDone).devPanel = s.devPanel ∧ (s.unitDone).devPriority = s.devPriority ∧
      (s.unitDone).alert = s.alert ∧ (s.unitDone).sheet = s.sheet ∧
      (s.unitDone).store = s.store ∧ (s.unitDone).live = s.live ∧
      (s.unitDone).header = s.header ∧ (s.unitDone).pending = s.pending :=
  have h := s.unitDone_touches
  ⟨h .powered (by decide), h .feed (by decide), h .meter (by decide), h .caption (by decide), h .sched (by decide), h .pool (by decide), h .integ (by decide), h .panel (by decide), h .devPanel (by decide), h .devPriority (by decide), h .alert (by decide), h .sheet (by decide), h .store (by decide), h .live (by decide), h .header (by decide), h .pending (by decide)⟩

/-! ### Machine/Sheets.lean -/

@[simp] theorem State.refuseSheet_frame (s : State) (n : Svc) (rev : BitVec 32) (c : SheetCause) :
    (s.refuseSheet n rev c).powered = s.powered ∧ (s.refuseSheet n rev c).ctl = s.ctl ∧
      (s.refuseSheet n rev c).feed = s.feed ∧ (s.refuseSheet n rev c).meter = s.meter ∧
      (s.refuseSheet n rev c).caption = s.caption ∧ (s.refuseSheet n rev c).sched = s.sched ∧
      (s.refuseSheet n rev c).pool = s.pool ∧ (s.refuseSheet n rev c).integ = s.integ ∧
      (s.refuseSheet n rev c).proxy = s.proxy ∧ (s.refuseSheet n rev c).recorder = s.recorder ∧
      (s.refuseSheet n rev c).extents = s.extents ∧ (s.refuseSheet n rev c).mover = s.mover ∧
      (s.refuseSheet n rev c).devPanel = s.devPanel ∧ (s.refuseSheet n rev c).devPriority = s.devPriority ∧
      (s.refuseSheet n rev c).store = s.store ∧ (s.refuseSheet n rev c).header = s.header ∧
      (s.refuseSheet n rev c).host = s.host ∧ (s.refuseSheet n rev c).pending = s.pending :=
  have h := s.refuseSheet_touches n rev c
  ⟨h .powered (by decide), h .ctl (by decide), h .feed (by decide), h .meter (by decide), h .caption (by decide), h .sched (by decide), h .pool (by decide), h .integ (by decide), h .proxy (by decide), h .recorder (by decide), h .extents (by decide), h .mover (by decide), h .devPanel (by decide), h .devPriority (by decide), h .store (by decide), h .header (by decide), h .host (by decide), h .pending (by decide)⟩

@[simp] theorem State.disable_frame (s : State) (n : Svc) :
    (s.disable n).powered = s.powered ∧ (s.disable n).ctl = s.ctl ∧
      (s.disable n).proxy = s.proxy ∧ (s.disable n).extents = s.extents ∧
      (s.disable n).mover = s.mover ∧ (s.disable n).devPanel = s.devPanel ∧
      (s.disable n).devPriority = s.devPriority ∧ (s.disable n).sheet = s.sheet ∧
      (s.disable n).store = s.store ∧ (s.disable n).header = s.header ∧
      (s.disable n).host = s.host ∧ (s.disable n).pending = s.pending :=
  have h := s.disable_touches n
  ⟨h .powered (by decide), h .ctl (by decide), h .proxy (by decide), h .extents (by decide), h .mover (by decide), h .devPanel (by decide), h .devPriority (by decide), h .sheet (by decide), h .store (by decide), h .header (by decide), h .host (by decide), h .pending (by decide)⟩

@[simp] theorem State.stopServiceReminders_frame (s : State) (n : Svc) :
    (s.stopServiceReminders n).powered = s.powered ∧ (s.stopServiceReminders n).ctl = s.ctl ∧
      (s.stopServiceReminders n).feed = s.feed ∧ (s.stopServiceReminders n).meter = s.meter ∧
      (s.stopServiceReminders n).caption = s.caption ∧ (s.stopServiceReminders n).sched = s.sched ∧
      (s.stopServiceReminders n).pool = s.pool ∧ (s.stopServiceReminders n).integ = s.integ ∧
      (s.stopServiceReminders n).proxy = s.proxy ∧ (s.stopServiceReminders n).recorder = s.recorder ∧
      (s.stopServiceReminders n).extents = s.extents ∧ (s.stopServiceReminders n).mover = s.mover ∧
      (s.stopServiceReminders n).devPanel = s.devPanel ∧ (s.stopServiceReminders n).devPriority = s.devPriority ∧
      (s.stopServiceReminders n).alert = s.alert ∧ (s.stopServiceReminders n).sheet = s.sheet ∧
      (s.stopServiceReminders n).store = s.store ∧ (s.stopServiceReminders n).header = s.header ∧
      (s.stopServiceReminders n).host = s.host ∧ (s.stopServiceReminders n).pending = s.pending :=
  have h := s.stopServiceReminders_touches n
  ⟨h .powered (by decide), h .ctl (by decide), h .feed (by decide), h .meter (by decide), h .caption (by decide), h .sched (by decide), h .pool (by decide), h .integ (by decide), h .proxy (by decide), h .recorder (by decide), h .extents (by decide), h .mover (by decide), h .devPanel (by decide), h .devPriority (by decide), h .alert (by decide), h .sheet (by decide), h .store (by decide), h .header (by decide), h .host (by decide), h .pending (by decide)⟩

@[simp] theorem State.touchPriorities_frame (s : State) (n : Svc) (old : Sheet) :
    (s.touchPriorities n old).powered = s.powered ∧ (s.touchPriorities n old).ctl = s.ctl ∧
      (s.touchPriorities n old).feed = s.feed ∧ (s.touchPriorities n old).meter = s.meter ∧
      (s.touchPriorities n old).caption = s.caption ∧ (s.touchPriorities n old).sched = s.sched ∧
      (s.touchPriorities n old).pool = s.pool ∧ (s.touchPriorities n old).integ = s.integ ∧
      (s.touchPriorities n old).proxy = s.proxy ∧ (s.touchPriorities n old).recorder = s.recorder ∧
      (s.touchPriorities n old).extents = s.extents ∧ (s.touchPriorities n old).mover = s.mover ∧
      (s.touchPriorities n old).devPanel = s.devPanel ∧ (s.touchPriorities n old).devPriority = s.devPriority ∧
      (s.touchPriorities n old).alert = s.alert ∧ (s.touchPriorities n old).sheet = s.sheet ∧
      (s.touchPriorities n old).store = s.store ∧ (s.touchPriorities n old).header = s.header ∧
      (s.touchPriorities n old).host = s.host ∧ (s.touchPriorities n old).pending = s.pending :=
  have h := s.touchPriorities_touches n old
  ⟨h .powered (by decide), h .ctl (by decide), h .feed (by decide), h .meter (by decide), h .caption (by decide), h .sched (by decide), h .pool (by decide), h .integ (by decide), h .proxy (by decide), h .recorder (by decide), h .extents (by decide), h .mover (by decide), h .devPanel (by decide), h .devPriority (by decide), h .alert (by decide), h .sheet (by decide), h .store (by decide), h .header (by decide), h .host (by decide), h .pending (by decide)⟩

@[simp] theorem State.adoptAlerting_frame (s : State) (n : Svc) (old new : Sheet) :
    (s.adoptAlerting n old new).powered = s.powered ∧ (s.adoptAlerting n old new).ctl = s.ctl ∧
      (s.adoptAlerting n old new).feed = s.feed ∧ (s.adoptAlerting n old new).meter = s.meter ∧
      (s.adoptAlerting n old new).caption = s.caption ∧ (s.adoptAlerting n old new).sched = s.sched ∧
      (s.adoptAlerting n old new).pool = s.pool ∧ (s.adoptAlerting n old new).integ = s.integ ∧
      (s.adoptAlerting n old new).proxy = s.proxy ∧ (s.adoptAlerting n old new).recorder = s.recorder ∧
      (s.adoptAlerting n old new).extents = s.extents ∧ (s.adoptAlerting n old new).mover = s.mover ∧
      (s.adoptAlerting n old new).devPanel = s.devPanel ∧ (s.adoptAlerting n old new).devPriority = s.devPriority ∧
      (s.adoptAlerting n old new).store = s.store ∧ (s.adoptAlerting n old new).header = s.header ∧
      (s.adoptAlerting n old new).host = s.host ∧ (s.adoptAlerting n old new).pending = s.pending :=
  have h := s.adoptAlerting_touches n old new
  ⟨h .powered (by decide), h .ctl (by decide), h .feed (by decide), h .meter (by decide), h .caption (by decide), h .sched (by decide), h .pool (by decide), h .integ (by decide), h .proxy (by decide), h .recorder (by decide), h .extents (by decide), h .mover (by decide), h .devPanel (by decide), h .devPriority (by decide), h .store (by decide), h .header (by decide), h .host (by decide), h .pending (by decide)⟩

@[simp] theorem State.handGroups_frame (s : State) (n : Svc) (old : Sheet) :
    (s.handGroups n old).powered = s.powered ∧ (s.handGroups n old).ctl = s.ctl ∧
      (s.handGroups n old).proxy = s.proxy ∧ (s.handGroups n old).extents = s.extents ∧
      (s.handGroups n old).mover = s.mover ∧ (s.handGroups n old).devPanel = s.devPanel ∧
      (s.handGroups n old).devPriority = s.devPriority ∧ (s.handGroups n old).sheet = s.sheet ∧
      (s.handGroups n old).store = s.store ∧ (s.handGroups n old).header = s.header ∧
      (s.handGroups n old).host = s.host ∧ (s.handGroups n old).pending = s.pending :=
  have h := s.handGroups_touches n old
  ⟨h .powered (by decide), h .ctl (by decide), h .proxy (by decide), h .extents (by decide), h .mover (by decide), h .devPanel (by decide), h .devPriority (by decide), h .sheet (by decide), h .store (by decide), h .header (by decide), h .host (by decide), h .pending (by decide)⟩

@[simp] theorem State.adoptSheet_frame (s : State) (n : Svc) (rev : BitVec 32) (body : List Byte) :
    (s.adoptSheet n rev body).powered = s.powered ∧ (s.adoptSheet n rev body).ctl = s.ctl ∧
      (s.adoptSheet n rev body).proxy = s.proxy ∧ (s.adoptSheet n rev body).extents = s.extents ∧
      (s.adoptSheet n rev body).mover = s.mover ∧ (s.adoptSheet n rev body).devPanel = s.devPanel ∧
      (s.adoptSheet n rev body).devPriority = s.devPriority ∧ (s.adoptSheet n rev body).store = s.store ∧
      (s.adoptSheet n rev body).header = s.header ∧ (s.adoptSheet n rev body).host = s.host ∧
      (s.adoptSheet n rev body).pending = s.pending :=
  have h := s.adoptSheet_touches n rev body
  ⟨h .powered (by decide), h .ctl (by decide), h .proxy (by decide), h .extents (by decide), h .mover (by decide), h .devPanel (by decide), h .devPriority (by decide), h .store (by decide), h .header (by decide), h .host (by decide), h .pending (by decide)⟩

@[simp] theorem State.stage_frame (s : State) (n : Svc) (r : SheetRead) :
    (s.stage n r).powered = s.powered ∧ (s.stage n r).ctl = s.ctl ∧
      (s.stage n r).proxy = s.proxy ∧ (s.stage n r).extents = s.extents ∧
      (s.stage n r).mover = s.mover ∧ (s.stage n r).devPanel = s.devPanel ∧
      (s.stage n r).devPriority = s.devPriority ∧ (s.stage n r).store = s.store ∧
      (s.stage n r).header = s.header ∧ (s.stage n r).host = s.host ∧
      (s.stage n r).pending = s.pending :=
  have h := s.stage_touches n r
  ⟨h .powered (by decide), h .ctl (by decide), h .proxy (by decide), h .extents (by decide), h .mover (by decide), h .devPanel (by decide), h .devPriority (by decide), h .store (by decide), h .header (by decide), h .host (by decide), h .pending (by decide)⟩

@[simp] theorem State.decideOne_frame (s : State) (excess : Bool) (read : Option SheetRead) (n : Svc) :
    (s.decideOne excess read n).powered = s.powered ∧ (s.decideOne excess read n).ctl = s.ctl ∧
      (s.decideOne excess read n).proxy = s.proxy ∧ (s.decideOne excess read n).extents = s.extents ∧
      (s.decideOne excess read n).mover = s.mover ∧ (s.decideOne excess read n).devPanel = s.devPanel ∧
      (s.decideOne excess read n).devPriority = s.devPriority ∧ (s.decideOne excess read n).store = s.store ∧
      (s.decideOne excess read n).header = s.header ∧ (s.decideOne excess read n).host = s.host ∧
      (s.decideOne excess read n).pending = s.pending :=
  have h := s.decideOne_touches excess read n
  ⟨h .powered (by decide), h .ctl (by decide), h .proxy (by decide), h .extents (by decide), h .mover (by decide), h .devPanel (by decide), h .devPriority (by decide), h .store (by decide), h .header (by decide), h .host (by decide), h .pending (by decide)⟩

@[simp] theorem State.decideSheets_frame (s : State) (reads : Vector (Option SheetRead) 16) :
    (s.decideSheets reads).powered = s.powered ∧ (s.decideSheets reads).ctl = s.ctl ∧
      (s.decideSheets reads).proxy = s.proxy ∧ (s.decideSheets reads).extents = s.extents ∧
      (s.decideSheets reads).mover = s.mover ∧ (s.decideSheets reads).devPanel = s.devPanel ∧
      (s.decideSheets reads).devPriority = s.devPriority ∧ (s.decideSheets reads).store = s.store ∧
      (s.decideSheets reads).header = s.header ∧ (s.decideSheets reads).host = s.host ∧
      (s.decideSheets reads).pending = s.pending :=
  have h := s.decideSheets_touches reads
  ⟨h .powered (by decide), h .ctl (by decide), h .proxy (by decide), h .extents (by decide), h .mover (by decide), h .devPanel (by decide), h .devPriority (by decide), h .store (by decide), h .header (by decide), h .host (by decide), h .pending (by decide)⟩

@[simp] theorem State.beginStore_frame (s : State) (mask : BitVec 16) :
    (s.beginStore mask).powered = s.powered ∧ (s.beginStore mask).ctl = s.ctl ∧
      (s.beginStore mask).feed = s.feed ∧ (s.beginStore mask).meter = s.meter ∧
      (s.beginStore mask).caption = s.caption ∧ (s.beginStore mask).sched = s.sched ∧
      (s.beginStore mask).pool = s.pool ∧ (s.beginStore mask).integ = s.integ ∧
      (s.beginStore mask).proxy = s.proxy ∧ (s.beginStore mask).recorder = s.recorder ∧
      (s.beginStore mask).extents = s.extents ∧ (s.beginStore mask).mover = s.mover ∧
      (s.beginStore mask).panel = s.panel ∧ (s.beginStore mask).devPriority = s.devPriority ∧
      (s.beginStore mask).sheet = s.sheet ∧ (s.beginStore mask).live = s.live ∧
      (s.beginStore mask).host = s.host ∧ (s.beginStore mask).pending = s.pending :=
  have h := s.beginStore_touches mask
  ⟨h .powered (by decide), h .ctl (by decide), h .feed (by decide), h .meter (by decide), h .caption (by decide), h .sched (by decide), h .pool (by decide), h .integ (by decide), h .proxy (by decide), h .recorder (by decide), h .extents (by decide), h .mover (by decide), h .panel (by decide), h .devPriority (by decide), h .sheet (by decide), h .live (by decide), h .host (by decide), h .pending (by decide)⟩

@[simp] theorem State.completeCommit_frame (s : State) :
    (s.completeCommit).powered = s.powered ∧ (s.completeCommit).ctl = s.ctl ∧
      (s.completeCommit).feed = s.feed ∧ (s.completeCommit).meter = s.meter ∧
      (s.completeCommit).caption = s.caption ∧ (s.completeCommit).sched = s.sched ∧
      (s.completeCommit).pool = s.pool ∧ (s.completeCommit).integ = s.integ ∧
      (s.completeCommit).proxy = s.proxy ∧ (s.completeCommit).recorder = s.recorder ∧
      (s.completeCommit).extents = s.extents ∧ (s.completeCommit).mover = s.mover ∧
      (s.completeCommit).panel = s.panel ∧ (s.completeCommit).devPriority = s.devPriority ∧
      (s.completeCommit).sheet = s.sheet ∧ (s.completeCommit).live = s.live ∧
      (s.completeCommit).host = s.host ∧ (s.completeCommit).pending = s.pending :=
  have h := s.completeCommit_touches
  ⟨h .powered (by decide), h .ctl (by decide), h .feed (by decide), h .meter (by decide), h .caption (by decide), h .sched (by decide), h .pool (by decide), h .integ (by decide), h .proxy (by decide), h .recorder (by decide), h .extents (by decide), h .mover (by decide), h .panel (by decide), h .devPriority (by decide), h .sheet (by decide), h .live (by decide), h .host (by decide), h .pending (by decide)⟩

/-! ### Machine/Boards.lean -/

@[simp] theorem State.heldRelease_frame (s : State) (n : Svc)(k : Slot) (w : SlotContent) :
    (s.heldRelease n k w).powered = s.powered ∧ (s.heldRelease n k w).ctl = s.ctl ∧
      (s.heldRelease n k w).feed = s.feed ∧ (s.heldRelease n k w).meter = s.meter ∧
      (s.heldRelease n k w).caption = s.caption ∧ (s.heldRelease n k w).pool = s.pool ∧
      (s.heldRelease n k w).integ = s.integ ∧ (s.heldRelease n k w).proxy = s.proxy ∧
      (s.heldRelease n k w).recorder = s.recorder ∧ (s.heldRelease n k w).extents = s.extents ∧
      (s.heldRelease n k w).mover = s.mover ∧ (s.heldRelease n k w).panel = s.panel ∧
      (s.heldRelease n k w).devPanel = s.devPanel ∧ (s.heldRelease n k w).devPriority = s.devPriority ∧
      (s.heldRelease n k w).alert = s.alert ∧ (s.heldRelease n k w).sheet = s.sheet ∧
      (s.heldRelease n k w).store = s.store ∧ (s.heldRelease n k w).live = s.live ∧
      (s.heldRelease n k w).header = s.header ∧ (s.heldRelease n k w).host = s.host ∧
      (s.heldRelease n k w).pending = s.pending :=
  have h := s.heldRelease_touches n k w
  ⟨h .powered (by decide), h .ctl (by decide), h .feed (by decide), h .meter (by decide), h .caption (by decide), h .pool (by decide), h .integ (by decide), h .proxy (by decide), h .recorder (by decide), h .extents (by decide), h .mover (by decide), h .panel (by decide), h .devPanel (by decide), h .devPriority (by decide), h .alert (by decide), h .sheet (by decide), h .store (by decide), h .live (by decide), h .header (by decide), h .host (by decide), h .pending (by decide)⟩

@[simp] theorem State.slotWriteDone_frame (s : State) (n : Svc)(k : Slot) :
    (s.slotWriteDone n k).powered = s.powered ∧ (s.slotWriteDone n k).feed = s.feed ∧
      (s.slotWriteDone n k).meter = s.meter ∧ (s.slotWriteDone n k).caption = s.caption ∧
      (s.slotWriteDone n k).pool = s.pool ∧ (s.slotWriteDone n k).integ = s.integ ∧
      (s.slotWriteDone n k).proxy = s.proxy ∧ (s.slotWriteDone n k).recorder = s.recorder ∧
      (s.slotWriteDone n k).extents = s.extents ∧ (s.slotWriteDone n k).mover = s.mover ∧
      (s.slotWriteDone n k).panel = s.panel ∧ (s.slotWriteDone n k).devPanel = s.devPanel ∧
      (s.slotWriteDone n k).devPriority = s.devPriority ∧ (s.slotWriteDone n k).alert = s.alert ∧
      (s.slotWriteDone n k).sheet = s.sheet ∧ (s.slotWriteDone n k).store = s.store ∧
      (s.slotWriteDone n k).live = s.live ∧ (s.slotWriteDone n k).header = s.header ∧
      (s.slotWriteDone n k).pending = s.pending :=
  have h := s.slotWriteDone_touches n k
  ⟨h .powered (by decide), h .feed (by decide), h .meter (by decide), h .caption (by decide), h .pool (by decide), h .integ (by decide), h .proxy (by decide), h .recorder (by decide), h .extents (by decide), h .mover (by decide), h .panel (by decide), h .devPanel (by decide), h .devPriority (by decide), h .alert (by decide), h .sheet (by decide), h .store (by decide), h .live (by decide), h .header (by decide), h .pending (by decide)⟩

@[simp] theorem State.sweepMover_frame (s : State) :
    (s.sweepMover).powered = s.powered ∧ (s.sweepMover).ctl = s.ctl ∧
      (s.sweepMover).feed = s.feed ∧ (s.sweepMover).meter = s.meter ∧
      (s.sweepMover).caption = s.caption ∧ (s.sweepMover).sched = s.sched ∧
      (s.sweepMover).pool = s.pool ∧ (s.sweepMover).integ = s.integ ∧
      (s.sweepMover).proxy = s.proxy ∧ (s.sweepMover).extents = s.extents ∧
      (s.sweepMover).panel = s.panel ∧ (s.sweepMover).devPanel = s.devPanel ∧
      (s.sweepMover).devPriority = s.devPriority ∧ (s.sweepMover).alert = s.alert ∧
      (s.sweepMover).sheet = s.sheet ∧ (s.sweepMover).store = s.store ∧
      (s.sweepMover).live = s.live ∧ (s.sweepMover).header = s.header ∧
      (s.sweepMover).host = s.host ∧ (s.sweepMover).pending = s.pending :=
  have h := s.sweepMover_touches
  ⟨h .powered (by decide), h .ctl (by decide), h .feed (by decide), h .meter (by decide), h .caption (by decide), h .sched (by decide), h .pool (by decide), h .integ (by decide), h .proxy (by decide), h .extents (by decide), h .panel (by decide), h .devPanel (by decide), h .devPriority (by decide), h .alert (by decide), h .sheet (by decide), h .store (by decide), h .live (by decide), h .header (by decide), h .host (by decide), h .pending (by decide)⟩

@[simp] theorem State.rehandEntry_frame (s : State) (c : DevCond) :
    (s.rehandEntry c).powered = s.powered ∧ (s.rehandEntry c).ctl = s.ctl ∧
      (s.rehandEntry c).feed = s.feed ∧ (s.rehandEntry c).meter = s.meter ∧
      (s.rehandEntry c).caption = s.caption ∧ (s.rehandEntry c).sched = s.sched ∧
      (s.rehandEntry c).pool = s.pool ∧ (s.rehandEntry c).integ = s.integ ∧
      (s.rehandEntry c).proxy = s.proxy ∧ (s.rehandEntry c).recorder = s.recorder ∧
      (s.rehandEntry c).extents = s.extents ∧ (s.rehandEntry c).mover = s.mover ∧
      (s.rehandEntry c).panel = s.panel ∧ (s.rehandEntry c).devPriority = s.devPriority ∧
      (s.rehandEntry c).alert = s.alert ∧ (s.rehandEntry c).sheet = s.sheet ∧
      (s.rehandEntry c).store = s.store ∧ (s.rehandEntry c).live = s.live ∧
      (s.rehandEntry c).host = s.host ∧ (s.rehandEntry c).pending = s.pending :=
  have h := s.rehandEntry_touches c
  ⟨h .powered (by decide), h .ctl (by decide), h .feed (by decide), h .meter (by decide), h .caption (by decide), h .sched (by decide), h .pool (by decide), h .integ (by decide), h .proxy (by decide), h .recorder (by decide), h .extents (by decide), h .mover (by decide), h .panel (by decide), h .devPriority (by decide), h .alert (by decide), h .sheet (by decide), h .store (by decide), h .live (by decide), h .host (by decide), h .pending (by decide)⟩

@[simp] theorem State.sweepAlert_frame (s : State) :
    (s.sweepAlert).powered = s.powered ∧ (s.sweepAlert).ctl = s.ctl ∧
      (s.sweepAlert).feed = s.feed ∧ (s.sweepAlert).meter = s.meter ∧
      (s.sweepAlert).caption = s.caption ∧ (s.sweepAlert).sched = s.sched ∧
      (s.sweepAlert).pool = s.pool ∧ (s.sweepAlert).integ = s.integ ∧
      (s.sweepAlert).proxy = s.proxy ∧ (s.sweepAlert).recorder = s.recorder ∧
      (s.sweepAlert).extents = s.extents ∧ (s.sweepAlert).mover = s.mover ∧
      (s.sweepAlert).panel = s.panel ∧ (s.sweepAlert).devPanel = s.devPanel ∧
      (s.sweepAlert).devPriority = s.devPriority ∧ (s.sweepAlert).sheet = s.sheet ∧
      (s.sweepAlert).store = s.store ∧ (s.sweepAlert).live = s.live ∧
      (s.sweepAlert).header = s.header ∧ (s.sweepAlert).host = s.host ∧
      (s.sweepAlert).pending = s.pending :=
  have h := s.sweepAlert_touches
  ⟨h .powered (by decide), h .ctl (by decide), h .feed (by decide), h .meter (by decide), h .caption (by decide), h .sched (by decide), h .pool (by decide), h .integ (by decide), h .proxy (by decide), h .recorder (by decide), h .extents (by decide), h .mover (by decide), h .panel (by decide), h .devPanel (by decide), h .devPriority (by decide), h .sheet (by decide), h .store (by decide), h .live (by decide), h .header (by decide), h .host (by decide), h .pending (by decide)⟩

@[simp] theorem State.sweep_frame (s : State) :
    (s.sweep).powered = s.powered ∧ (s.sweep).ctl = s.ctl ∧
      (s.sweep).feed = s.feed ∧ (s.sweep).meter = s.meter ∧
      (s.sweep).caption = s.caption ∧ (s.sweep).pool = s.pool ∧
      (s.sweep).integ = s.integ ∧ (s.sweep).proxy = s.proxy ∧
      (s.sweep).extents = s.extents ∧ (s.sweep).panel = s.panel ∧
      (s.sweep).devPriority = s.devPriority ∧ (s.sweep).sheet = s.sheet ∧
      (s.sweep).store = s.store ∧ (s.sweep).live = s.live ∧
      (s.sweep).host = s.host ∧ (s.sweep).pending = s.pending :=
  have h := s.sweep_touches
  ⟨h .powered (by decide), h .ctl (by decide), h .feed (by decide), h .meter (by decide), h .caption (by decide), h .pool (by decide), h .integ (by decide), h .proxy (by decide), h .extents (by decide), h .panel (by decide), h .devPriority (by decide), h .sheet (by decide), h .store (by decide), h .live (by decide), h .host (by decide), h .pending (by decide)⟩

@[simp] theorem State.validCommand_frame (s : State) (n : Svc)(k : Slot) (cmd : Nat) :
    (s.validCommand n k cmd).powered = s.powered ∧ (s.validCommand n k cmd).ctl = s.ctl ∧
      (s.validCommand n k cmd).feed = s.feed ∧ (s.validCommand n k cmd).meter = s.meter ∧
      (s.validCommand n k cmd).proxy = s.proxy ∧ (s.validCommand n k cmd).extents = s.extents ∧
      (s.validCommand n k cmd).mover = s.mover ∧ (s.validCommand n k cmd).devPanel = s.devPanel ∧
      (s.validCommand n k cmd).devPriority = s.devPriority ∧ (s.validCommand n k cmd).sheet = s.sheet ∧
      (s.validCommand n k cmd).store = s.store ∧ (s.validCommand n k cmd).header = s.header ∧
      (s.validCommand n k cmd).host = s.host ∧ (s.validCommand n k cmd).pending = s.pending :=
  have h := s.validCommand_touches n k cmd
  ⟨h .powered (by decide), h .ctl (by decide), h .feed (by decide), h .meter (by decide), h .proxy (by decide), h .extents (by decide), h .mover (by decide), h .devPanel (by decide), h .devPriority (by decide), h .sheet (by decide), h .store (by decide), h .header (by decide), h .host (by decide), h .pending (by decide)⟩

@[simp] theorem State.readCommandWord_frame (s : State) (n : Svc)(k : Slot) (w : BitVec 32) :
    (s.readCommandWord n k w).powered = s.powered ∧ (s.readCommandWord n k w).feed = s.feed ∧
      (s.readCommandWord n k w).meter = s.meter ∧ (s.readCommandWord n k w).proxy = s.proxy ∧
      (s.readCommandWord n k w).extents = s.extents ∧ (s.readCommandWord n k w).mover = s.mover ∧
      (s.readCommandWord n k w).devPanel = s.devPanel ∧ (s.readCommandWord n k w).devPriority = s.devPriority ∧
      (s.readCommandWord n k w).sheet = s.sheet ∧ (s.readCommandWord n k w).store = s.store ∧
      (s.readCommandWord n k w).header = s.header ∧ (s.readCommandWord n k w).host = s.host ∧
      (s.readCommandWord n k w).pending = s.pending :=
  have h := s.readCommandWord_touches n k w
  ⟨h .powered (by decide), h .feed (by decide), h .meter (by decide), h .proxy (by decide), h .extents (by decide), h .mover (by decide), h .devPanel (by decide), h .devPriority (by decide), h .sheet (by decide), h .store (by decide), h .header (by decide), h .host (by decide), h .pending (by decide)⟩

@[simp] theorem State.firePassed_frame (s : State) (n : Svc)(k : Slot) :
    (s.firePassed n k).powered = s.powered ∧ (s.firePassed n k).ctl = s.ctl ∧
      (s.firePassed n k).feed = s.feed ∧ (s.firePassed n k).meter = s.meter ∧
      (s.firePassed n k).proxy = s.proxy ∧ (s.firePassed n k).extents = s.extents ∧
      (s.firePassed n k).mover = s.mover ∧ (s.firePassed n k).devPanel = s.devPanel ∧
      (s.firePassed n k).devPriority = s.devPriority ∧ (s.firePassed n k).sheet = s.sheet ∧
      (s.firePassed n k).store = s.store ∧ (s.firePassed n k).header = s.header ∧
      (s.firePassed n k).host = s.host ∧ (s.firePassed n k).pending = s.pending :=
  have h := s.firePassed_touches n k
  ⟨h .powered (by decide), h .ctl (by decide), h .feed (by decide), h .meter (by decide), h .proxy (by decide), h .extents (by decide), h .mover (by decide), h .devPanel (by decide), h .devPriority (by decide), h .sheet (by decide), h .store (by decide), h .header (by decide), h .host (by decide), h .pending (by decide)⟩

@[simp] theorem State.settlePosting_frame (s : State) (n : Svc)(k : Slot) (p : BitVec 16) (r : RefusalCause ⊕ Body) :
    (s.settlePosting n k p r).powered = s.powered ∧ (s.settlePosting n k p r).ctl = s.ctl ∧
      (s.settlePosting n k p r).feed = s.feed ∧ (s.settlePosting n k p r).meter = s.meter ∧
      (s.settlePosting n k p r).proxy = s.proxy ∧ (s.settlePosting n k p r).extents = s.extents ∧
      (s.settlePosting n k p r).mover = s.mover ∧ (s.settlePosting n k p r).devPanel = s.devPanel ∧
      (s.settlePosting n k p r).devPriority = s.devPriority ∧ (s.settlePosting n k p r).sheet = s.sheet ∧
      (s.settlePosting n k p r).store = s.store ∧ (s.settlePosting n k p r).header = s.header ∧
      (s.settlePosting n k p r).host = s.host ∧ (s.settlePosting n k p r).pending = s.pending :=
  have h := s.settlePosting_touches n k p r
  ⟨h .powered (by decide), h .ctl (by decide), h .feed (by decide), h .meter (by decide), h .proxy (by decide), h .extents (by decide), h .mover (by decide), h .devPanel (by decide), h .devPriority (by decide), h .sheet (by decide), h .store (by decide), h .header (by decide), h .host (by decide), h .pending (by decide)⟩

@[simp] theorem State.validatePosting_frame (s : State) (n : Svc)(k : Slot) (bytes : List Byte) :
    (s.validatePosting n k bytes).powered = s.powered ∧ (s.validatePosting n k bytes).feed = s.feed ∧
      (s.validatePosting n k bytes).meter = s.meter ∧ (s.validatePosting n k bytes).proxy = s.proxy ∧
      (s.validatePosting n k bytes).extents = s.extents ∧ (s.validatePosting n k bytes).mover = s.mover ∧
      (s.validatePosting n k bytes).devPanel = s.devPanel ∧ (s.validatePosting n k bytes).devPriority = s.devPriority ∧
      (s.validatePosting n k bytes).sheet = s.sheet ∧ (s.validatePosting n k bytes).store = s.store ∧
      (s.validatePosting n k bytes).header = s.header ∧ (s.validatePosting n k bytes).host = s.host ∧
      (s.validatePosting n k bytes).pending = s.pending :=
  have h := s.validatePosting_touches n k bytes
  ⟨h .powered (by decide), h .feed (by decide), h .meter (by decide), h .proxy (by decide), h .extents (by decide), h .mover (by decide), h .devPanel (by decide), h .devPriority (by decide), h .sheet (by decide), h .store (by decide), h .header (by decide), h .host (by decide), h .pending (by decide)⟩

@[simp] theorem State.handResult_frame (s : State) (o : Owner) (r : LoudResult) :
    (s.handResult o r).powered = s.powered ∧ (s.handResult o r).ctl = s.ctl ∧
      (s.handResult o r).feed = s.feed ∧ (s.handResult o r).meter = s.meter ∧
      (s.handResult o r).caption = s.caption ∧ (s.handResult o r).pool = s.pool ∧
      (s.handResult o r).integ = s.integ ∧ (s.handResult o r).proxy = s.proxy ∧
      (s.handResult o r).recorder = s.recorder ∧ (s.handResult o r).extents = s.extents ∧
      (s.handResult o r).mover = s.mover ∧ (s.handResult o r).devPanel = s.devPanel ∧
      (s.handResult o r).devPriority = s.devPriority ∧ (s.handResult o r).sheet = s.sheet ∧
      (s.handResult o r).store = s.store ∧ (s.handResult o r).header = s.header ∧
      (s.handResult o r).host = s.host ∧ (s.handResult o r).pending = s.pending :=
  have h := s.handResult_touches o r
  ⟨h .powered (by decide), h .ctl (by decide), h .feed (by decide), h .meter (by decide), h .caption (by decide), h .pool (by decide), h .integ (by decide), h .proxy (by decide), h .recorder (by decide), h .extents (by decide), h .mover (by decide), h .devPanel (by decide), h .devPriority (by decide), h .sheet (by decide), h .store (by decide), h .header (by decide), h .host (by decide), h .pending (by decide)⟩

@[simp] theorem State.completeIntegration_frame (s : State) :
    (s.completeIntegration).powered = s.powered ∧ (s.completeIntegration).ctl = s.ctl ∧
      (s.completeIntegration).feed = s.feed ∧ (s.completeIntegration).meter = s.meter ∧
      (s.completeIntegration).caption = s.caption ∧ (s.completeIntegration).proxy = s.proxy ∧
      (s.completeIntegration).recorder = s.recorder ∧ (s.completeIntegration).extents = s.extents ∧
      (s.completeIntegration).mover = s.mover ∧ (s.completeIntegration).devPanel = s.devPanel ∧
      (s.completeIntegration).devPriority = s.devPriority ∧ (s.completeIntegration).sheet = s.sheet ∧
      (s.completeIntegration).store = s.store ∧ (s.completeIntegration).header = s.header ∧
      (s.completeIntegration).host = s.host ∧ (s.completeIntegration).pending = s.pending :=
  have h := s.completeIntegration_touches
  ⟨h .powered (by decide), h .ctl (by decide), h .feed (by decide), h .meter (by decide), h .caption (by decide), h .proxy (by decide), h .recorder (by decide), h .extents (by decide), h .mover (by decide), h .devPanel (by decide), h .devPriority (by decide), h .sheet (by decide), h .store (by decide), h .header (by decide), h .host (by decide), h .pending (by decide)⟩

@[simp] theorem State.schedUnlink_frame (s : State) (n : Svc) :
    (s.schedUnlink n).powered = s.powered ∧ (s.schedUnlink n).ctl = s.ctl ∧
      (s.schedUnlink n).feed = s.feed ∧ (s.schedUnlink n).meter = s.meter ∧
      (s.schedUnlink n).proxy = s.proxy ∧ (s.schedUnlink n).extents = s.extents ∧
      (s.schedUnlink n).mover = s.mover ∧ (s.schedUnlink n).devPanel = s.devPanel ∧
      (s.schedUnlink n).devPriority = s.devPriority ∧ (s.schedUnlink n).sheet = s.sheet ∧
      (s.schedUnlink n).store = s.store ∧ (s.schedUnlink n).header = s.header ∧
      (s.schedUnlink n).host = s.host ∧ (s.schedUnlink n).pending = s.pending :=
  have h := s.schedUnlink_touches n
  ⟨h .powered (by decide), h .ctl (by decide), h .feed (by decide), h .meter (by decide), h .proxy (by decide), h .extents (by decide), h .mover (by decide), h .devPanel (by decide), h .devPriority (by decide), h .sheet (by decide), h .store (by decide), h .header (by decide), h .host (by decide), h .pending (by decide)⟩

@[simp] theorem State.schedFault_frame (s : State) (n : Svc) :
    (s.schedFault n).powered = s.powered ∧ (s.schedFault n).ctl = s.ctl ∧
      (s.schedFault n).feed = s.feed ∧ (s.schedFault n).meter = s.meter ∧
      (s.schedFault n).proxy = s.proxy ∧ (s.schedFault n).extents = s.extents ∧
      (s.schedFault n).mover = s.mover ∧ (s.schedFault n).devPanel = s.devPanel ∧
      (s.schedFault n).devPriority = s.devPriority ∧ (s.schedFault n).sheet = s.sheet ∧
      (s.schedFault n).store = s.store ∧ (s.schedFault n).header = s.header ∧
      (s.schedFault n).host = s.host ∧ (s.schedFault n).pending = s.pending :=
  have h := s.schedFault_touches n
  ⟨h .powered (by decide), h .ctl (by decide), h .feed (by decide), h .meter (by decide), h .proxy (by decide), h .extents (by decide), h .mover (by decide), h .devPanel (by decide), h .devPriority (by decide), h .sheet (by decide), h .store (by decide), h .header (by decide), h .host (by decide), h .pending (by decide)⟩

/-! ### Machine/Link.lean -/

@[simp] theorem State.setReadback_frame (s : State) (code : Byte) (r : CmdResult) :
    (s.setReadback code r).powered = s.powered ∧ (s.setReadback code r).feed = s.feed ∧
      (s.setReadback code r).meter = s.meter ∧ (s.setReadback code r).caption = s.caption ∧
      (s.setReadback code r).sched = s.sched ∧ (s.setReadback code r).pool = s.pool ∧
      (s.setReadback code r).integ = s.integ ∧ (s.setReadback code r).proxy = s.proxy ∧
      (s.setReadback code r).recorder = s.recorder ∧ (s.setReadback code r).extents = s.extents ∧
      (s.setReadback code r).mover = s.mover ∧ (s.setReadback code r).panel = s.panel ∧
      (s.setReadback code r).devPanel = s.devPanel ∧ (s.setReadback code r).devPriority = s.devPriority ∧
      (s.setReadback code r).alert = s.alert ∧ (s.setReadback code r).sheet = s.sheet ∧
      (s.setReadback code r).store = s.store ∧ (s.setReadback code r).live = s.live ∧
      (s.setReadback code r).header = s.header ∧ (s.setReadback code r).host = s.host ∧
      (s.setReadback code r).pending = s.pending :=
  have h := s.setReadback_touches code r
  ⟨h .powered (by decide), h .feed (by decide), h .meter (by decide), h .caption (by decide), h .sched (by decide), h .pool (by decide), h .integ (by decide), h .proxy (by decide), h .recorder (by decide), h .extents (by decide), h .mover (by decide), h .panel (by decide), h .devPanel (by decide), h .devPriority (by decide), h .alert (by decide), h .sheet (by decide), h .store (by decide), h .live (by decide), h .header (by decide), h .host (by decide), h .pending (by decide)⟩

@[simp] theorem State.beginLink_frame (s : State) :
    (s.beginLink).powered = s.powered ∧ (s.beginLink).feed = s.feed ∧
      (s.beginLink).meter = s.meter ∧ (s.beginLink).caption = s.caption ∧
      (s.beginLink).sched = s.sched ∧ (s.beginLink).pool = s.pool ∧
      (s.beginLink).integ = s.integ ∧ (s.beginLink).proxy = s.proxy ∧
      (s.beginLink).recorder = s.recorder ∧ (s.beginLink).extents = s.extents ∧
      (s.beginLink).mover = s.mover ∧ (s.beginLink).panel = s.panel ∧
      (s.beginLink).devPanel = s.devPanel ∧ (s.beginLink).devPriority = s.devPriority ∧
      (s.beginLink).alert = s.alert ∧ (s.beginLink).sheet = s.sheet ∧
      (s.beginLink).store = s.store ∧ (s.beginLink).live = s.live ∧
      (s.beginLink).header = s.header ∧ (s.beginLink).host = s.host ∧
      (s.beginLink).pending = s.pending :=
  have h := s.beginLink_touches
  ⟨h .powered (by decide), h .feed (by decide), h .meter (by decide), h .caption (by decide), h .sched (by decide), h .pool (by decide), h .integ (by decide), h .proxy (by decide), h .recorder (by decide), h .extents (by decide), h .mover (by decide), h .panel (by decide), h .devPanel (by decide), h .devPriority (by decide), h .alert (by decide), h .sheet (by decide), h .store (by decide), h .live (by decide), h .header (by decide), h .host (by decide), h .pending (by decide)⟩

@[simp] theorem State.commandLink_frame (s : State) :
    (s.commandLink).powered = s.powered ∧ (s.commandLink).feed = s.feed ∧
      (s.commandLink).meter = s.meter ∧ (s.commandLink).caption = s.caption ∧
      (s.commandLink).sched = s.sched ∧ (s.commandLink).pool = s.pool ∧
      (s.commandLink).integ = s.integ ∧ (s.commandLink).proxy = s.proxy ∧
      (s.commandLink).recorder = s.recorder ∧ (s.commandLink).extents = s.extents ∧
      (s.commandLink).mover = s.mover ∧ (s.commandLink).panel = s.panel ∧
      (s.commandLink).devPanel = s.devPanel ∧ (s.commandLink).devPriority = s.devPriority ∧
      (s.commandLink).alert = s.alert ∧ (s.commandLink).sheet = s.sheet ∧
      (s.commandLink).store = s.store ∧ (s.commandLink).live = s.live ∧
      (s.commandLink).header = s.header ∧ (s.commandLink).host = s.host ∧
      (s.commandLink).pending = s.pending :=
  have h := s.commandLink_touches
  ⟨h .powered (by decide), h .feed (by decide), h .meter (by decide), h .caption (by decide), h .sched (by decide), h .pool (by decide), h .integ (by decide), h .proxy (by decide), h .recorder (by decide), h .extents (by decide), h .mover (by decide), h .panel (by decide), h .devPanel (by decide), h .devPriority (by decide), h .alert (by decide), h .sheet (by decide), h .store (by decide), h .live (by decide), h .header (by decide), h .host (by decide), h .pending (by decide)⟩

@[simp] theorem State.landStep_frame (s : State) (k : Nat) :
    (s.landStep k).powered = s.powered ∧ (s.landStep k).feed = s.feed ∧
      (s.landStep k).meter = s.meter ∧ (s.landStep k).caption = s.caption ∧
      (s.landStep k).sched = s.sched ∧ (s.landStep k).pool = s.pool ∧
      (s.landStep k).integ = s.integ ∧ (s.landStep k).proxy = s.proxy ∧
      (s.landStep k).recorder = s.recorder ∧ (s.landStep k).extents = s.extents ∧
      (s.landStep k).mover = s.mover ∧ (s.landStep k).panel = s.panel ∧
      (s.landStep k).devPanel = s.devPanel ∧ (s.landStep k).devPriority = s.devPriority ∧
      (s.landStep k).alert = s.alert ∧ (s.landStep k).sheet = s.sheet ∧
      (s.landStep k).store = s.store ∧ (s.landStep k).live = s.live ∧
      (s.landStep k).header = s.header ∧ (s.landStep k).pending = s.pending :=
  have h := s.landStep_touches k
  ⟨h .powered (by decide), h .feed (by decide), h .meter (by decide), h .caption (by decide), h .sched (by decide), h .pool (by decide), h .integ (by decide), h .proxy (by decide), h .recorder (by decide), h .extents (by decide), h .mover (by decide), h .panel (by decide), h .devPanel (by decide), h .devPriority (by decide), h .alert (by decide), h .sheet (by decide), h .store (by decide), h .live (by decide), h .header (by decide), h .pending (by decide)⟩

@[simp] theorem State.finishStep_frame (s : State) :
    (s.finishStep).powered = s.powered ∧ (s.finishStep).feed = s.feed ∧
      (s.finishStep).meter = s.meter ∧ (s.finishStep).caption = s.caption ∧
      (s.finishStep).sched = s.sched ∧ (s.finishStep).pool = s.pool ∧
      (s.finishStep).integ = s.integ ∧ (s.finishStep).proxy = s.proxy ∧
      (s.finishStep).recorder = s.recorder ∧ (s.finishStep).extents = s.extents ∧
      (s.finishStep).mover = s.mover ∧ (s.finishStep).panel = s.panel ∧
      (s.finishStep).devPanel = s.devPanel ∧ (s.finishStep).devPriority = s.devPriority ∧
      (s.finishStep).alert = s.alert ∧ (s.finishStep).sheet = s.sheet ∧
      (s.finishStep).store = s.store ∧ (s.finishStep).live = s.live ∧
      (s.finishStep).header = s.header ∧ (s.finishStep).pending = s.pending :=
  have h := s.finishStep_touches
  ⟨h .powered (by decide), h .feed (by decide), h .meter (by decide), h .caption (by decide), h .sched (by decide), h .pool (by decide), h .integ (by decide), h .proxy (by decide), h .recorder (by decide), h .extents (by decide), h .mover (by decide), h .panel (by decide), h .devPanel (by decide), h .devPriority (by decide), h .alert (by decide), h .sheet (by decide), h .store (by decide), h .live (by decide), h .header (by decide), h .pending (by decide)⟩

@[simp] theorem State.nextStep_frame (s : State) (step : LinkStep) :
    (s.nextStep step).powered = s.powered ∧ (s.nextStep step).feed = s.feed ∧
      (s.nextStep step).meter = s.meter ∧ (s.nextStep step).caption = s.caption ∧
      (s.nextStep step).sched = s.sched ∧ (s.nextStep step).pool = s.pool ∧
      (s.nextStep step).integ = s.integ ∧ (s.nextStep step).proxy = s.proxy ∧
      (s.nextStep step).recorder = s.recorder ∧ (s.nextStep step).extents = s.extents ∧
      (s.nextStep step).mover = s.mover ∧ (s.nextStep step).panel = s.panel ∧
      (s.nextStep step).devPanel = s.devPanel ∧ (s.nextStep step).devPriority = s.devPriority ∧
      (s.nextStep step).alert = s.alert ∧ (s.nextStep step).sheet = s.sheet ∧
      (s.nextStep step).store = s.store ∧ (s.nextStep step).live = s.live ∧
      (s.nextStep step).header = s.header ∧ (s.nextStep step).host = s.host ∧
      (s.nextStep step).pending = s.pending :=
  have h := s.nextStep_touches step
  ⟨h .powered (by decide), h .feed (by decide), h .meter (by decide), h .caption (by decide), h .sched (by decide), h .pool (by decide), h .integ (by decide), h .proxy (by decide), h .recorder (by decide), h .extents (by decide), h .mover (by decide), h .panel (by decide), h .devPanel (by decide), h .devPriority (by decide), h .alert (by decide), h .sheet (by decide), h .store (by decide), h .live (by decide), h .header (by decide), h .host (by decide), h .pending (by decide)⟩

@[simp] theorem State.sheetsDone_frame (s : State) (after : Bool) :
    (s.sheetsDone after).powered = s.powered ∧ (s.sheetsDone after).feed = s.feed ∧
      (s.sheetsDone after).meter = s.meter ∧ (s.sheetsDone after).caption = s.caption ∧
      (s.sheetsDone after).sched = s.sched ∧ (s.sheetsDone after).pool = s.pool ∧
      (s.sheetsDone after).integ = s.integ ∧ (s.sheetsDone after).proxy = s.proxy ∧
      (s.sheetsDone after).recorder = s.recorder ∧ (s.sheetsDone after).extents = s.extents ∧
      (s.sheetsDone after).mover = s.mover ∧ (s.sheetsDone after).panel = s.panel ∧
      (s.sheetsDone after).devPanel = s.devPanel ∧ (s.sheetsDone after).devPriority = s.devPriority ∧
      (s.sheetsDone after).alert = s.alert ∧ (s.sheetsDone after).sheet = s.sheet ∧
      (s.sheetsDone after).store = s.store ∧ (s.sheetsDone after).live = s.live ∧
      (s.sheetsDone after).header = s.header ∧ (s.sheetsDone after).host = s.host ∧
      (s.sheetsDone after).pending = s.pending :=
  have h := s.sheetsDone_touches after
  ⟨h .powered (by decide), h .feed (by decide), h .meter (by decide), h .caption (by decide), h .sched (by decide), h .pool (by decide), h .integ (by decide), h .proxy (by decide), h .recorder (by decide), h .extents (by decide), h .mover (by decide), h .panel (by decide), h .devPanel (by decide), h .devPriority (by decide), h .alert (by decide), h .sheet (by decide), h .store (by decide), h .live (by decide), h .header (by decide), h .host (by decide), h .pending (by decide)⟩

@[simp] theorem State.linkHeader_frame (s : State) (b : List Byte) :
    (s.linkHeader b).powered = s.powered ∧ (s.linkHeader b).feed = s.feed ∧
      (s.linkHeader b).meter = s.meter ∧ (s.linkHeader b).caption = s.caption ∧
      (s.linkHeader b).sched = s.sched ∧ (s.linkHeader b).pool = s.pool ∧
      (s.linkHeader b).integ = s.integ ∧ (s.linkHeader b).proxy = s.proxy ∧
      (s.linkHeader b).recorder = s.recorder ∧ (s.linkHeader b).extents = s.extents ∧
      (s.linkHeader b).mover = s.mover ∧ (s.linkHeader b).panel = s.panel ∧
      (s.linkHeader b).devPanel = s.devPanel ∧ (s.linkHeader b).alert = s.alert ∧
      (s.linkHeader b).sheet = s.sheet ∧ (s.linkHeader b).store = s.store ∧
      (s.linkHeader b).live = s.live ∧ (s.linkHeader b).header = s.header ∧
      (s.linkHeader b).host = s.host ∧ (s.linkHeader b).pending = s.pending :=
  have h := s.linkHeader_touches b
  ⟨h .powered (by decide), h .feed (by decide), h .meter (by decide), h .caption (by decide), h .sched (by decide), h .pool (by decide), h .integ (by decide), h .proxy (by decide), h .recorder (by decide), h .extents (by decide), h .mover (by decide), h .panel (by decide), h .devPanel (by decide), h .alert (by decide), h .sheet (by decide), h .store (by decide), h .live (by decide), h .header (by decide), h .host (by decide), h .pending (by decide)⟩

@[simp] theorem State.linkSheets_frame (s : State) (reads : Vector (Option SheetRead) 16) :
    (s.linkSheets reads).powered = s.powered ∧ (s.linkSheets reads).proxy = s.proxy ∧
      (s.linkSheets reads).extents = s.extents ∧ (s.linkSheets reads).mover = s.mover ∧
      (s.linkSheets reads).devPanel = s.devPanel ∧ (s.linkSheets reads).devPriority = s.devPriority ∧
      (s.linkSheets reads).store = s.store ∧ (s.linkSheets reads).header = s.header ∧
      (s.linkSheets reads).host = s.host ∧ (s.linkSheets reads).pending = s.pending :=
  have h := s.linkSheets_touches reads
  ⟨h .powered (by decide), h .proxy (by decide), h .extents (by decide), h .mover (by decide), h .devPanel (by decide), h .devPriority (by decide), h .store (by decide), h .header (by decide), h .host (by decide), h .pending (by decide)⟩

@[simp] theorem State.linkStandings_frame (s : State) :
    (s.linkStandings).powered = s.powered ∧ (s.linkStandings).feed = s.feed ∧
      (s.linkStandings).meter = s.meter ∧ (s.linkStandings).pool = s.pool ∧
      (s.linkStandings).integ = s.integ ∧ (s.linkStandings).proxy = s.proxy ∧
      (s.linkStandings).recorder = s.recorder ∧ (s.linkStandings).extents = s.extents ∧
      (s.linkStandings).mover = s.mover ∧ (s.linkStandings).devPanel = s.devPanel ∧
      (s.linkStandings).devPriority = s.devPriority ∧ (s.linkStandings).sheet = s.sheet ∧
      (s.linkStandings).store = s.store ∧ (s.linkStandings).header = s.header ∧
      (s.linkStandings).pending = s.pending :=
  have h := s.linkStandings_touches
  ⟨h .powered (by decide), h .feed (by decide), h .meter (by decide), h .pool (by decide), h .integ (by decide), h .proxy (by decide), h .recorder (by decide), h .extents (by decide), h .mover (by decide), h .devPanel (by decide), h .devPriority (by decide), h .sheet (by decide), h .store (by decide), h .header (by decide), h .pending (by decide)⟩

@[simp] theorem State.linkFaultRaise_frame (s : State) :
    (s.linkFaultRaise).powered = s.powered ∧ (s.linkFaultRaise).feed = s.feed ∧
      (s.linkFaultRaise).meter = s.meter ∧ (s.linkFaultRaise).caption = s.caption ∧
      (s.linkFaultRaise).sched = s.sched ∧ (s.linkFaultRaise).pool = s.pool ∧
      (s.linkFaultRaise).integ = s.integ ∧ (s.linkFaultRaise).proxy = s.proxy ∧
      (s.linkFaultRaise).recorder = s.recorder ∧ (s.linkFaultRaise).extents = s.extents ∧
      (s.linkFaultRaise).mover = s.mover ∧ (s.linkFaultRaise).panel = s.panel ∧
      (s.linkFaultRaise).devPriority = s.devPriority ∧ (s.linkFaultRaise).sheet = s.sheet ∧
      (s.linkFaultRaise).store = s.store ∧ (s.linkFaultRaise).live = s.live ∧
      (s.linkFaultRaise).host = s.host ∧ (s.linkFaultRaise).pending = s.pending :=
  have h := s.linkFaultRaise_touches
  ⟨h .powered (by decide), h .feed (by decide), h .meter (by decide), h .caption (by decide), h .sched (by decide), h .pool (by decide), h .integ (by decide), h .proxy (by decide), h .recorder (by decide), h .extents (by decide), h .mover (by decide), h .panel (by decide), h .devPriority (by decide), h .sheet (by decide), h .store (by decide), h .live (by decide), h .host (by decide), h .pending (by decide)⟩

@[simp] theorem State.linkDescriptors_frame (s : State) :
    (s.linkDescriptors).powered = s.powered ∧ (s.linkDescriptors).feed = s.feed ∧
      (s.linkDescriptors).meter = s.meter ∧ (s.linkDescriptors).caption = s.caption ∧
      (s.linkDescriptors).sched = s.sched ∧ (s.linkDescriptors).pool = s.pool ∧
      (s.linkDescriptors).integ = s.integ ∧ (s.linkDescriptors).proxy = s.proxy ∧
      (s.linkDescriptors).panel = s.panel ∧ (s.linkDescriptors).devPriority = s.devPriority ∧
      (s.linkDescriptors).sheet = s.sheet ∧ (s.linkDescriptors).store = s.store ∧
      (s.linkDescriptors).live = s.live ∧ (s.linkDescriptors).pending = s.pending :=
  have h := s.linkDescriptors_touches
  ⟨h .powered (by decide), h .feed (by decide), h .meter (by decide), h .caption (by decide), h .sched (by decide), h .pool (by decide), h .integ (by decide), h .proxy (by decide), h .panel (by decide), h .devPriority (by decide), h .sheet (by decide), h .store (by decide), h .live (by decide), h .pending (by decide)⟩

@[simp] theorem State.linkEntries_frame (s : State) :
    (s.linkEntries).powered = s.powered ∧ (s.linkEntries).feed = s.feed ∧
      (s.linkEntries).meter = s.meter ∧ (s.linkEntries).caption = s.caption ∧
      (s.linkEntries).sched = s.sched ∧ (s.linkEntries).pool = s.pool ∧
      (s.linkEntries).integ = s.integ ∧ (s.linkEntries).proxy = s.proxy ∧
      (s.linkEntries).recorder = s.recorder ∧ (s.linkEntries).extents = s.extents ∧
      (s.linkEntries).mover = s.mover ∧ (s.linkEntries).devPriority = s.devPriority ∧
      (s.linkEntries).sheet = s.sheet ∧ (s.linkEntries).store = s.store ∧
      (s.linkEntries).pending = s.pending :=
  have h := s.linkEntries_touches
  ⟨h .powered (by decide), h .feed (by decide), h .meter (by decide), h .caption (by decide), h .sched (by decide), h .pool (by decide), h .integ (by decide), h .proxy (by decide), h .recorder (by decide), h .extents (by decide), h .mover (by decide), h .devPriority (by decide), h .sheet (by decide), h .store (by decide), h .pending (by decide)⟩

@[simp] theorem State.stopWrites_frame (s : State) :
    (s.stopWrites).powered = s.powered ∧ (s.stopWrites).ctl = s.ctl ∧
      (s.stopWrites).feed = s.feed ∧ (s.stopWrites).meter = s.meter ∧
      (s.stopWrites).caption = s.caption ∧ (s.stopWrites).sched = s.sched ∧
      (s.stopWrites).pool = s.pool ∧ (s.stopWrites).integ = s.integ ∧
      (s.stopWrites).proxy = s.proxy ∧ (s.stopWrites).recorder = s.recorder ∧
      (s.stopWrites).extents = s.extents ∧ (s.stopWrites).mover = s.mover ∧
      (s.stopWrites).devPriority = s.devPriority ∧ (s.stopWrites).alert = s.alert ∧
      (s.stopWrites).sheet = s.sheet ∧ (s.stopWrites).store = s.store ∧
      (s.stopWrites).host = s.host ∧ (s.stopWrites).pending = s.pending :=
  have h := s.stopWrites_touches
  ⟨h .powered (by decide), h .ctl (by decide), h .feed (by decide), h .meter (by decide), h .caption (by decide), h .sched (by decide), h .pool (by decide), h .integ (by decide), h .proxy (by decide), h .recorder (by decide), h .extents (by decide), h .mover (by decide), h .devPriority (by decide), h .alert (by decide), h .sheet (by decide), h .store (by decide), h .host (by decide), h .pending (by decide)⟩

@[simp] theorem State.dropAlert_frame (s : State) :
    (s.dropAlert).powered = s.powered ∧ (s.dropAlert).ctl = s.ctl ∧
      (s.dropAlert).feed = s.feed ∧ (s.dropAlert).meter = s.meter ∧
      (s.dropAlert).caption = s.caption ∧ (s.dropAlert).sched = s.sched ∧
      (s.dropAlert).pool = s.pool ∧ (s.dropAlert).integ = s.integ ∧
      (s.dropAlert).proxy = s.proxy ∧ (s.dropAlert).recorder = s.recorder ∧
      (s.dropAlert).extents = s.extents ∧ (s.dropAlert).mover = s.mover ∧
      (s.dropAlert).panel = s.panel ∧ (s.dropAlert).devPanel = s.devPanel ∧
      (s.dropAlert).devPriority = s.devPriority ∧ (s.dropAlert).sheet = s.sheet ∧
      (s.dropAlert).store = s.store ∧ (s.dropAlert).live = s.live ∧
      (s.dropAlert).header = s.header ∧ (s.dropAlert).host = s.host ∧
      (s.dropAlert).pending = s.pending :=
  have h := s.dropAlert_touches
  ⟨h .powered (by decide), h .ctl (by decide), h .feed (by decide), h .meter (by decide), h .caption (by decide), h .sched (by decide), h .pool (by decide), h .integ (by decide), h .proxy (by decide), h .recorder (by decide), h .extents (by decide), h .mover (by decide), h .panel (by decide), h .devPanel (by decide), h .devPriority (by decide), h .sheet (by decide), h .store (by decide), h .live (by decide), h .header (by decide), h .host (by decide), h .pending (by decide)⟩

@[simp] theorem State.beginUnlink_frame (s : State) :
    (s.beginUnlink).powered = s.powered ∧ (s.beginUnlink).feed = s.feed ∧
      (s.beginUnlink).meter = s.meter ∧ (s.beginUnlink).proxy = s.proxy ∧
      (s.beginUnlink).devPriority = s.devPriority ∧ (s.beginUnlink).sheet = s.sheet ∧
      (s.beginUnlink).store = s.store ∧ (s.beginUnlink).host = s.host ∧
      (s.beginUnlink).pending = s.pending :=
  have h := s.beginUnlink_touches
  ⟨h .powered (by decide), h .feed (by decide), h .meter (by decide), h .proxy (by decide), h .devPriority (by decide), h .sheet (by decide), h .store (by decide), h .host (by decide), h .pending (by decide)⟩

@[simp] theorem State.landQueues_frame (s : State) :
    (s.landQueues).powered = s.powered ∧ (s.landQueues).ctl = s.ctl ∧
      (s.landQueues).feed = s.feed ∧ (s.landQueues).meter = s.meter ∧
      (s.landQueues).caption = s.caption ∧ (s.landQueues).sched = s.sched ∧
      (s.landQueues).pool = s.pool ∧ (s.landQueues).integ = s.integ ∧
      (s.landQueues).proxy = s.proxy ∧ (s.landQueues).recorder = s.recorder ∧
      (s.landQueues).extents = s.extents ∧ (s.landQueues).mover = s.mover ∧
      (s.landQueues).panel = s.panel ∧ (s.landQueues).devPanel = s.devPanel ∧
      (s.landQueues).devPriority = s.devPriority ∧ (s.landQueues).alert = s.alert ∧
      (s.landQueues).sheet = s.sheet ∧ (s.landQueues).store = s.store ∧
      (s.landQueues).pending = s.pending :=
  have h := s.landQueues_touches
  ⟨h .powered (by decide), h .ctl (by decide), h .feed (by decide), h .meter (by decide), h .caption (by decide), h .sched (by decide), h .pool (by decide), h .integ (by decide), h .proxy (by decide), h .recorder (by decide), h .extents (by decide), h .mover (by decide), h .panel (by decide), h .devPanel (by decide), h .devPriority (by decide), h .alert (by decide), h .sheet (by decide), h .store (by decide), h .pending (by decide)⟩

@[simp] theorem State.settleQueues_frame (s : State) :
    (s.settleQueues).powered = s.powered ∧ (s.settleQueues).feed = s.feed ∧
      (s.settleQueues).meter = s.meter ∧ (s.settleQueues).caption = s.caption ∧
      (s.settleQueues).sched = s.sched ∧ (s.settleQueues).pool = s.pool ∧
      (s.settleQueues).integ = s.integ ∧ (s.settleQueues).proxy = s.proxy ∧
      (s.settleQueues).recorder = s.recorder ∧ (s.settleQueues).extents = s.extents ∧
      (s.settleQueues).mover = s.mover ∧ (s.settleQueues).devPriority = s.devPriority ∧
      (s.settleQueues).sheet = s.sheet ∧ (s.settleQueues).store = s.store ∧
      (s.settleQueues).pending = s.pending :=
  have h := s.settleQueues_touches
  ⟨h .powered (by decide), h .feed (by decide), h .meter (by decide), h .caption (by decide), h .sched (by decide), h .pool (by decide), h .integ (by decide), h .proxy (by decide), h .recorder (by decide), h .extents (by decide), h .mover (by decide), h .devPriority (by decide), h .sheet (by decide), h .store (by decide), h .pending (by decide)⟩

@[simp] theorem State.settle_frame (s : State) :
    (s.settle).powered = s.powered ∧ (s.settle).feed = s.feed ∧
      (s.settle).meter = s.meter ∧ (s.settle).caption = s.caption ∧
      (s.settle).sched = s.sched ∧ (s.settle).pool = s.pool ∧
      (s.settle).integ = s.integ ∧ (s.settle).proxy = s.proxy ∧
      (s.settle).recorder = s.recorder ∧ (s.settle).extents = s.extents ∧
      (s.settle).mover = s.mover ∧ (s.settle).devPriority = s.devPriority ∧
      (s.settle).sheet = s.sheet ∧ (s.settle).store = s.store ∧
      (s.settle).pending = s.pending :=
  have h := s.settle_touches
  ⟨h .powered (by decide), h .feed (by decide), h .meter (by decide), h .caption (by decide), h .sched (by decide), h .pool (by decide), h .integ (by decide), h .proxy (by decide), h .recorder (by decide), h .extents (by decide), h .mover (by decide), h .devPriority (by decide), h .sheet (by decide), h .store (by decide), h .pending (by decide)⟩

@[simp] theorem State.completeUnlink_frame (s : State) :
    (s.completeUnlink).powered = s.powered ∧ (s.completeUnlink).feed = s.feed ∧
      (s.completeUnlink).meter = s.meter ∧ (s.completeUnlink).pool = s.pool ∧
      (s.completeUnlink).integ = s.integ ∧ (s.completeUnlink).proxy = s.proxy ∧
      (s.completeUnlink).recorder = s.recorder ∧ (s.completeUnlink).extents = s.extents ∧
      (s.completeUnlink).mover = s.mover ∧ (s.completeUnlink).devPriority = s.devPriority ∧
      (s.completeUnlink).sheet = s.sheet ∧ (s.completeUnlink).store = s.store ∧
      (s.completeUnlink).pending = s.pending :=
  have h := s.completeUnlink_touches
  ⟨h .powered (by decide), h .feed (by decide), h .meter (by decide), h .pool (by decide), h .integ (by decide), h .proxy (by decide), h .recorder (by decide), h .extents (by decide), h .mover (by decide), h .devPriority (by decide), h .sheet (by decide), h .store (by decide), h .pending (by decide)⟩

@[simp] theorem State.faultUnlink_frame (s : State) :
    (s.faultUnlink).powered = s.powered ∧ (s.faultUnlink).feed = s.feed ∧
      (s.faultUnlink).meter = s.meter ∧ (s.faultUnlink).proxy = s.proxy ∧
      (s.faultUnlink).devPriority = s.devPriority ∧ (s.faultUnlink).sheet = s.sheet ∧
      (s.faultUnlink).store = s.store ∧ (s.faultUnlink).host = s.host ∧
      (s.faultUnlink).pending = s.pending :=
  have h := s.faultUnlink_touches
  ⟨h .powered (by decide), h .feed (by decide), h .meter (by decide), h .proxy (by decide), h .devPriority (by decide), h .sheet (by decide), h .store (by decide), h .host (by decide), h .pending (by decide)⟩

@[simp] theorem State.dropEntryWrite_frame (s : State) (c : CondRef) :
    (s.dropEntryWrite c).powered = s.powered ∧ (s.dropEntryWrite c).ctl = s.ctl ∧
      (s.dropEntryWrite c).feed = s.feed ∧ (s.dropEntryWrite c).meter = s.meter ∧
      (s.dropEntryWrite c).caption = s.caption ∧ (s.dropEntryWrite c).sched = s.sched ∧
      (s.dropEntryWrite c).pool = s.pool ∧ (s.dropEntryWrite c).integ = s.integ ∧
      (s.dropEntryWrite c).proxy = s.proxy ∧ (s.dropEntryWrite c).recorder = s.recorder ∧
      (s.dropEntryWrite c).extents = s.extents ∧ (s.dropEntryWrite c).mover = s.mover ∧
      (s.dropEntryWrite c).panel = s.panel ∧ (s.dropEntryWrite c).devPanel = s.devPanel ∧
      (s.dropEntryWrite c).devPriority = s.devPriority ∧ (s.dropEntryWrite c).alert = s.alert ∧
      (s.dropEntryWrite c).sheet = s.sheet ∧ (s.dropEntryWrite c).store = s.store ∧
      (s.dropEntryWrite c).host = s.host ∧ (s.dropEntryWrite c).pending = s.pending :=
  have h := s.dropEntryWrite_touches c
  ⟨h .powered (by decide), h .ctl (by decide), h .feed (by decide), h .meter (by decide), h .caption (by decide), h .sched (by decide), h .pool (by decide), h .integ (by decide), h .proxy (by decide), h .recorder (by decide), h .extents (by decide), h .mover (by decide), h .panel (by decide), h .devPanel (by decide), h .devPriority (by decide), h .alert (by decide), h .sheet (by decide), h .store (by decide), h .host (by decide), h .pending (by decide)⟩

@[simp] theorem State.entryWriteLost_frame (s : State) (c : CondRef) :
    (s.entryWriteLost c).powered = s.powered ∧ (s.entryWriteLost c).ctl = s.ctl ∧
      (s.entryWriteLost c).feed = s.feed ∧ (s.entryWriteLost c).meter = s.meter ∧
      (s.entryWriteLost c).caption = s.caption ∧ (s.entryWriteLost c).sched = s.sched ∧
      (s.entryWriteLost c).pool = s.pool ∧ (s.entryWriteLost c).integ = s.integ ∧
      (s.entryWriteLost c).proxy = s.proxy ∧ (s.entryWriteLost c).recorder = s.recorder ∧
      (s.entryWriteLost c).extents = s.extents ∧ (s.entryWriteLost c).mover = s.mover ∧
      (s.entryWriteLost c).devPriority = s.devPriority ∧ (s.entryWriteLost c).alert = s.alert ∧
      (s.entryWriteLost c).sheet = s.sheet ∧ (s.entryWriteLost c).store = s.store ∧
      (s.entryWriteLost c).host = s.host ∧ (s.entryWriteLost c).pending = s.pending :=
  have h := s.entryWriteLost_touches c
  ⟨h .powered (by decide), h .ctl (by decide), h .feed (by decide), h .meter (by decide), h .caption (by decide), h .sched (by decide), h .pool (by decide), h .integ (by decide), h .proxy (by decide), h .recorder (by decide), h .extents (by decide), h .mover (by decide), h .devPriority (by decide), h .alert (by decide), h .sheet (by decide), h .store (by decide), h .host (by decide), h .pending (by decide)⟩

@[simp] theorem State.entryWriteFailed_frame (s : State) (c : CondRef) :
    (s.entryWriteFailed c).powered = s.powered ∧ (s.entryWriteFailed c).ctl = s.ctl ∧
      (s.entryWriteFailed c).feed = s.feed ∧ (s.entryWriteFailed c).meter = s.meter ∧
      (s.entryWriteFailed c).caption = s.caption ∧ (s.entryWriteFailed c).sched = s.sched ∧
      (s.entryWriteFailed c).pool = s.pool ∧ (s.entryWriteFailed c).integ = s.integ ∧
      (s.entryWriteFailed c).proxy = s.proxy ∧ (s.entryWriteFailed c).recorder = s.recorder ∧
      (s.entryWriteFailed c).extents = s.extents ∧ (s.entryWriteFailed c).mover = s.mover ∧
      (s.entryWriteFailed c).devPriority = s.devPriority ∧ (s.entryWriteFailed c).sheet = s.sheet ∧
      (s.entryWriteFailed c).store = s.store ∧ (s.entryWriteFailed c).host = s.host ∧
      (s.entryWriteFailed c).pending = s.pending :=
  have h := s.entryWriteFailed_touches c
  ⟨h .powered (by decide), h .ctl (by decide), h .feed (by decide), h .meter (by decide), h .caption (by decide), h .sched (by decide), h .pool (by decide), h .integ (by decide), h .proxy (by decide), h .recorder (by decide), h .extents (by decide), h .mover (by decide), h .devPriority (by decide), h .sheet (by decide), h .store (by decide), h .host (by decide), h .pending (by decide)⟩

@[simp] theorem State.countFailure_frame (s : State) :
    (s.countFailure).powered = s.powered ∧ (s.countFailure).feed = s.feed ∧
      (s.countFailure).meter = s.meter ∧ (s.countFailure).caption = s.caption ∧
      (s.countFailure).sched = s.sched ∧ (s.countFailure).pool = s.pool ∧
      (s.countFailure).integ = s.integ ∧ (s.countFailure).proxy = s.proxy ∧
      (s.countFailure).recorder = s.recorder ∧ (s.countFailure).extents = s.extents ∧
      (s.countFailure).mover = s.mover ∧ (s.countFailure).panel = s.panel ∧
      (s.countFailure).devPanel = s.devPanel ∧ (s.countFailure).devPriority = s.devPriority ∧
      (s.countFailure).alert = s.alert ∧ (s.countFailure).sheet = s.sheet ∧
      (s.countFailure).store = s.store ∧ (s.countFailure).live = s.live ∧
      (s.countFailure).header = s.header ∧ (s.countFailure).host = s.host ∧
      (s.countFailure).pending = s.pending :=
  have h := s.countFailure_touches
  ⟨h .powered (by decide), h .feed (by decide), h .meter (by decide), h .caption (by decide), h .sched (by decide), h .pool (by decide), h .integ (by decide), h .proxy (by decide), h .recorder (by decide), h .extents (by decide), h .mover (by decide), h .panel (by decide), h .devPanel (by decide), h .devPriority (by decide), h .alert (by decide), h .sheet (by decide), h .store (by decide), h .live (by decide), h .header (by decide), h .host (by decide), h .pending (by decide)⟩

@[simp] theorem State.failOwner_frame (s : State) (a : AccessRef) :
    (s.failOwner a).powered = s.powered ∧ (s.failOwner a).feed = s.feed ∧
      (s.failOwner a).meter = s.meter ∧ (s.failOwner a).caption = s.caption ∧
      (s.failOwner a).pool = s.pool ∧ (s.failOwner a).integ = s.integ ∧
      (s.failOwner a).proxy = s.proxy ∧ (s.failOwner a).devPriority = s.devPriority ∧
      (s.failOwner a).sheet = s.sheet ∧ (s.failOwner a).store = s.store ∧
      (s.failOwner a).host = s.host ∧ (s.failOwner a).pending = s.pending :=
  have h := s.failOwner_touches a
  ⟨h .powered (by decide), h .feed (by decide), h .meter (by decide), h .caption (by decide), h .pool (by decide), h .integ (by decide), h .proxy (by decide), h .devPriority (by decide), h .sheet (by decide), h .store (by decide), h .host (by decide), h .pending (by decide)⟩

@[simp] theorem State.landQueued_frame (s : State) (d : Completions) :
    (s.landQueued d).powered = s.powered ∧ (s.landQueued d).ctl = s.ctl ∧
      (s.landQueued d).feed = s.feed ∧ (s.landQueued d).meter = s.meter ∧
      (s.landQueued d).caption = s.caption ∧ (s.landQueued d).sched = s.sched ∧
      (s.landQueued d).pool = s.pool ∧ (s.landQueued d).integ = s.integ ∧
      (s.landQueued d).proxy = s.proxy ∧ (s.landQueued d).recorder = s.recorder ∧
      (s.landQueued d).extents = s.extents ∧ (s.landQueued d).mover = s.mover ∧
      (s.landQueued d).panel = s.panel ∧ (s.landQueued d).devPanel = s.devPanel ∧
      (s.landQueued d).devPriority = s.devPriority ∧ (s.landQueued d).alert = s.alert ∧
      (s.landQueued d).sheet = s.sheet ∧ (s.landQueued d).store = s.store ∧
      (s.landQueued d).pending = s.pending :=
  have h := s.landQueued_touches d
  ⟨h .powered (by decide), h .ctl (by decide), h .feed (by decide), h .meter (by decide), h .caption (by decide), h .sched (by decide), h .pool (by decide), h .integ (by decide), h .proxy (by decide), h .recorder (by decide), h .extents (by decide), h .mover (by decide), h .panel (by decide), h .devPanel (by decide), h .devPriority (by decide), h .alert (by decide), h .sheet (by decide), h .store (by decide), h .pending (by decide)⟩

@[simp] theorem State.landCompleted_frame (s : State) (d : Completions) :
    (s.landCompleted d).powered = s.powered ∧ (s.landCompleted d).feed = s.feed ∧
      (s.landCompleted d).meter = s.meter ∧ (s.landCompleted d).caption = s.caption ∧
      (s.landCompleted d).sched = s.sched ∧ (s.landCompleted d).pool = s.pool ∧
      (s.landCompleted d).integ = s.integ ∧ (s.landCompleted d).proxy = s.proxy ∧
      (s.landCompleted d).recorder = s.recorder ∧ (s.landCompleted d).extents = s.extents ∧
      (s.landCompleted d).mover = s.mover ∧ (s.landCompleted d).devPriority = s.devPriority ∧
      (s.landCompleted d).alert = s.alert ∧ (s.landCompleted d).sheet = s.sheet ∧
      (s.landCompleted d).store = s.store ∧ (s.landCompleted d).pending = s.pending :=
  have h := s.landCompleted_touches d
  ⟨h .powered (by decide), h .feed (by decide), h .meter (by decide), h .caption (by decide), h .sched (by decide), h .pool (by decide), h .integ (by decide), h .proxy (by decide), h .recorder (by decide), h .extents (by decide), h .mover (by decide), h .devPriority (by decide), h .alert (by decide), h .sheet (by decide), h .store (by decide), h .pending (by decide)⟩

@[simp] theorem State.completed_frame (s : State) (d : Completions) :
    (s.completed d).powered = s.powered ∧ (s.completed d).feed = s.feed ∧
      (s.completed d).meter = s.meter ∧ (s.completed d).caption = s.caption ∧
      (s.completed d).sched = s.sched ∧ (s.completed d).pool = s.pool ∧
      (s.completed d).integ = s.integ ∧ (s.completed d).proxy = s.proxy ∧
      (s.completed d).recorder = s.recorder ∧ (s.completed d).extents = s.extents ∧
      (s.completed d).mover = s.mover ∧ (s.completed d).devPriority = s.devPriority ∧
      (s.completed d).sheet = s.sheet ∧ (s.completed d).store = s.store ∧
      (s.completed d).pending = s.pending :=
  have h := s.completed_touches d
  ⟨h .powered (by decide), h .feed (by decide), h .meter (by decide), h .caption (by decide), h .sched (by decide), h .pool (by decide), h .integ (by decide), h .proxy (by decide), h .recorder (by decide), h .extents (by decide), h .mover (by decide), h .devPriority (by decide), h .sheet (by decide), h .store (by decide), h .pending (by decide)⟩

@[simp] theorem State.failFlying_frame (s : State) (a : AccessRef) :
    (s.failFlying a).powered = s.powered ∧ (s.failFlying a).feed = s.feed ∧
      (s.failFlying a).meter = s.meter ∧ (s.failFlying a).proxy = s.proxy ∧
      (s.failFlying a).devPriority = s.devPriority ∧ (s.failFlying a).sheet = s.sheet ∧
      (s.failFlying a).store = s.store ∧ (s.failFlying a).host = s.host ∧
      (s.failFlying a).pending = s.pending :=
  have h := s.failFlying_touches a
  ⟨h .powered (by decide), h .feed (by decide), h .meter (by decide), h .proxy (by decide), h .devPriority (by decide), h .sheet (by decide), h .store (by decide), h .host (by decide), h .pending (by decide)⟩

@[simp] theorem State.failAccess_frame (s : State) (a : AccessRef) (d : Completions) :
    (s.failAccess a d).powered = s.powered ∧ (s.failAccess a d).feed = s.feed ∧
      (s.failAccess a d).meter = s.meter ∧ (s.failAccess a d).proxy = s.proxy ∧
      (s.failAccess a d).devPriority = s.devPriority ∧ (s.failAccess a d).sheet = s.sheet ∧
      (s.failAccess a d).store = s.store ∧ (s.failAccess a d).pending = s.pending :=
  have h := s.failAccess_touches a d
  ⟨h .powered (by decide), h .feed (by decide), h .meter (by decide), h .proxy (by decide), h .devPriority (by decide), h .sheet (by decide), h .store (by decide), h .pending (by decide)⟩

@[simp] theorem State.linkStep_frame (s : State) (r : LinkReport) :
    (s.linkStep r).powered = s.powered ∧ (s.linkStep r).proxy = s.proxy ∧
      (s.linkStep r).store = s.store ∧ (s.linkStep r).pending = s.pending :=
  have h := s.linkStep_touches r
  ⟨h .powered (by decide), h .proxy (by decide), h .store (by decide), h .pending (by decide)⟩

@[simp] theorem State.commandUnlink_frame (s : State) :
    (s.commandUnlink).powered = s.powered ∧ (s.commandUnlink).feed = s.feed ∧
      (s.commandUnlink).meter = s.meter ∧ (s.commandUnlink).proxy = s.proxy ∧
      (s.commandUnlink).devPriority = s.devPriority ∧ (s.commandUnlink).sheet = s.sheet ∧
      (s.commandUnlink).store = s.store ∧ (s.commandUnlink).host = s.host ∧
      (s.commandUnlink).pending = s.pending :=
  have h := s.commandUnlink_touches
  ⟨h .powered (by decide), h .feed (by decide), h .meter (by decide), h .proxy (by decide), h .devPriority (by decide), h .sheet (by decide), h .store (by decide), h .host (by decide), h .pending (by decide)⟩

/-! ### Machine/Power.lean -/

@[simp] theorem State.commandStore_frame (s : State) (mask : BitVec 16) :
    (s.commandStore mask).powered = s.powered ∧ (s.commandStore mask).feed = s.feed ∧
      (s.commandStore mask).meter = s.meter ∧ (s.commandStore mask).caption = s.caption ∧
      (s.commandStore mask).sched = s.sched ∧ (s.commandStore mask).pool = s.pool ∧
      (s.commandStore mask).integ = s.integ ∧ (s.commandStore mask).proxy = s.proxy ∧
      (s.commandStore mask).recorder = s.recorder ∧ (s.commandStore mask).extents = s.extents ∧
      (s.commandStore mask).mover = s.mover ∧ (s.commandStore mask).panel = s.panel ∧
      (s.commandStore mask).devPriority = s.devPriority ∧ (s.commandStore mask).sheet = s.sheet ∧
      (s.commandStore mask).live = s.live ∧ (s.commandStore mask).host = s.host ∧
      (s.commandStore mask).pending = s.pending :=
  have h := s.commandStore_touches mask
  ⟨h .powered (by decide), h .feed (by decide), h .meter (by decide), h .caption (by decide), h .sched (by decide), h .pool (by decide), h .integ (by decide), h .proxy (by decide), h .recorder (by decide), h .extents (by decide), h .mover (by decide), h .panel (by decide), h .devPriority (by decide), h .sheet (by decide), h .live (by decide), h .host (by decide), h .pending (by decide)⟩

@[simp] theorem State.commandUnknown_frame (s : State) (code : Byte) :
    (s.commandUnknown code).powered = s.powered ∧ (s.commandUnknown code).feed = s.feed ∧
      (s.commandUnknown code).meter = s.meter ∧ (s.commandUnknown code).caption = s.caption ∧
      (s.commandUnknown code).sched = s.sched ∧ (s.commandUnknown code).pool = s.pool ∧
      (s.commandUnknown code).integ = s.integ ∧ (s.commandUnknown code).proxy = s.proxy ∧
      (s.commandUnknown code).recorder = s.recorder ∧ (s.commandUnknown code).extents = s.extents ∧
      (s.commandUnknown code).mover = s.mover ∧ (s.commandUnknown code).panel = s.panel ∧
      (s.commandUnknown code).devPanel = s.devPanel ∧ (s.commandUnknown code).devPriority = s.devPriority ∧
      (s.commandUnknown code).alert = s.alert ∧ (s.commandUnknown code).sheet = s.sheet ∧
      (s.commandUnknown code).store = s.store ∧ (s.commandUnknown code).live = s.live ∧
      (s.commandUnknown code).header = s.header ∧ (s.commandUnknown code).host = s.host ∧
      (s.commandUnknown code).pending = s.pending :=
  have h := s.commandUnknown_touches code
  ⟨h .powered (by decide), h .feed (by decide), h .meter (by decide), h .caption (by decide), h .sched (by decide), h .pool (by decide), h .integ (by decide), h .proxy (by decide), h .recorder (by decide), h .extents (by decide), h .mover (by decide), h .panel (by decide), h .devPanel (by decide), h .devPriority (by decide), h .alert (by decide), h .sheet (by decide), h .store (by decide), h .live (by decide), h .header (by decide), h .host (by decide), h .pending (by decide)⟩

@[simp] theorem State.raiseLoad_frame (s : State) (n : Svc) :
    (s.raiseLoad n).powered = s.powered ∧ (s.raiseLoad n).ctl = s.ctl ∧
      (s.raiseLoad n).feed = s.feed ∧ (s.raiseLoad n).meter = s.meter ∧
      (s.raiseLoad n).caption = s.caption ∧ (s.raiseLoad n).sched = s.sched ∧
      (s.raiseLoad n).pool = s.pool ∧ (s.raiseLoad n).integ = s.integ ∧
      (s.raiseLoad n).proxy = s.proxy ∧ (s.raiseLoad n).recorder = s.recorder ∧
      (s.raiseLoad n).extents = s.extents ∧ (s.raiseLoad n).mover = s.mover ∧
      (s.raiseLoad n).devPriority = s.devPriority ∧ (s.raiseLoad n).sheet = s.sheet ∧
      (s.raiseLoad n).store = s.store ∧ (s.raiseLoad n).host = s.host ∧
      (s.raiseLoad n).pending = s.pending :=
  have h := s.raiseLoad_touches n
  ⟨h .powered (by decide), h .ctl (by decide), h .feed (by decide), h .meter (by decide), h .caption (by decide), h .sched (by decide), h .pool (by decide), h .integ (by decide), h .proxy (by decide), h .recorder (by decide), h .extents (by decide), h .mover (by decide), h .devPriority (by decide), h .sheet (by decide), h .store (by decide), h .host (by decide), h .pending (by decide)⟩

@[simp] theorem State.raiseReset_frame (s : State) :
    (s.raiseReset).powered = s.powered ∧ (s.raiseReset).ctl = s.ctl ∧
      (s.raiseReset).feed = s.feed ∧ (s.raiseReset).meter = s.meter ∧
      (s.raiseReset).caption = s.caption ∧ (s.raiseReset).sched = s.sched ∧
      (s.raiseReset).pool = s.pool ∧ (s.raiseReset).integ = s.integ ∧
      (s.raiseReset).proxy = s.proxy ∧ (s.raiseReset).recorder = s.recorder ∧
      (s.raiseReset).extents = s.extents ∧ (s.raiseReset).mover = s.mover ∧
      (s.raiseReset).devPriority = s.devPriority ∧ (s.raiseReset).sheet = s.sheet ∧
      (s.raiseReset).store = s.store ∧ (s.raiseReset).host = s.host ∧
      (s.raiseReset).pending = s.pending :=
  have h := s.raiseReset_touches
  ⟨h .powered (by decide), h .ctl (by decide), h .feed (by decide), h .meter (by decide), h .caption (by decide), h .sched (by decide), h .pool (by decide), h .integ (by decide), h .proxy (by decide), h .recorder (by decide), h .extents (by decide), h .mover (by decide), h .devPriority (by decide), h .sheet (by decide), h .store (by decide), h .host (by decide), h .pending (by decide)⟩

/-! ### Machine/Control.lean -/

@[simp] theorem State.writeBase_frame (s : State) (value : BitVec 64) :
    (s.writeBase value).powered = s.powered ∧ (s.writeBase value).feed = s.feed ∧
      (s.writeBase value).meter = s.meter ∧ (s.writeBase value).caption = s.caption ∧
      (s.writeBase value).sched = s.sched ∧ (s.writeBase value).pool = s.pool ∧
      (s.writeBase value).integ = s.integ ∧ (s.writeBase value).proxy = s.proxy ∧
      (s.writeBase value).recorder = s.recorder ∧ (s.writeBase value).extents = s.extents ∧
      (s.writeBase value).mover = s.mover ∧ (s.writeBase value).panel = s.panel ∧
      (s.writeBase value).devPanel = s.devPanel ∧ (s.writeBase value).devPriority = s.devPriority ∧
      (s.writeBase value).alert = s.alert ∧ (s.writeBase value).sheet = s.sheet ∧
      (s.writeBase value).store = s.store ∧ (s.writeBase value).live = s.live ∧
      (s.writeBase value).header = s.header ∧ (s.writeBase value).host = s.host ∧
      (s.writeBase value).pending = s.pending :=
  have h := s.writeBase_touches value
  ⟨h .powered (by decide), h .feed (by decide), h .meter (by decide), h .caption (by decide), h .sched (by decide), h .pool (by decide), h .integ (by decide), h .proxy (by decide), h .recorder (by decide), h .extents (by decide), h .mover (by decide), h .panel (by decide), h .devPanel (by decide), h .devPriority (by decide), h .alert (by decide), h .sheet (by decide), h .store (by decide), h .live (by decide), h .header (by decide), h .host (by decide), h .pending (by decide)⟩

@[simp] theorem State.writeLevel_frame (s : State) (value : BitVec 64) :
    (s.writeLevel value).powered = s.powered ∧ (s.writeLevel value).ctl = s.ctl ∧
      (s.writeLevel value).feed = s.feed ∧ (s.writeLevel value).meter = s.meter ∧
      (s.writeLevel value).caption = s.caption ∧ (s.writeLevel value).sched = s.sched ∧
      (s.writeLevel value).pool = s.pool ∧ (s.writeLevel value).integ = s.integ ∧
      (s.writeLevel value).proxy = s.proxy ∧ (s.writeLevel value).recorder = s.recorder ∧
      (s.writeLevel value).extents = s.extents ∧ (s.writeLevel value).mover = s.mover ∧
      (s.writeLevel value).panel = s.panel ∧ (s.writeLevel value).devPanel = s.devPanel ∧
      (s.writeLevel value).devPriority = s.devPriority ∧ (s.writeLevel value).sheet = s.sheet ∧
      (s.writeLevel value).store = s.store ∧ (s.writeLevel value).live = s.live ∧
      (s.writeLevel value).header = s.header ∧ (s.writeLevel value).host = s.host ∧
      (s.writeLevel value).pending = s.pending :=
  have h := s.writeLevel_touches value
  ⟨h .powered (by decide), h .ctl (by decide), h .feed (by decide), h .meter (by decide), h .caption (by decide), h .sched (by decide), h .pool (by decide), h .integ (by decide), h .proxy (by decide), h .recorder (by decide), h .extents (by decide), h .mover (by decide), h .panel (by decide), h .devPanel (by decide), h .devPriority (by decide), h .sheet (by decide), h .store (by decide), h .live (by decide), h .header (by decide), h .host (by decide), h .pending (by decide)⟩

/-! ### Machine/Step.lean -/

@[simp] theorem State.idle_frame (s : State) :
    (s.idle).powered = s.powered ∧ (s.idle).feed = s.feed ∧
      (s.idle).meter = s.meter ∧ (s.idle).caption = s.caption ∧
      (s.idle).sched = s.sched ∧ (s.idle).pool = s.pool ∧
      (s.idle).integ = s.integ ∧ (s.idle).proxy = s.proxy ∧
      (s.idle).recorder = s.recorder ∧ (s.idle).extents = s.extents ∧
      (s.idle).mover = s.mover ∧ (s.idle).devPriority = s.devPriority ∧
      (s.idle).sheet = s.sheet ∧ (s.idle).store = s.store ∧
      (s.idle).pending = s.pending :=
  have h := s.idle_touches
  ⟨h .powered (by decide), h .feed (by decide), h .meter (by decide), h .caption (by decide), h .sched (by decide), h .pool (by decide), h .integ (by decide), h .proxy (by decide), h .recorder (by decide), h .extents (by decide), h .mover (by decide), h .devPriority (by decide), h .sheet (by decide), h .store (by decide), h .pending (by decide)⟩

/-! ### Machine/Attention.lean -/

@[simp] theorem State.captureAckRead_frame (s : State) (n : Svc) (ack : BitVec 16) :
    (s.captureAckRead n ack).powered = s.powered ∧ (s.captureAckRead n ack).feed = s.feed ∧
      (s.captureAckRead n ack).meter = s.meter ∧ (s.captureAckRead n ack).caption = s.caption ∧
      (s.captureAckRead n ack).sched = s.sched ∧ (s.captureAckRead n ack).pool = s.pool ∧
      (s.captureAckRead n ack).integ = s.integ ∧ (s.captureAckRead n ack).proxy = s.proxy ∧
      (s.captureAckRead n ack).extents = s.extents ∧ (s.captureAckRead n ack).mover = s.mover ∧
      (s.captureAckRead n ack).devPanel = s.devPanel ∧ (s.captureAckRead n ack).devPriority = s.devPriority ∧
      (s.captureAckRead n ack).sheet = s.sheet ∧ (s.captureAckRead n ack).store = s.store ∧
      (s.captureAckRead n ack).header = s.header ∧ (s.captureAckRead n ack).host = s.host ∧
      (s.captureAckRead n ack).pending = s.pending :=
  have h := s.captureAckRead_touches n ack
  ⟨h .powered (by decide), h .feed (by decide), h .meter (by decide), h .caption (by decide), h .sched (by decide), h .pool (by decide), h .integ (by decide), h .proxy (by decide), h .extents (by decide), h .mover (by decide), h .devPanel (by decide), h .devPriority (by decide), h .sheet (by decide), h .store (by decide), h .header (by decide), h .host (by decide), h .pending (by decide)⟩

@[simp] theorem State.ackRead_frame (s : State) (c : CondRef) (ack : BitVec 16) :
    (s.ackRead c ack).powered = s.powered ∧ (s.ackRead c ack).feed = s.feed ∧
      (s.ackRead c ack).meter = s.meter ∧ (s.ackRead c ack).caption = s.caption ∧
      (s.ackRead c ack).sched = s.sched ∧ (s.ackRead c ack).pool = s.pool ∧
      (s.ackRead c ack).integ = s.integ ∧ (s.ackRead c ack).proxy = s.proxy ∧
      (s.ackRead c ack).recorder = s.recorder ∧ (s.ackRead c ack).extents = s.extents ∧
      (s.ackRead c ack).mover = s.mover ∧ (s.ackRead c ack).devPriority = s.devPriority ∧
      (s.ackRead c ack).alert = s.alert ∧ (s.ackRead c ack).sheet = s.sheet ∧
      (s.ackRead c ack).store = s.store ∧ (s.ackRead c ack).host = s.host ∧
      (s.ackRead c ack).pending = s.pending :=
  have h := s.ackRead_touches c ack
  ⟨h .powered (by decide), h .feed (by decide), h .meter (by decide), h .caption (by decide), h .sched (by decide), h .pool (by decide), h .integ (by decide), h .proxy (by decide), h .recorder (by decide), h .extents (by decide), h .mover (by decide), h .devPriority (by decide), h .alert (by decide), h .sheet (by decide), h .store (by decide), h .host (by decide), h .pending (by decide)⟩

@[simp] theorem State.setDevPriority_frame (s : State) (c : DevCond) (p : Nat) :
    (s.setDevPriority c p).powered = s.powered ∧ (s.setDevPriority c p).ctl = s.ctl ∧
      (s.setDevPriority c p).feed = s.feed ∧ (s.setDevPriority c p).meter = s.meter ∧
      (s.setDevPriority c p).caption = s.caption ∧ (s.setDevPriority c p).sched = s.sched ∧
      (s.setDevPriority c p).pool = s.pool ∧ (s.setDevPriority c p).integ = s.integ ∧
      (s.setDevPriority c p).proxy = s.proxy ∧ (s.setDevPriority c p).recorder = s.recorder ∧
      (s.setDevPriority c p).extents = s.extents ∧ (s.setDevPriority c p).mover = s.mover ∧
      (s.setDevPriority c p).panel = s.panel ∧ (s.setDevPriority c p).alert = s.alert ∧
      (s.setDevPriority c p).sheet = s.sheet ∧ (s.setDevPriority c p).store = s.store ∧
      (s.setDevPriority c p).live = s.live ∧ (s.setDevPriority c p).host = s.host ∧
      (s.setDevPriority c p).pending = s.pending :=
  have h := s.setDevPriority_touches c p
  ⟨h .powered (by decide), h .ctl (by decide), h .feed (by decide), h .meter (by decide), h .caption (by decide), h .sched (by decide), h .pool (by decide), h .integ (by decide), h .proxy (by decide), h .recorder (by decide), h .extents (by decide), h .mover (by decide), h .panel (by decide), h .alert (by decide), h .sheet (by decide), h .store (by decide), h .live (by decide), h .host (by decide), h .pending (by decide)⟩

@[simp] theorem State.devPriorityRead_frame (s : State) (p0 p1 p2 : Byte) :
    (s.devPriorityRead p0 p1 p2).powered = s.powered ∧ (s.devPriorityRead p0 p1 p2).feed = s.feed ∧
      (s.devPriorityRead p0 p1 p2).meter = s.meter ∧ (s.devPriorityRead p0 p1 p2).caption = s.caption ∧
      (s.devPriorityRead p0 p1 p2).sched = s.sched ∧ (s.devPriorityRead p0 p1 p2).pool = s.pool ∧
      (s.devPriorityRead p0 p1 p2).integ = s.integ ∧ (s.devPriorityRead p0 p1 p2).proxy = s.proxy ∧
      (s.devPriorityRead p0 p1 p2).recorder = s.recorder ∧ (s.devPriorityRead p0 p1 p2).extents = s.extents ∧
      (s.devPriorityRead p0 p1 p2).mover = s.mover ∧ (s.devPriorityRead p0 p1 p2).panel = s.panel ∧
      (s.devPriorityRead p0 p1 p2).sheet = s.sheet ∧ (s.devPriorityRead p0 p1 p2).store = s.store ∧
      (s.devPriorityRead p0 p1 p2).live = s.live ∧ (s.devPriorityRead p0 p1 p2).host = s.host ∧
      (s.devPriorityRead p0 p1 p2).pending = s.pending :=
  have h := s.devPriorityRead_touches p0 p1 p2
  ⟨h .powered (by decide), h .feed (by decide), h .meter (by decide), h .caption (by decide), h .sched (by decide), h .pool (by decide), h .integ (by decide), h .proxy (by decide), h .recorder (by decide), h .extents (by decide), h .mover (by decide), h .panel (by decide), h .sheet (by decide), h .store (by decide), h .live (by decide), h .host (by decide), h .pending (by decide)⟩

@[simp] theorem State.reminderOut_frame (s : State) (r : CondRef) :
    (s.reminderOut r).powered = s.powered ∧ (s.reminderOut r).ctl = s.ctl ∧
      (s.reminderOut r).feed = s.feed ∧ (s.reminderOut r).meter = s.meter ∧
      (s.reminderOut r).caption = s.caption ∧ (s.reminderOut r).sched = s.sched ∧
      (s.reminderOut r).pool = s.pool ∧ (s.reminderOut r).integ = s.integ ∧
      (s.reminderOut r).proxy = s.proxy ∧ (s.reminderOut r).recorder = s.recorder ∧
      (s.reminderOut r).extents = s.extents ∧ (s.reminderOut r).mover = s.mover ∧
      (s.reminderOut r).devPriority = s.devPriority ∧ (s.reminderOut r).sheet = s.sheet ∧
      (s.reminderOut r).store = s.store ∧ (s.reminderOut r).host = s.host ∧
      (s.reminderOut r).pending = s.pending :=
  have h := s.reminderOut_touches r
  ⟨h .powered (by decide), h .ctl (by decide), h .feed (by decide), h .meter (by decide), h .caption (by decide), h .sched (by decide), h .pool (by decide), h .integ (by decide), h .proxy (by decide), h .recorder (by decide), h .extents (by decide), h .mover (by decide), h .devPriority (by decide), h .sheet (by decide), h .store (by decide), h .host (by decide), h .pending (by decide)⟩

@[simp] theorem State.lateCauseWritten_frame (s : State) :
    (s.lateCauseWritten).powered = s.powered ∧ (s.lateCauseWritten).feed = s.feed ∧
      (s.lateCauseWritten).meter = s.meter ∧ (s.lateCauseWritten).caption = s.caption ∧
      (s.lateCauseWritten).sched = s.sched ∧ (s.lateCauseWritten).pool = s.pool ∧
      (s.lateCauseWritten).integ = s.integ ∧ (s.lateCauseWritten).proxy = s.proxy ∧
      (s.lateCauseWritten).recorder = s.recorder ∧ (s.lateCauseWritten).extents = s.extents ∧
      (s.lateCauseWritten).mover = s.mover ∧ (s.lateCauseWritten).panel = s.panel ∧
      (s.lateCauseWritten).devPanel = s.devPanel ∧ (s.lateCauseWritten).devPriority = s.devPriority ∧
      (s.lateCauseWritten).alert = s.alert ∧ (s.lateCauseWritten).sheet = s.sheet ∧
      (s.lateCauseWritten).store = s.store ∧ (s.lateCauseWritten).pending = s.pending :=
  have h := s.lateCauseWritten_touches
  ⟨h .powered (by decide), h .feed (by decide), h .meter (by decide), h .caption (by decide), h .sched (by decide), h .pool (by decide), h .integ (by decide), h .proxy (by decide), h .recorder (by decide), h .extents (by decide), h .mover (by decide), h .panel (by decide), h .devPanel (by decide), h .devPriority (by decide), h .alert (by decide), h .sheet (by decide), h .store (by decide), h .pending (by decide)⟩

@[simp] theorem State.alertWritten_frame (s : State) :
    (s.alertWritten).powered = s.powered ∧ (s.alertWritten).feed = s.feed ∧
      (s.alertWritten).meter = s.meter ∧ (s.alertWritten).caption = s.caption ∧
      (s.alertWritten).sched = s.sched ∧ (s.alertWritten).pool = s.pool ∧
      (s.alertWritten).integ = s.integ ∧ (s.alertWritten).proxy = s.proxy ∧
      (s.alertWritten).recorder = s.recorder ∧ (s.alertWritten).extents = s.extents ∧
      (s.alertWritten).mover = s.mover ∧ (s.alertWritten).devPriority = s.devPriority ∧
      (s.alertWritten).sheet = s.sheet ∧ (s.alertWritten).store = s.store ∧
      (s.alertWritten).pending = s.pending :=
  have h := s.alertWritten_touches
  ⟨h .powered (by decide), h .feed (by decide), h .meter (by decide), h .caption (by decide), h .sched (by decide), h .pool (by decide), h .integ (by decide), h .proxy (by decide), h .recorder (by decide), h .extents (by decide), h .mover (by decide), h .devPriority (by decide), h .sheet (by decide), h .store (by decide), h .pending (by decide)⟩

@[simp] theorem State.sheetRead_frame (s : State) (n : Svc) (r : SheetRead) :
    (s.sheetRead n r).powered = s.powered ∧ (s.sheetRead n r).proxy = s.proxy ∧
      (s.sheetRead n r).extents = s.extents ∧ (s.sheetRead n r).mover = s.mover ∧
      (s.sheetRead n r).devPanel = s.devPanel ∧ (s.sheetRead n r).devPriority = s.devPriority ∧
      (s.sheetRead n r).store = s.store ∧ (s.sheetRead n r).header = s.header ∧
      (s.sheetRead n r).host = s.host ∧ (s.sheetRead n r).pending = s.pending :=
  have h := s.sheetRead_touches n r
  ⟨h .powered (by decide), h .proxy (by decide), h .extents (by decide), h .mover (by decide), h .devPanel (by decide), h .devPriority (by decide), h .store (by decide), h .header (by decide), h .host (by decide), h .pending (by decide)⟩

end Sys2Proof.Machine
end

