-- ==== Sys2Proof/Laws/Isolation.lean ====
section
/-! SUPPORT. Services apart: an operation made for service n leaves what the state keeps for every other service as it was. -/
namespace Sys2Proof.Machine

theorem OthersSame.refl (n : Svc) (s : State) : OthersSame n s s := fun _ _ => ⟨rfl, rfl, rfl, rfl, rfl, rfl, rfl, rfl, rfl⟩

@[simp] theorem OthersSame.self (n : Svc) (s : State) : OthersSame n s s ↔ True := iff_true_intro (OthersSame.refl n s)

theorem OthersSame.iff {n : Svc} {t u : State} (h : OthersSame n t u) (s : State) : OthersSame n s u ↔ OthersSame n s t := by
  constructor <;> intro g m hm <;> have a := h m hm <;> have b := g m hm <;> simp_all

theorem OthersSame.trans {n : Svc} {s t u : State} (h : OthersSame n s t) (g : OthersSame n t u) : OthersSame n s u :=
  (g.iff s).mpr h

@[simp] theorem OthersSame.ite (n : Svc) (s a b : State) (c : Prop) [Decidable c] :
    OthersSame n s (if c then a else b) ↔ if c then OthersSame n s a else OthersSame n s b := by
  by_cases h : c <;> simp [h]

@[simp] theorem OthersSame.foldl {α : Type} (n : Svc) (s : State) (f : State → α → State) (l : List α) (t : State)
    (hf : ∀ u a, OthersSame n u (f u a)) : OthersSame n s (l.foldl f t) ↔ OthersSame n s t :=
  (foldl_keeps (fun u => OthersSame n t u) f (fun _ a h => h.trans (hf _ a)) l t (OthersSame.refl n t)).iff s

/-! ### Machine/Ops.lean -/

theorem State.modCtl_others (s : State) (n : Svc) (f : Ctl → Ctl) : OthersSame n s (s.modCtl f) := by
  intro m hm; simp
@[simp] theorem State.modCtl_other (s t : State) (n : Svc) (f : Ctl → Ctl) :
    OthersSame n s (t.modCtl f) ↔ OthersSame n s t := (t.modCtl_others n f).iff s

theorem State.modFeed_others (s : State) (n : Svc) (f : Feed → Feed) : OthersSame n s (s.modFeed n f) := by
  intro m hm; simp [hm]
@[simp] theorem State.modFeed_other (s t : State) (n : Svc) (f : Feed → Feed) :
    OthersSame n s (t.modFeed n f) ↔ OthersSame n s t := (t.modFeed_others n f).iff s

theorem State.modMeter_others (s : State) (n : Svc) (f : Meter → Meter) : OthersSame n s (s.modMeter n f) := by
  intro m hm; simp [hm]
@[simp] theorem State.modMeter_other (s t : State) (n : Svc) (f : Meter → Meter) :
    OthersSame n s (t.modMeter n f) ↔ OthersSame n s t := (t.modMeter_others n f).iff s

theorem State.modCaption_others (s : State) (n : Svc) (f : Caption → Caption) : OthersSame n s (s.modCaption n f) := by
  intro m hm; simp [hm]
@[simp] theorem State.modCaption_other (s t : State) (n : Svc) (f : Caption → Caption) :
    OthersSame n s (t.modCaption n f) ↔ OthersSame n s t := (t.modCaption_others n f).iff s

theorem State.modSched_others (s : State) (n : Svc) (f : Sched → Sched) : OthersSame n s (s.modSched n f) := by
  intro m hm; simp [hm]
@[simp] theorem State.modSched_other (s t : State) (n : Svc) (f : Sched → Sched) :
    OthersSame n s (t.modSched n f) ↔ OthersSame n s t := (t.modSched_others n f).iff s

theorem State.modPool_others (s : State) (n : Svc) (c : CtxId) (f : Context → Context) : OthersSame n s (s.modPool c f) := by
  intro m hm; simp
@[simp] theorem State.modPool_other (s t : State) (n : Svc) (c : CtxId) (f : Context → Context) :
    OthersSame n s (t.modPool c f) ↔ OthersSame n s t := (t.modPool_others n c f).iff s

theorem State.modInteg_others (s : State) (n : Svc) (f : Integ → Integ) : OthersSame n s (s.modInteg f) := by
  intro m hm; simp
@[simp] theorem State.modInteg_other (s t : State) (n : Svc) (f : Integ → Integ) :
    OthersSame n s (t.modInteg f) ↔ OthersSame n s t := (t.modInteg_others n f).iff s

theorem State.modProxy_others (s : State) (n : Svc) (f : Proxy → Proxy) : OthersSame n s (s.modProxy n f) := by
  intro m hm; simp [hm]
@[simp] theorem State.modProxy_other (s t : State) (n : Svc) (f : Proxy → Proxy) :
    OthersSame n s (t.modProxy n f) ↔ OthersSame n s t := (t.modProxy_others n f).iff s

theorem State.modRecorder_others (s : State) (n : Svc) (f : Recorder → Recorder) : OthersSame n s (s.modRecorder n f) := by
  intro m hm; simp [hm]
@[simp] theorem State.modRecorder_other (s t : State) (n : Svc) (f : Recorder → Recorder) :
    OthersSame n s (t.modRecorder n f) ↔ OthersSame n s t := (t.modRecorder_others n f).iff s

theorem State.modExtent_others (s : State) (n : Svc) (x : ExtId) (f : Extent → Extent) : OthersSame n s (s.modExtent x f) := by
  intro m hm; simp
@[simp] theorem State.modExtent_other (s t : State) (n : Svc) (x : ExtId) (f : Extent → Extent) :
    OthersSame n s (t.modExtent x f) ↔ OthersSame n s t := (t.modExtent_others n x f).iff s

theorem State.modMover_others (s : State) (n : Svc) (f : Mover → Mover) : OthersSame n s (s.modMover f) := by
  intro m hm; simp
@[simp] theorem State.modMover_other (s t : State) (n : Svc) (f : Mover → Mover) :
    OthersSame n s (t.modMover f) ↔ OthersSame n s t := (t.modMover_others n f).iff s

theorem State.modPriorities_others (s : State) (n : Svc) (f : Vector Nat 3 → Vector Nat 3) : OthersSame n s (s.modPriorities f) := by
  intro m hm; simp
@[simp] theorem State.modPriorities_other (s t : State) (n : Svc) (f : Vector Nat 3 → Vector Nat 3) :
    OthersSame n s (t.modPriorities f) ↔ OthersSame n s t := (t.modPriorities_others n f).iff s

theorem State.modAlert_others (s : State) (n : Svc) (f : Alert → Alert) : OthersSame n s (s.modAlert f) := by
  intro m hm; simp
@[simp] theorem State.modAlert_other (s t : State) (n : Svc) (f : Alert → Alert) :
    OthersSame n s (t.modAlert f) ↔ OthersSame n s t := (t.modAlert_others n f).iff s

theorem State.modSheet_others (s : State) (n : Svc) (f : SheetUnit → SheetUnit) : OthersSame n s (s.modSheet n f) := by
  intro m hm; simp [hm]
@[simp] theorem State.modSheet_other (s t : State) (n : Svc) (f : SheetUnit → SheetUnit) :
    OthersSame n s (t.modSheet n f) ↔ OthersSame n s t := (t.modSheet_others n f).iff s

theorem State.modStore_others (s : State) (n : Svc) (f : Store → Store) : OthersSame n s (s.modStore f) := by
  intro m hm; simp
@[simp] theorem State.modStore_other (s t : State) (n : Svc) (f : Store → Store) :
    OthersSame n s (t.modStore f) ↔ OthersSame n s t := (t.modStore_others n f).iff s

theorem State.modLive_others (s : State) (n : Svc) (f : LiveWrite → LiveWrite) : OthersSame n s (s.modLive n f) := by
  intro m hm; simp [hm]
@[simp] theorem State.modLive_other (s t : State) (n : Svc) (f : LiveWrite → LiveWrite) :
    OthersSame n s (t.modLive n f) ↔ OthersSame n s t := (t.modLive_others n f).iff s

theorem State.modHeader_others (s : State) (n : Svc) (f : List HeaderItem → List HeaderItem) : OthersSame n s (s.modHeader f) := by
  intro m hm; simp
@[simp] theorem State.modHeader_other (s t : State) (n : Svc) (f : List HeaderItem → List HeaderItem) :
    OthersSame n s (t.modHeader f) ↔ OthersSame n s t := (t.modHeader_others n f).iff s

theorem State.land_others (s : State) (n : Svc) (ps : List Piece) : OthersSame n s (s.land ps) := by
  intro m hm; simp
@[simp] theorem State.land_other (s t : State) (n : Svc) (ps : List Piece) :
    OthersSame n s (t.land ps) ↔ OthersSame n s t := (t.land_others n ps).iff s

theorem State.accessDone_others (s : State) (n : Svc) : OthersSame n s (s.accessDone) := by
  intro m hm; simp
@[simp] theorem State.accessDone_other (s t : State) (n : Svc) :
    OthersSame n s (t.accessDone) ↔ OthersSame n s t := (t.accessDone_others n).iff s

theorem State.modEntry_others (s : State) (n : Svc) (k : Slot) (f : Entry → Entry) : OthersSame n s (s.modEntry n k f) := by
  intro m hm; simp [hm]
@[simp] theorem State.modEntry_other (s t : State) (n : Svc) (k : Slot) (f : Entry → Entry) :
    OthersSame n s (t.modEntry n k f) ↔ OthersSame n s t := (t.modEntry_others n k f).iff s

theorem State.modCond_others (s : State) (n : Svc) (c : SvcCond) (f : CondEntry → CondEntry) :
    OthersSame n s (s.modCond (.service n c) f) := by
  intro m hm; simp [hm]
@[simp] theorem State.modCond_other (s t : State) (n : Svc) (c : SvcCond) (f : CondEntry → CondEntry) :
    OthersSame n s (t.modCond (.service n c) f) ↔ OthersSame n s t := (t.modCond_others n c f).iff s

/-! ### Machine/Panels.lean -/

theorem State.queueEntry_others (s : State) (n : Svc) (c : SvcCond) :
    OthersSame n s (s.queueEntry (.service n c)) := by
  unfold State.queueEntry
  dsimp only
  split <;> simp
@[simp] theorem State.queueEntry_other (s t : State) (n : Svc) (c : SvcCond) :
    OthersSame n s (t.queueEntry (.service n c)) ↔ OthersSame n s t := (t.queueEntry_others n c).iff s

theorem State.changeCond_others (s : State) (n : Svc) (c : SvcCond) (f : CondEntry → CondEntry) :
    OthersSame n s (s.changeCond (.service n c) f) := by
  simp [State.changeCond]
@[simp] theorem State.changeCond_other (s t : State) (n : Svc) (c : SvcCond) (f : CondEntry → CondEntry) :
    OthersSame n s (t.changeCond (.service n c) f) ↔ OthersSame n s t := (t.changeCond_others n c f).iff s

theorem State.trimWaits_others (s : State) (n : Svc) : OthersSame n s s.trimWaits := by
  simp [State.trimWaits]
@[simp] theorem State.trimWaits_other (s t : State) (n : Svc) :
    OthersSame n s t.trimWaits ↔ OthersSame n s t := (t.trimWaits_others n).iff s

theorem State.evaluate_others (s : State) (n : Svc) : OthersSame n s (s.evaluate) := by
  intro m hm; simp
@[simp] theorem State.evaluate_other (s t : State) (n : Svc) :
    OthersSame n s (t.evaluate) ↔ OthersSame n s t := (t.evaluate_others n).iff s

theorem State.raise_others (s : State) (n : Svc) (c : SvcCond) : OthersSame n s (s.raise n c) := by
  simp [State.raise]
@[simp] theorem State.raise_other (s t : State) (n : Svc) (c : SvcCond) :
    OthersSame n s (t.raise n c) ↔ OthersSame n s t := (t.raise_others n c).iff s

theorem State.setLive_others (s : State) (n : Svc) (c : SvcCond) (live : Bool) : OthersSame n s (s.setLive n c live) := by
  unfold State.setLive
  (repeat' split) <;> simp
@[simp] theorem State.setLive_other (s t : State) (n : Svc) (c : SvcCond) (live : Bool) :
    OthersSame n s (t.setLive n c live) ↔ OthersSame n s t := (t.setLive_others n c live).iff s

theorem State.landLive_others (s : State) (n : Svc) (k : Nat) : OthersSame n s (s.landLive n k) := by
  simp [State.landLive]
@[simp] theorem State.landLive_other (s t : State) (n : Svc) (k : Nat) :
    OthersSame n s (t.landLive n k) ↔ OthersSame n s t := (t.landLive_others n k).iff s

theorem State.abandonAlert_others (s : State) (n : Svc) : OthersSame n s (s.abandonAlert) := by
  intro m hm; simp
@[simp] theorem State.abandonAlert_other (s t : State) (n : Svc) :
    OthersSame n s (t.abandonAlert) ↔ OthersSame n s t := (t.abandonAlert_others n).iff s

/-! ### Machine/Pool.lean -/

theorem State.claim_others (s : State) (n : Svc) (c : CtxId) (owner : Owner) (sn : Snapshot) (paused : Bool) : OthersSame n s (s.claim c owner sn paused) := by
  intro m hm; simp
@[simp] theorem State.claim_other (s t : State) (n : Svc) (c : CtxId) (owner : Owner) (sn : Snapshot) (paused : Bool) :
    OthersSame n s (t.claim c owner sn paused) ↔ OthersSame n s t := (t.claim_others n c owner sn paused).iff s

theorem State.closeContext_others (s : State) (n : Svc) (c : CtxId) (cls : SegClass) : OthersSame n s (s.closeContext n c cls) := by
  intro m hm; simp
@[simp] theorem State.closeContext_other (s t : State) (n : Svc) (c : CtxId) (cls : SegClass) :
    OthersSame n s (t.closeContext n c cls) ↔ OthersSame n s t := (t.closeContext_others n c cls).iff s

theorem State.breakContextRuns_others (s : State) (n : Svc) : OthersSame n s (s.breakContextRuns n) := by
  intro m hm; simp
@[simp] theorem State.breakContextRuns_other (s t : State) (n : Svc) :
    OthersSame n s (t.breakContextRuns n) ↔ OthersSame n s t := (t.breakContextRuns_others n).iff s

theorem State.startIntegration_others (s : State) (n : Svc) : OthersSame n s (s.startIntegration) := by
  intro m hm; simp
@[simp] theorem State.startIntegration_other (s t : State) (n : Svc) :
    OthersSame n s (t.startIntegration) ↔ OthersSame n s t := (t.startIntegration_others n).iff s

/-! ### Machine/Captions.lean -/

theorem State.judgeCaptions_others (s : State) (n : Svc) : OthersSame n s (s.judgeCaptions n) := by
  simp [State.judgeCaptions]
@[simp] theorem State.judgeCaptions_other (s t : State) (n : Svc) :
    OthersSame n s (t.judgeCaptions n) ↔ OthersSame n s t := (t.judgeCaptions_others n).iff s

theorem State.refreshRequirement_others (s : State) (n : Svc) : OthersSame n s (s.refreshRequirement n) := by
  simp [State.refreshRequirement]
@[simp] theorem State.refreshRequirement_other (s t : State) (n : Svc) :
    OthersSame n s (t.refreshRequirement n) ↔ OthersSame n s t := (t.refreshRequirement_others n).iff s

theorem State.modEntriesWhere_others (s : State) (n : Svc) (p : Entry → Bool) (f : Entry → Entry) : OthersSame n s (s.modEntriesWhere n p f) := by
  simp [State.modEntriesWhere]
@[simp] theorem State.modEntriesWhere_other (s t : State) (n : Svc) (p : Entry → Bool) (f : Entry → Entry) :
    OthersSame n s (t.modEntriesWhere n p f) ↔ OthersSame n s t := (t.modEntriesWhere_others n p f).iff s

theorem State.modTallies_others (s : State) (n : Svc) (f : Tally → Tally) : OthersSame n s (s.modTallies n f) := by
  simp [State.modTallies]
@[simp] theorem State.modTallies_other (s t : State) (n : Svc) (f : Tally → Tally) :
    OthersSame n s (t.modTallies n f) ↔ OthersSame n s t := (t.modTallies_others n f).iff s

theorem State.judgeFrame_others (s : State) (n : Svc) : OthersSame n s (s.judgeFrame n) := by
  simp [State.judgeFrame]
@[simp] theorem State.judgeFrame_other (s t : State) (n : Svc) :
    OthersSame n s (t.judgeFrame n) ↔ OthersSame n s t := (t.judgeFrame_others n).iff s

theorem State.countDiscontinuity_others (s : State) (n : Svc) : OthersSame n s (s.countDiscontinuity n) := by
  simp [State.countDiscontinuity]
@[simp] theorem State.countDiscontinuity_other (s t : State) (n : Svc) :
    OthersSame n s (t.countDiscontinuity n) ↔ OthersSame n s t := (t.countDiscontinuity_others n).iff s

theorem State.countMismatch_others (s : State) (n : Svc) : OthersSame n s (s.countMismatch n) := by
  simp [State.countMismatch]
@[simp] theorem State.countMismatch_other (s t : State) (n : Svc) :
    OthersSame n s (t.countMismatch n) ↔ OthersSame n s t := (t.countMismatch_others n).iff s

theorem State.sortPacket_others (s : State) (n : Svc) (page : Byte) (lang : Lang) (kind : CaptionKind) (seq : Byte) : OthersSame n s (s.sortPacket n page lang kind seq) := by
  unfold State.sortPacket
  (repeat' split) <;> simp
@[simp] theorem State.sortPacket_other (s t : State) (n : Svc) (page : Byte) (lang : Lang) (kind : CaptionKind) (seq : Byte) :
    OthersSame n s (t.sortPacket n page lang kind seq) ↔ OthersSame n s t := (t.sortPacket_others n page lang kind seq).iff s

theorem State.loseStream_others (s : State) (n : Svc) : OthersSame n s (s.loseStream n) := by
  simp [State.loseStream]
@[simp] theorem State.loseStream_other (s t : State) (n : Svc) :
    OthersSame n s (t.loseStream n) ↔ OthersSame n s t := (t.loseStream_others n).iff s

/-! ### Machine/Scheduler.lean -/

theorem State.pushWrite_others (s : State) (n : Svc)(k : Slot) (w : SlotContent) : OthersSame n s (s.pushWrite n k w) := by
  unfold State.pushWrite
  (repeat' split) <;> simp
@[simp] theorem State.pushWrite_other (s t : State) (n : Svc)(k : Slot) (w : SlotContent) :
    OthersSame n s (t.pushWrite n k w) ↔ OthersSame n s t := (t.pushWrite_others n k w).iff s

theorem State.writeStanding_others (s : State) (n : Svc)(k : Slot) : OthersSame n s (s.writeStanding n k) := by
  simp [State.writeStanding]
@[simp] theorem State.writeStanding_other (s t : State) (n : Svc)(k : Slot) :
    OthersSame n s (t.writeStanding n k) ↔ OthersSame n s t := (t.writeStanding_others n k).iff s

theorem State.requestMark_others (s : State) (n : Svc) (m : MarkRequest) : OthersSame n s (s.requestMark n m) := by
  simp [State.requestMark]
@[simp] theorem State.requestMark_other (s t : State) (n : Svc) (m : MarkRequest) :
    OthersSame n s (t.requestMark n m) ↔ OthersSame n s t := (t.requestMark_others n m).iff s

theorem State.raiseVerdict_others (s : State) (n : Svc) (v : Verdict) : OthersSame n s (s.raiseVerdict n v) := by
  unfold State.raiseVerdict
  (repeat' split) <;> simp
@[simp] theorem State.raiseVerdict_other (s t : State) (n : Svc) (v : Verdict) :
    OthersSame n s (t.raiseVerdict n v) ↔ OthersSame n s t := (t.raiseVerdict_others n v).iff s

theorem State.deliverVerdict_others (s : State) (n : Svc)(k : Slot) (v : Verdict) : OthersSame n s (s.deliverVerdict n k v) := by
  simp [State.deliverVerdict]
@[simp] theorem State.deliverVerdict_other (s t : State) (n : Svc)(k : Slot) (v : Verdict) :
    OthersSame n s (t.deliverVerdict n k v) ↔ OthersSame n s t := (t.deliverVerdict_others n k v).iff s

theorem State.finishVerdict_others (s : State) (n : Svc)(k : Slot) (loud : LoudResult) : OthersSame n s (s.finishVerdict n k loud) := by
  unfold State.finishVerdict
  (repeat' split) <;> simp
@[simp] theorem State.finishVerdict_other (s t : State) (n : Svc)(k : Slot) (loud : LoudResult) :
    OthersSame n s (t.finishVerdict n k loud) ↔ OthersSame n s t := (t.finishVerdict_others n k loud).iff s

theorem State.modContextOf_others (s : State) (n : Svc) (e : Entry) (f : Context → Context) : OthersSame n s (s.modContextOf e f) := by
  intro m hm; simp
@[simp] theorem State.modContextOf_other (s t : State) (n : Svc) (e : Entry) (f : Context → Context) :
    OthersSame n s (t.modContextOf e f) ↔ OthersSame n s t := (t.modContextOf_others n e f).iff s

@[simp] theorem State.forOpen_other (s t : State) (n : Svc) (l : Layer) (f : State → Slot → State)
    (hf : ∀ u k, OthersSame n u (f u k)) : OthersSame n s (t.forOpen n l f) ↔ OthersSame n s t := by
  simp [State.forOpen, hf]

theorem State.pauseSegment_others (n : Svc) (s : State) (k : Slot) : OthersSame n s (State.pauseSegment n s k) := by
  simp [State.pauseSegment]
@[simp] theorem State.pauseSegment_other (s t : State) (n : Svc) (k : Slot) :
    OthersSame n s (State.pauseSegment n t k) ↔ OthersSame n s t := (State.pauseSegment_others n t k).iff s

theorem State.resumeSegment_others (n : Svc) (s : State) (k : Slot) : OthersSame n s (State.resumeSegment n s k) := by
  simp [State.resumeSegment]
@[simp] theorem State.resumeSegment_other (s t : State) (n : Svc) (k : Slot) :
    OthersSame n s (State.resumeSegment n t k) ↔ OthersSame n s t := (State.resumeSegment_others n t k).iff s

theorem State.pauseOuter_others (s : State) (n : Svc) : OthersSame n s (s.pauseOuter n) := by
  simp [State.pauseOuter]
@[simp] theorem State.pauseOuter_other (s t : State) (n : Svc) :
    OthersSame n s (t.pauseOuter n) ↔ OthersSame n s t := (t.pauseOuter_others n).iff s

theorem State.resumeOuter_others (s : State) (n : Svc) : OthersSame n s (s.resumeOuter n) := by
  simp [State.resumeOuter]
@[simp] theorem State.resumeOuter_other (s t : State) (n : Svc) :
    OthersSame n s (t.resumeOuter n) ↔ OthersSame n s t := (t.resumeOuter_others n).iff s

theorem State.markEnd_others (s : State) (n : Svc)(k : Slot) (b : Body) : OthersSame n s (s.markEnd n k b) := by
  unfold State.markEnd
  (repeat' split) <;> simp
@[simp] theorem State.markEnd_other (s t : State) (n : Svc)(k : Slot) (b : Body) :
    OthersSame n s (t.markEnd n k b) ↔ OthersSame n s t := (t.markEnd_others n k b).iff s

theorem State.closeContextOf_others (s : State) (n : Svc) (e : Entry) (cls : SegClass) : OthersSame n s (s.closeContextOf n e cls) := by
  intro m hm; simp
@[simp] theorem State.closeContextOf_other (s t : State) (n : Svc) (e : Entry) (cls : SegClass) :
    OthersSame n s (t.closeContextOf n e cls) ↔ OthersSame n s t := (t.closeContextOf_others n e cls).iff s

theorem State.announceClose_others (s : State) (n : Svc)(k : Slot) (metered : Bool) : OthersSame n s (s.announceClose n k metered) := by
  unfold State.announceClose
  (repeat' split) <;> simp
@[simp] theorem State.announceClose_other (s t : State) (n : Svc)(k : Slot) (metered : Bool) :
    OthersSame n s (t.announceClose n k metered) ↔ OthersSame n s t := (t.announceClose_others n k metered).iff s

theorem State.leaveLayer_others (s : State) (n : Svc) (l : Layer) (k : Slot) : OthersSame n s (s.leaveLayer n l k) := by
  simp [State.leaveLayer]
@[simp] theorem State.leaveLayer_other (s t : State) (n : Svc) (l : Layer) (k : Slot) :
    OthersSame n s (t.leaveLayer n l k) ↔ OthersSame n s t := (t.leaveLayer_others n l k).iff s

theorem State.closeSegment_others (s : State) (n : Svc)(k : Slot) (add : VerdictFlags) : OthersSame n s (s.closeSegment n k add) := by
  unfold State.closeSegment
  dsimp only
  split <;> simp
@[simp] theorem State.closeSegment_other (s t : State) (n : Svc)(k : Slot) (add : VerdictFlags) :
    OthersSame n s (t.closeSegment n k add) ↔ OthersSame n s t := (t.closeSegment_others n k add).iff s

theorem State.closeOnNext_others (s : State) (n : Svc) (l : Layer) (f : Firing) : OthersSame n s (s.closeOnNext n l f) := by
  simp [State.closeOnNext]
@[simp] theorem State.closeOnNext_other (s t : State) (n : Svc) (l : Layer) (f : Firing) :
    OthersSame n s (t.closeOnNext n l f) ↔ OthersSame n s t := (t.closeOnNext_others n l f).iff s

theorem State.claimFor_others (s : State) (n : Svc)(k : Slot) (sn : Snapshot) (paused : Bool) : OthersSame n s (s.claimFor n k sn paused) := by
  unfold State.claimFor
  (repeat' split) <;> simp
@[simp] theorem State.claimFor_other (s t : State) (n : Svc)(k : Slot) (sn : Snapshot) (paused : Bool) :
    OthersSame n s (t.claimFor n k sn paused) ↔ OthersSame n s t := (t.claimFor_others n k sn paused).iff s

theorem State.openSegment_others (s : State) (n : Svc)(k : Slot) (f : Firing) : OthersSame n s (s.openSegment n k f) := by
  unfold State.openSegment
  split
  · simp
  · dsimp only
    split <;> simp only [State.writeStanding_other, State.pauseOuter_other, State.modSched_other, State.modEntry_other,
      State.claimFor_other, State.closeOnNext_other, OthersSame.self]
@[simp] theorem State.openSegment_other (s t : State) (n : Svc)(k : Slot) (f : Firing) :
    OthersSame n s (t.openSegment n k f) ↔ OthersSame n s t := (t.openSegment_others n k f).iff s

theorem State.fireBoundary_others (s : State) (n : Svc) (f : Firing) (b : Boundary) : OthersSame n s (s.fireBoundary n f b) := by
  unfold State.fireBoundary
  dsimp only
  split <;> simp
@[simp] theorem State.fireBoundary_other (s t : State) (n : Svc) (f : Firing) (b : Boundary) :
    OthersSame n s (t.fireBoundary n f b) ↔ OthersSame n s t := (t.fireBoundary_others n f b).iff s

theorem State.fireAll_others (s : State) (n : Svc) (c : FireCause) (bs : List Boundary) : OthersSame n s (s.fireAll n c bs) := by
  simp [State.fireAll]
@[simp] theorem State.fireAll_other (s t : State) (n : Svc) (c : FireCause) (bs : List Boundary) :
    OthersSame n s (t.fireAll n c bs) ↔ OthersSame n s t := (t.fireAll_others n c bs).iff s

theorem State.advanceBoundaries_others (s : State) (n : Svc) (c : FireCause) (t0 t1 : Nat) : OthersSame n s (s.advanceBoundaries n c t0 t1) := by
  simp [State.advanceBoundaries]
@[simp] theorem State.advanceBoundaries_other (s t : State) (n : Svc) (c : FireCause) (t0 t1 : Nat) :
    OthersSame n s (t.advanceBoundaries n c t0 t1) ↔ OthersSame n s t := (t.advanceBoundaries_others n c t0 t1).iff s

theorem State.seedBoundaries_others (s : State) (n : Svc) (u : Nat) : OthersSame n s (s.seedBoundaries n u) := by
  simp [State.seedBoundaries]
@[simp] theorem State.seedBoundaries_other (s t : State) (n : Svc) (u : Nat) :
    OthersSame n s (t.seedBoundaries n u) ↔ OthersSame n s t := (t.seedBoundaries_others n u).iff s

theorem State.release_others (s : State) (n : Svc)(k : Slot) : OthersSame n s (s.release n k) := by
  simp [State.release]
@[simp] theorem State.release_other (s t : State) (n : Svc)(k : Slot) :
    OthersSame n s (t.release n k) ↔ OthersSame n s t := (t.release_others n k).iff s

theorem State.flagOpen_others (s : State) (n : Svc) (f : VerdictFlags) : OthersSame n s (s.flagOpen n f) := by
  simp [State.flagOpen]
@[simp] theorem State.flagOpen_other (s t : State) (n : Svc) (f : VerdictFlags) :
    OthersSame n s (t.flagOpen n f) ↔ OthersSame n s t := (t.flagOpen_others n f).iff s

theorem State.raiseTimeFault_others (s : State) (n : Svc) : OthersSame n s (s.raiseTimeFault n) := by
  simp [State.raiseTimeFault]
@[simp] theorem State.raiseTimeFault_other (s t : State) (n : Svc) :
    OthersSame n s (t.raiseTimeFault n) ↔ OthersSame n s t := (t.raiseTimeFault_others n).iff s

theorem State.closeLayer_others (s : State) (n : Svc) (l : Layer) (f : VerdictFlags) : OthersSame n s (s.closeLayer n l f) := by
  simp [State.closeLayer]
@[simp] theorem State.closeLayer_other (s t : State) (n : Svc) (l : Layer) (f : VerdictFlags) :
    OthersSame n s (t.closeLayer n l f) ↔ OthersSame n s t := (t.closeLayer_others n l f).iff s

theorem State.closeOpen_others (s : State) (n : Svc) (f : VerdictFlags) : OthersSame n s (s.closeOpen n f) := by
  simp [State.closeOpen]
@[simp] theorem State.closeOpen_other (s t : State) (n : Svc) (f : VerdictFlags) :
    OthersSame n s (t.closeOpen n f) ↔ OthersSame n s t := (t.closeOpen_others n f).iff s

theorem State.forgetWaiting_others (s : State) (n : Svc) : OthersSame n s (s.forgetWaiting n) := by
  simp [State.forgetWaiting]
@[simp] theorem State.forgetWaiting_other (s t : State) (n : Svc) :
    OthersSame n s (t.forgetWaiting n) ↔ OthersSame n s t := (t.forgetWaiting_others n).iff s

theorem State.emptyDockets_others (s : State) (n : Svc) : OthersSame n s (s.emptyDockets n) := by
  simp [State.emptyDockets]
@[simp] theorem State.emptyDockets_other (s t : State) (n : Svc) :
    OthersSame n s (t.emptyDockets n) ↔ OthersSame n s t := (t.emptyDockets_others n).iff s

/-! ### Machine/Feed.lean -/

theorem State.runBreak_others (s : State) (n : Svc) : OthersSame n s (s.runBreak n) := by
  simp [State.runBreak]
@[simp] theorem State.runBreak_other (s t : State) (n : Svc) :
    OthersSame n s (t.runBreak n) ↔ OthersSame n s t := (t.runBreak_others n).iff s

theorem State.advanceTo_others (s : State) (n : Svc) (c : FireCause) (t1 : Nat) : OthersSame n s (s.advanceTo n c t1) := by
  simp [State.advanceTo]
@[simp] theorem State.advanceTo_other (s t : State) (n : Svc) (c : FireCause) (t1 : Nat) :
    OthersSame n s (t.advanceTo n c t1) ↔ OthersSame n s t := (t.advanceTo_others n c t1).iff s

theorem State.flyAdvance_others (s : State) (n : Svc) : OthersSame n s (s.flyAdvance n) := by
  unfold State.flyAdvance
  (repeat' split) <;> simp
@[simp] theorem State.flyAdvance_other (s t : State) (n : Svc) :
    OthersSame n s (t.flyAdvance n) ↔ OthersSame n s t := (t.flyAdvance_others n).iff s

theorem State.enterFlywheel_others (s : State) (n : Svc) (due : Nat) : OthersSame n s (s.enterFlywheel n due) := by
  simp [State.enterFlywheel]
@[simp] theorem State.enterFlywheel_other (s t : State) (n : Svc) (due : Nat) :
    OthersSame n s (t.enterFlywheel n due) ↔ OthersSame n s t := (t.enterFlywheel_others n due).iff s

theorem State.leaveFlywheel_others (s : State) (n : Svc) : OthersSame n s (s.leaveFlywheel n) := by
  unfold State.leaveFlywheel
  (repeat' split) <;> simp
@[simp] theorem State.leaveFlywheel_other (s t : State) (n : Svc) :
    OthersSame n s (t.leaveFlywheel n) ↔ OthersSame n s t := (t.leaveFlywheel_others n).iff s

theorem State.seedTime_others (s : State) (n : Svc) (u : Nat) : OthersSame n s (s.seedTime n u) := by
  simp [State.seedTime]
@[simp] theorem State.seedTime_other (s t : State) (n : Svc) (u : Nat) :
    OthersSame n s (t.seedTime n u) ↔ OthersSame n s t := (t.seedTime_others n u).iff s

theorem State.jumpTo_others (s : State) (n : Svc) (u : Nat) : OthersSame n s (s.jumpTo n u) := by
  simp [State.jumpTo]
@[simp] theorem State.jumpTo_other (s t : State) (n : Svc) (u : Nat) :
    OthersSame n s (t.jumpTo n u) ↔ OthersSame n s t := (t.jumpTo_others n u).iff s

theorem State.judgeStamp_others (s : State) (n : Svc) (u : Nat) : OthersSame n s (s.judgeStamp n u) := by
  unfold State.judgeStamp
  (repeat' split) <;> simp
@[simp] theorem State.judgeStamp_other (s t : State) (n : Svc) (u : Nat) :
    OthersSame n s (t.judgeStamp n u) ↔ OthersSame n s t := (t.judgeStamp_others n u).iff s

theorem State.reloadLoss_others (s : State) (n : Svc) : OthersSame n s (s.reloadLoss n) := by
  simp [State.reloadLoss]
@[simp] theorem State.reloadLoss_other (s t : State) (n : Svc) :
    OthersSame n s (t.reloadLoss n) ↔ OthersSame n s t := (t.reloadLoss_others n).iff s

theorem State.applyStamp_others (s : State) (n : Svc) (u : Nat) : OthersSame n s (s.applyStamp n u) := by
  unfold State.applyStamp
  (repeat' split) <;> simp
@[simp] theorem State.applyStamp_other (s t : State) (n : Svc) (u : Nat) :
    OthersSame n s (t.applyStamp n u) ↔ OthersSame n s t := (t.applyStamp_others n u).iff s

theorem State.judgeRate_others (s : State) (n : Svc) (code : BitVec 16) : OthersSame n s (s.judgeRate n code) := by
  unfold State.judgeRate
  (repeat' split) <;> simp
@[simp] theorem State.judgeRate_other (s t : State) (n : Svc) (code : BitVec 16) :
    OthersSame n s (t.judgeRate n code) ↔ OthersSame n s t := (t.judgeRate_others n code).iff s

theorem State.takeFrame_others (s : State) (n : Svc) (u : Nat) (code : BitVec 16) : OthersSame n s (s.takeFrame n u code) := by
  simp [State.takeFrame]
@[simp] theorem State.takeFrame_other (s t : State) (n : Svc) (u : Nat) (code : BitVec 16) :
    OthersSame n s (t.takeFrame n u code) ↔ OthersSame n s t := (t.takeFrame_others n u code).iff s

theorem State.discardMessage_others (s : State) (n : Svc) : OthersSame n s (s.discardMessage n) := by
  simp [State.discardMessage]
@[simp] theorem State.discardMessage_other (s t : State) (n : Svc) :
    OthersSame n s (t.discardMessage n) ↔ OthersSame n s t := (t.discardMessage_others n).iff s

theorem State.takeLoss_others (s : State) (n : Svc) (late : Bool) : OthersSame n s (s.takeLoss n late) := by
  unfold State.takeLoss
  dsimp only
  (repeat' split) <;> simp
@[simp] theorem State.takeLoss_other (s t : State) (n : Svc) (late : Bool) :
    OthersSame n s (t.takeLoss n late) ↔ OthersSame n s t := (t.takeLoss_others n late).iff s

theorem State.lossTimerOut_others (s : State) (n : Svc) : OthersSame n s (s.lossTimerOut n) := by
  unfold State.lossTimerOut
  (repeat' split) <;> simp
@[simp] theorem State.lossTimerOut_other (s t : State) (n : Svc) :
    OthersSame n s (t.lossTimerOut n) ↔ OthersSame n s t := (t.lossTimerOut_others n).iff s

theorem State.frameTimerDue_others (s : State) (n : Svc) : OthersSame n s (s.frameTimerDue n) := by
  unfold State.frameTimerDue
  (repeat' split) <;> simp
@[simp] theorem State.frameTimerDue_other (s t : State) (n : Svc) :
    OthersSame n s (t.frameTimerDue n) ↔ OthersSame n s t := (t.frameTimerDue_others n).iff s

theorem State.cueSlot_others (s : State) (n : Svc) (kind : CueKind) (k : Slot) : OthersSame n s (s.cueSlot n kind k) := by
  unfold State.cueSlot
  (repeat' split) <;> simp
@[simp] theorem State.cueSlot_other (s t : State) (n : Svc) (kind : CueKind) (k : Slot) :
    OthersSame n s (t.cueSlot n kind k) ↔ OthersSame n s t := (t.cueSlot_others n kind k).iff s

theorem State.takeCue_others (s : State) (n : Svc) (id : BitVec 16) (kind : CueKind) : OthersSame n s (s.takeCue n id kind) := by
  unfold State.takeCue
  (repeat' split) <;> simp
@[simp] theorem State.takeCue_other (s t : State) (n : Svc) (id : BitVec 16) (kind : CueKind) :
    OthersSame n s (t.takeCue n id kind) ↔ OthersSame n s t := (t.takeCue_others n id kind).iff s

theorem State.takeCaption_others (s : State) (n : Svc) (page : Byte) (lang : Lang) (kind : CaptionKind) (seq : Byte) : OthersSame n s (s.takeCaption n page lang kind seq) := by
  unfold State.takeCaption
  (repeat' split) <;> simp
@[simp] theorem State.takeCaption_other (s t : State) (n : Svc) (page : Byte) (lang : Lang) (kind : CaptionKind) (seq : Byte) :
    OthersSame n s (t.takeCaption n page lang kind seq) ↔ OthersSame n s t := (t.takeCaption_others n page lang kind seq).iff s

/-! ### Machine/Meter.lean -/

theorem State.takeClips_others (s : State) (n : Svc) (raw : List (Option (BitVec 24))) : OthersSame n s (s.takeClips n raw) := by
  simp [State.takeClips]
@[simp] theorem State.takeClips_other (s t : State) (n : Svc) (raw : List (Option (BitVec 24))) :
    OthersSame n s (t.takeClips n raw) ↔ OthersSame n s t := (t.takeClips_others n raw).iff s

theorem State.judgeSilence_others (s : State) (n : Svc) (lv : Int) : OthersSame n s (s.judgeSilence n lv) := by
  unfold State.judgeSilence
  (repeat' split) <;> simp
@[simp] theorem State.judgeSilence_other (s t : State) (n : Svc) (lv : Int) :
    OthersSame n s (t.judgeSilence n lv) ↔ OthersSame n s t := (t.judgeSilence_others n lv).iff s

theorem State.rollingMomentary_others (s : State) (n : Svc) : OthersSame n s (s.rollingMomentary n) := by
  unfold State.rollingMomentary
  (repeat' split) <;> simp
@[simp] theorem State.rollingMomentary_other (s t : State) (n : Svc) :
    OthersSame n s (t.rollingMomentary n) ↔ OthersSame n s t := (t.rollingMomentary_others n).iff s

theorem State.rollingShort_others (s : State) (n : Svc) : OthersSame n s (s.rollingShort n) := by
  unfold State.rollingShort
  (repeat' split) <;> simp
@[simp] theorem State.rollingShort_other (s t : State) (n : Svc) :
    OthersSame n s (t.rollingShort n) ↔ OthersSame n s t := (t.rollingShort_others n).iff s

theorem State.handLive_others (s : State) (n : Svc) : OthersSame n s (s.handLive n) := by
  unfold State.handLive
  (repeat' split) <;> simp
@[simp] theorem State.handLive_other (s t : State) (n : Svc) :
    OthersSame n s (t.handLive n) ↔ OthersSame n s t := (t.handLive_others n).iff s

theorem State.dueWrite_others (s : State) (n : Svc) : OthersSame n s (s.dueWrite n) := by
  simp [State.dueWrite]
@[simp] theorem State.dueWrite_other (s t : State) (n : Svc) :
    OthersSame n s (t.dueWrite n) ↔ OthersSame n s t := (t.dueWrite_others n).iff s

theorem State.rollingTake_others (s : State) (n : Svc) (squares : List Nat) : OthersSame n s (s.rollingTake n squares).1 := by
  unfold State.rollingTake
  dsimp only
  split <;> simp
@[simp] theorem State.rollingTake_other (s t : State) (n : Svc) (squares : List Nat) :
    OthersSame n s (t.rollingTake n squares).1 ↔ OthersSame n s t := (t.rollingTake_others n squares).iff s

theorem State.contextTake_others (s : State) (n : Svc) (squares mags : List Nat) (c : CtxId) : OthersSame n s (s.contextTake n squares mags c) := by
  simp [State.contextTake]
@[simp] theorem State.contextTake_other (s t : State) (n : Svc) (squares mags : List Nat) (c : CtxId) :
    OthersSame n s (t.contextTake n squares mags c) ↔ OthersSame n s t := (t.contextTake_others n squares mags c).iff s

theorem State.countBlock_others (s : State) (n : Svc) : OthersSame n s (s.countBlock n) := by
  simp [State.countBlock]
@[simp] theorem State.countBlock_other (s t : State) (n : Svc) :
    OthersSame n s (t.countBlock n) ↔ OthersSame n s t := (t.countBlock_others n).iff s

theorem State.takeAudio_others (s : State) (n : Svc) (samples : Vector (BitVec 24) 16) : OthersSame n s (s.takeAudio n samples) := by
  simp [State.takeAudio]
@[simp] theorem State.takeAudio_other (s t : State) (n : Svc) (samples : Vector (BitVec 24) 16) :
    OthersSame n s (t.takeAudio n samples) ↔ OthersSame n s t := (t.takeAudio_others n samples).iff s

theorem State.mixChange_others (s : State) (n : Svc) : OthersSame n s (s.mixChange n) := by
  simp [State.mixChange]
@[simp] theorem State.mixChange_other (s t : State) (n : Svc) :
    OthersSame n s (t.mixChange n) ↔ OthersSame n s t := (t.mixChange_others n).iff s

theorem State.takeCountLimit_others (s : State) (n : Svc)(k : Slot) : OthersSame n s (s.takeCountLimit n k) := by
  unfold State.takeCountLimit
  (repeat' split) <;> simp
@[simp] theorem State.takeCountLimit_other (s t : State) (n : Svc)(k : Slot) :
    OthersSame n s (t.takeCountLimit n k) ↔ OthersSame n s t := (t.takeCountLimit_others n k).iff s

theorem State.countdownOut_others (s : State) (n : Svc) : OthersSame n s (s.countdownOut n) := by
  unfold State.countdownOut
  (repeat' split) <;> simp
@[simp] theorem State.countdownOut_other (s t : State) (n : Svc) :
    OthersSame n s (t.countdownOut n) ↔ OthersSame n s t := (t.countdownOut_others n).iff s

theorem State.writeTimerOut_others (s : State) (n : Svc) : OthersSame n s (s.writeTimerOut n) := by
  unfold State.writeTimerOut
  (repeat' split) <;> simp
@[simp] theorem State.writeTimerOut_other (s t : State) (n : Svc) :
    OthersSame n s (t.writeTimerOut n) ↔ OthersSame n s t := (t.writeTimerOut_others n).iff s

theorem State.completeLive_others (s : State) (n : Svc) : OthersSame n s (s.completeLive n) := by
  unfold State.completeLive
  (repeat' split) <;> simp
@[simp] theorem State.completeLive_other (s t : State) (n : Svc) :
    OthersSame n s (t.completeLive n) ↔ OthersSame n s t := (t.completeLive_others n).iff s

/-! ### Machine/Measure.lean -/

theorem State.livenessOut_others (s : State) (n : Svc) : OthersSame n s (s.livenessOut n) := by
  unfold State.livenessOut
  (repeat' split) <;> simp
@[simp] theorem State.livenessOut_other (s t : State) (n : Svc) :
    OthersSame n s (t.livenessOut n) ↔ OthersSame n s t := (t.livenessOut_others n).iff s

theorem State.contentOut_others (s : State) (n : Svc) : OthersSame n s (s.contentOut n) := by
  unfold State.contentOut
  (repeat' split) <;> simp
@[simp] theorem State.contentOut_other (s t : State) (n : Svc) :
    OthersSame n s (t.contentOut n) ↔ OthersSame n s t := (t.contentOut_others n).iff s

/-! ### Machine/Spool.lean -/

theorem State.judgeUnit_others (s : State) (n : Svc) (u : SpoolUnit) : OthersSame n s (s.judgeUnit n u) := by
  unfold State.judgeUnit
  (repeat' split) <;> simp
@[simp] theorem State.judgeUnit_other (s t : State) (n : Svc) (u : SpoolUnit) :
    OthersSame n s (t.judgeUnit n u) ↔ OthersSame n s t := (t.judgeUnit_others n u).iff s

theorem State.markStart_others (s : State) (n : Svc)(k : Slot) (seq : Nat) (e : Entry) : OthersSame n s (s.markStart n k seq e) := by
  unfold State.markStart
  (repeat' split) <;> simp
@[simp] theorem State.markStart_other (s t : State) (n : Svc)(k : Slot) (seq : Nat) (e : Entry) :
    OthersSame n s (t.markStart n k seq e) ↔ OthersSame n s t := (t.markStart_others n k seq e).iff s

theorem State.countUnit_others (s : State) (n : Svc) (seq : Nat) (dropped : Bool) (k : Slot) : OthersSame n s (s.countUnit n seq dropped k) := by
  unfold State.countUnit
  (repeat' split) <;> simp
@[simp] theorem State.countUnit_other (s t : State) (n : Svc) (seq : Nat) (dropped : Bool) (k : Slot) :
    OthersSame n s (t.countUnit n seq dropped k) ↔ OthersSame n s t := (t.countUnit_others n seq dropped k).iff s

theorem State.takeChunk_others (s : State) (n : Svc) (c : Chunk) : OthersSame n s (s.takeChunk n c) := by
  unfold State.takeChunk
  (repeat' split) <;> simp
@[simp] theorem State.takeChunk_other (s t : State) (n : Svc) (c : Chunk) :
    OthersSame n s (t.takeChunk n c) ↔ OthersSame n s t := (t.takeChunk_others n c).iff s

/-! ### Machine/Mover.lean -/

theorem State.setWork_others (s : State) (n : Svc) (w : MoverWork) : OthersSame n s (s.setWork w) := by
  intro m hm; simp
@[simp] theorem State.setWork_other (s t : State) (n : Svc) (w : MoverWork) :
    OthersSame n s (t.setWork w) ↔ OthersSame n s t := (t.setWork_others n w).iff s

theorem State.handUpdate_others (s : State) (n : Svc) (x : ExtId) (again : Bool) : OthersSame n s (s.handUpdate x again) := by
  intro m hm; simp
@[simp] theorem State.handUpdate_other (s t : State) (n : Svc) (x : ExtId) (again : Bool) :
    OthersSame n s (t.handUpdate x again) ↔ OthersSame n s t := (t.handUpdate_others n x again).iff s

theorem State.beginWalk_others (s : State) (n : Svc) (retest : Bool) (x : ExtId) (rest : List ExtId) : OthersSame n s (s.beginWalk n retest x rest) := by
  simp [State.beginWalk]
@[simp] theorem State.beginWalk_other (s t : State) (n : Svc) (retest : Bool) (x : ExtId) (rest : List ExtId) :
    OthersSame n s (t.beginWalk n retest x rest) ↔ OthersSame n s t := (t.beginWalk_others n retest x rest).iff s

theorem State.writeHead_others (s : State) (n : Svc) : OthersSame n s (s.writeHead n) := by
  intro m hm; simp
@[simp] theorem State.writeHead_other (s t : State) (n : Svc) :
    OthersSame n s (t.writeHead n) ↔ OthersSame n s t := (t.writeHead_others n).iff s

theorem State.closeRecord_others (s : State) (n : Svc) (x : ExtId) (c : CloseCause) : OthersSame n s (s.closeRecord n x c) := by
  simp [State.closeRecord]
@[simp] theorem State.closeRecord_other (s t : State) (n : Svc) (x : ExtId) (c : CloseCause) :
    OthersSame n s (t.closeRecord n x c) ↔ OthersSame n s t := (t.closeRecord_others n x c).iff s

theorem State.closeFill_others (s : State) (n : Svc) (x : ExtId) (c : CloseCause) : OthersSame n s (s.closeFill n x c) := by
  simp [State.closeFill]
@[simp] theorem State.closeFill_other (s t : State) (n : Svc) (x : ExtId) (c : CloseCause) :
    OthersSame n s (t.closeFill n x c) ↔ OthersSame n s t := (t.closeFill_others n x c).iff s

theorem State.takeViolation_others (s : State) (n : Svc) (v : Capture) : OthersSame n s (s.takeViolation n v) := by
  unfold State.takeViolation
  (repeat' split) <;> simp
@[simp] theorem State.takeViolation_other (s t : State) (n : Svc) (v : Capture) :
    OthersSame n s (t.takeViolation n v) ↔ OthersSame n s t := (t.takeViolation_others n v).iff s

theorem State.stall_others (s : State) (n : Svc) : OthersSame n s (s.stall n) := by
  simp [State.stall]
@[simp] theorem State.stall_other (s t : State) (n : Svc) :
    OthersSame n s (t.stall n) ↔ OthersSame n s t := (t.stall_others n).iff s

theorem State.blockBoundary_others (s : State) (n : Svc) (x : ExtId) : OthersSame n s (s.blockBoundary n x) := by
  unfold State.blockBoundary
  (repeat' split) <;> simp
@[simp] theorem State.blockBoundary_other (s t : State) (n : Svc) (x : ExtId) :
    OthersSame n s (t.blockBoundary n x) ↔ OthersSame n s t := (t.blockBoundary_others n x).iff s

theorem State.unitWritten_others (s : State) (n : Svc) (x : ExtId) (u : SpoolUnit) : OthersSame n s (s.unitWritten n x u) := by
  simp [State.unitWritten]
@[simp] theorem State.unitWritten_other (s t : State) (n : Svc) (x : ExtId) (u : SpoolUnit) :
    OthersSame n s (t.unitWritten n x u) ↔ OthersSame n s t := (t.unitWritten_others n x u).iff s

theorem State.closeCurrent_others (s : State) (n : Svc) : OthersSame n s (s.closeCurrent n) := by
  unfold State.closeCurrent
  (repeat' split) <;> simp
@[simp] theorem State.closeCurrent_other (s t : State) (n : Svc) :
    OthersSame n s (t.closeCurrent n) ↔ OthersSame n s t := (t.closeCurrent_others n).iff s

theorem State.unlinkRecorder_others (s : State) (n : Svc) : OthersSame n s (s.unlinkRecorder n) := by
  simp [State.unlinkRecorder]
@[simp] theorem State.unlinkRecorder_other (s t : State) (n : Svc) :
    OthersSame n s (t.unlinkRecorder n) ↔ OthersSame n s t := (t.unlinkRecorder_others n).iff s

theorem State.retryOwed_others (s : State) (n : Svc) (x : Option ExtId) : OthersSame n s (s.retryOwed x) := by
  intro m hm; simp
@[simp] theorem State.retryOwed_other (s t : State) (n : Svc) (x : Option ExtId) :
    OthersSame n s (t.retryOwed x) ↔ OthersSame n s t := (t.retryOwed_others n x).iff s

theorem State.handFor_others (s : State) (n : Svc) (x : Option ExtId) : OthersSame n s (s.handFor x) := by
  intro m hm; simp
@[simp] theorem State.handFor_other (s t : State) (n : Svc) (x : Option ExtId) :
    OthersSame n s (t.handFor x) ↔ OthersSame n s t := (t.handFor_others n x).iff s

theorem State.unlinkFill_others (s : State) (n : Svc) : OthersSame n s (s.unlinkFill n) := by
  simp [State.unlinkFill]
@[simp] theorem State.unlinkFill_other (s t : State) (n : Svc) :
    OthersSame n s (t.unlinkFill n) ↔ OthersSame n s t := (t.unlinkFill_others n).iff s

theorem State.takeCaptureAck_others (s : State) (n : Svc) (ack : BitVec 16) : OthersSame n s (s.takeCaptureAck n ack) := by
  simp [State.takeCaptureAck]
@[simp] theorem State.takeCaptureAck_other (s t : State) (n : Svc) (ack : BitVec 16) :
    OthersSame n s (t.takeCaptureAck n ack) ↔ OthersSame n s t := (t.takeCaptureAck_others n ack).iff s

/-! ### Machine/Sheets.lean -/

theorem State.refuseSheet_others (s : State) (n : Svc) (rev : BitVec 32) (c : SheetCause) : OthersSame n s (s.refuseSheet n rev c) := by
  simp [State.refuseSheet]
@[simp] theorem State.refuseSheet_other (s t : State) (n : Svc) (rev : BitVec 32) (c : SheetCause) :
    OthersSame n s (t.refuseSheet n rev c) ↔ OthersSame n s t := (t.refuseSheet_others n rev c).iff s

theorem State.disable_others (s : State) (n : Svc) : OthersSame n s (s.disable n) := by
  simp [State.disable]
@[simp] theorem State.disable_other (s t : State) (n : Svc) :
    OthersSame n s (t.disable n) ↔ OthersSame n s t := (t.disable_others n).iff s

theorem State.stopServiceReminders_others (s : State) (n : Svc) : OthersSame n s (s.stopServiceReminders n) := by
  simp [State.stopServiceReminders]
@[simp] theorem State.stopServiceReminders_other (s t : State) (n : Svc) :
    OthersSame n s (t.stopServiceReminders n) ↔ OthersSame n s t := (t.stopServiceReminders_others n).iff s

theorem State.touchPriorities_others (s : State) (n : Svc) (old : Sheet) : OthersSame n s (s.touchPriorities n old) := by
  simp [State.touchPriorities]
@[simp] theorem State.touchPriorities_other (s t : State) (n : Svc) (old : Sheet) :
    OthersSame n s (t.touchPriorities n old) ↔ OthersSame n s t := (t.touchPriorities_others n old).iff s

theorem State.adoptAlerting_others (s : State) (n : Svc) (old new : Sheet) : OthersSame n s (s.adoptAlerting n old new) := by
  simp [State.adoptAlerting]
@[simp] theorem State.adoptAlerting_other (s t : State) (n : Svc) (old new : Sheet) :
    OthersSame n s (t.adoptAlerting n old new) ↔ OthersSame n s t := (t.adoptAlerting_others n old new).iff s

theorem State.handGroups_others (s : State) (n : Svc) (old : Sheet) : OthersSame n s (s.handGroups n old) := by
  simp [State.handGroups]
@[simp] theorem State.handGroups_other (s t : State) (n : Svc) (old : Sheet) :
    OthersSame n s (t.handGroups n old) ↔ OthersSame n s t := (t.handGroups_others n old).iff s

theorem State.adoptSheet_others (s : State) (n : Svc) (rev : BitVec 32) (body : List Byte) : OthersSame n s (s.adoptSheet n rev body) := by
  simp [State.adoptSheet]
@[simp] theorem State.adoptSheet_other (s t : State) (n : Svc) (rev : BitVec 32) (body : List Byte) :
    OthersSame n s (t.adoptSheet n rev body) ↔ OthersSame n s t := (t.adoptSheet_others n rev body).iff s

theorem State.stage_others (s : State) (n : Svc) (r : SheetRead) : OthersSame n s (s.stage n r) := by
  unfold State.stage
  (repeat' split) <;> simp
@[simp] theorem State.stage_other (s t : State) (n : Svc) (r : SheetRead) :
    OthersSame n s (t.stage n r) ↔ OthersSame n s t := (t.stage_others n r).iff s

/-! ### Machine/Boards.lean -/

theorem State.heldRelease_others (s : State) (n : Svc)(k : Slot) (w : SlotContent) : OthersSame n s (s.heldRelease n k w) := by
  unfold State.heldRelease
  (repeat' split) <;> simp
@[simp] theorem State.heldRelease_other (s t : State) (n : Svc)(k : Slot) (w : SlotContent) :
    OthersSame n s (t.heldRelease n k w) ↔ OthersSame n s t := (t.heldRelease_others n k w).iff s

theorem State.slotWriteDone_others (s : State) (n : Svc)(k : Slot) : OthersSame n s (s.slotWriteDone n k) := by
  unfold State.slotWriteDone
  (repeat' split) <;> simp
@[simp] theorem State.slotWriteDone_other (s t : State) (n : Svc)(k : Slot) :
    OthersSame n s (t.slotWriteDone n k) ↔ OthersSame n s t := (t.slotWriteDone_others n k).iff s

theorem State.validCommand_others (s : State) (n : Svc)(k : Slot) (cmd : Nat) : OthersSame n s (s.validCommand n k cmd) := by
  unfold State.validCommand
  (repeat' split) <;> simp
@[simp] theorem State.validCommand_other (s t : State) (n : Svc)(k : Slot) (cmd : Nat) :
    OthersSame n s (t.validCommand n k cmd) ↔ OthersSame n s t := (t.validCommand_others n k cmd).iff s

theorem State.readCommandWord_others (s : State) (n : Svc)(k : Slot) (w : BitVec 32) : OthersSame n s (s.readCommandWord n k w) := by
  unfold State.readCommandWord State.onRead
  dsimp only
  (repeat' split) <;> simp
@[simp] theorem State.readCommandWord_other (s t : State) (n : Svc)(k : Slot) (w : BitVec 32) :
    OthersSame n s (t.readCommandWord n k w) ↔ OthersSame n s t := (t.readCommandWord_others n k w).iff s

theorem State.firePassed_others (s : State) (n : Svc)(k : Slot) : OthersSame n s (s.firePassed n k) := by
  unfold State.firePassed
  (repeat' split) <;> simp
@[simp] theorem State.firePassed_other (s t : State) (n : Svc)(k : Slot) :
    OthersSame n s (t.firePassed n k) ↔ OthersSame n s t := (t.firePassed_others n k).iff s

theorem State.settlePosting_others (s : State) (n : Svc)(k : Slot) (p : BitVec 16) (r : RefusalCause ⊕ Body) : OthersSame n s (s.settlePosting n k p r) := by
  unfold State.settlePosting
  (repeat' split) <;> simp
@[simp] theorem State.settlePosting_other (s t : State) (n : Svc)(k : Slot) (p : BitVec 16) (r : RefusalCause ⊕ Body) :
    OthersSame n s (t.settlePosting n k p r) ↔ OthersSame n s t := (t.settlePosting_others n k p r).iff s

theorem State.validatePosting_others (s : State) (n : Svc)(k : Slot) (bytes : List Byte) : OthersSame n s (s.validatePosting n k bytes) := by
  unfold State.validatePosting
  (repeat' split) <;> simp
@[simp] theorem State.validatePosting_other (s t : State) (n : Svc)(k : Slot) (bytes : List Byte) :
    OthersSame n s (t.validatePosting n k bytes) ↔ OthersSame n s t := (t.validatePosting_others n k bytes).iff s

theorem State.schedUnlink_others (s : State) (n : Svc) : OthersSame n s (s.schedUnlink n) := by
  simp [State.schedUnlink]
@[simp] theorem State.schedUnlink_other (s t : State) (n : Svc) :
    OthersSame n s (t.schedUnlink n) ↔ OthersSame n s t := (t.schedUnlink_others n).iff s

theorem State.schedFault_others (s : State) (n : Svc) : OthersSame n s (s.schedFault n) := by
  simp [State.schedFault]
@[simp] theorem State.schedFault_other (s t : State) (n : Svc) :
    OthersSame n s (t.schedFault n) ↔ OthersSame n s t := (t.schedFault_others n).iff s

/-! ### Machine/Link.lean -/

theorem State.setReadback_others (s : State) (n : Svc) (code : Byte) (r : CmdResult) : OthersSame n s (s.setReadback code r) := by
  intro m hm; simp
@[simp] theorem State.setReadback_other (s t : State) (n : Svc) (code : Byte) (r : CmdResult) :
    OthersSame n s (t.setReadback code r) ↔ OthersSame n s t := (t.setReadback_others n code r).iff s

theorem State.beginLink_others (s : State) (n : Svc) : OthersSame n s (s.beginLink) := by
  intro m hm; simp
@[simp] theorem State.beginLink_other (s t : State) (n : Svc) :
    OthersSame n s (t.beginLink) ↔ OthersSame n s t := (t.beginLink_others n).iff s

theorem State.countFailure_others (s : State) (n : Svc) : OthersSame n s (s.countFailure) := by
  intro m hm; simp
@[simp] theorem State.countFailure_other (s t : State) (n : Svc) :
    OthersSame n s (t.countFailure) ↔ OthersSame n s t := (t.countFailure_others n).iff s

/-! ### Machine/Power.lean -/

theorem State.commandUnknown_others (s : State) (n : Svc) (code : Byte) : OthersSame n s (s.commandUnknown code) := by
  intro m hm; simp
@[simp] theorem State.commandUnknown_other (s t : State) (n : Svc) (code : Byte) :
    OthersSame n s (t.commandUnknown code) ↔ OthersSame n s t := (t.commandUnknown_others n code).iff s

/-! ### Machine/Control.lean -/

theorem State.writeBase_others (s : State) (n : Svc) (value : BitVec 64) : OthersSame n s (s.writeBase value) := by
  intro m hm; simp
@[simp] theorem State.writeBase_other (s t : State) (n : Svc) (value : BitVec 64) :
    OthersSame n s (t.writeBase value) ↔ OthersSame n s t := (t.writeBase_others n value).iff s

theorem State.writeLevel_others (s : State) (n : Svc) (value : BitVec 64) : OthersSame n s (s.writeLevel value) := by
  intro m hm; simp
@[simp] theorem State.writeLevel_other (s t : State) (n : Svc) (value : BitVec 64) :
    OthersSame n s (t.writeLevel value) ↔ OthersSame n s t := (t.writeLevel_others n value).iff s

/-! ### Machine/Attention.lean -/

theorem State.captureAckRead_others (s : State) (n : Svc) (ack : BitVec 16) : OthersSame n s (s.captureAckRead n ack) := by
  unfold State.captureAckRead State.onRead
  dsimp only
  (repeat' split) <;> simp
@[simp] theorem State.captureAckRead_other (s t : State) (n : Svc) (ack : BitVec 16) :
    OthersSame n s (t.captureAckRead n ack) ↔ OthersSame n s t := (t.captureAckRead_others n ack).iff s

theorem State.reminderOut_others (s : State) (n : Svc) (c : SvcCond) : OthersSame n s (s.reminderOut (.service n c)) := by
  unfold State.reminderOut
  (repeat' split) <;> simp

theorem State.sheetRead_others (s : State) (n : Svc) (r : SheetRead) : OthersSame n s (s.sheetRead n r) := by
  unfold State.sheetRead State.onRead
  dsimp only
  (repeat' split) <;> simp
@[simp] theorem State.sheetRead_other (s t : State) (n : Svc) (r : SheetRead) :
    OthersSame n s (t.sheetRead n r) ↔ OthersSame n s t := (t.sheetRead_others n r).iff s

end Sys2Proof.Machine
end

