-- ==== Sys2Proof/Laws/Memory.lean ====
section
/-! SUPPORT. Host memory: every write keeps the canonical form, a read after a write finds the byte written, and a write
leaves every other address alone. -/
namespace Sys2Proof.Machine

/-! ### The canonical form -/

/-- The head of a canonical list lies below every later address: what `wf` says of a cell in front of a list. -/
theorem Memory.wf_cons (c : Host.Cell) (m : Memory) :
    Memory.wf (c :: m) = true ↔ (∀ d ∈ m.head?, c.1 < d.1) ∧ m.wf = true := by
  cases m <;> simp [Memory.wf]

theorem Memory.head_write (m : Memory) (a : Nat) (b : Byte) (lo : Nat) (h : ∀ d ∈ m.head?, lo < d.1) (ha : lo < a) :
    ∀ d ∈ (m.write a b).head?, lo < d.1 := by
  cases m with
  | nil => simpa [Memory.write] using ha
  | cons c m =>
    have hc : lo < c.1 := h c (by simp)
    unfold Memory.write
    split
    · simpa using ha
    · split <;> simpa using (by assumption)

/-- A write keeps the canonical form. -/
theorem Memory.write_wf (m : Memory) (a : Nat) (b : Byte) (h : m.wf = true) : (m.write a b).wf = true := by
  induction m with
  | nil => rfl
  | cons c m ih =>
    obtain ⟨hc, hm⟩ := (Memory.wf_cons c m).mp h
    unfold Memory.write
    split
    · exact (Memory.wf_cons _ _).mpr ⟨by simpa using ‹a < c.1›, h⟩
    · split
      · subst a; exact (Memory.wf_cons _ _).mpr ⟨hc, hm⟩
      · exact (Memory.wf_cons _ _).mpr ⟨Memory.head_write m a b c.1 hc (by omega), ih hm⟩

theorem Memory.writeBytes_wf (bs : List Byte) (m : Memory) (a : Nat) (h : m.wf = true) : (m.writeBytes a bs).wf = true := by
  induction bs generalizing m a with
  | nil => exact h
  | cons b bs ih => exact ih _ _ (m.write_wf a b h)

theorem Memory.writePieces_wf (ps : List Piece) (m : Memory) (h : m.wf = true) : (m.writePieces ps).wf = true := by
  induction ps generalizing m with
  | nil => exact h
  | cons p ps ih => exact ih _ (Memory.writeBytes_wf p.bytes m p.addr h)

/-- Every operation changes host memory through `land`, which keeps the canonical form. -/
@[simp] theorem HostOrdered.land (s : State) (ps : List Piece) (h : HostOrdered s) : HostOrdered (s.land ps) :=
  Memory.writePieces_wf ps s.host h

/-! ### Reads after writes -/

theorem Memory.read_nil (a : Nat) : Memory.read [] a = none := rfl

theorem Memory.read_cons (a : Nat) (c : Host.Cell) (m : Memory) :
    Memory.read (c :: m) a = if a = c.1 then some c.2 else m.read a := by
  unfold Memory.read
  by_cases h : a = c.1
  · simp [List.lookup, h]
  · simp [List.lookup, h, beq_false_of_ne h]

/-- A read after a write of one byte. -/
theorem Memory.read_write (m : Memory) (a x : Nat) (b : Byte) :
    (m.write a b).read x = if x = a then some b else m.read x := by
  induction m with
  | nil => simp [Memory.write, Memory.read_cons, Memory.read_nil]
  | cons c m ih =>
    unfold Memory.write
    split
    · simp [Memory.read_cons]
    · split
      · subst a; simp only [Memory.read_cons]; split <;> rfl
      · simp only [Memory.read_cons, ih]; split <;> split <;> simp_all

/-- A read of an address below or above the bytes written. -/
theorem Memory.read_writeBytes_outside (bs : List Byte) (m : Memory) (a x : Nat) (h : x < a ∨ a + bs.length ≤ x) :
    (m.writeBytes a bs).read x = m.read x := by
  induction bs generalizing m a with
  | nil => rfl
  | cons b bs ih =>
    simp only [List.length_cons] at h
    rw [Memory.writeBytes, ih _ _ (by omega), Memory.read_write, if_neg (by omega)]

/-- A read of one of the bytes written. -/
theorem Memory.read_writeBytes (bs : List Byte) (m : Memory) (a i : Nat) (h : i < bs.length) :
    (m.writeBytes a bs).read (a + i) = some bs[i] := by
  induction bs generalizing m a i with
  | nil => simp at h
  | cons b bs ih =>
    rw [Memory.writeBytes]
    cases i with
    | zero => rw [Memory.read_writeBytes_outside _ _ _ _ (by omega), Memory.read_write]; simp
    | succ i =>
      have := ih (m.write a b) (a + 1) i (by simpa using h)
      simpa [Nat.add_assoc, Nat.add_comm 1 i] using this

theorem Memory.read_writePieces_outside (ps : List Piece) (m : Memory) (x : Nat) (h : ∀ p ∈ ps, ¬ p.covers x) :
    (m.writePieces ps).read x = m.read x := by
  induction ps generalizing m with
  | nil => rfl
  | cons p ps ih =>
    rw [Memory.writePieces, ih _ fun q hq => h q (List.mem_cons_of_mem _ hq)]
    have := h p List.mem_cons_self
    exact Memory.read_writeBytes_outside _ _ _ _ (by simp only [Piece.covers] at this; omega)

/-- A landing leaves every byte outside its pieces alone. -/
theorem State.land_outside (s : State) (ps : List Piece) : SameOutside ps s (s.land ps) :=
  fun a h => Memory.read_writePieces_outside ps s.host a h

/-- After a landing of one piece, host memory holds it. -/
theorem State.land_holds (s : State) (p : Piece) : (s.land [p]).holds p :=
  fun i h => Memory.read_writeBytes p.bytes s.host p.addr i h

theorem SameOutside.refl (ps : List Piece) (s : State) : SameOutside ps s s := fun _ _ => rfl

theorem SameOutside.of_host {ps : List Piece} {s t : State} (h : t.host = s.host) : SameOutside ps s t :=
  fun a _ => by simp [State.byte, h]

/-- The machine after reset has written nothing, which is the canonical form. -/
theorem HostOrdered.reset : HostOrdered State.reset := rfl

end Sys2Proof.Machine
end

