-- ==== Sys2Proof/Laws/Conditions.lean ====
section
/-! SUPPORT. What a change of a condition, an evaluation, a raise and a change of live state do to the condition entries. -/
namespace Sys2Proof.Machine

theorem svcIndex_inj {c d : SvcCond} (h : svcIndex c = svcIndex d) : c = d := by
  cases c <;> cases d <;> first | rfl | exact absurd h (by decide)

theorem devIndex_inj {c d : DevCond} (h : devIndex c = devIndex d) : c = d := by
  cases c <;> cases d <;> first | rfl | exact absurd h (by decide)

/-! ### One entry changed -/

theorem State.modCond_cond (s : State) (r : CondRef) (f : CondEntry → CondEntry) : (s.modCond r f).cond r = f (s.cond r) := by
  cases r <;> simp [State.cond, State.modCond]

theorem State.modCond_cond_ne (s : State) {r q : CondRef} (f : CondEntry → CondEntry) (h : q ≠ r) :
    (s.modCond r f).cond q = s.cond q := by
  cases r with
  | device c =>
    cases q with
    | device d =>
      have : devIndex d ≠ devIndex c := fun e => h (by rw [devIndex_inj e])
      simp [State.cond, State.modCond, this]
    | service m d => rfl
  | service n c =>
    cases q with
    | device d => rfl
    | service m d =>
      by_cases hm : m = n
      · subst hm
        have : svcIndex d ≠ svcIndex c := fun e => h (by rw [svcIndex_inj e])
        simp [State.cond, State.modCond, this]
      · simp [State.cond, State.modCond, hm]

/-- What a change of one condition leaves of every entry. -/
theorem State.modCond_get (s : State) (r q : CondRef) (f : CondEntry → CondEntry) :
    (s.modCond r f).cond q = if q = r then f (s.cond q) else s.cond q := by
  split
  · subst q; exact s.modCond_cond r f
  · exact s.modCond_cond_ne f ‹_›

@[simp] theorem CondEntry.touched_live (l : Bool) (e : CondEntry) : (e.touched l).live = e.live := by
  unfold CondEntry.touched; split <;> rfl
@[simp] theorem CondEntry.touched_raises (l : Bool) (e : CondEntry) : (e.touched l).raises = e.raises := by
  unfold CondEntry.touched; split <;> rfl
@[simp] theorem CondEntry.touched_announced (l : Bool) (e : CondEntry) : (e.touched l).announced = e.announced := by
  unfold CondEntry.touched; split <;> rfl
@[simp] theorem CondEntry.touched_acked (l : Bool) (e : CondEntry) : (e.touched l).acked = e.acked := by
  unfold CondEntry.touched; split <;> rfl
@[simp] theorem CondEntry.touched_mark (l : Bool) (e : CondEntry) : (e.touched l).mark = e.mark := by
  unfold CondEntry.touched; split <;> rfl
@[simp] theorem CondEntry.touched_first (l : Bool) (e : CondEntry) : (e.touched l).first = e.first := by
  unfold CondEntry.touched; split <;> rfl
@[simp] theorem CondEntry.touched_last (l : Bool) (e : CondEntry) : (e.touched l).last = e.last := by
  unfold CondEntry.touched; split <;> rfl
@[simp] theorem CondEntry.touched_timer (l : Bool) (e : CondEntry) : (e.touched l).timer = e.timer := by
  unfold CondEntry.touched; split <;> rfl

/-- A write queued for a record changes no entry. -/
@[simp] theorem State.queueEntry_cond (s : State) (r q : CondRef) : (s.queueEntry r).cond q = s.cond q := by
  cases q <;> simp [State.cond]

/-- A change of an entry's device-written fields, on every entry. -/
theorem State.changeCond_get (s : State) (r q : CondRef) (f : CondEntry → CondEntry) :
    (s.changeCond r f).cond q = if q = r then (f (s.cond q)).touched s.isLinked else s.cond q := by
  unfold State.changeCond; rw [State.queueEntry_cond, State.modCond_get]

/-- An evaluation changes no entry. -/
@[simp] theorem State.evaluate_cond (s : State) (q : CondRef) : s.evaluate.cond q = s.cond q := by
  cases q <;> simp [State.cond]

/-- R162: a raise, on every entry. -/
theorem State.raise_get (s : State) (n : Svc) (c : SvcCond) (q : CondRef) :
    (s.raise n c).cond q =
      if q = .service n c then ((s.cond q).raised (s.stampOf n)).touched s.isLinked else s.cond q := by
  unfold State.raise; rw [State.evaluate_cond, State.changeCond_get]

/-- R162: the raise count of every condition after a raise. -/
theorem State.raise_raises (s : State) (n : Svc) (c : SvcCond) (q : CondRef) :
    ((s.raise n c).cond q).raises = if q = .service n c then (s.cond q).raises + 1 else (s.cond q).raises := by
  rw [State.raise_get]; split <;> simp [CondEntry.raised]

/-- A raise changes no live field. -/
theorem State.raise_live (s : State) (n : Svc) (c : SvcCond) (q : CondRef) :
    ((s.raise n c).cond q).live = (s.cond q).live := by
  rw [State.raise_get]; split <;> simp [CondEntry.raised]

/-- R172: a raise of a device condition, on every entry. -/
theorem State.raiseDevice_get (s : State) (c : DevCond) (q : CondRef) :
    (s.raiseDevice c).cond q =
      if q = .device c then ((s.cond q).raised none).touched s.isLinked else s.cond q := by
  unfold State.raiseDevice; rw [State.evaluate_cond, State.changeCond_get]

/-- R163: the live field of every condition after an owner's change. -/
theorem State.setLive_live (s : State) (n : Svc) (c : SvcCond) (live : Bool) (q : CondRef) :
    ((s.setLive n c live).cond q).live = if q = .service n c then live else (s.cond q).live := by
  unfold State.setLive
  split
  · split
    · subst q; assumption
    · rfl
  · dsimp only
    split
    · rw [State.raise_live, State.changeCond_get]; split <;> simp [*]
    · rw [State.changeCond_get]; split <;> simp [*]

/-- R163: a change from not live to live is accompanied by exactly one raise, and no other change of live state raises. -/
theorem State.setLive_raises (s : State) (n : Svc) (c : SvcCond) (live : Bool) (q : CondRef) :
    ((s.setLive n c live).cond q).raises =
      if q = .service n c ∧ live = true ∧ (s.cond q).live = false then (s.cond q).raises + 1 else (s.cond q).raises := by
  unfold State.setLive
  split
  · rename_i h
    rw [if_neg]
    rintro ⟨rfl, rfl, h'⟩
    rw [State.svcCond, h'] at h
    exact absurd h (by decide)
  · rename_i h
    dsimp only
    split
    · rename_i hl
      rw [State.raise_raises, State.changeCond_get]
      by_cases hq : q = .service n c
      · subst hq
        have : (s.cond (.service n c)).live = false := by
          cases hv : (s.cond (.service n c)).live
          · rfl
          · exact absurd (by rw [State.svcCond, hv, hl]) h
        simp [hl, this]
      · simp [hq]
    · rename_i hl
      rw [State.changeCond_get]
      split <;> simp [hl]

/-! ### The lists of everything -/

@[simp] theorem mem_allServices (n : Svc) : n ∈ allServices := List.mem_finRange n
@[simp] theorem mem_allSlots (k : Slot) : k ∈ allSlots := List.mem_finRange k
@[simp] theorem mem_allExtents (x : ExtId) : x ∈ allExtents := List.mem_finRange x
@[simp] theorem mem_allContexts (c : CtxId) : c ∈ allContexts := List.mem_finRange c
@[simp] theorem mem_allSvcConds (c : SvcCond) : c ∈ allSvcConds := by cases c <;> decide
@[simp] theorem mem_allDevConds (c : DevCond) : c ∈ allDevConds := by cases c <;> decide

/-- Every condition of the seventeen panels is listed. -/
@[simp] theorem mem_allConds (r : CondRef) : r ∈ allConds := by cases r <;> simp [allConds]

end Sys2Proof.Machine
end

