-- ==== Sys2Proof/Laws/Queues.lean ====
section
/-! SUPPORT. What the operations on the queues of the live blocks and of the header do (R171, R196, R204). -/
namespace Sys2Proof.Machine

/-! ### A change of an entry queued -/

/-- A change of c's entry leaves the other writes of a queue, in their order. -/
theorem dueFirst_others (c : SvcCond) (q : List LiveItem) :
    (dueFirst c q).filter (fun i => !i.isEntry c) = q.filter fun i => !i.isEntry c := by
  induction q with
  | nil => simp [dueFirst, LiveItem.isEntry]
  | cons i q ih =>
    cases i <;> simp only [dueFirst] <;> (repeat' split) <;>
      simp_all [List.filter_cons, LiveItem.isEntry]

/-- After a change of c's entry a write of it is queued that waits for the change. -/
theorem dueFirst_due (c : SvcCond) (q : List LiveItem) : ∃ part, LiveItem.entry c part true ∈ dueFirst c q := by
  induction q with
  | nil => exact ⟨false, by simp [dueFirst]⟩
  | cons i q ih =>
    obtain ⟨part, h⟩ := ih
    cases i with
    | entry d p u =>
      by_cases hd : d = c
      · exact ⟨p, by simp [dueFirst, hd]⟩
      · exact ⟨part, by simp [dueFirst, hd, h]⟩
    | fields p => exact ⟨part, by simp [dueFirst, h]⟩
    | mark w => exact ⟨part, by simp [dueFirst, h]⟩
    | count v => exact ⟨part, by simp [dueFirst, h]⟩
    | late d ps => exact ⟨part, by simp [dueFirst, h]⟩

/-- A queue that holds no write of c's entry gets one at its end. -/
theorem dueFirst_none (c : SvcCond) (q : List LiveItem) (h : q.any (LiveItem.isEntry c) = false) :
    dueFirst c q = q ++ [.entry c false true] := by
  induction q with
  | nil => rfl
  | cons i q ih => cases i <;> simp_all [dueFirst, LiveItem.isEntry]

/-- A device entry stands in the header's queue after its change, and nothing leaves the queue. -/
theorem headerFirst_mem (c : DevCond) (q : List HeaderItem) (i : HeaderItem) :
    i ∈ headerFirst c q ↔ i ∈ q ∨ i = .entry c := by
  unfold headerFirst
  split
  · rename_i h
    refine ⟨.inl, fun h' => h'.elim id fun e => e ▸ ?_⟩
    simpa using h
  · simp

/-! ### Writes that complete -/

/-- R196: the queue of a live block after its first k writes have completed. -/
theorem State.landLive_live (s : State) (n m : Svc) (k : Nat) :
    (s.landLive n k).live[m] =
      if m = n then
        { s.live[m] with queue := (s.live[m].queue.take k).filter LiveItem.isMark ++ s.live[m].queue.drop k }
      else s.live[m] := by
  by_cases h : m = n
  · subst h; simp [State.landLive]
  · simp [State.landLive, h]

@[simp] theorem State.landLive_host (s : State) (n : Svc) (k : Nat) :
    (s.landLive n k).host = s.host.writePieces (s.livePrefix n k) := by
  simp [State.landLive]

@[simp] theorem State.landHeader_header (s : State) (k : Nat) : (s.landHeader k).header = s.header.drop k := by
  simp [State.landHeader]

@[simp] theorem State.landHeader_host (s : State) (k : Nat) :
    (s.landHeader k).host = s.host.writePieces ((s.header.take k).flatMap s.headerPieces) := by
  simp [State.landHeader]

/-- R204: with the end of a whole periodic write queued, everything before it lands and the count's write joins the queue; the
report ends a row of failures where a write lands with it. -/
theorem State.completeLive_mark (s : State) (n : Svc) (q rest : List LiveItem) (hl : s.isLinked = true)
    (hq : s.live[n].queue = q ++ .mark true :: rest) (hm : ∀ i ∈ q, i.isMark = false) :
    s.completeLive n =
      let t := (s.land (q.flatMap (s.itemPieces n))).modLive n fun l =>
        { l with count := l.count + 1, queue := rest ++ [.count (l.count + 1)] }
      (if hasWrite q then t.accessDone else t).trimWaits := by
  have keep : ∀ i ∈ q, (!i.isMark) = true := fun i hi => by simp [hm i hi]
  have stop : (!(LiveItem.mark true).isMark) = false := rfl
  unfold State.completeLive
  rw [hl, hq, List.dropWhile_append_of_pos keep, List.takeWhile_append_of_pos keep]
  simp [stop]

/-- R204: without the end of a whole periodic write in the queue nothing is done. -/
theorem State.completeLive_none (s : State) (n : Svc)
    (h : s.isLinked = false ∨ ∀ i ∈ s.live[n].queue, i.isMark = false) : s.completeLive n = s := by
  unfold State.completeLive
  rcases h with h | h
  · rw [h]
  · have : s.live[n].queue.dropWhile (fun i => !i.isMark) = [] :=
      List.dropWhile_eq_nil_iff.mpr fun i hi => by simp [h i hi]
    rw [this]
    split <;> simp_all

/-! ### The cause of an alert (R168 step 2) -/

/-- A device entry queued after a cause is to be written stands behind it, and nothing leaves the queue. -/
theorem State.handedHeader_mem (s : State) (i : HeaderItem) :
    i ∈ s.handedHeader ↔ i ∈ s.header ∨ i = .alert ∧ s.causeReady = true := by
  unfold State.handedHeader
  split <;> simp_all

/-- Without an alert in progress no cause is to be written. -/
@[simp] theorem State.handedHeader_idle (s : State) (h : s.alert.progress = none) : s.handedHeader = s.header := by
  simp [State.handedHeader, State.causeReady, h]

/-- The cause is handed one time. -/
theorem State.handedHeader_once (s : State) (h : HeaderItem.alert ∈ s.header) : s.handedHeader = s.header := by
  simp [State.handedHeader, State.causeReady, h]

/-- What the handing of the cause leaves in the header's queue. -/
@[simp] theorem State.handCause_header (s : State) : s.handCause.header = s.handedHeader := by
  simp [State.handCause]

/-- An entry made again for an alert is no longer owed, and no entry changes otherwise. -/
theorem State.retryEntry_get (s : State) (r q : CondRef) :
    (s.retryEntry r).cond q =
      if q = r ∧ s.isLinked = true ∧ (s.cond r).owed = true ∧ (s.alert.progress.map fun a => a.waits.contains r).getD false
      then { s.cond q with owed := false } else s.cond q := by
  unfold State.retryEntry
  by_cases h : (s.isLinked && (s.cond r).owed && (s.alert.progress.map fun a => a.waits.contains r).getD false) = true
  · rw [if_pos h, State.changeCond_get]
    simp only [Bool.and_eq_true] at h
    by_cases hq : q = r
    · rw [if_pos hq, if_pos ⟨hq, h.1.1, h.1.2, h.2⟩]; simp [CondEntry.touched, h.1.1]
    · rw [if_neg hq, if_neg fun c => hq c.1]
  · rw [if_neg h]
    simp only [Bool.and_eq_true] at h
    rw [if_neg fun c => h ⟨⟨c.2.1, c.2.2.1⟩, c.2.2.2⟩]

/-- Without an alert in progress nothing is handed for one. -/
@[simp] theorem State.handAlert_idle (s : State) (h : s.alert.progress = none) : s.handAlert = s := by
  have keep : ∀ l : List CondRef, l.foldl State.retryEntry s = s := by
    intro l
    induction l with
    | nil => rfl
    | cons r l ih => rw [List.foldl_cons]; simpa [State.retryEntry, h] using ih
  unfold State.handAlert
  rw [keep]
  simp [State.handCause, h, State.modHeader]

/-! ### Writes that fail -/

/-- R204: a failed write of a condition entry that is no piece of a periodic write, or of a count, leaves every other write
in the queue. -/
theorem failItem_plain (k : Nat) (q : List LiveItem) (i : LiveItem) (h : q[k]? = some i)
    (hi : (∃ c u, i = .entry c false u) ∨ ∃ v, i = .count v) : failItem k q = q.eraseIdx k := by
  rcases hi with ⟨c, u, rfl⟩ | ⟨v, rfl⟩ <;> simp [failItem, h, List.eraseIdx_eq_take_drop_succ]

/-- R204: a failed piece of a periodic write leaves its queue, and the next end in it marks a write no longer whole. -/
theorem failItem_piece (k : Nat) (q : List LiveItem) (p : Piece) (h : q[k]? = some (.fields p)) :
    failItem k q = q.take k ++ breakMark (q.drop (k + 1)) := by
  simp [failItem, h]

/-- R204: a queue loses no end of a periodic write by a failure in it, and no other write. -/
theorem breakMark_length (q : List LiveItem) : (breakMark q).length = q.length := by
  induction q with
  | nil => rfl
  | cons i q ih => cases i <;> simp [breakMark, LiveItem.isEnd, ih]

/-- R204: of the ends in a queue, a failure marks the first alone. -/
theorem breakMark_behind (p q : List LiveItem) (w : Bool) (h : ∀ i ∈ p, i.isEnd = false) :
    breakMark (p ++ .mark w :: q) = p ++ .mark false :: q := by
  induction p with
  | nil => rfl
  | cons i p ih => simp_all [breakMark]

end Sys2Proof.Machine
end

