-- ==== Sys2Proof/Tests/Slice0.lean ====
section
/-! SUPPORT. The model's own tests: well-formedness, one or two small steps for each command with values from the manual's
worked sequences and rules, and a witness for the hypotheses of each statement. -/
namespace Sys2Proof.Tests
set_option Elab.async false
set_option maxRecDepth 20000
open Sys2Proof.Machine

/-! ### Small states -/

/-- The state after a command, or the state itself where the command stops. -/
def after (c : Instr) (s : State) : State :=
  match exec c s with
  | .next t => t
  | .fault _ => s
  | .refused _ => s

/-- The part after reset. -/
def on : State := State.reset
/-- The part LINKED with its area at 0x10000. -/
def linked : State := { on with ctl := { Ctl.reset with link := .linked, base := 0x10000 } }
/-- The part in another link state or step. -/
def inLink (l : LinkState) (st : LinkStep) : State := { linked with ctl := { linked.ctl with link := l, step := st } }

/-- No completion before a failure. -/
def nothing : Completions := ⟨false, 0, Vector.replicate 16 0, 0⟩
def fr (n : Svc) (stamp : Nat) : Instr := .frame n (BitVec.ofNat 48 stamp) 25
/-- Service n LOCKED at a time with its loss timer running. -/
def lockedAt (s : State) (n : Svc) (time : Nat) : State :=
  s.modFeed n fun f => { f with lock := .locked, time := time, lossTimer := some 25 }
/-- Service n in FLYWHEEL at a time. -/
def flyingAt (s : State) (n : Svc) (time : Nat) : State :=
  (s.modFeed n fun f => { f with lock := .flywheel, time := time, frameTimer := some 25 }).modCond (.service n .feedLoss)
    fun e => { e with live := true, raises := 1 }
/-- The adopted sheet of service n changed. -/
def withSheet (s : State) (n : Svc) (f : Sheet → Sheet) : State := s.modSheet n fun u => { u with adopted := f u.adopted }

/-- A COMMERCIAL body: START cue 300 from 91,000 to 91,500, END cue 301 with cap 92,250 (section 5.9). -/
def breakBody : Body :=
  { segId := 7, cls := .commercial, start := .onCue 300 91000 91500, finish := .onCue 301 92250, includeInner := false,
    loudness := none, captions := none }
/-- A rule snapshot. -/
def rules : Snapshot := { target := -2300, tolerance := 100, ceiling := some (-1800), required := false, permille := 980 }
/-- An entry of the break body in a state under a posting. -/
def breakEntry (st : Standing) (p : BitVec 16) : Entry := { Entry.fresh with posting := p, state := st, body := some breakBody }
/-- Slot k of service n holding an entry. -/
def withEntry (s : State) (n : Svc) (k : Slot) (e : Entry) : State := s.modEntry n k fun _ => e
/-- Slot 1 of service 5 ARMED under posting 7. -/
def armed : State := withEntry (lockedAt linked 5 91210) 5 1 (breakEntry .armed 7)
/-- The same slot OPEN with context 0. -/
def opened : State :=
  ((withEntry (lockedAt linked 5 92000) 5 1
      { breakEntry .opened 7 with snapshot := some rules, context := some 0, openStamp := some 91210 }).modPool 0
    fun _ => Context.claimed ⟨5, 1, 7⟩ rules false).modSched 5 fun c => { c with openInner := some 1 }
/-- The same slot CLOSING, its context being integrated with a result. -/
def result (v : LoudVerdict) : LoudResult := { noMeterResult with verdict := v }
def integrating (v : LoudVerdict) (units : UnitCounts) : State :=
  ((withEntry (lockedAt linked 5 92000) 5 1
      { breakEntry .closing 7 with snapshot := some rules, context := some 0, units := units }).modPool 0
    fun _ => { Context.claimed ⟨5, 1, 7⟩ rules false with state := .integrating }).modInteg
      fun _ => ⟨[], some (0, result v)⟩
/-- The same slot CLOSED with a pin and RELEASE of 7 last read. -/
def closed : State :=
  (withEntry linked 5 1
    { breakEntry .closed 7 with
      lastWord := some 0x00030007, units := ⟨2, 0, some 10, some 11⟩
      writes := [⟨.standing .closed 7, false⟩], handed := true }).modSched 5
    fun c => { c with pins := [⟨1, 7, 10, 11⟩] }

/-- A chunk of some payload bytes. -/
def chunk (bytes : List Byte) : Chunk := ⟨BitVec.ofNat 16 bytes.length, bytes, 5, true, false⟩
def aHeader (n : Svc) (seq : Nat) : UnitHeader :=
  { service := n, seq := seq, time := some 9, proxyStamp := 9, length := 1, key := false, cut := false, flywheel := false,
    held := false, outerId := none, innerId := none, level := none, caption := .lost, required := false,
    live := ⟨false, false, false, false, false⟩ }
def aUnit (n : Svc) (seq : Nat) : SpoolUnit := ⟨aHeader n seq, zeroBytes 1984⟩
/-- Service 3 with a queue of one unit and a chain, in an archive window from 0x100000. -/
def withQueue (s : State) : State :=
  (withSheet s 3 fun sh => { sh with chain := [40, 41] }).modProxy 3 fun p => { p with seq := 1, queue := [aUnit 3 0] }
def ready : State :=
  withQueue { linked with ctl := { linked.ctl with windowBase := 0x100000, windowSize := 0x100000 } }
/-- A record of extent 40 being filled for service 3. -/
def filling (units code : Nat) : Extent :=
  { Extent.blank with state := .filling, owner := some 3, generation := 1, units := units, base := 0x100000, code := code }
/-- Service 3 filling extent 40, the Mover at a work. -/
def fillState (units code : Nat) (w : MoverWork) : State :=
  ((ready.modExtent 40 fun _ => filling units code).modRecorder 3 fun r =>
    { r with state := .recording, current := some 40, cursor := some 40 }).setWork w
/-- The descriptor fields a host writes: base, size code, flags, drained generation. -/
def desc (base code flags gen : Nat) : List Byte := le 8 base ++ le 1 code ++ le 1 flags ++ zeroBytes 2 ++ le 4 gen

/-- A sheet as the host writes it: its first 192 bytes, with an enable, a rate, a first feed, a quota. -/
def sheetBytes (enable rate feed quota : Nat) : List Byte :=
  zeroBytes 4 ++ le 1 enable ++ le 1 rate ++ le 1 2 ++ le 1 1 ++ (le 1 4 ++ zeroBytes 1 ++ le 2 256) ++
  (le 1 feed ++ zeroBytes 1 ++ le 2 600) ++ zeroBytes 24 ++ leInt 2 (-72) ++ leInt 2 1000 ++ leInt 2 (-5500) ++ le 2 100 ++
  le 1 3 ++ le 1 1 ++ le 1 50 ++ le 1 1 ++ le 2 750 ++ le 2 50 ++ [0x75, 0x6E, 0x64] ++ le 1 0 ++ le 4 quota ++ le 2 60 ++
  zeroBytes 30 ++ List.replicate 16 4 ++ zeroBytes 16 ++
  (leInt 2 (-2300) ++ le 2 100 ++ zeroBytes 4 ++ le 2 980 ++ zeroBytes 2 ++ le 4 30) ++ zeroBytes 48
/-- A posted body: class, start and end mode, first stamp, second stamp, end stamp. -/
def bodyBytes (cls start finish a b e : Nat) : List Byte :=
  zeroBytes 4 ++ le 4 77 ++ le 1 cls ++ le 1 start ++ le 1 finish ++ zeroBytes 5 ++ le 8 a ++ le 8 b ++ le 8 e ++ zeroBytes 24
def header (version : Nat) : List Byte :=
  le 4 version ++ zeroBytes 4 ++ le 8 0x100000 ++ le 8 0x200000 ++ [3, 9, 0] ++ zeroBytes 5
def silentSamples : Vector (BitVec 24) 16 := Vector.replicate 16 0

/-! ### Well-formedness: each check refuses an ill-formed command -/

theorem test_wf_rate : (Instr.frame 0 1 0xFFFF).wf = false ∧ (Instr.frame 0 1 25).wf = true := by decide
theorem test_wf_page :
    (Instr.caption 0 0 ⟨0, 0, 0⟩ .text 1).wf = false ∧ (Instr.caption 0 9 ⟨0, 0, 0⟩ .text 1).wf = false ∧
    (Instr.caption 0 8 ⟨0, 0, 0⟩ .text 1).wf = true := by decide
theorem test_wf_body : (Instr.postingValidation 0 0 [1]).wf = false := by decide
theorem test_wf_sheet : (Instr.sheetStaging 0 ⟨1, [1], 1⟩).wf = false := by decide
theorem test_wf_header : (Instr.linkStepComplete (.header [1])).wf = false := by decide
theorem test_wf_sheets :
    (Instr.linkStepComplete (.sheets (Vector.replicate 16 (some ⟨1, [], 1⟩)) true)).wf = false ∧
    (Instr.linkStepComplete (.sheets (Vector.replicate 16 none) false)).wf = true := by decide +kernel
theorem test_wf_code : (Instr.badCommand 4).wf = false ∧ (Instr.badCommand 5).wf = true := by decide
theorem test_wf_offset : (Instr.registerWriteIgnored 0x20 1).wf = false ∧ (Instr.registerWriteIgnored 0 1).wf = true := by
  decide
theorem test_wf_written : (Instr.powerLoss 17 false).wf = false ∧ (Instr.powerLoss 16 false).wf = true := by decide
theorem test_wf_descriptor : (Instr.descriptorReadComplete 0 []).wf = false := by decide

/-- No row of the table has bits, so no word spells a command. -/
theorem test_no_word_decodes : decodeTableWord 32 5 = none ∧ on.withFetchWord 32 5 = on := ⟨rfl, rfl⟩
/-- R192: COMMAND takes its code from bits 0 to 7 and the mask of STORE from bits 16 to 31. -/
theorem test_register_writes :
    decodeRegisterWrite 0x10 0xFF01 = .link ∧ decodeRegisterWrite 0x10 2 = .unlink ∧
    decodeRegisterWrite 0x10 0x8_ABCD_0003 = .store 0xABCD ∧ decodeRegisterWrite 0x10 4 = .deviceReset ∧
    decodeRegisterWrite 0x10 0x109 = .badCommand 9 ∧ decodeRegisterWrite 0x08 7 = .exchangeBaseWrite 7 ∧
    decodeRegisterWrite 0x20 5 = .alertLevelWrite 5 ∧ decodeRegisterWrite 0x18 7 = .registerWriteIgnored 0x18 7 := by
  decide +kernel
/-- R202: the sheet of service 3 lies at 0x01000 + 3 * 0x1000 of the area. -/
theorem test_sheet_address : linked.readAddress (.sheetRead 3) = some 0x14000 := by decide +kernel

/-! ### Feed Receiver: the worked sequence of section 1.4 (service 2) -/

theorem test_frame_repeat_holds :
    let t := after (fr 2 1001) (lockedAt on 2 1001)
    t.feed[2].lock = .held ∧ t.feed[2].time = 1001 ∧ t.raises 2 .timeFault = 1 := by decide +kernel
theorem test_frame_ends_flywheel :
    let t := after (fr 2 1010) (flyingAt on 2 1008)
    t.feed[2].lock = .locked ∧ t.feed[2].time = 1010 ∧ t.raises 2 .timeFault = 1 ∧
      (t.svcCond 2 .feedLoss).live = false := by decide +kernel
theorem test_loss_enters_flywheel :
    let t := after (.loss 2 false) (lockedAt on 2 1004)
    t.feed[2].lock = .flywheel ∧ t.feed[2].time = 1004 ∧ t.raises 2 .feedLoss = 1 ∧ t.feed[2].lineDown = true := by
  decide +kernel
theorem test_loss_timer_makes_two_advances :
    let t := after (.lossTimerExpiry 2) (lockedAt on 2 1004)
    t.feed[2].lock = .flywheel ∧ t.feed[2].time = 1006 ∧ t.feed[2].advances = 2 := by decide +kernel
theorem test_flywheel_advance :
    (after (.flywheelAdvance 2) (flyingAt on 2 1005)).feed[2].time = 1006 := by decide +kernel
theorem test_restore_keeps_flywheel :
    let t := after (.restore 2) (flyingAt on 2 1008)
    t.feed[2].lock = .flywheel ∧ t.feed[2].lineDown = false := by decide +kernel
theorem test_discarded_message : (after (.discardedMessage 2) on).feed[2].discarded = 1 := by decide +kernel

/-! ### Loudness Meter: sections 2.2, 2.4 and 2.9 -/

/-- The worked start of the filter: 0.75, then 0.6826171875 at stage 2. -/
theorem test_filter_start :
    let f := Filter.zero.step 4194304
    f.z1 = 3 * 2 ^ 30 ∧ (f.step 4194304).z1 = 2931818496 ∧ sampleSquare f.z1 = 618475290624 := by decide
theorem test_levels :
    level (-69) 1 1 = -9999 ∧ level (-69) 1073741824 1 = -3079 ∧ level (-69) 12884901888 1 = -2000 ∧
    level (-69) 9663676416 1 = -2125 := by decide +kernel
/-- Block 5 of the rolling run of section 2.9: silence after four blocks. -/
theorem test_audio_completes_block :
    let s := withSheet (on.modMeter 4 fun m =>
      { m with rolling := ⟨4799, zeros8, List.replicate 4 12884901888, 4⟩, countdown := 3 }) 4 fun sh => sh
    let t := after (.audio 4 silentSamples) s
    t.meter[4].curMomentary = some (-2125) ∧ t.meter[4].countdown = 2 ∧ t.meter[4].rolling.run = 5 := by decide +kernel
theorem test_audio_peak :
    (after (.audio 4 (Vector.replicate 16 0x800000)) on).meter[4].peaks = [8388608, 8388608, 0, 0, 0, 0, 0, 0] := by
  decide +kernel
theorem test_write_timer_restarts :
    let t := after (.writeTimerExpiry 4) (on.modMeter 4 fun m => { m with countdown := 3, peaks := [5] })
    t.meter[4].countdown = 10 ∧ t.meter[4].peaks = zeros8 := by decide +kernel
theorem test_countdown_expiry_hands :
    let t := after (.writeCountdownExpiry 4) (linked.modMeter 4 fun m => { m with countdown := 1 })
    t.live[4].queue.length = 12 + 16 + 1 ∧ t.live[4].queue.getLast? = some (.mark true) ∧ t.live[4].count = 0 := by
  decide +kernel
theorem test_live_count :
    let s := linked.modLive 4 fun l => { l with queue := [.fields ⟨0x45020, [1]⟩, .mark true] }
    let t := after (.liveBlockWriteCount 4) s
    t.live[4].count = 1 ∧ t.live[4].queue = [.count 1] ∧ t.byte 0x45020 = some 1 := by decide +kernel
/-- The worked integration of chapter 3. -/
theorem test_worked_integration :
    let c : Context :=
      { Context.free with
        target := -2300, tolerance := 100, momentary := 1050, silent := 50
        histogram := [⟨293, 100, 10995116300⟩, ⟨463, 600, 3306367146600⟩, ⟨493, 300, 3298534883400⟩] }
    let r := integrate c ⟨1000, 30, -69⟩
    r.n1 = 1000 ∧ r.pass1 = some (-2290) ∧ r.threshold = some (-3290) ∧ r.n2 = 900 ∧ r.integrated = some (-2245) ∧
      r.verdict = .pass := by decide +kernel
theorem test_integration_start :
    let s := (on.modPool 4 fun c => { c with state := .closing, figures := some ⟨1000, 30, -69⟩ }).modInteg fun _ =>
      ⟨[4], none⟩
    let t := after .integrationStart s
    t.pool[4].state = .integrating ∧ t.integ.queue = [] := by decide +kernel
theorem test_count_limit :
    let t := after (.countLimit 5 1) (opened.modPool 0 fun c => { c with momentary := 1048575 })
    (t.entry 5 1).state = .closing ∧ (t.entry 5 1).flags.truncated = true ∧ t.integ.queue = [0] := by decide +kernel

/-! ### Caption Watch: the worked sequence of section 4.8 (service 9, L = 3, C = 4) -/

def captions (c : Caption → Caption) : State :=
  (withSheet on 9 fun sh => { sh with livenessWindow := 3, contentWindow := 4, lang := ⟨0x65, 0x6E, 0x67⟩ }).modCaption 9 c
theorem test_caption_text :
    let t := after (.caption 9 1 ⟨0x65, 0x6E, 0x67⟩ .text 10) (captions id)
    t.caption[9].state = .live ∧ t.caption[9].liveness = 3 ∧ t.caption[9].content = 4 ∧
      (t.svcCond 9 .captionLoss).live = false := by decide +kernel
theorem test_caption_gap :
    let s := captions fun c => { c with state := .idle, liveness := 1, lastSeq := some 11 }
    let t := after (.caption 9 1 ⟨0x65, 0x6E, 0x67⟩ .idle 13) s
    t.caption[9].discontinuities = 1 ∧ t.caption[9].liveness = 3 ∧ t.caption[9].content = 0 := by decide +kernel
theorem test_content_expiry :
    let t := after (.contentExpiry 9) (captions fun c => { c with state := .live, liveness := 2, content := 1 })
    t.caption[9].state = .idle ∧ t.caption[9].liveness = 1 ∧ t.raises 9 .captionIdle = 1 := by decide +kernel
theorem test_liveness_expiry :
    let t := after (.livenessExpiry 9) (captions fun c => { c with state := .idle, liveness := 1, lastSeq := some 13 })
    t.caption[9].state = .lost ∧ t.caption[9].lastSeq = none := by decide +kernel

/-! ### Dockets: the worked sequence of section 5.9 (service 5) -/

theorem test_cue_opens_break :
    let t := after (.cue 5 300 .start) armed
    (t.entry 5 1).state = .opened ∧ (t.entry 5 1).openStamp = some 91210 ∧ t.sched[5].openInner = some 1 := by
  decide +kernel
theorem test_cue_unmatched : (after (.cue 5 299 .start) armed).sched[5].unmatched = 1 := by decide +kernel
theorem test_jump_fires_cap :
    let t := after (fr 5 92300) (lockedAt opened 5 92100)
    (t.entry 5 1).state = .closing ∧ (t.entry 5 1).closeStamp = some 92300 ∧
      (t.entry 5 1).flags = { VerdictFlags.none with cueMissed := true, late := true, timeFault := true } := by
  decide +kernel
/-- R108, R162: the raise for a stamp is taken before the time advance, with the old service time as its stamp, and marks the
docket that the advance closes but not the one that it opens; the raise for a rate code is taken after it. -/
theorem test_time_fault_order :
    let t := after (fr 5 92300) (lockedAt opened 5 92100)
    let u := after (fr 5 91500) armed
    let v := after (.frame 5 91500 30) (lockedAt armed 5 91499)
    let w := after (.frame 5 92250 30) (lockedAt opened 5 92249)
    (t.svcCond 5 .timeFault).last = some 92100 ∧ (u.entry 5 1).state = .opened ∧ (u.entry 5 1).flags.timeFault = false ∧
      (v.entry 5 1).flags.timeFault = true ∧ (v.svcCond 5 .timeFault).last = some 91500 ∧ (w.entry 5 1).state = .closing ∧
      (w.entry 5 1).flags.timeFault = false := by decide +kernel
theorem test_word_repost_faults :
    let t := after (.commandWordRead 5 1 0x00010008) opened
    (t.entry 5 1).mark = some 8 ∧ t.raises 5 .docketFault = 1 ∧ (t.entry 5 1).state = .opened := by decide +kernel
theorem test_word_release :
    let t := after (.commandWordRead 5 1 0x00030007) closed
    (t.entry 5 1).state = .idle ∧ t.sched[5].pins = [] := by decide +kernel
theorem test_posting_accepted :
    let s := withEntry (lockedAt linked 5 91400) 5 3 { Entry.fresh with validating := some 9 }
    let t := after (.postingValidation 5 3 (bodyBytes 2 1 1 95000 0 96000)) s
    (t.entry 5 3).state = .pending ∧ (t.entry 5 3).posting = 9 := by decide +kernel
theorem test_posting_bad_class :
    let s := withEntry linked 5 3 { Entry.fresh with validating := some 9 }
    let t := after (.postingValidation 5 3 (bodyBytes 5 1 1 95000 0 96000)) s
    (t.entry 5 3).state = .refused ∧
      (t.entry 5 3).writes.map SlotWrite.content = [.cause .badClass, .standing .refused 9] := by decide +kernel
/-- The break of section 6.6: HIGH with a unit range is pinned and raises LOUDNESS_FAIL once. -/
theorem test_integration_completion :
    let t := after .integrationCompletion (integrating .high ⟨4500, 0, some 1015320, some 1019819⟩)
    (t.entry 5 1).state = .closed ∧ t.raises 5 .loudnessFail = 1 ∧ t.sched[5].pins = [⟨1, 7, 1015320, 1019819⟩] ∧
      t.pool[0].state = .free := by decide +kernel
/-- R203: the standing field of slot 1 of service 5 lies at 0x11000 + 5 * 0x2000 + 0x100 + 64 of the area. -/
theorem test_slot_write :
    let t := after (.slotWriteComplete 5 1) closed
    t.byte 0x2B140 = some 5 ∧ t.byte 0x2B142 = some 7 ∧ (t.entry 5 1).state = .idle := by decide +kernel
theorem test_sweep_rehands :
    let s := withEntry linked 5 1 { breakEntry .pending 7 with writes := [⟨.standing .pending 7, true⟩] }
    ((after .boardSweep s).entry 5 1).handed = true := by decide +kernel

/-! ### Proxy Port and spool: the worked sequence of section 7.6 (service 7, quota 4) -/

def queued (overflow : Bool) (k : Nat) : State :=
  (withSheet on 7 fun sh => { sh with quota := 4 }).modProxy 7 fun p =>
    { p with seq := 100 + k, archived := 100, overflow := overflow, queue := (List.range k).map fun i => aUnit 7 (100 + i) }
theorem test_arrival_joins :
    let t := after (.arrival 7 (chunk [1, 2])) (queued false 3)
    t.proxy[7].queue.length = 4 ∧ t.proxy[7].seq = 104 ∧ t.proxy[7].dropped = 0 := by decide +kernel
theorem test_arrival_drops :
    let t := after (.arrival 7 (chunk [1, 2])) (queued false 4)
    t.proxy[7].queue.length = 4 ∧ t.proxy[7].dropped = 1 ∧ t.proxy[7].overflow = true ∧ t.raises 7 .spoolOverflow = 1 := by
  decide +kernel

/-! ### Archive Mover (chapter 8) -/

theorem test_mover_turn_walks :
    let t := after .moverTurn ready
    t.mover.pointer = some 3 ∧ t.mover.work = .walk 3 false false 40 [41] := by decide +kernel
theorem test_descriptor_opens :
    let t := after (.descriptorReadComplete 40 (desc 0x110000 3 0 0)) (ready.setWork (.walk 3 false false 40 [41]))
    t.extents[40].state = .filling ∧ t.extents[40].generation = 1 ∧ t.recorder[3].current = some 40 := by decide +kernel
theorem test_descriptor_violation :
    let t := after (.descriptorReadComplete 40 (desc 0x110001 3 0 0)) (ready.setWork (.walk 3 false false 40 [41]))
    t.recorder[3].state = .stalled ∧ t.recorder[3].captureNo = 1 ∧ t.raises 3 .recordViolation = 1 := by decide +kernel
/-- R203: the state of descriptor 40 lies at 0x41000 + 40 * 0x80 + 32 of the area. -/
theorem test_descriptor_update :
    let s := fillState 0 1 (.openUpdate 3 40 false)
    let t := after (.descriptorUpdateComplete 40)
      (s.modMover fun m => { m with updates := [⟨40, s.extents[(40 : ExtId)], false⟩] })
    t.byte 0x52420 = some 1 ∧ t.mover.work = .unitWrite 3 := by decide +kernel
theorem test_unit_write :
    let t := after .unitWriteComplete (withQueue (fillState 5 1 (.unitWrite 3)))
    t.extents[40].units = 6 ∧ t.proxy[3].queue = [] ∧ t.proxy[3].archived = 1 ∧ t.byte (0x100000 + 2048 * 5) = some 3 := by
  decide +kernel
theorem test_unit_write_fills :
    let t := after .unitWriteComplete (withQueue (fillState 31 0 (.unitWrite 3)))
    t.extents[40].state = .full ∧ t.extents[40].cause = some .filled ∧ t.recorder[3].state = .ready := by decide +kernel
theorem test_capture_ack :
    let s := (linked.modRecorder 3 fun r => { r with captureNo := 1, acked := false }).modCond (.service 3 .recordFatal)
      fun e => { e with live := true }
    let t := after (.captureAckRead 3 1) s
    t.recorder[3].acked = true ∧ (t.svcCond 3 .recordFatal).live = false := by decide +kernel

/-! ### Conditions and alerts: the worked sequence of section 9.7 (service 1) -/

def alerting : State :=
  (withSheet { linked with panel := Vector.replicate 16 (panelReset false) } 1 fun sh => { sh with priorities := Vector.replicate 16 3, reminder := 60 }).modAlert fun a =>
    { a with number := 17 }
def alertPending : State := alerting.modCond (.service 1 .timeFault) fun e => { e with raises := 1 }
/-- The alert of that raise, waiting for the entries in w. -/
def alertRun (w : List CondRef) : AlertRun := ⟨3, .service 1 .timeFault, [(.service 1 .timeFault, 1)], w⟩
/-- That alert in progress. -/
def alertWaits (s : State) (w : List CondRef) : State := s.modAlert fun a => { a with progress := some (alertRun w) }
/-- A raise of TIME_FAULT begins the alert, which waits for the write of its entry. -/
theorem test_raise_begins_alert :
    (after (fr 1 7) (lockedAt alerting 1 7)).alert.progress = some (alertRun [.service 1 .timeFault]) := by decide +kernel
theorem test_alert_level_write :
    let t := after (.alertLevelWrite 8) alertPending
    t.alert.level = 0 ∧ t.alert.progress = some (alertRun []) := by decide +kernel
theorem test_alert_level_holds : (after (.alertLevelWrite 3) alertPending).alert.progress = none := by decide +kernel
theorem test_alert_written :
    let t := after .alertCauseWritten (alertWaits alertPending [])
    t.alert.level = 3 ∧ t.alert.number = 18 ∧ t.alert.sent = [3] ∧ t.alert.progress = none ∧ (t.svcCond 1 .timeFault).announced = 1 ∧
      (t.svcCond 1 .timeFault).timer = some 60 ∧ t.byte 0x10040 = some 18 ∧ t.byte 0x10043 = some 1 := by decide +kernel
theorem test_ack :
    let s := linked.modCond (.service 1 .timeFault) fun e => { e with raises := 1, timer := some 60 }
    let t := after (.ackRead (.service 1 .timeFault) 1) s
    (t.svcCond 1 .timeFault).acked = 1 ∧ (t.svcCond 1 .timeFault).timer = none := by decide +kernel
/-- R164: a read where the condition was not outstanding stops no timer. -/
theorem test_ack_again :
    let s := linked.modCond (.service 1 .timeFault) fun e => { e with raises := 1, acked := 1, timer := some 60 }
    ((after (.ackRead (.service 1 .timeFault) 1) s).svcCond 1 .timeFault).timer = some 60 := by decide +kernel
theorem test_reminder :
    let s := linked.modCond (.service 1 .audioClip) fun e => { e with raises := 1, announced := 1, timer := some 60 }
    ((after (.reminderTimerExpiry 1 .audioClip) s).svcCond 1 .audioClip).mark = true := by decide +kernel
theorem test_device_priority :
    (after (.devicePriorityRead 9 4 0) linked).devPriority = #v[7, 4, 0] := by decide +kernel

/-! ### Sheets and the store: the worked sequence of section 10.5 -/

def staging (feed : Nat) : Instr := .sheetStaging 8 ⟨16, sheetBytes 1 25 feed 65536, 16⟩
theorem test_sheet_duplicate_channel :
    let t := after (staging 4) linked
    t.sheet[8].cause = some .badMixChannel ∧ t.sheet[8].lastTaken = some 16 ∧ t.raises 8 .sheetFault = 1 ∧
      t.sheetOf 8 = factorySheet := by decide +kernel
theorem test_sheet_weight_clamped :
    let t := after (staging 6) linked
    (t.sheetOf 8).mix = [⟨4, 256⟩, ⟨6, 511⟩] ∧ (t.sheetOf 8).calibration = -72 ∧ t.sheet[8].clamped = true ∧
      (t.sheetOf 8).chain = [60] := by decide +kernel
theorem test_store :
    let t := after (.store 0x0100) on
    t.store.commit.map Commit.services = some [8] ∧ t.ctl.result = .accepted := by decide +kernel
theorem test_commit_complete :
    let s := on.modStore fun st => { st with commits := 1207, commit := some ⟨[8], Vector.replicate 16 factorySheet⟩ }
    let t := after .commitComplete s
    t.store.commits = 1208 ∧ t.store.commit = none ∧ (t.cond (.device .storeComplete)).raises = 1 := by decide +kernel
theorem test_power_loss_tears :
    let s := on.modStore fun st => { st with commit := some ⟨[2, 8], Vector.replicate 16 factorySheet⟩ }
    let t := after (.powerLoss 1 true) s
    t.store.stored[2].good = true ∧ t.store.stored[8].good = false ∧ t.powered = false := by decide +kernel
theorem test_power_on_bad_store :
    let s := on.modStore fun st => { st with stored := st.stored.set 8 ⟨factorySheet, false⟩ }
    let t := after .powerOn s
    t.sheet[8].source = .factory ∧ (t.cond (.device .storeFault)).raises = 1 ∧ t.raises 8 .captionLoss = 1 := by
  decide +kernel

/-! ### Exchange Controller (section 11.6 and R192 to R200) -/

theorem test_link_bad_base : (after .link on).ctl.result = .badBase ∧ (after .link on).ctl.link = .unlinked := by
  decide +kernel
theorem test_link : (after .link (after (.exchangeBaseWrite 0x10000) on)).ctl.link = .linking := by decide +kernel
theorem test_base_kept : (after (.exchangeBaseWrite 0x20000) linked).ctl.base = 0x10000 := by decide +kernel
theorem test_header_bad_layout :
    let t := after (.linkStepComplete (.header (header 2))) (inLink .linking .header)
    t.ctl.link = .unlinked ∧ t.ctl.result = .badLayout := by decide +kernel
theorem test_header_taken :
    let t := after (.linkStepComplete (.header (header 1))) (inLink .linking .header)
    t.ctl.step = .sheets ∧ t.ctl.windowSize = 0x200000 ∧ t.devPriority = #v[3, 7, 0] := by decide +kernel
theorem test_unlink_closes :
    let t := after .unlink opened
    t.ctl.link = .unlinking ∧ (t.entry 5 1).state = .closing ∧ (t.entry 5 1).flags.unlinkClose = true := by decide +kernel
theorem test_unlink_complete : (after .unlinkComplete (inLink .unlinking .entries)).ctl.link = .unlinked := by
  decide +kernel
theorem test_device_reset :
    let t := after .deviceReset linked
    t.ctl.link = .unlinked ∧ t.ctl.base = 0x10000 ∧ t.readRegister 0x10 = 4 := by decide +kernel
theorem test_bad_command : (after (.badCommand 9) on).readRegister 0x10 = 0x0209 := by decide +kernel
theorem test_register_write_ignored : exec (.registerWriteIgnored 0 7) on = .next on := rfl
/-- The eighth failure of section 11.6: the verdict write of slot 4 fails after seven failed reads. -/
theorem test_eighth_failure :
    let s := { closed with ctl := { closed.ctl with consecutive := 7, total := 19 } }
    let t := after (.accessFailure ⟨.slotWrite 5 1, nothing⟩) s
    t.ctl.link = .unlinked ∧ t.ctl.consecutive = 8 ∧ t.ctl.total = 20 ∧ t.ctl.faultMark = true := by decide +kernel
/-- R198, R204: a completed write ends the row; the periodic write of the failed piece is no longer whole. -/
theorem test_failed_piece :
    let s := linked.modLive 4 fun l =>
      { l with queue := [.count 6, .fields ⟨0x45020, [1]⟩, .entry .audioClip true false, .mark true] }
    let t := after (.accessFailure ⟨.livePiece 4 0, { nothing with live := nothing.live.set 4 1 }⟩)
      { s with ctl := { s.ctl with consecutive := 6 } }
    t.ctl.consecutive = 1 ∧ t.live[4].queue = [.entry .audioClip true false, .mark false] ∧ t.byte 0x45010 = some 6 := by
  decide +kernel
/-- R204: a second failed piece of the first of two periodic writes leaves the second one whole. -/
theorem test_second_failed_piece :
    let s := linked.modLive 4 fun l =>
      { l with queue := [.fields ⟨0x45020, [1]⟩, .mark false, .fields ⟨0x45020, [2]⟩, .mark true] }
    let t := after (.accessFailure ⟨.livePiece 4 0, nothing⟩) s
    t.live[4].queue = [.mark false, .fields ⟨0x45020, [2]⟩, .mark true] ∧
      (after (.liveBlockWriteCount 4) t).live[4].count = 1 := by decide +kernel
/-- R77: while UNLINKING a write of the slot fails a second time: the verdict and CLOSED made later are dropped too. -/
theorem test_dropped_slot :
    let s := (integrating .high UnitCounts.zero).modEntry 5 1 fun e =>
      { e with writes := [⟨.standing .closing 7, true⟩], handed := true }
    let u : State := { s with ctl := { s.ctl with link := .unlinking } }
    let t := after .integrationCompletion (after (.accessFailure ⟨.slotWrite 5 1, nothing⟩) u)
    (t.entry 5 1).state = .closed ∧ (t.entry 5 1).writes = [] ∧ (t.entry 5 1).handed = false := by decide +kernel
/-- R198: an entry's write in flight at the entry to UNLINKING fails there: it is counted and not made again. -/
theorem test_late_entry_fails :
    let s := after .unlink (linked.modLive 4 fun l => { l with queue := [.entry .timeFault false true] })
    let t := after (.accessFailure ⟨.entryWrite (.service 4 .timeFault), nothing⟩) s
    t.ctl.total = 1 ∧ t.live[4].queue = [] ∧ (t.svcCond 4 .timeFault).owed = false := by decide +kernel
theorem test_timeout_counts :
    (after (.accessTimeout ⟨.commandWord 0 0, nothing⟩) linked).ctl.consecutive = 1 := by decide +kernel
/-- R169, R171: an owed entry made again for an alert fails: the alert is abandoned and the failure counted. -/
theorem test_retry_abandons :
    let s := (alertWaits alertPending [.device .linkFault]).modCond (.device .linkFault) fun e => { e with owed := true }
    let t := after (.accessTimeout ⟨.entryWrite (.device .linkFault), nothing⟩) s
    t.alert.progress = none ∧ t.alert.abandoned = true ∧ t.ctl.consecutive = 1 ∧
      (t.cond (.device .linkFault)).owed = true := by decide +kernel
theorem test_part_ident : on.readRegister 0 = 0x01010658 := by decide +kernel

/-! ### Witnesses: states and operands that meet the hypotheses of each statement, clause by clause -/

/-- What DocketsSound asks of a board without pins and without a posting under validation, over one layer at a time. -/
theorem docketsSound_of (s : State)
    (h : ∀ n : Svc,
      (∀ k : Slot, s.sched[n].openOuter = some k →
        (s.entry n k).state = .opened ∧ (s.entry n k).body.map (fun b => b.cls.layer) = some .outer) ∧
      (∀ k : Slot, s.sched[n].openInner = some k →
        (s.entry n k).state = .opened ∧ (s.entry n k).body.map (fun b => b.cls.layer) = some .inner) ∧
      s.sched[n].pins = [] ∧
      (∀ k : Slot, (s.entry n k).state = .opened →
        (s.entry n k).body.map (fun b => (s.sched[n].openSlot b.cls.layer).isSome) = some true) ∧
      ∀ k : Slot, (s.entry n k).validating = none ∧ (s.entry n k).dropped = false) : DocketsSound s := by
  intro n
  obtain ⟨outer, inner, pins, stands, waits⟩ := h n
  refine ⟨fun l => ?_, ?_, ?_, fun k hk => ?_, fun k hk => ?_, fun k hk => ?_⟩
  · cases l with
    | outer => exact outer
    | inner => exact inner
  · rw [pins]; exact List.nodup_nil
  · rw [pins]; intro p hp; cases hp
  · simpa using stands k hk
  · rw [(waits k).1] at hk; cases hk
  · rw [(waits k).2] at hk; cases hk
def off : State := { on with powered := false }
/-- A programme with a START cue, open-ended until the next of its layer. -/
def showBody (inc : Bool) : Body :=
  { segId := 6, cls := .programme, start := .onCue 200 90000 90500, finish := .onNext 99000, includeInner := inc,
    loudness := none, captions := none }
/-- Service 5 with the programme OPEN in slot 2, context 1, and the break of slot 1 ARMED. -/
def nested (inc : Bool) : State :=
  ((withEntry armed 5 2
      { Entry.fresh with posting := 6, state := .opened, body := some (showBody inc), snapshot := some rules,
                         context := some 1 }).modPool 1
    fun _ => Context.claimed ⟨5, 2, 6⟩ rules false).modSched 5 fun c => { c with openOuter := some 2 }
/-- The break OPEN in slot 1 over the paused programme of slot 2. -/
def nestedOpen : State :=
  ((withEntry opened 5 2
      { Entry.fresh with posting := 6, state := .opened, body := some (showBody false), snapshot := some rules,
                         context := some 1, tally := { Tally.zero with paused := true } }).modPool 1
    fun _ => Context.claimed ⟨5, 2, 6⟩ rules true).modSched 5 fun c => { c with openOuter := some 2 }
/-- The break OPEN in slot 1, the programme ARMED in slot 2. -/
def outerArmed : State :=
  withEntry opened 5 2 { Entry.fresh with posting := 6, state := .armed, body := some (showBody false) }
/-- The break and the programme both ARMED by the cue 300, the programme in slot 0 or in slot 2. -/
def bothArmed (k : Slot) : State :=
  withEntry armed 5 k
    { Entry.fresh with posting := 6, state := .armed, body := some { showBody false with start := .onCue 300 91000 91500 } }
/-- Two programmes OPEN at once in slots 2 and 4, the first of them ending by the cue 301 like the break of slot 1. -/
def twoOpen : State :=
  withEntry nestedOpen 5 4
    { Entry.fresh with posting := 9, state := .opened, body := some { showBody true with finish := .onCue 301 99000 },
                       snapshot := some rules }
theorem twoOpen_sound : DocketsSound twoOpen := docketsSound_of _ (by decide +kernel)
theorem armed_sound : DocketsSound armed := docketsSound_of _ (by decide +kernel)
theorem opened_sound : DocketsSound opened := docketsSound_of _ (by decide +kernel)
theorem opened_queue : QueueSound opened := by unfold QueueSound; decide +kernel
/-- The break OPEN in slot 1 ends at the next of its layer and has a unit range; slot 3 holds its successor. -/
def predecessor (st : Standing) (start : StartMode) (fin : Nat) : State :=
  withEntry (opened.modEntry 5 1 fun e =>
      { e with body := some { breakBody with finish := .onNext 99000 }, units := ⟨1, 0, some 10, some 10⟩ }) 5 3
    { Entry.fresh with posting := 9, state := st, body := some { breakBody with start := start, finish := .atStamp fin } }
/-- Its successor ARMED by the cue 302. -/
def beforeNext : State := predecessor .armed (.onCue 302 91000 93000) 95000
theorem beforeNext_sound : DocketsSound beforeNext ∧ QueueSound beforeNext :=
  ⟨docketsSound_of _ (by decide +kernel), by unfold QueueSound; decide +kernel⟩
/-- Its successor under validation. -/
def validatingNext : State :=
  (predecessor .idle (.atStamp 0) 0).modEntry 5 3 fun _ => { Entry.fresh with validating := some 9 }
theorem nested_sound (inc : Bool) : DocketsSound (nested inc) := by
  cases inc <;> exact docketsSound_of _ (by decide +kernel)
theorem nestedOpen_sound : DocketsSound nestedOpen := docketsSound_of _ (by decide +kernel)
theorem outerArmed_sound : DocketsSound outerArmed := docketsSound_of _ (by decide +kernel)
/-- A commit of services 2 and 8 is in progress. -/
def committing : State :=
  on.modStore fun st => { st with commit := some ⟨[2, 8], Vector.replicate 16 factorySheet⟩ }
def worn : State := on.modStore fun st => { st with commits := 20000 }
def disabled (n : Svc) : State := withSheet on n fun sh => { sh with enable := false }

/-- Service 4 with writes queued for its live block. -/
def liveQueue (q : List LiveItem) : State := linked.modLive 4 fun l => { l with queue := q }
/-- A state with the controller UNLINKING. -/
def unlinkingFrom (s : State) : State := { s with ctl := { s.ctl with link := .unlinking } }
/-- An alert in progress that waits for an entry whose write has failed. -/
def owing : State :=
  (alertWaits linked [.device .linkFault]).modCond (.device .linkFault) fun e => { e with owed := true }
/-- An alert in progress whose cause is queued behind a commit count and before an entry. -/
def causeQueued : State := { alertWaits linked [] with header := [.commit 4, .alert, .entry .storeFault] }

/-- Powered, with nothing pending: LINKED with no write, with the cause handed, with it queued, and with none that is queued;
UNLINKING with a write; LINKING with none left and with some. -/
theorem witness_IdleStep :
    linked.handAlert.silentWrites = false ∧ (alertWaits linked []).handAlert.silentWrites = false ∧
    (alertWaits linked []).handAlert.header = [.alert] ∧ owing.handAlert.silentWrites = true ∧
    owing.handAlert.header = [.entry .linkFault] ∧ causeQueued.handAlert.silentWrites = true ∧
    causeQueued.handAlert.header.idxOf .alert = 1 ∧ causeQueued.isLinked = true ∧ owing.isLinked = true ∧
    { unlinkingFrom linked with header := [.commit 3] }.handAlert.silentWrites = true ∧
    linked.pending = [] ∧ linked.powered = true ∧ linked.carries = true ∧ on.ctl.link = .unlinked ∧
    off.powered = false ∧ (inLink .linking .header).pending = [] ∧ (inLink .linking .header).ctl.link = .linking ∧
    (inLink .linking .header).stepLeft.isEmpty = true ∧ (inLink .linking .standings).stepLeft.isEmpty = false ∧
    Instr.boardSweep ≠ .powerOn := by decide +kernel
theorem witness_EveryCommandFrame : ∃ t, exec (.restore 3) on = .next t := ⟨_, rfl⟩
theorem witness_ServicesApart : laneOf (.restore 3) = some 3 ∧ ∃ t, exec (.restore 3) on = .next t := ⟨rfl, _, rfl⟩
theorem witness_Resets :
    on.powered = true ∧ on.store.commit = none ∧ committing.powered = true ∧ committing.store.commit.isSome = true := by
  decide +kernel
/-- The factory quotas fill the spool to the last unit; one unit more is cut. -/
theorem witness_StoreLoad :
    ((allServices.filter (· < 15)).map fun m => Store.factory.load[m].adopted.quota).sum + factorySheet.quota =
      Config.spoolSlots ∧
    Config.spoolSlots <
      ((allServices.filter (· < 15)).map fun m => Store.factory.load[m].adopted.quota).sum + 65537 := by decide +kernel
theorem witness_PowerLoss :
    on.powered = true ∧ on.store.commit = none ∧ committing.powered = true ∧
    committing.store.commit = some ⟨[2, 8], Vector.replicate 16 factorySheet⟩ ∧ ([2, 8] : List Svc).Nodup ∧
    (2 : Svc) ∈ ([2, 8] : List Svc).take 1 ∧ (8 : Svc) ∈ ([2, 8] : List Svc).drop 1 ∧ (3 : Svc) ∉ ([2, 8] : List Svc) := by
  decide +kernel

theorem witness_FrameServiceTime :
    on.powered = true ∧ on.feed[2].lock = .seeking ∧ (on.sheetOf 2).enable = true ∧
    (disabled 2).powered = true ∧ (disabled 2).feed[2].lock = .seeking ∧ ((disabled 2).sheetOf 2).enable = false ∧
    (lockedAt on 2 1001).powered = true ∧ (lockedAt on 2 1001).feed[2].lock ≠ .seeking ∧
    (lockedAt on 2 1001).feed[2].time = 1001 ∧ (flyingAt opened 5 92000).feed[5].lock = .flywheel ∧
    (flyingAt opened 5 92000).pool[0].ownedBy 5 = true ∧ (flyingAt opened 5 92000).pool[0].state = .accumulating := by
  decide +kernel
/-- A JUMP past nothing and a STEP onto a cap, with a rate code of 30 against the sheet's 25. -/
theorem witness_FrameTimeFault :
    opened.powered = true ∧ opened.feed[5].lock ≠ .seeking ∧ opened.feed[5].time + 1 < (92100 : Stamp).toNat ∧
    (30 : BitVec 16).toNat ≠ (opened.sheetOf 5).rate ∧ opened.feed[5].mismatch = false ∧
    (opened.svcCond 5 .timeFault).raises = (opened.svcCond 5 .timeFault).acked ∧ (opened.entry 5 1).state = .opened ∧
    (lockedAt opened 5 92249).feed[5].time + 1 = (92250 : Stamp).toNat ∧
    (after (.frame 5 92100 30) opened).raises 5 .timeFault = 2 ∧
    ((after (.frame 5 92250 30) (lockedAt opened 5 92249)).entry 5 1).state ≠ .opened := by decide +kernel
theorem witness_FrameJudgement :
    let s := captions fun c => { c with state := .live, liveness := 1, content := 1 }
    s.powered = true ∧ s.caption[9].liveness = 1 ∧ s.caption[9].content = 1 ∧ on.caption[9].liveness ≠ 1 ∧
    opened.powered = true ∧ CaptionSound opened ∧ ((after (fr 5 92001) opened).entry 5 1).state = .opened ∧
    (opened.entry 5 1).tally.paused = false ∧ (opened.entry 5 1).tally.counted < 4294967295 ∧
    ((after (fr 5 92250) opened).entry 5 1).state = .closing ∧ (opened.entry 5 1).state = .opened ∧
    ((after (fr 5 92300) armed).entry 5 1).state = .closing ∧ (armed.entry 5 1).state = .armed := by
  unfold CaptionSound; decide +kernel
theorem witness_EnterFlywheel :
    (lockedAt on 2 (2 ^ 48 - 2)).powered = true ∧ FeedSound (lockedAt on 2 (2 ^ 48 - 2)) ∧
    (lockedAt on 2 (2 ^ 48 - 2)).feed[2].lock = .locked ∧
    on.feed[2].lock = .seeking ∧ (flyingAt on 2 5).feed[2].lock = .flywheel ∧ on.feed[2].lossTimer = none ∧
    opened.feed[5].lock = .locked ∧ opened.pool[0].ownedBy 5 = true ∧ opened.pool[0].state = .accumulating := by
  unfold FeedSound; decide +kernel
theorem witness_FlywheelAdvance :
    (flyingAt on 2 (2 ^ 48 - 2)).powered = true ∧ (flyingAt on 2 (2 ^ 48 - 2)).feed[2].frameTimer.isSome = true ∧
    (flyingAt on 2 (2 ^ 48 - 2)).feed[2].time < 2 ^ 48 - 1 ∧ 2 ^ 48 - 1 ≤ (flyingAt on 2 (2 ^ 48 - 1)).feed[2].time ∧
    on.feed[2].frameTimer = none ∧ ([1, 3] : List Slot).Nodup ∧
    ((after (.flywheelAdvance 5) (flyingAt opened 5 92000)).entry 5 1).state = .opened ∧
    ((after (.flywheelAdvance 5) (flyingAt opened 5 92249)).entry 5 1).state = .closing ∧ (armed.entry 5 1).state ≠ .pending ∧
    (opened.entry 5 1).state ≠ .armed ∧ (armed.entry 5 1).state ≠ .opened := by decide +kernel
/-- Slot 1 of service 5 PENDING, in SEEKING and in FLYWHEEL before its earliest start. -/
def seedState : State := withEntry linked 5 1 (breakEntry .pending 7)
def flySlot : State := withEntry (flyingAt linked 5 90999) 5 1 (breakEntry .pending 7)
/-- Each kind of time event: a STEP that fires nothing, a JUMP past the cap of an OPEN docket and past the latest start of an
ARMED one, a flywheel advance to the earliest start of a PENDING one, a seed past every boundary. -/
theorem witness_TimeEvents :
    TimeEvent armed 5 (.frame 5 91211 25) (fun u => u = (91211 : Stamp).toNat) (91211 : Stamp).toNat ⟨false, false, false⟩ ∧
    TimeEvent opened 5 (.frame 5 92300 25) (fun u => opened.feed[5].time < u ∧ u ≤ (92300 : Stamp).toNat)
      (92300 : Stamp).toNat ⟨true, false, false⟩ ∧
    TimeEvent armed 5 (.frame 5 91500 25) (fun u => armed.feed[5].time < u ∧ u ≤ (91500 : Stamp).toNat)
      (91500 : Stamp).toNat ⟨true, false, false⟩ ∧
    TimeEvent flySlot 5 (.flywheelAdvance 5) (fun u => u = flySlot.feed[5].time + 1) (flySlot.feed[5].time + 1)
      ⟨false, false, true⟩ ∧
    TimeEvent seedState 5 (.frame 5 92250 25) (fun u => u ≤ (92250 : Stamp).toNat) (92250 : Stamp).toNat
      ⟨true, false, false⟩ :=
  ⟨.step _ _ (by decide +kernel) rfl, .jump _ _ (by decide +kernel) (by decide +kernel),
    .jump _ _ (by decide +kernel) (by decide +kernel), .flywheel rfl (by decide +kernel), .seed _ _ rfl rfl⟩
/-- The latest start of the successor falls in a JUMP, and the same JUMP without one: the break closes, LATE, or stays OPEN. -/
theorem witness_TimeNext :
    TimeEvent beforeNext 5 (.frame 5 93100 25) (fun u => beforeNext.feed[5].time < u ∧ u ≤ (93100 : Stamp).toNat)
      (93100 : Stamp).toNat ⟨true, false, false⟩ ∧
    DocketsSound beforeNext ∧ QueueSound beforeNext ∧ beforeNext.feed[5].time < 93000 ∧
    (let t := after (.frame 5 93100 25) beforeNext
     (t.entry 5 1).state = .closing ∧ (t.entry 5 1).flags.late = true ∧ (t.entry 5 1).flags.cueMissed = false) ∧
    ((after (.frame 5 92900 25) beforeNext).entry 5 1).state = .opened :=
  ⟨.jump _ _ (by decide +kernel) (by decide +kernel), beforeNext_sound.1, beforeNext_sound.2, by decide +kernel⟩
/-- The boards of those events, their dockets and where the boundaries of their bodies lie. -/
theorem witness_TimeBoards :
    DocketsSound armed ∧ DocketsSound opened ∧ DocketsSound flySlot ∧ DocketsSound seedState ∧
    armed.powered = true ∧ (armed.entry 5 1).state = .armed ∧ (armed.entry 5 1).body = some breakBody ∧
    breakBody.firstStart ≤ breakBody.lastStart ∧ breakBody.lastStart < breakBody.endStamp ∧
    breakBody.lastStart ≠ (91211 : Stamp).toNat ∧ (opened.entry 5 1).state = .opened ∧
    opened.feed[5].lock ≠ .seeking ∧ opened.feed[5].time < breakBody.endStamp ∧
    breakBody.endStamp ≤ (92300 : Stamp).toNat ∧ breakBody.lastStart ≤ (91500 : Stamp).toNat ∧
    (flySlot.entry 5 1).state = .pending ∧ breakBody.firstStart = flySlot.feed[5].time + 1 ∧
    breakBody.lastStart ≠ flySlot.feed[5].time + 1 ∧ (seedState.entry 5 1).state = .pending ∧
    breakBody.endStamp ≤ (92250 : Stamp).toNat :=
  ⟨armed_sound, opened_sound, docketsSound_of _ (by decide +kernel), docketsSound_of _ (by decide +kernel),
    by decide +kernel⟩
theorem witness_LineIndication : on.powered = true := rfl
theorem witness_DiscardedMessage : on.powered = true ∧ (0 : Byte).toNat = 0 ∧ 8 < (9 : Byte).toNat := by decide
theorem witness_CaptionPackets :
    on.powered = true ∧ 1 ≤ (1 : Byte).toNat ∧ (8 : Byte).toNat ≤ 8 ∧ (on.sheetOf 9).enable = true ∧
    (8 : Byte).toNat ≠ (on.sheetOf 9).page ∧ (1 : Byte).toNat = (on.sheetOf 9).page ∧
    (⟨0, 0, 0⟩ : Lang) ≠ (on.sheetOf 9).lang ∧ (⟨0x75, 0x6E, 0x64⟩ : Lang) = (on.sheetOf 9).lang ∧
    CaptionSound on := by
  unfold CaptionSound; decide +kernel

/-- No cue matches a board without bodies; a disabled service meets the other branch. -/
theorem witness_CueUnmatched :
    on.powered = true ∧ (∀ k : Slot, (on.entry 5 k).body = none) ∧ ((disabled 5).sheetOf 5).enable = false := by
  decide +kernel
theorem witness_CueOpens :
    DocketsSound armed ∧ DocketsSound outerArmed ∧ (∀ inc, DocketsSound (nested inc)) ∧ armed.powered = true ∧
    armed.cueSlots 5 300 .start = [1] ∧ (armed.sheetOf 5).enable = true ∧
    (armed.entry 5 1).body = some breakBody ∧ 0 < armed.freeCount ∧
    { armed with pool := Vector.replicate 36 { Context.free with state := .closing } }.freeCount = 0 ∧
    outerArmed.cueSlots 5 200 .start = [2] ∧ (outerArmed.sheetOf 5).enable = true ∧
    (outerArmed.entry 5 2).body = some (showBody false) ∧ outerArmed.sched[5].openInner = some 1 ∧
    ∀ inc,
      (nested inc).cueSlots 5 300 .start = [1] ∧ ((nested inc).entry 5 2).state = .opened ∧
      (nested inc).sched[5].openInner = none ∧ ((nested inc).entry 5 2).body = some (showBody inc) ∧
      ((nested inc).entry 5 2).context = some 1 ∧ (∀ i : Slot, i ≠ 2 → ((nested inc).entry 5 i).context ≠ some 1) ∧
      (nested inc).pool[1].state = .accumulating :=
  ⟨armed_sound, outerArmed_sound, nested_sound, by decide +kernel⟩
/-- R91 step 1, R97: the opening of the next of its layer closes the break with no flag of the close, CLOSING under its context
and CLOSED without one; the END mark is requested (R150). -/
theorem witness_CueOpensNext :
    DocketsSound beforeNext ∧ QueueSound beforeNext ∧ beforeNext.powered = true ∧ beforeNext.cueSlots 5 302 .start = [3] ∧
    (beforeNext.sheetOf 5).enable = true ∧ (beforeNext.entry 5 1).state = .opened ∧
    (beforeNext.entry 5 1).body = some { breakBody with finish := .onNext 99000 } ∧
    (beforeNext.entry 5 1).snapshot.isSome = true ∧ (beforeNext.entry 5 1).context = some 0 ∧
    beforeNext.pool[0].state = .accumulating ∧ (beforeNext.entry 5 1).units.last = some 10 ∧
    (let t := after (.cue 5 302 .start) beforeNext
     (t.entry 5 1).state = .closing ∧ (t.entry 5 1).flags = VerdictFlags.none ∧ t.integ.queue = [0] ∧
       t.recorder[5].marks = [⟨11, .finish, 7, 1⟩]) ∧
    ((after (.cue 5 302 .start) (beforeNext.modEntry 5 1 fun e => { e with context := none })).entry 5 1).state = .closed :=
  ⟨beforeNext_sound.1, beforeNext_sound.2, by decide +kernel⟩
/-- R94: a break that opens over the open programme accumulates, and the programme is paused unless INCLUDE_INNER is set. -/
theorem witness_CueOpensInner :
    DocketsSound (nested false) ∧ QueueSound (nested false) ∧ (nested false).cueSlots 5 300 .start = [1] ∧
    (nested false).sched[5].openOuter = some 2 ∧ QueueSound (bothArmed 2) ∧
    (let t := after (.cue 5 300 .start) (nested false)
     (t.entry 5 1).context = some 0 ∧ t.pool[0].state = .accumulating ∧ t.pool[1].state = .paused ∧
       (t.entry 5 1).writes = [⟨.standing .opened 7, false⟩] ∧ (t.entry 5 2).writes = []) :=
  ⟨nested_sound false, by unfold QueueSound; decide +kernel, by decide +kernel, by decide +kernel,
    by unfold QueueSound; decide +kernel, by decide +kernel⟩
/-- A cue that matches two dockets, the outer one in the lower and in the higher slot. -/
theorem witness_CueOpensTwo :
    (bothArmed 0).powered = true ∧ (bothArmed 0).cueSlots 5 300 .start = [0, 1] ∧
    (bothArmed 2).cueSlots 5 300 .start = [1, 2] ∧ ((bothArmed 2).sheetOf 5).enable = true ∧
    ((bothArmed 2).entry 5 1).body = some breakBody ∧
    ((bothArmed 2).entry 5 2).body.map (fun b => b.cls.layer) = some .outer ∧ breakBody.cls.layer ≠ .outer ∧
    ((after (.cue 5 300 .start) (bothArmed 0)).entry 5 0).tally.paused = true ∧
    ((after (.cue 5 300 .start) (bothArmed 2)).entry 5 2).tally.paused = true := by decide +kernel
/-- The count at its limit. -/
def atLimit : State := opened.modPool 0 fun c => { c with momentary := 1048575 }
theorem witness_SegmentCloses :
    atLimit.powered = true ∧ (atLimit.entry 5 1).state = .opened ∧ (atLimit.entry 5 1).body = some breakBody ∧
    (atLimit.entry 5 1).snapshot.isSome = true ∧ atLimit.carries = true ∧ atLimit.cueSlots 5 301 .finish = [1] ∧
    (atLimit.sheetOf 5).enable = true ∧ atLimit.atCountLimit 5 1 = true ∧ atLimit.isLinked = true ∧
    wordPosting 0x00020007 = (atLimit.entry 5 1).posting ∧ (atLimit.entry 5 1).posting ≠ 0 ∧
    wordCommand 0x00020007 = 2 ∧ (atLimit.entry 5 1).context = some 0 ∧ atLimit.pool[0].state = .accumulating := by
  decide +kernel
/-- The break OPEN without a context, its captions SHORT, with a unit range. -/
def unmetered : State :=
  (opened.modEntry 5 1 fun e =>
    { e with
      context := none, flags := .ofNoMeter, units := ⟨2, 0, some 10, some 11⟩
      tally := { Tally.zero with counted := 100, covered := 50, required := true, permille := 980 } }).modPool 0
    fun _ => Context.free
/-- R96, R106, R111, R113: its close by an END cue, the verdict and CLOSED handed, CAPTION_FAIL raised and the pin installed. -/
theorem witness_SegmentClosesUnmetered :
    unmetered.powered = true ∧ (unmetered.entry 5 1).state = .opened ∧ (unmetered.entry 5 1).body = some breakBody ∧
    (unmetered.entry 5 1).snapshot.isSome = true ∧ unmetered.carries = true ∧ unmetered.cueSlots 5 301 .finish = [1] ∧
    (unmetered.sheetOf 5).enable = true ∧ (unmetered.entry 5 1).context = none ∧
    (let t := after (.cue 5 301 .finish) unmetered
     t.raises 5 .captionFail = 1 ∧ t.raises 5 .loudnessFail = 0 ∧ t.sched[5].pins = [⟨1, 7, 10, 11⟩] ∧
       (t.entry 5 1).writes.map SlotWrite.content =
         [.verdict ((t.entry 5 1).assemble breakBody rules noMeterResult), .standing .closed 7] ∧
       (t.entry 5 1).handed = true) := by decide +kernel
/-- The close of the break resumes the programme. -/
theorem witness_SegmentResumes :
    nestedOpen.powered = true ∧ (nestedOpen.entry 5 1).state = .opened ∧ (nestedOpen.entry 5 1).body = some breakBody ∧
    (nestedOpen.entry 5 1).snapshot.isSome = true ∧ nestedOpen.carries = true ∧
    nestedOpen.cueSlots 5 301 .finish = [1] ∧ (nestedOpen.sheetOf 5).enable = true ∧ breakBody.cls.layer = .inner ∧
    nestedOpen.standsOpen 5 .outer 2 = true ∧ (nestedOpen.entry 5 2).context = some 1 ∧
    (nestedOpen.entry 5 1).context ≠ some 1 ∧ nestedOpen.pool[1].state = .paused ∧
    (after (.cue 5 301 .finish) nestedOpen).sched[5].openInner = none := by decide +kernel
/-- An END cue that matches the break and the second of two OPEN programmes; the layer's open slot stays with the first. -/
theorem witness_SegmentClosesTwo :
    DocketsSound twoOpen ∧ twoOpen.powered = true ∧ twoOpen.carries = true ∧ (twoOpen.sheetOf 5).enable = true ∧
    twoOpen.cueSlots 5 301 .finish = [1, 4] ∧ (twoOpen.entry 5 4).snapshot.isSome = true ∧
    (([1, 4] : List Slot).filterMap fun k => (twoOpen.entry 5 k).context) = [0] ∧
    (after (.cue 5 301 .finish) twoOpen).sched[5].openOuter = some 2 :=
  ⟨twoOpen_sound, by decide +kernel⟩
/-- R68, R97: of two OPEN programmes the one that the open slot names closes: the requirement stays that of the other, which
then is the layer's open segment and closes at the next opening. -/
theorem test_two_open :
    let s := (twoOpen.modSched 5 fun c => { c with openOuter := some 4, openInner := none }).modEntry 5 1 fun _ => Entry.fresh
    let s := s.modEntry 5 2 fun e => { e with snapshot := some { rules with required := true } }
    let t := after (.cue 5 301 .finish) s
    let u := after (.cue 5 200 .start) (withEntry t 5 6 { Entry.fresh with posting := 8, state := .armed, body := some (showBody false) })
    t.sched[5].openOuter = some 2 ∧ t.caption[5].required = true ∧ t.caption[5].source = .outer ∧
      u.sched[5].openOuter = some 6 ∧ (u.entry 5 2).state = .closing := by decide +kernel
theorem witness_FailingVerdict : noMeterResult.maxima.length = 8 := by decide
theorem witness_SlotWriteComplete :
    closed.powered = true ∧ closed.carries = true ∧ (closed.entry 5 1).handed = true ∧
    (closed.entry 5 1).writes = [⟨.standing .closed 7, false⟩] ∧ (closed.entry 5 1).state = .closed ∧
    (closed.entry 5 1).releaseHeld = true ∧ (closed.entry 5 2).handed = false ∧
    ((after (.slotWriteComplete 5 1) closed).entry 5 1).writes = [⟨.standing .idle 7, false⟩] := by decide +kernel
/-- Service 3 STALLED with a chain and a cursor. -/
def stalled : State := ready.modRecorder 3 fun r => { r with state := .stalled, cursor := some 40 }
theorem witness_BoardSweep :
    stalled.alert.abandoned = false ∧ (alertPending.modAlert fun a => { a with abandoned := true }).alert.abandoned = true ∧
    (allDevConds.any fun c => (owing.cond (.device c)).owed) = true ∧
    (allDevConds.any fun c => (stalled.cond (.device c)).owed) = false ∧
    stalled.powered = true ∧ stalled.isLinked = true ∧ stalled.mover.work = .idle ∧
    stalled.recorder[3].state = .stalled ∧ (stalled.sheetOf 3).chain ≠ [] ∧
    (∀ m : Svc, m < 3 → stalled.recorder[m].state ≠ .stalled) ∧ (fillState 5 1 (.unitWrite 3)).mover.work ≠ .idle ∧
    on.isLinked = false := by decide +kernel
def pending : State := withEntry linked 5 1 (breakEntry .pending 7)
theorem witness_CommandWordRead :
    linked.powered = true ∧ linked.isLinked = true ∧ (linked.entry 5 1).state = .idle ∧
    wordPosting 0x00010001 ≠ (linked.entry 5 1).posting ∧ wordPosting 0x00010001 ≠ 0 ∧ wordCommand 0x00010001 = 1 ∧
    (opened.entry 5 1).state ≠ .idle ∧ wordPosting 0x00010008 ≠ (opened.entry 5 1).posting ∧
    (pending.entry 5 1).state = .pending ∧ wordPosting 0x00020007 = (pending.entry 5 1).posting ∧
    wordCommand 0x00020007 = 2 ∧ (closed.entry 5 1).state = .closed ∧
    wordPosting 0x00030007 = (closed.entry 5 1).posting ∧ wordCommand 0x00030007 = 3 ∧
    wordPosting 0x00010007 = (opened.entry 5 1).posting ∧ wordCommand 0x00010007 = 1 ∧
    wordCommand 0x00050007 = 5 ∧ (inLink .unlinking .header).isLinked = false ∧
    (inLink .unlinking .header).carries = true := by decide +kernel
/-- Words that are only kept: a held WITHDRAW and RELEASE, one without effect, and those of IDLE under another posting. -/
theorem witness_HeldWord :
    wordPosting 0x00030007 = (pending.entry 5 1).posting ∧ wordCommand 0x00030007 = 3 ∧
    (pending.entry 5 1).state = .pending ∧ wordCommand 0x00020007 = 2 ∧ (closed.entry 5 1).state = .closed ∧
    wordPosting 0x00020000 = (linked.entry 5 1).posting ∧ (linked.entry 5 1).state = .idle ∧
    wordPosting 0x00020004 ≠ (linked.entry 5 1).posting ∧ wordCommand 0x00020004 = 2 ∧
    wordPosting 0x00010000 = 0 ∧ wordCommand 0x00010000 = 1 ∧
    wordPosting 0x00010000 ≠ ((withEntry linked 5 1 { Entry.fresh with posting := 7 }).entry 5 1).posting := by
  decide +kernel
/-- R203: byte 3 of the command word is not read: of the two words read after 0x00050007, the first differs from it in byte 3
alone and raises nothing, the second in its command. -/
theorem witness_UnknownWord :
    let s := withEntry linked 5 1 { breakEntry .pending 7 with lastWord := some 0x00050007 }
    (after (.commandWordRead 5 1 0xFF050007) s).raises 5 .docketFault = 0 ∧
    (after (.commandWordRead 5 1 0x00060007) s).raises 5 .docketFault = 1 := by decide +kernel
/-- Slot 3 of service 5 with posting 9 accepted for validation, at service time 94,999. -/
def validating : State := withEntry (lockedAt linked 5 94999) 5 3 { Entry.fresh with validating := some 9 }
theorem witness_PostingValidation :
    validating.powered = true ∧ validating.isLinked = true ∧ (validating.entry 5 3).validating = some 9 ∧
    validating.validate 5 (bodyBytes 5 1 1 95000 0 96000) = .inl .badClass ∧
    (match validating.validate 5 (bodyBytes 2 1 1 95000 0 96000) with
      | .inl _ => false
      | .inr b => (b.boundaries 3).all fun x => decide (validating.feed[5].time < x.stamp)) = true ∧
    ((disabled 5).sheetOf 5).enable = false ∧ (linked.entry 5 3).validating = none := by decide +kernel
/-- Slot 3 of service 5 with posting 9 under validation beside a waiting break. -/
def besideBreak : State := withEntry validating 5 1 (breakEntry .pending 7)
/-- The seven checks, each at a bound of what it refuses, and a body at the bounds of them all. -/
theorem witness_Checks :
    (withSheet validating 5 fun sh => { sh with enable := false }).validate 5 (bodyBytes 2 1 1 95000 0 96000) =
      .inl .serviceDisabled ∧
    validating.validate 5 (bodyBytes 0 1 1 95000 0 96000) = .inl .badClass ∧
    validating.validate 5 (bodyBytes 4 3 1 95000 0 96000) = .inl .badMode ∧
    validating.validate 5 (bodyBytes 4 1 4 95000 0 96000) = .inl .badMode ∧
    validating.validate 5 (bodyBytes 4 1 1 95000 0 95000) = .inl .badWindow ∧
    validating.validate 5 (bodyBytes 4 1 1 95000 0 2255001) = .inl .tooLong ∧
    validating.validate 5 (bodyBytes 4 1 1 94948 0 96000) = .inl .tooLate ∧
    besideBreak.validate 5 (bodyBytes 4 1 1 94949 0 96000) ≠ .inl .overlap ∧
    besideBreak.validate 5 (bodyBytes 4 2 3 94949 94949 96000) ≠ .inl .overlap ∧
    (withEntry validating 5 1 { breakEntry .opened 7 with body := some { breakBody with start := .atStamp 95001 } }).validate
      5 (bodyBytes 4 1 1 95001 0 2255001) = .inl .overlap ∧
    (match validating.validate 5 (bodyBytes 4 1 1 94949 0 (94949 + 86400 * 25)) with
      | .inl _ => false
      | .inr _ => true) = true := by decide +kernel
/-- Boundaries passed at an acceptance: ARMED, OPEN and closed again at once; a read in flight at the entry to UNLINKING. -/
theorem witness_Passed :
    ((after (.postingValidation 5 3 (bodyBytes 4 2 2 94000 95000 96000)) validating).entry 5 3).state = .armed ∧
    ((after (.postingValidation 5 3 (bodyBytes 4 1 1 94999 0 96000)) validating).entry 5 3).state = .opened ∧
    ((after (.postingValidation 5 3 (bodyBytes 4 1 1 94998 0 94999)) validating).entry 5 3).state = .closing ∧
    validating.feed[5].lock ≠ .seeking ∧
    (let u : State := { validating with ctl := { validating.ctl with link := .unlinking } }
     u.isLinked = false ∧ u.carries = true ∧ (u.entry 5 3).validating.isSome = true) ∧
    ((after (.postingValidation 5 3 (bodyBytes 4 1 1 94998 0 94999)) validating).entry 5 3).writes.map SlotWrite.content =
      [.standing .pending 9, .standing .opened 9, .standing .closing 9] := by decide +kernel
theorem witness_PassedNext :
    QueueSound validatingNext ∧ validatingNext.isLinked = true ∧ (validatingNext.entry 5 3).validating = some 9 ∧
    (validatingNext.entry 5 1).state = .opened ∧ (validatingNext.entry 5 1).snapshot.isSome = true ∧
    ((after (.postingValidation 5 3 (bodyBytes 4 1 1 91999 0 96000)) validatingNext).entry 5 3).state = .opened ∧
    ((after (.postingValidation 5 3 (bodyBytes 4 1 1 91999 0 96000)) validatingNext).entry 5 1).state = .closing ∧
    ((after (.postingValidation 5 3 (bodyBytes 4 1 1 91999 0 96000)) validatingNext).entry 5 1).flags.late = true :=
  ⟨by unfold QueueSound; decide +kernel, by decide +kernel⟩
def queuedClose : State :=
  (on.modPool 4 fun c => { c with state := .closing, figures := some ⟨1000, 30, -69⟩ }).modInteg fun _ => ⟨[4], none⟩
theorem witness_Integration :
    queuedClose.powered = true ∧ queuedClose.integ.busy = none ∧ queuedClose.integ.queue = [4] ∧
    queuedClose.pool[4].figures = some ⟨1000, 30, -69⟩ ∧
    (integrating .high UnitCounts.zero).integ.busy = some (0, result .high) ∧
    (0 : CtxId) ∉ (integrating .high UnitCounts.zero).integ.queue ∧ on.integ.queue = [] ∧ on.integ.busy = none := by
  decide +kernel
theorem witness_IntegrationVerdict :
    let s := integrating .high ⟨2, 0, some 10, some 11⟩
    s.powered = true ∧ s.integ.busy = some (0, result .high) ∧ s.pool[0].owner = some ⟨5, 1, 7⟩ ∧
    (s.entry 5 1).state = .closing ∧ (s.entry 5 1).posting = 7 ∧ (s.entry 5 1).body = some breakBody ∧
    (s.entry 5 1).snapshot = some rules ∧
    ((withEntry s 5 1 Entry.fresh).entry 5 1).state ≠ .closing := by decide +kernel

theorem witness_LevelIsLog : 0 < 1 ∧ (-200 : Int) ≤ -200 ∧ (200 : Int) ≤ 200 := by decide
/-- Service 4 at the last set but one, and at the last set, of a rolling block. -/
def nearBlock (phase run countdown : Nat) : State :=
  linked.modMeter 4 fun m => { m with rolling := ⟨phase, zeros8, List.replicate 29 0, run⟩, countdown := countdown }
theorem witness_AudioSet :
    (nearBlock 4798 29 1).powered = true ∧ (nearBlock 4798 29 1).meter[4].rolling.phase + 1 < 4800 ∧
    4800 ≤ (nearBlock 4799 29 1).meter[4].rolling.phase + 1 ∧ (nearBlock 4799 29 1).meter[4].countdown ≤ 1 ∧
    (nearBlock 4799 29 1).isLinked = true ∧ 1 < (nearBlock 4799 29 2).meter[4].countdown ∧
    (nearBlock 4799 29 1).meter[4].filters[7]? = some Filter.zero ∧
    factorySheet.mix.length ≤ zeros8.length ∧ (List.replicate 30 0).length ≤ 30 ∧
    (([⟨293, 1, 5⟩, ⟨294, 1, 5⟩] : List Bin).map Bin.index).Pairwise (· < ·) ∧ 3 ≤ (nearBlock 0 3 1).meter[4].rolling.run ∧
    29 ≤ (nearBlock 0 29 1).meter[4].rolling.run := by decide +kernel
theorem witness_AudioSilence :
    (nearBlock 4799 29 1).powered = true ∧ (nearBlock 4799 28 1).meter[4].rolling.run < 29 ∧
    4800 ≤ (nearBlock 4799 29 1).meter[4].rolling.phase + 1 ∧ 29 ≤ (nearBlock 4799 29 1).meter[4].rolling.run ∧
    (after (.audio 4 silentSamples) (nearBlock 4799 29 1)).meter[4].curShort = some (-9999) ∧
    -9999 < ((nearBlock 4799 29 1).sheetOf 4).silenceThreshold := by decide +kernel
theorem witness_PeriodicWrite :
    (nearBlock 0 0 1).powered = true ∧ (nearBlock 0 0 1).meter[4].writeTimer = true ∧
    (nearBlock 0 0 1).meter[4].countdown ≤ 1 ∧ (nearBlock 0 0 1).isLinked = true ∧ on.isLinked = false ∧
    1 < (nearBlock 0 0 2).meter[4].countdown ∧
    (on.modMeter 4 fun m => { m with writeTimer := false }).meter[4].writeTimer = false ∧
    (let s := linked.modSheet 4 fun u => { u with source := .host, refused := some 3 }
     s.sheet[4].source = .host ∧ s.sheet[4].refused = some 3) := by decide +kernel
theorem witness_LiveWriteCount :
    let s := linked.modLive 4 fun l => { l with queue := [.fields ⟨0x45020, [1]⟩] ++ .mark true :: [.entry .audioClip true false] }
    let c := linked.modLive 4 fun l => { l with queue := [.mark true] ++ [.count 6] }
    s.powered = true ∧ s.isLinked = true ∧
    s.live[4].queue = [.fields ⟨0x45020, [1]⟩] ++ .mark true :: [.entry .audioClip true false] ∧
    LiveItem.mark true ∉ [LiveItem.fields ⟨0x45020, [1]⟩] ∧ LiveItem.mark true ∉ linked.live[4].queue ∧ on.isLinked = false ∧
    c.carries = true ∧ c.pending = [] ∧ c.live[4].queue = [.mark true] ++ [.count 6] ∧
    (∀ m : Svc, ∀ i ∈ c.live[m].queue, i.isFields = false ∧ i.isLate = false) ∧ ∀ i ∈ c.header, i.isLate = false := by
  decide +kernel
theorem witness_IntegratedLevel :
    let c : Context := { Context.free with histogram := [⟨293, 1, 5⟩, ⟨493, 1, 10995116300⟩], momentary := 2 }
    (∀ b ∈ c.histogram, 1 ≤ b.count) ∧ c.histogram ≠ [] ∧ (c.histogram.map Bin.index).Pairwise (· < ·) ∧
    (integrate c ⟨1000, 2, -69⟩).threshold.isSome = true ∧ 2 ≤ c.momentary ∧ c.momentary < 3 ∧
    (∀ b ∈ Context.free.histogram, 1 ≤ b.count) ∧ Context.free.histogram = [] := by decide +kernel
theorem witness_Arrival :
    on.powered = true ∧ (chunk [1, 2]).malformed = false ∧ (chunk [1, 2]).payload.length = (chunk [1, 2]).stated.toNat ∧
    { chunk [1, 2] with stated := 3 }.payload.length ≠ { chunk [1, 2] with stated := 3 }.stated.toNat ∧
    (queued false 3).proxy[7].queue.length < ((queued false 3).sheetOf 7).quota ∧ 0 < (queued false 3).spoolFree ∧
    ¬(queued false 4).proxy[7].queue.length < ((queued false 4).sheetOf 7).quota ∧
    on.recorder[7].marks.length + 2 ≤ 64 ∧ on.recorder[7].lostMarks ≤ 4294967295 := by decide +kernel
theorem witness_MoverTurn :
    ready.powered = true ∧ ready.isLinked = true ∧ ready.mover.work = .idle ∧ ready.mover.retests = [] ∧
    ready.eligible 3 = true ∧
    (∀ m : Svc, ready.eligible m = true → turnRank ready.mover.pointer 3 ≤ turnRank ready.mover.pointer m) ∧
    (ready.modRecorder 3 fun r => { r with owed := some 9 }).recorder[3].owed = some 9 ∧
    (fillState 5 1 .idle).recorder[3].owed = none ∧ (fillState 5 1 .idle).recorder[3].current = some 40 ∧
    ready.recorder[3].current = none ∧ ∀ n : Svc, on.eligible n = false := by decide +kernel
def walking (retest : Bool) (rest : List ExtId) : State := ready.setWork (.walk 3 retest false 40 rest)
/-- HOLD set in a valid descriptor: passed over; a base off its block: a violation. -/
theorem witness_WalkRead :
    (walking false []).powered = true ∧ (walking false []).isLinked = true ∧
    (walking false []).mover.work = .walk 3 false false 40 [] ∧ (walking false []).mover.retests = [] ∧
    (walking false []).writableTest 3 false 40 (parseDescriptor (desc 0x1F0000 0 0 0)) = .writable ∧
    (walking false []).writableTest 3 false 40 (parseDescriptor (desc 0x1F0000 0 1 0)) = .skipped ∧
    (walking false []).writableTest 3 false 40 (parseDescriptor (desc 0x1F0000 1 0 0)) = .violation .badExtent ∧
    (walking true [41]).mover.work = .walk 3 true false 40 [41] ∧ (3 : Svc) ∉ (walking false []).mover.retests ∧
    on.isLinked = false ∧ on.carries = false ∧ linked.isLinked = true ∧ linked.mover.work.reading ≠ some 40 ∧
    (inLink .unlinking .header).mover.late ≠ some 40 ∧
    (let u := (inLink .unlinking .header).modMover fun m => { m with late := some 40 }
     u.powered = true ∧ u.ctl.link = .unlinking ∧ u.mover.late = some 40) := by decide +kernel
/-- A walk that has a FULL extent with a held range writable: its owner's policy overwrites it. -/
theorem witness_WalkOverwrites :
    let e : Extent := { Extent.blank with state := .full, owner := some 3, generation := 4, first := some 5, last := some 9 }
    let s := (ready.modExtent 40 fun _ => e).setWork (.walk 3 false true 40 [])
    s.writableTest 3 true 40 (parseDescriptor (desc 0x1F0000 0 0 0)) = .writable ∧ s.extents[(40 : ExtId)].owner = some 3 ∧
    s.extents[(40 : ExtId)].first = some 5 ∧ s.extents[(40 : ExtId)].last = some 9 := by decide +kernel
theorem witness_BoundaryRead :
    let s := fillState 32 1 (.boundaryRead 3 40 false)
    let w := fillState 32 1 (.lastBlock 3 40 41 [] false true)
    s.powered = true ∧ s.isLinked = true ∧ s.mover.work = .boundaryRead 3 40 false ∧ s.mover.retests = [] ∧
    (parseDescriptor (desc 0x100000 1 1 0)).hold = true ∧ (parseDescriptor (desc 0x100000 1 2 0)).draining = true ∧
    (parseDescriptor (desc 0x100000 2 0 0)).code ≠ s.extents[(40 : ExtId)].code ∧
    (parseDescriptor (desc 0x100000 1 0 0)).base = s.extents[(40 : ExtId)].base ∧
    s.extents[(40 : ExtId)].units + 32 = 32 * (s.extents[(40 : ExtId)].code + 1) ∧
    (3 : Svc) ∉ s.mover.retests ∧ s.extents[(40 : ExtId)].lastBlock = false ∧
    ((s.modRecorder 3 fun r => { r with walkChain := [40, 41] }).recorder[3].walkChain.filter fun z => z ≠ 40) = [41] ∧
    (∀ z ∈ (s.modRecorder 3 fun r => { r with walkChain := [40] }).recorder[3].walkChain, z = 40) ∧
    w.powered = true ∧ w.isLinked = true ∧ w.mover.work = .lastBlock 3 40 41 [] false true := by decide +kernel
def updating (w : MoverWork) : State :=
  (fillState 32 1 w).modMover fun m => { m with updates := [⟨41, filling 1 1, false⟩, ⟨40, filling 32 1, false⟩] }
theorem witness_DescriptorUpdate :
    (updating (.boundaryUpdate 3 40)).powered = true ∧ (updating (.boundaryUpdate 3 40)).carries = true ∧
    (updating (.boundaryUpdate 3 40)).mover.updates =
      [⟨41, filling 1 1, false⟩] ++ ⟨40, filling 32 1, false⟩ :: [] ∧
    (∀ v ∈ ([⟨41, filling 1 1, false⟩] : List DescUpdate), v.extent ≠ 40) ∧
    (updating (.boundaryUpdate 3 40)).isLinked = true ∧
    (updating (.openUpdate 3 40 false)).extents[(40 : ExtId)].code ≠ 0 ∧
    (updating (.closeUpdate 3 40)).mover.retests = [] ∧ (inLink .unlinking .entries).isLinked = false ∧
    (inLink .unlinking .entries).carries = true ∧ (∀ u ∈ linked.mover.updates, u.extent ≠ 40) ∧
    (updating (.owedUpdate 3 40)).mover.work = .owedUpdate 3 40 ∧
    (updating (.owedUpdate 3 40)).recorder[3].current = some 40 ∧
    (let s := (updating (.owedUpdate 3 40)).modRecorder 3 fun r => { r with current := none }
     s.recorder[3].current = none ∧ walkOrder (s.sheetOf 3).chain s.recorder[3].cursor = 41 :: [40] ∧
     ((withSheet s 3 fun sh => { sh with chain := [] }).sheetOf 3).chain = []) ∧
    (let s := (fillState 0 0 (.openUpdate 3 40 true)).modRecorder 3 fun r => { r with walkChain := [40, 41] }
     s.mover.work = .openUpdate 3 40 true ∧ s.extents[(40 : ExtId)].code = 0 ∧
     (s.recorder[3].walkChain.filter fun z => z ≠ 40) = [41]) := by decide +kernel
theorem witness_UnitWrite :
    let s := withQueue (fillState 31 0 (.unitWrite 3))
    let far := s.modExtent 40 fun e => { e with base := 2 ^ 64 - 65536, units := 32 }
    s.powered = true ∧ s.carries = true ∧ s.mover.work = .unitWrite 3 ∧ s.recorder[3].current = some 40 ∧
    s.proxy[3].queue = [aUnit 3 0] ∧ (aUnit 3 0).payload.length = 1984 ∧
    s.extents[(40 : ExtId)].base + 2048 * s.extents[(40 : ExtId)].units + 2048 ≤ 2 ^ 64 ∧ s.isLinked = true ∧
    s.mover.retests = [] ∧ s.extents[(40 : ExtId)].state = .filling ∧
    s.extents[(40 : ExtId)].units + 1 = 32 * (s.extents[(40 : ExtId)].code + 1) ∧
    (fillState 31 1 (.unitWrite 3)).extents[(40 : ExtId)].units + 1 ≠
      32 * ((fillState 31 1 (.unitWrite 3)).extents[(40 : ExtId)].code + 1) ∧
    ((fillState 30 1 (.unitWrite 3)).extents[(40 : ExtId)].units + 1) % 32 ≠ 0 ∧
    2 ^ 64 < far.extents[(40 : ExtId)].base + 2048 * far.extents[(40 : ExtId)].units + 2048 ∧
    far.mover.work = .unitWrite 3 ∧ on.carries = false ∧
    (let u : State := { s with ctl := { s.ctl with link := .unlinking } }
     u.carries = true ∧ u.isLinked = false ∧ ∀ m : Svc, m ≠ 3 → u.recorder[m].current ≠ some 40) := by decide +kernel

def captured : State := linked.modRecorder 3 fun r => { r with captureNo := 1, acked := false }
theorem witness_HostAcks :
    captured.powered = true ∧ captured.isLinked = true ∧ captured.recorder[3].acked = false ∧
    1 = captured.recorder[3].captureNo ∧ 0 ≠ captured.recorder[3].captureNo ∧
    (linked.cond (.service 1 .captionLoss)).raises = 1 ∧ on.isLinked = false ∧
    (let s := linked.modCond (.device .storeFault) fun e => { e with raises := 2, mark := true }
     (s.cond (.device .storeFault)).raises = 2 ∧ (s.cond (.device .storeFault)).mark = true ∧
       (s.cond (.device .storeFault)).raises ≠ (s.cond (.device .storeFault)).acked) ∧
    (linked.cond (.service 1 .timeFault)).raises = (linked.cond (.service 1 .timeFault)).acked ∧
    (inLink .unlinking .header).isLinked = false := by decide +kernel
theorem witness_RemindersAndPriorities :
    let s := linked.modCond (.service 1 .audioClip) fun e => { e with raises := 1, timer := some 60 }
    s.powered = true ∧ s.isLinked = true ∧ (s.svcCond 1 .audioClip).timer.isSome = true ∧
    (s.svcCond 1 .audioClip).raises ≠ (s.svcCond 1 .audioClip).acked ∧ (linked.svcCond 1 .audioClip).timer = none ∧
    on.isLinked = false ∧ linked.devPriority = #v[4, 4, 4] ∧
    ([.mark true, .entry .audioClip true false] : List LiveItem).any (LiveItem.isEntry .captionLoss) = false ∧
    HeaderItem.entry .storeFault ∈ [HeaderItem.commit 4, .entry .storeFault] ∧
    HeaderItem.entry .linkFault ∉ [HeaderItem.commit 4, .entry .storeFault] := by decide +kernel
/-- R167: a reminder mark, a changed device priority, the first sweep after an abandoned alert and the entry to LINKED each begin
the alert that is pending; equal priorities, and a sweep without an abandoned alert, begin none. -/
theorem test_evaluations :
    let lifted := { alertPending with devPriority := #v[1, 1, 1] }
    let marked := (withSheet alerting 1 id).modCond (.service 1 .timeFault) fun e => { e with raises := 1, announced := 1, timer := some 9 }
    (after (.reminderTimerExpiry 1 .timeFault) marked).alert.progress = some (alertRun [.service 1 .timeFault]) ∧
    (after (.devicePriorityRead 1 1 2) lifted).alert.progress = some (alertRun [.device .storeComplete]) ∧
    (after (.devicePriorityRead 1 1 1) lifted).alert.progress = none ∧
    (after .boardSweep (alertPending.modAlert fun a => { a with abandoned := true })).alert.progress = some (alertRun []) ∧
    (after .boardSweep alertPending).alert.progress = none ∧
    (after (.linkStepComplete .written)
      { alertPending with ctl := { alertPending.ctl with link := .linking, step := .entries } }).alert.progress =
        some (alertRun []) := by decide +kernel
/-- TIME_FAULT of service 1 alone is pending, at 3. -/
theorem witness_AlertChoice :
    (∀ q, alertPending.isPending q = true → q = .service 1 .timeFault) ∧ alertPending.powered = true ∧
    alertPending.isLinked = true ∧ alertPending.alert.progress = none ∧
    alertPending.isPending (.service 1 .timeFault) = true ∧ alertPending.priority (.service 1 .timeFault) = 3 ∧
    on.isLinked = false := by
  have h : ∀ q ∈ allConds, alertPending.isPending q = true → q = .service 1 .timeFault := by decide +kernel
  exact ⟨fun q => h q (mem_allConds q), by decide +kernel⟩
/-- An alert in progress that waits for no entry, one that waits for a failed one and for one queued between two ends. -/
theorem witness_AlertWritten :
    let s := alertWaits alertPending []
    let run := alertRun []
    let w := (alertWaits alertPending [.device .linkFault, .service 4 .timeFault]).modLive 4 fun l =>
      { l with queue := [.mark true, .entry .timeFault false true, .mark true] }
    let f := w.modCond (.device .linkFault) fun e => { e with owed := true }
    (∀ c, CondRef.service 2 c ∉ run.covered.map Prod.fst) ∧
    s.powered = true ∧ s.isLinked = true ∧ s.alert.progress = some run ∧ run.waits = [] ∧
    (run.covered.map Prod.fst).Nodup ∧ linked.alert.progress = none ∧
    CondRef.service 1 .audioClip ∉ run.covered.map Prod.fst ∧
    (CondRef.service 1 .timeFault, 1) ∈ run.covered ∧
    (f.powered = true ∧ f.isLinked = true ∧ (f.alert.progress.map AlertRun.waits).any (fun l => !l.isEmpty) = true ∧
      f.entryOwes (.device .linkFault) = true ∧ f.entryOwes (.service 4 .timeFault) = true ∧
      (f.cond (.device .linkFault)).owed = true) ∧
    (HeaderItem.alert ∈ causeQueued.header ∧ HeaderItem.alert ∉ s.header) ∧
    0 < lastPlace (fun i : LiveItem => i.isDue) [.mark true, .entry .timeFault false true, .mark true] ∧
    (let u := after .unlink { s with header := [.commit 3, .alert] }
     u.ctl.link = .unlinking ∧ u.powered = true ∧
       u.header = [.commit 3] ++ .cause ⟨0x10040, [18, 0, 3, 1, 1, 0, 0, 0]⟩ :: [] ∧
       ([.commit 3] : List HeaderItem).any HeaderItem.isCause = false) ∧
    linked.header.any HeaderItem.isCause = false ∧ on.carries = false ∧ on.isLinked = false :=
  ⟨fun c => by cases c <;> decide +kernel, rfl, by decide +kernel⟩
/-- R196: a commit count queued before the cause is handed reaches the header with its report, one queued behind stays. -/
theorem test_header_order :
    let t := after .alertCauseWritten (alertWaits { alertPending with header := [.commit 4] } [])
    let u := after .alertCauseWritten { alertPending with header := [.commit 4, .alert, .commit 5], alert := (alertWaits alertPending []).alert }
    t.byte 0x10048 = some 4 ∧ t.byte 0x10040 = some 18 ∧ t.header = [] ∧
    u.byte 0x10048 = some 4 ∧ u.header = [.commit 5] := by decide +kernel
/-- R198: the cause write fails after another entry has become due: the failure is counted, the alert abandoned, and the entry
stays queued. -/
theorem test_cause_fails :
    let s := after (fr 2 7) (lockedAt (alertWaits alertPending []) 2 7)
    let t := after (.accessFailure ⟨.alertCause, nothing⟩) s
    s.live[2].queue ≠ [] ∧ t.ctl.total = 1 ∧ t.alert.abandoned = true ∧ t.header = [] ∧ t.live[2].queue = s.live[2].queue := by
  decide +kernel
/-- R198: at UNLINK an entry that the alert hands again, and its cause, go on in flight: the failure of each is counted. -/
theorem test_unlink_in_flight :
    let e := after (.accessFailure ⟨.entryWrite (.device .linkFault), nothing⟩) (after .unlink owing)
    let c := after (.accessFailure ⟨.alertCause, nothing⟩) (after .unlink (after (fr 2 7) (lockedAt (alertWaits alertPending []) 2 7)))
    e.ctl.total = 1 ∧ e.header = [] ∧ c.ctl.total = 1 ∧ c.header = [] := by decide +kernel
/-- R169: the failed write of an entry changed only after the choice does not abandon the alert. -/
theorem test_later_entry_fails :
    let s := after (fr 2 7) (lockedAt (alertWaits alertPending []) 2 7)
    let t := after (.accessFailure ⟨.entryWrite (.service 2 .timeFault), nothing⟩) s
    t.ctl.total = 1 ∧ t.alert.progress.isSome = true ∧ (t.svcCond 2 .timeFault).owed = true := by decide +kernel

def tightQuota : State := withSheet linked 8 fun sh => { sh with quota := 65535 }
/-- The other quotas of the factory sheets sum to 983,040: 65,536 more just fit, 65,537 do not. -/
theorem witness_SheetStaging :
    linked.powered = true ∧ linked.isLinked = true ∧ linked.sheet[8].lastTaken = none ∧
    sheetStructure (sheetBytes 1 25 4 65536) = some .badMixChannel ∧ sheetStructure (sheetBytes 1 25 6 65537) = none ∧
    (linked.sheetOf 8).quota < rawQuota (sheetBytes 1 25 6 65537) ∧
    1048576 < rawQuota (sheetBytes 1 25 6 65537) + linked.quotaOthers 8 ∧
    sheetStructure (sheetBytes 1 25 6 65536) = none ∧
    rawQuota (sheetBytes 1 25 6 65536) + tightQuota.quotaOthers 8 ≤ 1048576 ∧
    (linked.sheetOf 8).enable = true ∧ (parseSheet 16 (sheetBytes 0 25 6 65536)).enable = false ∧
    (linked.sheetOf 8).mix ≠ (parseSheet 16 (sheetBytes 1 25 6 65536)).mix ∧ on.isLinked = false ∧
    (linked.sheetOf 8).reminder = 0 ∧ (parseSheet 16 (sheetBytes 1 25 6 65536)).reminder = 0 ∧
    ((withSheet linked 8 fun sh => { sh with reminder := 60 }).sheetOf 8).reminder ≠ 0 ∧
    (linked.sheetOf 8).lang = (parseSheet 16 (sheetBytes 1 25 6 65536)).lang ∧
    (linked.sheetOf 8).page = (parseSheet 16 (sheetBytes 1 25 6 65536)).page ∧
    (linked.sheetOf 8).priorities = (parseSheet 16 (sheetBytes 1 25 6 65536)).priorities ∧
    (linked.sheetOf 8).priorities[svcIndex .audioClip] ≠
      (withSheet linked 8 fun sh => { sh with priorities := Vector.replicate 16 2 }).sheet[8].adopted.priorities[svcIndex .audioClip] ∧
    (inLink .unlinking .header).carries = true := by decide +kernel
/-- Enable off over an OPEN segment: it closes with EARLY_CLOSE; a sheet whose priorities differ is evaluated. -/
theorem witness_SheetStagingCloses :
    DocketsSound opened ∧ QueueSound opened ∧ opened.powered = true ∧ opened.isLinked = true ∧
    opened.sheet[5].lastTaken = none ∧
    sheetStructure (sheetBytes 0 25 6 65536) = none ∧ rawQuota (sheetBytes 0 25 6 65536) ≤ (opened.sheetOf 5).quota ∧
    (opened.sheetOf 5).enable = true ∧ (parseSheet 16 (sheetBytes 0 25 6 65536)).enable = false ∧
    (opened.entry 5 1).state = .opened ∧ (opened.entry 5 1).body.isSome = true ∧ opened.pool[0].ownedBy 5 = true ∧
    opened.pool[0].state = .accumulating ∧ (opened.sheetOf 5).mix ≠ (parseSheet 16 (sheetBytes 0 25 6 65536)).mix :=
  ⟨opened_sound, opened_queue, by decide +kernel⟩
theorem witness_SheetInRange :
    sheetStructure (sheetBytes 1 60 6 1048576) = none ∧ sheetClamps (sheetBytes 1 60 6 1048576) = true := by decide +kernel
theorem witness_StoreAndCommit :
    (inLink .linking .header).ctl.link = .linking ∧ on.ctl.link = .unlinked ∧ worn.store.commit = none ∧
    worn.store.commits = 20000 ∧ worn.ctl.link = .unlinked ∧ on.powered = true ∧ on.store.commit = none ∧
    on.store.commits ≠ 20000 ∧
    committing.store.commit = some ⟨[2, 8], Vector.replicate 16 factorySheet⟩ := by decide +kernel

/-- The last base at which the area still fits below 2^64, a multiple of 65,536. -/
theorem witness_CommandTable :
    let last : BitVec 64 := BitVec.ofNat 64 (2 ^ 64 - 5 * 65536)
    on.powered = true ∧ on.ctl.link = .unlinked ∧ last ≠ 0 ∧ last.toNat % 65536 = 0 ∧ last.toNat + 299008 ≤ 2 ^ 64 ∧
    on.ctl.base = 0 ∧ linked.ctl.link = .linked ∧ (inLink .linking .header).ctl.link = .linking ∧
    (inLink .unlinking .header).ctl.link = .unlinking ∧ 4 < (5 : Byte).toNat ∧ (4 : Byte).toNat ≤ 4 ∧
    on.ctl.consecutive ≤ 8 ∧ on.ctl.total ≤ 65535 ∧ (0x28 : Nat) ∉ [0x00, 0x08, 0x10, 0x18, 0x20] ∧
    (0x18 : BitVec 16) ≠ 0x08 ∧ (walking false []).mover.work.reading = some 40 := by decide +kernel
theorem witness_LinkSteps :
    (inLink .linking .header).powered = true ∧ (inLink .linking .header).ctl.link = .linking ∧
    (inLink .linking .header).ctl.step = .header ∧ field (header 1) 0 4 = 1 ∧ field (header 2) 0 4 ≠ 1 ∧
    (inLink .linking .sheets).ctl.step = .sheets ∧ (3 : Svc) ∉ (inLink .linking .sheets).ctl.failedSheets ∧
    (inLink .linking .standings).ctl.step = .standings ∧ (inLink .linking .descriptors).ctl.step = .descriptors ∧
    (inLink .linking .entries).ctl.step = .entries ∧ linked.ctl.link ≠ .linking := by decide +kernel
/-- Service 8 asks for one unit more than the factory sheets leave: refused; one unit fewer: adopted; without a quota raised:
adopted under any sum. -/
theorem witness_LinkQuotas :
    let s := inLink .linking .sheets
    let reads := fun q => (Vector.replicate 16 none).set 8 (some (⟨16, sheetBytes 1 25 6 q, 16⟩ : SheetRead))
    (s.sheetOf 8).quota < rawQuota (sheetBytes 1 25 6 65537) ∧ sheetStructure (sheetBytes 1 25 6 65537) = none ∧
    (after (.linkStepComplete (.sheets (reads 65537) true)) s).sheet[8].cause = some .quotaSum ∧
    (after (.linkStepComplete (.sheets (reads 65535) true)) s).sheet[8].source = .host ∧
    (after (.linkStepComplete (.sheets (reads 65535) true)) s).sheet[7].lastTaken = none := by decide +kernel

theorem witness_Unlink :
    DocketsSound opened ∧ QueueSound opened ∧ opened.powered = true ∧ opened.isLinked = true ∧ (opened.entry 5 1).state = .opened ∧
    (opened.entry 5 1).snapshot.isSome = true ∧ (pending.entry 5 1).state = .pending ∧
    (∀ n, opened.mover.work ≠ .unitWrite n) ∧ (fillState 5 1 .idle).recorder[3].current = some 40 ∧
    opened.alert.progress = none ∧ (alertWaits alertPending []).alert.progress = some (alertRun []) ∧
    (opened.entry 5 1).body = some breakBody ∧ (opened.entry 5 1).context = some 0 ∧
    opened.pool[0].state = .accumulating ∧
    (inLink .unlinking .entries).ctl.link = .unlinking ∧
    (∀ (n : Svc) (k : Slot),
      ((inLink .unlinking .entries).entry n k).state ≠ .closing ∧ ((inLink .unlinking .entries).entry n k).writes = []) ∧
    (inLink .unlinking .entries).mover.work = .idle ∧ (inLink .unlinking .entries).mover.updates = [] :=
  ⟨opened_sound, opened_queue, by decide +kernel⟩
/-- A failed access in flight at 6, 7 and 8 failures before it, and one not in flight. -/
def failing (before : Nat) : State := { closed with ctl := { closed.ctl with consecutive := before } }
/-- Slot 1 of service 5 with its body read awaited. -/
def pendingRead (again : Bool) : State :=
  withEntry linked 5 1 { breakEntry .pending 7 with body := none, validating := some (if again then 7 else 6) }
/-- Completions before a failure: LINKED with none, with a read and with an entry that the alert hands again; with one write
before its cause, of three; while LINKING with writes of the step. -/
theorem witness_AccessFailure :
    DocketsSound opened ∧ QueueSound opened ∧ (opened.entry 5 1).state = .opened ∧ (opened.entry 5 1).body = some breakBody ∧
    { opened with ctl := { opened.ctl with consecutive := 7 } }.inFlight (.commandWord 0 0) = true ∧
    (failing 6).powered = true ∧ (failing 6).inFlight (.slotWrite 5 1) = true ∧ (failing 6).ctl.consecutive < 7 ∧
    (failing 7).inFlight (.slotWrite 5 1) = true ∧ 7 ≤ (failing 7).ctl.consecutive ∧ (failing 8).ctl.consecutive ≤ 8 ∧
    (failing 8).inFlight (.slotWrite 5 1) = true ∧ (linked.completed nothing).inFlight (.slotWrite 5 1) = false ∧
    (failing 6).completed nothing = failing 6 ∧ (failing 6).isLinked = true ∧
    (failing 6).anyCompleted nothing = false ∧ (failing 6).anyCompleted { nothing with reads := true } = true ∧
    (failing 6).carries = true ∧ owing.handAlert.anyCompleted { nothing with header := 1 } = true ∧
    (owing.completed { nothing with header := 1 }).header = [.alert] ∧
    causeQueued.handAlert.anyCompleted { nothing with header := 3 } = true ∧
    (causeQueued.completed { nothing with header := 3 }).header = [.alert, .entry .storeFault] ∧
    (inLink .linking .standings).handAlert.anyCompleted { nothing with link := 2 } = true ∧
    (inLink .linking .standings).carries = false ∧
    ∀ i ∈ [LiveItem.count 5], i.isEnd = false :=
  ⟨opened_sound, opened_queue, by decide +kernel⟩
/-- Each owner with an access in flight, LINKED and then UNLINKING. -/
theorem witness_FailureOwners :
    (pendingRead true).inFlight (.docketBody 5 1) = true ∧ linked.inFlight (.sheetRead 3) = true ∧
    (owing.completed nothing).inFlight (.entryWrite (.device .linkFault)) = true ∧
    ((alertWaits linked []).completed nothing).inFlight .alertCause = true ∧ causeQueued.inFlight .alertCause = true ∧
    (owing.completed nothing).inFlight .alertCause = false ∧ owing.ctl.link = .linked ∧
    ({ alertWaits linked [] with header := [.entry .storeFault] } : State).inFlight (.entryWrite (.device .storeFault)) = true ∧
    (liveQueue [.entry .timeFault true true, .mark true]).inFlight (.entryWrite (.service 4 .timeFault)) = true ∧
    (liveQueue [.entry .timeFault false false, .entry .timeFault true false, .mark true]).inFlight
      (.entryWrite (.service 4 .timeFault)) = true ∧
    ((((alertWaits linked [.service 4 .timeFault]).modCond (.service 4 .timeFault) fun e => { e with owed := true }).completed
      nothing).inFlight (.entryWrite (.service 4 .timeFault)) = true) ∧
    (liveQueue [.fields ⟨0x45020, [1]⟩, .mark true]).inFlight (.livePiece 4 0) = true ∧
    (liveQueue [.mark true, .count 6, .mark true]).inFlight (.writeCount 4) = true ∧
    ({ linked with header := [.entry .linkFault, .commit 3] } : State).inFlight .commitCount = true ∧
    (inLink .linking .sheets).inFlight (.linkSheet 3) = true ∧ (inLink .linking .header).inFlight .linkHeader = true ∧
    (inLink .linking .standings).inFlight .linkWrite = true ∧
    (fillState 5 1 (.unitWrite 3)).inFlight .unitWrite = true ∧
    (∀ w ∈ [MoverWork.owedUpdate 3 40, .openUpdate 3 40 false, .boundaryUpdate 3 40, .closeUpdate 3 40],
      (updating w).inFlight (.descriptorUpdate 40) = true) ∧
    (∀ w ∈ [MoverWork.walk 3 false false 40 [], .boundaryRead 3 40 true, .lastBlock 3 40 41 [42] false true,
        .lastBlock 3 40 41 [] false false], (fillState 5 1 w).inFlight .descriptorRead = true) ∧
    (unlinkingFrom (failing 0)).inFlight (.slotWrite 5 1) = true ∧
    (unlinkingFrom (fillState 5 1 (.unitWrite 3))).inFlight .unitWrite = true ∧
    (unlinkingFrom (updating .idle)).inFlight (.descriptorUpdate 40) = true ∧
    (let u := unlinkingFrom (liveQueue [.count 6, .late .timeFault [⟨0x45000, [1]⟩]])
     u.inFlight (.entryWrite (.service 4 .timeFault)) = true ∧ u.isLinked = false) ∧
    ({ unlinkingFrom linked with header := [.late .linkFault [], .cause ⟨0x10040, [1]⟩] } : State).inFlight .alertCause = true ∧
    { unlinkingFrom linked with mover := { Mover.reset with late := some 41 } }.inFlight .descriptorRead = true := by
  decide +kernel

/-! The invariants, each at a state that is not the reset state, with a command waiting. -/

/-- Service 2 in FLYWHEEL, service 3 filling an extent, service 5 with an open break, a sweep waiting. -/
def busy : State := { flyingAt opened 2 1008 with pending := [.boardSweep] }
theorem busy_steps : ∃ t, step busy = .next t := ⟨_, rfl⟩
theorem witness_KeepsHostOrdered : HostOrdered { busy with host := [(5, 1), (7, 0)] } ∧ ∃ t, step busy = .next t :=
  ⟨rfl, busy_steps⟩
theorem witness_KeepsSignalsSound : FeedSound busy ∧ CaptionSound busy ∧ ∃ t, step busy = .next t :=
  ⟨by unfold FeedSound; decide +kernel, by unfold CaptionSound; decide +kernel, busy_steps⟩
theorem witness_KeepsCountsSound : TallySound busy ∧ CountsSound busy ∧ ∃ t, step busy = .next t := by
  refine ⟨by unfold TallySound; decide +kernel, ⟨by decide +kernel, ?_⟩, busy_steps⟩
  intro c r h
  have : busy.integ.busy = none := by decide +kernel
  simp [this] at h
theorem witness_KeepsQueueSound : QueueSound { queuedClose with pending := [.integrationStart] } ∧
    ∃ t, step { queuedClose with pending := [.integrationStart] } = .next t :=
  ⟨by unfold QueueSound; decide +kernel, _, rfl⟩
theorem witness_KeepsSpoolSound : SpoolSound (queued true 3) ∧ QuotaSound (queued true 3) ∧
    ∃ t, step (queued true 3) = .next t :=
  ⟨by unfold SpoolSound; decide +kernel, by unfold QuotaSound; decide +kernel, _, rfl⟩
theorem witness_KeepsDocketsSound : DocketsSound opened ∧ ∃ t, step opened = .next t := ⟨opened_sound, _, rfl⟩
theorem witness_KeepsFillSound : FillSound (fillState 5 1 (.unitWrite 3)) ∧
    ∃ t, step (fillState 5 1 (.unitWrite 3)) = .next t := by
  refine ⟨⟨by decide +kernel, by decide +kernel, by decide +kernel, ?_⟩, _, rfl⟩
  show (fillState 5 1 (.unitWrite 3)).recorder[(3 : Svc)].current.isSome = true
  decide +kernel
/-- A sweep waits; an entry write, a count and a commit count are queued; an alert is in progress. -/
def writing : State :=
  { liveQueue [.entry .timeFault false true, .count 6, .mark false] with
    header := [.commit 3], alert := owing.alert, pending := [.boardSweep] }
theorem witness_KeepsAttentionSound : AttentionSound writing ∧ ∃ t, step writing = .next t := by
  have h : ∀ r ∈ allConds,
      ((writing.cond r).timer.isSome = true → writing.isLinked = true) ∧
      ((writing.cond r).owed = true → writing.isLinked = true ∧ writing.entryQueued r = false) := by decide +kernel
  exact ⟨⟨by decide +kernel, by decide +kernel, by decide +kernel, fun r => h r (mem_allConds r), by decide +kernel,
    by decide +kernel⟩, _, rfl⟩

end Sys2Proof.Tests
end

namespace Sys2Proof.Machine

/-! ### What a command does behind the gate of power -/

/-- The effect of a command on a part that takes it, read off the dispatch (47 rows of the command table). -/
def effectOf : Instr → State → State
  | .frame n stamp rate, s => s.takeFrame n stamp.toNat rate
  | .audio n samples, s => s.takeAudio n samples
  | .caption n page lang kind seq, s => s.takeCaption n page lang kind seq
  | .cue n id kind, s => s.takeCue n id kind
  | .loss n late, s => s.takeLoss n late
  | .restore n, s => s.modFeed n fun f => { f with lineDown := false }
  | .discardedMessage n, s => s.discardMessage n
  | .lossTimerExpiry n, s => s.lossTimerOut n
  | .flywheelAdvance n, s => s.frameTimerDue n
  | .countLimit n k, s => s.takeCountLimit n k
  | .writeCountdownExpiry n, s => s.countdownOut n
  | .writeTimerExpiry n, s => s.writeTimerOut n
  | .liveBlockWriteCount n, s => s.completeLive n
  | .livenessExpiry n, s => s.livenessOut n
  | .contentExpiry n, s => s.contentOut n
  | .integrationStart, s => s.startIntegration
  | .integrationCompletion, s => s.completeIntegration
  | .slotWriteComplete n k, s => s.slotWriteDone n k
  | .boardSweep, s => s.sweep
  | .commandWordRead n k word, s => s.readCommandWord n k word
  | .postingValidation n k body, s => s.validatePosting n k body
  | .arrival n chunk, s => s.takeChunk n chunk
  | .moverTurn, s => s.startTurn
  | .descriptorUpdateComplete x, s => s.updateComplete x
  | .unitWriteComplete, s => s.unitDone
  | .captureAckRead n ack, s => s.captureAckRead n ack
  | .ackRead c ack, s => s.ackRead c ack
  | .devicePriorityRead p0 p1 p2, s => s.devPriorityRead p0 p1 p2
  | .reminderTimerExpiry n c, s => s.reminderOut (.service n c)
  | .alertCauseWritten, s => s.alertWritten
  | .sheetStaging n read, s => s.sheetRead n read
  | .link, s => s.commandLink
  | .linkStepComplete report, s => s.linkStep report
  | .unlink, s => s.commandUnlink
  | .unlinkComplete, s => s.completeUnlink
  | .store mask, s => s.commandStore mask
  | .commitComplete, s => s.completeCommit
  | .deviceReset, s => s.commandReset
  | .badCommand code, s => s.commandUnknown code
  | .exchangeBaseWrite value, s => s.writeBase value
  | .alertLevelWrite value, s => s.writeLevel value
  | .registerWriteIgnored _ _, s => s
  | .accessFailure a, s => s.failAccess a.access a.done
  | .accessTimeout a, s => s.failAccess a.access a.done
  | .powerOn, s => s.turnOn
  | .powerLoss written torn, s => s.turnOff written torn
  | .descriptorReadComplete x fields, s => s.descriptorRead x (parseDescriptor fields)

/-- Every command but the two that answer beside the gate of power has its effect behind it. -/
theorem exec_onPower (c : Instr) (s : State) (hu : c ≠ .unitWriteComplete) (hp : c ≠ .powerOn) :
    exec c s = onPower s (effectOf c) := by
  cases c
  case unitWriteComplete => exact absurd rfl hu
  case powerOn => exact absurd rfl hp
  all_goals rfl

/-- A command of a part with power has its effect; a unit write past the address space has none (assumption 25). -/
theorem exec_effectOf {s : State} (c : Instr) (hp : s.powered = true) (hc : c ≠ .unitWriteComplete) :
    exec c s = .next (effectOf c s) := by
  by_cases hon : c = .powerOn
  · subst hon; rfl
  · simp [exec_onPower c s hc hon, onPower, hp]

theorem onPower_next {s t : State} {f : State → State} (h : onPower s f = .next t) : t = s ∨ t = f s := by
  unfold onPower at h
  split at h <;> cases h
  · exact .inr rfl
  · exact .inl rfl

/-- A command that answers a next state answers the state itself or has had its effect. -/
theorem exec_next {c : Instr} {s t : State} (h : exec c s = .next t) : t = s ∨ t = effectOf c s := by
  by_cases hon : c = .powerOn
  · subst hon
    exact .inr (Host.Outcome.next.inj h).symm
  by_cases hu : c = .unitWriteComplete
  · subst hu
    simp only [exec, execUnitWriteComplete] at h
    split at h
    · cases h
    · exact onPower_next h
  · rw [exec_onPower c s hu hon] at h
    exact onPower_next h


/-! ### The frame of every command -/

theorem Touches.within {T0 T : List Part} {s t : State} (h : Touches T0 s t)
    (sub : (T0.all fun p => T.contains p) = true) : Touches T s t :=
  h.mono fun p hp => by simpa using List.all_eq_true.mp sub p hp

/-- The blocks that a reset sets to their reset values (R200, R201). -/
theorem State.blocksReset_touches (s : State) :
    Touches [.feed, .meter, .caption, .sched, .pool, .integ, .proxy, .recorder, .extents, .mover, .panel, .devPanel,
      .devPriority, .alert, .sheet, .live, .header] s s.blocksReset := by
  intro p hp; cases p <;> first | rfl | exact absurd (by decide) hp

theorem State.commandReset_touches (s : State) :
    Touches [.ctl, .feed, .meter, .caption, .sched, .pool, .integ, .proxy, .recorder, .extents, .mover, .panel, .devPanel,
      .devPriority, .alert, .sheet, .live, .header] s s.commandReset := by
  unfold State.commandReset
  split
  · exact (s.setReadback_touches _ _).within rfl
  · have blocks := ((s.modCtl Ctl.deviceReset).blocksReset_touches).within
      (T := [.ctl, .feed, .meter, .caption, .sched, .pool, .integ, .proxy, .recorder, .extents, .mover, .panel, .devPanel,
        .devPriority, .alert, .sheet, .live, .header]) rfl
    exact (((s.modCtl_touches Ctl.deviceReset).within rfl).trans blocks).trans ((State.raiseReset_touches _).within rfl)

theorem State.turnOn_touches (s : State) : Touches (commandParts .powerOn) s s.turnOn := by
  have start : Touches (commandParts .powerOn) s
      { s with powered := true, ctl := Ctl.reset, store := { s.store with commit := none } } := by
    intro p hp; cases p <;> first | rfl | exact absurd (by decide) hp
  exact (start.trans ((State.blocksReset_touches _).within rfl)).trans ((State.raiseReset_touches _).within rfl)

theorem State.turnOff_touches (s : State) (written : Nat) (torn : Bool) :
    Touches [.powered, .store] s (s.turnOff written torn) := by
  intro p hp; cases p <;> first | rfl | exact absurd (by decide) hp

theorem effectOf_touches (c : Instr) (s : State) : Touches (commandParts c) s (effectOf c s) := by
  cases c with
  | frame n stamp rate => exact (s.takeFrame_touches n stamp.toNat rate).within rfl
  | audio n samples => exact (s.takeAudio_touches n samples).within rfl
  | caption n page lang kind seq => exact (s.takeCaption_touches n page lang kind seq).within rfl
  | cue n id kind => exact (s.takeCue_touches n id kind).within rfl
  | loss n late => exact (s.takeLoss_touches n late).within rfl
  | restore n => exact (s.modFeed_touches n _).within rfl
  | discardedMessage n => exact (s.discardMessage_touches n).within rfl
  | lossTimerExpiry n => exact (s.lossTimerOut_touches n).within rfl
  | flywheelAdvance n => exact (s.frameTimerDue_touches n).within rfl
  | countLimit n k => exact (s.takeCountLimit_touches n k).within rfl
  | writeCountdownExpiry n => exact (s.countdownOut_touches n).within rfl
  | writeTimerExpiry n => exact (s.writeTimerOut_touches n).within rfl
  | liveBlockWriteCount n => exact (s.completeLive_touches n).within rfl
  | livenessExpiry n => exact (s.livenessOut_touches n).within rfl
  | contentExpiry n => exact (s.contentOut_touches n).within rfl
  | integrationStart => exact s.startIntegration_touches.within rfl
  | integrationCompletion => exact s.completeIntegration_touches.within rfl
  | slotWriteComplete n k => exact (s.slotWriteDone_touches n k).within rfl
  | boardSweep => exact s.sweep_touches.within rfl
  | commandWordRead n k word => exact (s.readCommandWord_touches n k word).within rfl
  | postingValidation n k body => exact (s.validatePosting_touches n k body).within rfl
  | arrival n chunk => exact (s.takeChunk_touches n chunk).within rfl
  | moverTurn => exact s.startTurn_touches.within rfl
  | descriptorUpdateComplete x => exact (s.updateComplete_touches x).within rfl
  | unitWriteComplete => exact s.unitDone_touches.within rfl
  | captureAckRead n ack => exact (s.captureAckRead_touches n ack).within rfl
  | ackRead c ack => exact (s.ackRead_touches c ack).within rfl
  | devicePriorityRead p0 p1 p2 => exact (s.devPriorityRead_touches p0 p1 p2).within rfl
  | reminderTimerExpiry n c => exact (s.reminderOut_service_touches n c).within rfl
  | alertCauseWritten => exact s.alertWritten_touches.within rfl
  | sheetStaging n read => exact (s.sheetRead_touches n read).within rfl
  | link => exact s.commandLink_touches.within rfl
  | linkStepComplete report => exact (s.linkStep_touches report).within rfl
  | unlink => exact s.commandUnlink_touches.within rfl
  | unlinkComplete => exact s.completeUnlink_touches.within rfl
  | store mask => exact (s.commandStore_touches mask).within rfl
  | commitComplete => exact s.completeCommit_touches.within rfl
  | deviceReset => exact s.commandReset_touches.within rfl
  | badCommand code => exact (s.commandUnknown_touches code).within rfl
  | exchangeBaseWrite value => exact (s.writeBase_touches value).within rfl
  | alertLevelWrite value => exact (s.writeLevel_touches value).within rfl
  | registerWriteIgnored offset value => exact Touches.refl _ s
  | accessFailure a => exact (s.failAccess_touches a.access a.done).within rfl
  | accessTimeout a => exact (s.failAccess_touches a.access a.done).within rfl
  | powerOn => exact s.turnOn_touches
  | powerLoss written torn => exact (s.turnOff_touches written torn).within rfl
  | descriptorReadComplete x fields => exact (s.descriptorRead_touches x (parseDescriptor fields)).within rfl

/-- Settles O3: a command answers the state itself or its effect, and each effect stays within the command's parts. -/
theorem everyCommandFrame : Obligations.EveryCommandFrame := by
  intro c s t h
  obtain rfl | rfl := exec_next h
  · exact Touches.refl _ t
  · exact effectOf_touches c s

end Sys2Proof.Machine

namespace Sys2Proof.Machine

/-! ### Services apart -/

/-- An effect of one service's command leaves the other services as they were. -/
theorem effectOf_others {c : Instr} {n : Svc} (hc : laneOf c = some n) (s : State) : OthersSame n s (effectOf c s) := by
  cases c <;> cases hc
  case frame stamp rate => exact s.takeFrame_others n stamp.toNat rate
  case audio samples => exact s.takeAudio_others n samples
  case caption page lang kind seq => exact s.takeCaption_others n page lang kind seq
  case cue id kind => exact s.takeCue_others n id kind
  case loss late => exact s.takeLoss_others n late
  case restore => exact s.modFeed_others n _
  case discardedMessage => exact s.discardMessage_others n
  case lossTimerExpiry => exact s.lossTimerOut_others n
  case flywheelAdvance => exact s.frameTimerDue_others n
  case countLimit k => exact s.takeCountLimit_others n k
  case writeCountdownExpiry => exact s.countdownOut_others n
  case writeTimerExpiry => exact s.writeTimerOut_others n
  case liveBlockWriteCount => exact s.completeLive_others n
  case livenessExpiry => exact s.livenessOut_others n
  case contentExpiry => exact s.contentOut_others n
  case slotWriteComplete k => exact s.slotWriteDone_others n k
  case commandWordRead k word => exact s.readCommandWord_others n k word
  case postingValidation k body => exact s.validatePosting_others n k body
  case arrival chunk => exact s.takeChunk_others n chunk
  case captureAckRead ack => exact s.captureAckRead_others n ack
  case reminderTimerExpiry c => exact s.reminderOut_others n c
  case sheetStaging read => exact s.sheetRead_others n read

/-- Settles O4: a command of one service answers the state itself or an effect within that service. -/
theorem servicesApart : Obligations.ServicesApart := by
  intro c n s t hc h
  obtain rfl | rfl := exec_next h
  · exact OthersSame.refl n t
  · exact effectOf_others hc s

/-- Settles O15: DISCARDED_MESSAGE, and a CAPTION whose page is out of range, count one discarded message. -/
theorem discardedMessage : Obligations.DiscardedMessage := by
  refine ⟨fun s n hp => exec_effectOf _ hp nofun, fun s n page lang kind seq hp hpage => ?_⟩
  have bad : pageOk page = false := by simp only [pageOk, Bool.and_eq_false_iff, decide_eq_false_iff_not]; omega
  rw [exec_effectOf (.caption n page lang kind seq) hp nofun]
  simp [effectOf, State.takeCaption, bad, State.discardMessage]

end Sys2Proof.Machine

namespace Sys2Proof.Machine

/-! ### Which live fields an operation leaves alone -/

/-- Between two panels every live field of a condition outside C is the same (R163: only the owner changes it). -/
def LivesKept (C : List SvcCond) (p q : Vector (Vector CondEntry 16) 16) : Prop :=
  ∀ (n : Svc) (c : SvcCond), c ∉ C → q[n][svcIndex c].live = p[n][svcIndex c].live

section
variable {C : List SvcCond} {p : Vector (Vector CondEntry 16) 16}

theorem LivesKept.svcCond {s t : State} (h : LivesKept C s.panel t.panel) (n : Svc) {c : SvcCond} (hc : c ∉ C) :
    (t.svcCond n c).live = (s.svcCond n c).live := h n c hc

@[simp] theorem LivesKept.self (p : Vector (Vector CondEntry 16) 16) : LivesKept C p p ↔ True :=
  iff_true_intro fun _ _ _ => rfl

theorem LivesKept.iff {q r : Vector (Vector CondEntry 16) 16} (h : LivesKept C q r) : LivesKept C p r ↔
    LivesKept C p q :=
  ⟨fun g n c hc => (h n c hc).symm.trans (g n c hc), fun g n c hc => (h n c hc).trans (g n c hc)⟩

theorem LivesKept.trans {q r : Vector (Vector CondEntry 16) 16} (h : LivesKept C p q) (g : LivesKept C q r) :
    LivesKept C p r := g.iff.mpr h

@[simp] theorem LivesKept.ite (c : Prop) [Decidable c] (a b : State) :
    LivesKept C p (if c then a else b).panel ↔ if c then LivesKept C p a.panel else LivesKept C p b.panel := by
  split <;> rfl

@[simp] theorem LivesKept.foldl {α : Type} (f : State → α → State) (l : List α) (t : State)
    (hf : ∀ u a, LivesKept C u.panel (f u a).panel) : LivesKept C p (l.foldl f t).panel ↔ LivesKept C p t.panel :=
  (foldl_keeps (fun u => LivesKept C t.panel u.panel) f (fun _ a h => h.trans (hf _ a)) l t (fun _ _ _ => rfl)).iff

/-- One entry changed with its live field kept, or one whose condition stands in C. -/
theorem LivesKept.upd_iff (q : Vector (Vector CondEntry 16) 16) (n : Svc) (c : SvcCond) (f : CondEntry → CondEntry)
    (hf : c ∈ C ∨ ∀ e, (f e).live = e.live) :
    LivesKept C p (upd q n fun v => upd v (svcIndex c) f) ↔ LivesKept C p q := by
  refine LivesKept.iff fun m d hd => ?_
  by_cases hm : m = n
  · subst hm
    by_cases hdc : svcIndex d = svcIndex c
    · rcases hf with hc | hf
      · exact absurd (svcIndex_inj hdc ▸ hc) hd
      · simp [hdc, hf]
    · simp [hdc]
  · simp [hm]

@[simp] theorem LivesKept.upd_same_live (q : Vector (Vector CondEntry 16) 16) (n : Svc) (c : SvcCond)
    (f : CondEntry → CondEntry) (hf : ∀ e, (f e).live = e.live) :
    LivesKept C p (upd q n fun v => upd v (svcIndex c) f) ↔ LivesKept C p q :=
  LivesKept.upd_iff q n c f (.inr hf)

@[simp] theorem State.modCond_lives (s : State) (r : CondRef) (f : CondEntry → CondEntry)
    (hf : ∀ e, (f e).live = e.live) :
    LivesKept C p (s.modCond r f).panel ↔ LivesKept C p s.panel := by
  cases r <;> simp [hf]

@[simp] theorem State.changeCond_lives (s : State) (r : CondRef) (f : CondEntry → CondEntry)
    (hf : ∀ e, (f e).live = e.live) : LivesKept C p (s.changeCond r f).panel ↔ LivesKept C p s.panel := by
  simp [State.changeCond, hf]

@[simp] theorem CondEntry.raised_live (t : Option Nat) (e : CondEntry) : (CondEntry.raised t e).live = e.live := by
  simp [CondEntry.raised]

@[simp] theorem State.raise_lives (s : State) (n : Svc) (c : SvcCond) :
    LivesKept C p (s.raise n c).panel ↔ LivesKept C p s.panel := by
  simp [State.raise]

@[simp] theorem State.setLive_lives (s : State) (n : Svc) (c : SvcCond) (live : Bool) (hc : c ∈ C) :
    LivesKept C p (s.setLive n c live).panel ↔ LivesKept C p s.panel := by
  have change : ∀ f, LivesKept C p (s.changeCond (.service n c) f).panel ↔ LivesKept C p s.panel := fun f => by
    simpa [State.changeCond] using LivesKept.upd_iff s.panel n c _ (.inl hc)
  unfold State.setLive
  (repeat' split) <;> simp [change]

@[simp] theorem State.loadReminder_lives (s : State) (r : CondRef) :
    LivesKept C p (s.loadReminder r).panel ↔ LivesKept C p s.panel := by
  unfold State.loadReminder
  (repeat' split) <;> simp

@[simp] theorem State.stopReminders_lives (s : State) :
    LivesKept C p (s.stopReminders).panel ↔ LivesKept C p s.panel := by
  simp [State.stopReminders]

@[simp] theorem State.startReminders_lives (s : State) :
    LivesKept C p (s.startReminders).panel ↔ LivesKept C p s.panel := by
  simp [State.startReminders]

@[simp] theorem State.dropOwed_lives (s : State) :
    LivesKept C p (s.dropOwed).panel ↔ LivesKept C p s.panel := by
  simp [State.dropOwed]

@[simp] theorem State.retryEntry_lives (s : State) (r : CondRef) :
    LivesKept C p (s.retryEntry r).panel ↔ LivesKept C p s.panel := by
  simp [State.retryEntry]

@[simp] theorem State.handAlert_lives (s : State) :
    LivesKept C p (s.handAlert).panel ↔ LivesKept C p s.panel := by
  simp [State.handAlert]

@[simp] theorem State.announce_lives (s : State) (r : CondRef) (noted : BitVec 16) :
    LivesKept C p (s.announce r noted).panel ↔ LivesKept C p s.panel := by
  simp [State.announce]

@[simp] theorem State.finishAlert_lives (s : State) (a : AlertRun) :
    LivesKept C p (s.finishAlert a).panel ↔ LivesKept C p s.panel := by
  simp [State.finishAlert]

@[simp] theorem State.judgeCaptions_lives (s : State) (n : Svc)
    (hCaptionLoss : SvcCond.captionLoss ∈ C) (hCaptionIdle : SvcCond.captionIdle ∈ C) :
    LivesKept C p (s.judgeCaptions n).panel ↔ LivesKept C p s.panel := by
  simp [State.judgeCaptions, hCaptionLoss, hCaptionIdle]

@[simp] theorem State.refreshRequirement_lives (s : State) (n : Svc)
    (hCaptionLoss : SvcCond.captionLoss ∈ C) (hCaptionIdle : SvcCond.captionIdle ∈ C) :
    LivesKept C p (s.refreshRequirement n).panel ↔ LivesKept C p s.panel := by
  simp [State.refreshRequirement, hCaptionLoss, hCaptionIdle]

@[simp] theorem State.judgeFrame_lives (s : State) (n : Svc)
    (hCaptionLoss : SvcCond.captionLoss ∈ C) (hCaptionIdle : SvcCond.captionIdle ∈ C) :
    LivesKept C p (s.judgeFrame n).panel ↔ LivesKept C p s.panel := by
  simp [State.judgeFrame, hCaptionLoss, hCaptionIdle]

@[simp] theorem State.sortPacket_lives (s : State) (n : Svc) (page : Byte) (lang : Lang) (kind : CaptionKind)
    (seq : Byte)
    (hCaptionLoss : SvcCond.captionLoss ∈ C) (hCaptionIdle : SvcCond.captionIdle ∈ C) :
    LivesKept C p (s.sortPacket n page lang kind seq).panel ↔ LivesKept C p s.panel := by
  unfold State.sortPacket
  (repeat' split) <;> simp [hCaptionLoss, hCaptionIdle]

@[simp] theorem State.raiseVerdict_lives (s : State) (n : Svc) (v : Verdict) :
    LivesKept C p (s.raiseVerdict n v).panel ↔ LivesKept C p s.panel := by
  unfold State.raiseVerdict
  (repeat' split) <;> simp

@[simp] theorem State.deliverVerdict_lives (s : State) (n : Svc) (k : Slot) (v : Verdict) :
    LivesKept C p (s.deliverVerdict n k v).panel ↔ LivesKept C p s.panel := by
  simp [State.deliverVerdict]

@[simp] theorem State.finishVerdict_lives (s : State) (n : Svc) (k : Slot) (loud : LoudResult) :
    LivesKept C p (s.finishVerdict n k loud).panel ↔ LivesKept C p s.panel := by
  unfold State.finishVerdict
  (repeat' split) <;> simp

@[simp] theorem State.announceClose_lives (s : State) (n : Svc) (k : Slot) (metered : Bool) :
    LivesKept C p (s.announceClose n k metered).panel ↔ LivesKept C p s.panel := by
  unfold State.announceClose
  (repeat' split) <;> simp

@[simp] theorem State.closeSegment_lives (s : State) (n : Svc) (k : Slot) (add : VerdictFlags) :
    LivesKept C p (s.closeSegment n k add).panel ↔ LivesKept C p s.panel := by
  unfold State.closeSegment
  dsimp only
  split <;> simp

@[simp] theorem State.forOpen_lives (s : State) (n : Svc) (l : Layer) (f : State → Slot → State)
    (hf : ∀ u k, LivesKept C u.panel (f u k).panel) : LivesKept C p (s.forOpen n l f).panel ↔ LivesKept C p s.panel := by
  refine LivesKept.foldl _ _ s fun u k => ?_
  split
  · exact hf u k
  · simp

@[simp] theorem State.closeOnNext_lives (s : State) (n : Svc) (l : Layer) (f : Firing) :
    LivesKept C p (s.closeOnNext n l f).panel ↔ LivesKept C p s.panel := by
  simp [State.closeOnNext]

@[simp] theorem State.claimFor_lives (s : State) (n : Svc) (k : Slot) (sn : Snapshot) (paused : Bool) :
    LivesKept C p (s.claimFor n k sn paused).panel ↔ LivesKept C p s.panel := by
  unfold State.claimFor
  (repeat' split) <;> simp

@[simp] theorem State.openSegment_lives (s : State) (n : Svc) (k : Slot) (f : Firing) :
    LivesKept C p (s.openSegment n k f).panel ↔ LivesKept C p s.panel := by
  unfold State.openSegment
  split
  · simp
  · simp only [State.writeStanding_frame, LivesKept.ite, State.pauseOuter_frame, State.modSched_panel,
      State.modEntry_panel, State.claimFor_lives, State.closeOnNext_lives, ite_self]

@[simp] theorem State.fireBoundary_lives (s : State) (n : Svc) (f : Firing) (b : Boundary) :
    LivesKept C p (s.fireBoundary n f b).panel ↔ LivesKept C p s.panel := by
  unfold State.fireBoundary
  dsimp only
  split <;> simp

@[simp] theorem State.fireAll_lives (s : State) (n : Svc) (c : FireCause) (bs : List Boundary) :
    LivesKept C p (s.fireAll n c bs).panel ↔ LivesKept C p s.panel := by
  simp [State.fireAll]

@[simp] theorem State.advanceBoundaries_lives (s : State) (n : Svc) (c : FireCause) (t0 t1 : Nat)
    (hCaptionLoss : SvcCond.captionLoss ∈ C) (hCaptionIdle : SvcCond.captionIdle ∈ C) :
    LivesKept C p (s.advanceBoundaries n c t0 t1).panel ↔ LivesKept C p s.panel := by
  simp [State.advanceBoundaries, hCaptionLoss, hCaptionIdle]

@[simp] theorem State.seedBoundaries_lives (s : State) (n : Svc) (u : Nat)
    (hCaptionLoss : SvcCond.captionLoss ∈ C) (hCaptionIdle : SvcCond.captionIdle ∈ C) :
    LivesKept C p (s.seedBoundaries n u).panel ↔ LivesKept C p s.panel := by
  simp [State.seedBoundaries, hCaptionLoss, hCaptionIdle]

@[simp] theorem State.raiseTimeFault_lives (s : State) (n : Svc) :
    LivesKept C p (s.raiseTimeFault n).panel ↔ LivesKept C p s.panel := by
  simp [State.raiseTimeFault]

@[simp] theorem State.closeLayer_lives (s : State) (n : Svc) (l : Layer) (f : VerdictFlags) :
    LivesKept C p (s.closeLayer n l f).panel ↔ LivesKept C p s.panel := by
  simp [State.closeLayer]

@[simp] theorem State.closeOpen_lives (s : State) (n : Svc) (f : VerdictFlags)
    (hCaptionLoss : SvcCond.captionLoss ∈ C) (hCaptionIdle : SvcCond.captionIdle ∈ C) :
    LivesKept C p (s.closeOpen n f).panel ↔ LivesKept C p s.panel := by
  simp [State.closeOpen, hCaptionLoss, hCaptionIdle]

@[simp] theorem State.emptyDockets_lives (s : State) (n : Svc)
    (hCaptionLoss : SvcCond.captionLoss ∈ C) (hCaptionIdle : SvcCond.captionIdle ∈ C) :
    LivesKept C p (s.emptyDockets n).panel ↔ LivesKept C p s.panel := by
  simp [State.emptyDockets, hCaptionLoss, hCaptionIdle]

@[simp] theorem State.advanceTo_lives (s : State) (n : Svc) (c : FireCause) (t1 : Nat)
    (hCaptionLoss : SvcCond.captionLoss ∈ C) (hCaptionIdle : SvcCond.captionIdle ∈ C) :
    LivesKept C p (s.advanceTo n c t1).panel ↔ LivesKept C p s.panel := by
  simp [State.advanceTo, hCaptionLoss, hCaptionIdle]

@[simp] theorem State.flyAdvance_lives (s : State) (n : Svc)
    (hCaptionLoss : SvcCond.captionLoss ∈ C) (hCaptionIdle : SvcCond.captionIdle ∈ C) :
    LivesKept C p (s.flyAdvance n).panel ↔ LivesKept C p s.panel := by
  unfold State.flyAdvance
  (repeat' split) <;> simp [hCaptionLoss, hCaptionIdle]

@[simp] theorem State.enterFlywheel_lives (s : State) (n : Svc) (due : Nat)
    (hFeedLoss : SvcCond.feedLoss ∈ C) (hCaptionLoss : SvcCond.captionLoss ∈ C) (hCaptionIdle : SvcCond.captionIdle ∈ C) :
    LivesKept C p (s.enterFlywheel n due).panel ↔ LivesKept C p s.panel := by
  simp [State.enterFlywheel, hFeedLoss, hCaptionLoss, hCaptionIdle]

@[simp] theorem State.leaveFlywheel_lives (s : State) (n : Svc)
    (hFeedLoss : SvcCond.feedLoss ∈ C) :
    LivesKept C p (s.leaveFlywheel n).panel ↔ LivesKept C p s.panel := by
  unfold State.leaveFlywheel
  (repeat' split) <;> simp [hFeedLoss]

@[simp] theorem State.seedTime_lives (s : State) (n : Svc) (u : Nat)
    (hCaptionLoss : SvcCond.captionLoss ∈ C) (hCaptionIdle : SvcCond.captionIdle ∈ C) :
    LivesKept C p (s.seedTime n u).panel ↔ LivesKept C p s.panel := by
  simp [State.seedTime, hCaptionLoss, hCaptionIdle]

@[simp] theorem State.jumpTo_lives (s : State) (n : Svc) (u : Nat)
    (hCaptionLoss : SvcCond.captionLoss ∈ C) (hCaptionIdle : SvcCond.captionIdle ∈ C) :
    LivesKept C p (s.jumpTo n u).panel ↔ LivesKept C p s.panel := by
  simp [State.jumpTo, hCaptionLoss, hCaptionIdle]

@[simp] theorem State.judgeStamp_lives (s : State) (n : Svc) (u : Nat)
    (hCaptionLoss : SvcCond.captionLoss ∈ C) (hCaptionIdle : SvcCond.captionIdle ∈ C) :
    LivesKept C p (s.judgeStamp n u).panel ↔ LivesKept C p s.panel := by
  unfold State.judgeStamp
  (repeat' split) <;> simp [hCaptionLoss, hCaptionIdle]

@[simp] theorem State.applyStamp_lives (s : State) (n : Svc) (u : Nat)
    (hFeedLoss : SvcCond.feedLoss ∈ C) (hCaptionLoss : SvcCond.captionLoss ∈ C) (hCaptionIdle : SvcCond.captionIdle ∈ C) :
    LivesKept C p (s.applyStamp n u).panel ↔ LivesKept C p s.panel := by
  unfold State.applyStamp
  (repeat' split) <;> simp [hFeedLoss, hCaptionLoss, hCaptionIdle]

@[simp] theorem State.judgeRate_lives (s : State) (n : Svc) (code : BitVec 16) :
    LivesKept C p (s.judgeRate n code).panel ↔ LivesKept C p s.panel := by
  unfold State.judgeRate
  (repeat' split) <;> simp

@[simp] theorem State.takeFrame_lives (s : State) (n : Svc) (u : Nat) (code : BitVec 16)
    (hFeedLoss : SvcCond.feedLoss ∈ C) (hCaptionLoss : SvcCond.captionLoss ∈ C) (hCaptionIdle : SvcCond.captionIdle ∈ C) :
    LivesKept C p (s.takeFrame n u code).panel ↔ LivesKept C p s.panel := by
  simp [State.takeFrame, hFeedLoss, hCaptionLoss, hCaptionIdle]

@[simp] theorem State.takeLoss_lives (s : State) (n : Svc) (late : Bool)
    (hFeedLoss : SvcCond.feedLoss ∈ C) (hCaptionLoss : SvcCond.captionLoss ∈ C) (hCaptionIdle : SvcCond.captionIdle ∈ C) :
    LivesKept C p (s.takeLoss n late).panel ↔ LivesKept C p s.panel := by
  unfold State.takeLoss
  dsimp only
  (repeat' split) <;> simp [hFeedLoss, hCaptionLoss, hCaptionIdle]

@[simp] theorem State.lossTimerOut_lives (s : State) (n : Svc)
    (hFeedLoss : SvcCond.feedLoss ∈ C) (hCaptionLoss : SvcCond.captionLoss ∈ C) (hCaptionIdle : SvcCond.captionIdle ∈ C) :
    LivesKept C p (s.lossTimerOut n).panel ↔ LivesKept C p s.panel := by
  unfold State.lossTimerOut
  (repeat' split) <;> simp [hFeedLoss, hCaptionLoss, hCaptionIdle]

@[simp] theorem State.frameTimerDue_lives (s : State) (n : Svc)
    (hCaptionLoss : SvcCond.captionLoss ∈ C) (hCaptionIdle : SvcCond.captionIdle ∈ C) :
    LivesKept C p (s.frameTimerDue n).panel ↔ LivesKept C p s.panel := by
  unfold State.frameTimerDue
  (repeat' split) <;> simp [hCaptionLoss, hCaptionIdle]

@[simp] theorem State.cueSlot_lives (s : State) (n : Svc) (kind : CueKind) (k : Slot) :
    LivesKept C p (s.cueSlot n kind k).panel ↔ LivesKept C p s.panel := by
  unfold State.cueSlot
  (repeat' split) <;> simp

@[simp] theorem State.takeCue_lives (s : State) (n : Svc) (id : BitVec 16) (kind : CueKind)
    (hCaptionLoss : SvcCond.captionLoss ∈ C) (hCaptionIdle : SvcCond.captionIdle ∈ C) :
    LivesKept C p (s.takeCue n id kind).panel ↔ LivesKept C p s.panel := by
  unfold State.takeCue
  (repeat' split) <;> simp [hCaptionLoss, hCaptionIdle]

@[simp] theorem State.takeCaption_lives (s : State) (n : Svc) (page : Byte) (lang : Lang) (kind : CaptionKind)
    (seq : Byte)
    (hCaptionLoss : SvcCond.captionLoss ∈ C) (hCaptionIdle : SvcCond.captionIdle ∈ C) :
    LivesKept C p (s.takeCaption n page lang kind seq).panel ↔ LivesKept C p s.panel := by
  unfold State.takeCaption
  (repeat' split) <;> simp [hCaptionLoss, hCaptionIdle]

@[simp] theorem State.takeClips_lives (s : State) (n : Svc) (raw : List (Option (BitVec 24))) :
    LivesKept C p (s.takeClips n raw).panel ↔ LivesKept C p s.panel := by
  simp [State.takeClips]

@[simp] theorem State.judgeSilence_lives (s : State) (n : Svc) (lv : Int)
    (hAudioSilence : SvcCond.audioSilence ∈ C) :
    LivesKept C p (s.judgeSilence n lv).panel ↔ LivesKept C p s.panel := by
  unfold State.judgeSilence
  (repeat' split) <;> simp [hAudioSilence]

@[simp] theorem State.rollingShort_lives (s : State) (n : Svc)
    (hAudioSilence : SvcCond.audioSilence ∈ C) :
    LivesKept C p (s.rollingShort n).panel ↔ LivesKept C p s.panel := by
  unfold State.rollingShort
  (repeat' split) <;> simp [hAudioSilence]

@[simp] theorem State.handLive_lives (s : State) (n : Svc) :
    LivesKept C p (s.handLive n).panel ↔ LivesKept C p s.panel := by
  unfold State.handLive
  (repeat' split) <;> simp [-State.modCond_service_panel]

@[simp] theorem State.dueWrite_lives (s : State) (n : Svc) :
    LivesKept C p (s.dueWrite n).panel ↔ LivesKept C p s.panel := by
  simp [State.dueWrite]

@[simp] theorem State.contextTake_lives (s : State) (n : Svc) (squares mags : List Nat) (c : CtxId) :
    LivesKept C p (s.contextTake n squares mags c).panel ↔ LivesKept C p s.panel := by
  simp [State.contextTake]

@[simp] theorem State.countBlock_lives (s : State) (n : Svc) :
    LivesKept C p (s.countBlock n).panel ↔ LivesKept C p s.panel := by
  simp [State.countBlock]

@[simp] theorem State.rollingTake_lives (s : State) (n : Svc) (squares : List Nat)
    (hAudioSilence : SvcCond.audioSilence ∈ C) :
    LivesKept C p (s.rollingTake n squares).1.panel ↔ LivesKept C p s.panel := by
  unfold State.rollingTake
  dsimp only
  split <;> simp [hAudioSilence]

@[simp] theorem State.takeAudio_lives (s : State) (n : Svc) (samples : Vector (BitVec 24) 16)
    (hAudioSilence : SvcCond.audioSilence ∈ C) :
    LivesKept C p (s.takeAudio n samples).panel ↔ LivesKept C p s.panel := by
  simp [State.takeAudio, hAudioSilence]

@[simp] theorem State.takeCountLimit_lives (s : State) (n : Svc) (k : Slot)
    (hCaptionLoss : SvcCond.captionLoss ∈ C) (hCaptionIdle : SvcCond.captionIdle ∈ C) :
    LivesKept C p (s.takeCountLimit n k).panel ↔ LivesKept C p s.panel := by
  unfold State.takeCountLimit
  (repeat' split) <;> simp [hCaptionLoss, hCaptionIdle]

@[simp] theorem State.countdownOut_lives (s : State) (n : Svc) :
    LivesKept C p (s.countdownOut n).panel ↔ LivesKept C p s.panel := by
  unfold State.countdownOut
  (repeat' split) <;> simp

@[simp] theorem State.writeTimerOut_lives (s : State) (n : Svc) :
    LivesKept C p (s.writeTimerOut n).panel ↔ LivesKept C p s.panel := by
  unfold State.writeTimerOut
  (repeat' split) <;> simp

@[simp] theorem State.livenessOut_lives (s : State) (n : Svc)
    (hCaptionLoss : SvcCond.captionLoss ∈ C) (hCaptionIdle : SvcCond.captionIdle ∈ C) :
    LivesKept C p (s.livenessOut n).panel ↔ LivesKept C p s.panel := by
  unfold State.livenessOut
  (repeat' split) <;> simp [hCaptionLoss, hCaptionIdle]

@[simp] theorem State.contentOut_lives (s : State) (n : Svc)
    (hCaptionLoss : SvcCond.captionLoss ∈ C) (hCaptionIdle : SvcCond.captionIdle ∈ C) :
    LivesKept C p (s.contentOut n).panel ↔ LivesKept C p s.panel := by
  unfold State.contentOut
  (repeat' split) <;> simp [hCaptionLoss, hCaptionIdle]

@[simp] theorem State.judgeUnit_lives (s : State) (n : Svc) (u : SpoolUnit) :
    LivesKept C p (s.judgeUnit n u).panel ↔ LivesKept C p s.panel := by
  unfold State.judgeUnit
  (repeat' split) <;> simp

@[simp] theorem State.takeChunk_lives (s : State) (n : Svc) (c : Chunk) :
    LivesKept C p (s.takeChunk n c).panel ↔ LivesKept C p s.panel := by
  unfold State.takeChunk
  (repeat' split) <;> simp

@[simp] theorem State.endLastBlock_lives (s : State) (n : Svc) (x : ExtId) (found write : Bool) :
    LivesKept C p (s.endLastBlock n x found write).panel ↔ LivesKept C p s.panel := by
  unfold State.endLastBlock
  (repeat' split) <;> simp

@[simp] theorem State.stepLastBlock_lives (s : State) (n : Svc) (x : ExtId) (rest : List ExtId) (found write : Bool) :
    LivesKept C p (s.stepLastBlock n x rest found write).panel ↔ LivesKept C p s.panel := by
  unfold State.stepLastBlock
  (repeat' split) <;> simp

@[simp] theorem State.startLastBlock_lives (s : State) (n : Svc) (x : ExtId) (write : Bool) :
    LivesKept C p (s.startLastBlock n x write).panel ↔ LivesKept C p s.panel := by
  simp [State.startLastBlock]

@[simp] theorem State.afterOpen_lives (s : State) (n : Svc) (x : ExtId) (write : Bool) :
    LivesKept C p (s.afterOpen n x write).panel ↔ LivesKept C p s.panel := by
  unfold State.afterOpen
  (repeat' split) <;> simp

@[simp] theorem State.takeViolation_lives (s : State) (n : Svc) (v : Capture)
    (hRecordFatal : SvcCond.recordFatal ∈ C) :
    LivesKept C p (s.takeViolation n v).panel ↔ LivesKept C p s.panel := by
  unfold State.takeViolation
  (repeat' split) <;> simp [hRecordFatal]

@[simp] theorem State.violate_lives (s : State) (n : Svc) (kind : ViolationKind) (x : Option ExtId)
    (hRecordFatal : SvcCond.recordFatal ∈ C) :
    LivesKept C p (s.violate n kind x).panel ↔ LivesKept C p s.panel := by
  simp [State.violate, hRecordFatal]

@[simp] theorem State.stepWalk_lives (s : State) (n : Svc) (retest overwrite : Bool) (rest : List ExtId)
    (hRecordFatal : SvcCond.recordFatal ∈ C) :
    LivesKept C p (s.stepWalk n retest overwrite rest).panel ↔ LivesKept C p s.panel := by
  unfold State.stepWalk
  (repeat' split) <;> simp [hRecordFatal]

@[simp] theorem State.walkRead_lives (s : State) (n : Svc) (retest overwrite : Bool) (x : ExtId) (rest : List ExtId)
    (d : Descriptor)
    (hRecordFatal : SvcCond.recordFatal ∈ C) :
    LivesKept C p (s.walkRead n retest overwrite x rest d).panel ↔ LivesKept C p s.panel := by
  unfold State.walkRead
  (repeat' split) <;> simp [hRecordFatal]

@[simp] theorem State.boundaryJudge_lives (s : State) (n : Svc) (x : ExtId) (resume : Bool) (d : Descriptor)
    (e : Extent) :
    LivesKept C p (s.boundaryJudge n x resume d e).panel ↔ LivesKept C p s.panel := by
  unfold State.boundaryJudge
  (repeat' split) <;> simp

@[simp] theorem State.boundaryRead_lives (s : State) (n : Svc) (x : ExtId) (resume : Bool) (d : Descriptor) :
    LivesKept C p (s.boundaryRead n x resume d).panel ↔ LivesKept C p s.panel := by
  simp [State.boundaryRead]

@[simp] theorem State.descriptorTaken_lives (s : State) (x : ExtId) (d : Descriptor)
    (hRecordFatal : SvcCond.recordFatal ∈ C) :
    LivesKept C p (s.descriptorTaken x d).panel ↔ LivesKept C p s.panel := by
  unfold State.descriptorTaken
  (repeat' split) <;> simp [hRecordFatal]

@[simp] theorem State.descriptorRead_lives (s : State) (x : ExtId) (d : Descriptor)
    (hRecordFatal : SvcCond.recordFatal ∈ C) :
    LivesKept C p (s.descriptorRead x d).panel ↔ LivesKept C p s.panel := by
  unfold State.descriptorRead
  (repeat' split) <;> simp [hRecordFatal]

@[simp] theorem State.walkFailed_lives (s : State) :
    LivesKept C p (s.walkFailed).panel ↔ LivesKept C p s.panel := by
  unfold State.walkFailed
  (repeat' split) <;> simp

@[simp] theorem State.descriptorReadFailed_lives (s : State) :
    LivesKept C p (s.descriptorReadFailed).panel ↔ LivesKept C p s.panel := by
  unfold State.descriptorReadFailed
  (repeat' split) <;> simp

@[simp] theorem State.updateEnded_lives (s : State) (x : ExtId) (ended : Bool) :
    LivesKept C p (s.updateEnded x ended).panel ↔ LivesKept C p s.panel := by
  unfold State.updateEnded
  (repeat' split) <;> simp

@[simp] theorem State.updateComplete_lives (s : State) (x : ExtId) :
    LivesKept C p (s.updateComplete x).panel ↔ LivesKept C p s.panel := by
  unfold State.updateComplete
  (repeat' split) <;> simp

@[simp] theorem State.updateFailed_lives (s : State) (x : ExtId) :
    LivesKept C p (s.updateFailed x).panel ↔ LivesKept C p s.panel := by
  unfold State.updateFailed
  (repeat' split) <;> simp

@[simp] theorem State.takeCaptureAck_lives (s : State) (n : Svc) (ack : BitVec 16)
    (hRecordFatal : SvcCond.recordFatal ∈ C) :
    LivesKept C p (s.takeCaptureAck n ack).panel ↔ LivesKept C p s.panel := by
  simp [State.takeCaptureAck, hRecordFatal]

@[simp] theorem State.refuseSheet_lives (s : State) (n : Svc) (rev : BitVec 32) (c : SheetCause) :
    LivesKept C p (s.refuseSheet n rev c).panel ↔ LivesKept C p s.panel := by
  simp [State.refuseSheet]

@[simp] theorem State.disable_lives (s : State) (n : Svc)
    (hFeedLoss : SvcCond.feedLoss ∈ C) (hCaptionLoss : SvcCond.captionLoss ∈ C) (hCaptionIdle : SvcCond.captionIdle ∈ C) :
    LivesKept C p (s.disable n).panel ↔ LivesKept C p s.panel := by
  simp [State.disable, hFeedLoss, hCaptionLoss, hCaptionIdle]

@[simp] theorem State.stopServiceReminders_lives (s : State) (n : Svc) :
    LivesKept C p (s.stopServiceReminders n).panel ↔ LivesKept C p s.panel := by
  simp [State.stopServiceReminders]

@[simp] theorem State.touchPriorities_lives (s : State) (n : Svc) (old : Sheet) :
    LivesKept C p (s.touchPriorities n old).panel ↔ LivesKept C p s.panel := by
  simp [State.touchPriorities]

@[simp] theorem State.adoptAlerting_lives (s : State) (n : Svc) (old new : Sheet) :
    LivesKept C p (s.adoptAlerting n old new).panel ↔ LivesKept C p s.panel := by
  simp [State.adoptAlerting]

@[simp] theorem State.handGroups_lives (s : State) (n : Svc) (old : Sheet)
    (hFeedLoss : SvcCond.feedLoss ∈ C) (hCaptionLoss : SvcCond.captionLoss ∈ C) (hCaptionIdle : SvcCond.captionIdle ∈ C) :
    LivesKept C p (s.handGroups n old).panel ↔ LivesKept C p s.panel := by
  simp [State.handGroups, hFeedLoss, hCaptionLoss, hCaptionIdle]

@[simp] theorem State.adoptSheet_lives (s : State) (n : Svc) (rev : BitVec 32) (body : List Byte)
    (hFeedLoss : SvcCond.feedLoss ∈ C) (hCaptionLoss : SvcCond.captionLoss ∈ C) (hCaptionIdle : SvcCond.captionIdle ∈ C) :
    LivesKept C p (s.adoptSheet n rev body).panel ↔ LivesKept C p s.panel := by
  simp [State.adoptSheet, hFeedLoss, hCaptionLoss, hCaptionIdle]

@[simp] theorem State.stage_lives (s : State) (n : Svc) (r : SheetRead)
    (hFeedLoss : SvcCond.feedLoss ∈ C) (hCaptionLoss : SvcCond.captionLoss ∈ C) (hCaptionIdle : SvcCond.captionIdle ∈ C) :
    LivesKept C p (s.stage n r).panel ↔ LivesKept C p s.panel := by
  unfold State.stage
  (repeat' split) <;> simp [hFeedLoss, hCaptionLoss, hCaptionIdle]

@[simp] theorem State.decideOne_lives (s : State) (excess : Bool) (read : Option SheetRead) (n : Svc)
    (hFeedLoss : SvcCond.feedLoss ∈ C) (hCaptionLoss : SvcCond.captionLoss ∈ C) (hCaptionIdle : SvcCond.captionIdle ∈ C) :
    LivesKept C p (s.decideOne excess read n).panel ↔ LivesKept C p s.panel := by
  unfold State.decideOne
  (repeat' split) <;> simp [hFeedLoss, hCaptionLoss, hCaptionIdle]

@[simp] theorem State.decideSheets_lives (s : State) (reads : Vector (Option SheetRead) 16)
    (hFeedLoss : SvcCond.feedLoss ∈ C) (hCaptionLoss : SvcCond.captionLoss ∈ C) (hCaptionIdle : SvcCond.captionIdle ∈ C) :
    LivesKept C p (s.decideSheets reads).panel ↔ LivesKept C p s.panel := by
  simp [State.decideSheets, hFeedLoss, hCaptionLoss, hCaptionIdle]

@[simp] theorem State.validCommand_lives (s : State) (n : Svc) (k : Slot) (cmd : Nat)
    (hCaptionLoss : SvcCond.captionLoss ∈ C) (hCaptionIdle : SvcCond.captionIdle ∈ C) :
    LivesKept C p (s.validCommand n k cmd).panel ↔ LivesKept C p s.panel := by
  unfold State.validCommand
  (repeat' split) <;> simp [hCaptionLoss, hCaptionIdle]

@[simp] theorem State.readCommandWord_lives (s : State) (n : Svc) (k : Slot) (w : BitVec 32)
    (hCaptionLoss : SvcCond.captionLoss ∈ C) (hCaptionIdle : SvcCond.captionIdle ∈ C) :
    LivesKept C p (s.readCommandWord n k w).panel ↔ LivesKept C p s.panel := by
  unfold State.readCommandWord State.onRead
  dsimp only
  (repeat' split) <;> simp [hCaptionLoss, hCaptionIdle]

@[simp] theorem State.firePassed_lives (s : State) (n : Svc) (k : Slot)
    (hCaptionLoss : SvcCond.captionLoss ∈ C) (hCaptionIdle : SvcCond.captionIdle ∈ C) :
    LivesKept C p (s.firePassed n k).panel ↔ LivesKept C p s.panel := by
  unfold State.firePassed
  (repeat' split) <;> simp [hCaptionLoss, hCaptionIdle]

@[simp] theorem State.settlePosting_lives (s : State) (n : Svc) (k : Slot) (posting : BitVec 16)
    (r : RefusalCause ⊕ Body)
    (hCaptionLoss : SvcCond.captionLoss ∈ C) (hCaptionIdle : SvcCond.captionIdle ∈ C) :
    LivesKept C p (s.settlePosting n k posting r).panel ↔ LivesKept C p s.panel := by
  unfold State.settlePosting
  (repeat' split) <;> simp [hCaptionLoss, hCaptionIdle]

@[simp] theorem State.validatePosting_lives (s : State) (n : Svc) (k : Slot) (bytes : List Byte)
    (hCaptionLoss : SvcCond.captionLoss ∈ C) (hCaptionIdle : SvcCond.captionIdle ∈ C) :
    LivesKept C p (s.validatePosting n k bytes).panel ↔ LivesKept C p s.panel := by
  unfold State.validatePosting
  (repeat' split) <;> simp [hCaptionLoss, hCaptionIdle]

@[simp] theorem State.handResult_lives (s : State) (o : Owner) (r : LoudResult) :
    LivesKept C p (s.handResult o r).panel ↔ LivesKept C p s.panel := by
  simp [State.handResult]

@[simp] theorem State.completeIntegration_lives (s : State) :
    LivesKept C p (s.completeIntegration).panel ↔ LivesKept C p s.panel := by
  unfold State.completeIntegration
  (repeat' split) <;> simp

@[simp] theorem State.schedUnlink_lives (s : State) (n : Svc)
    (hCaptionLoss : SvcCond.captionLoss ∈ C) (hCaptionIdle : SvcCond.captionIdle ∈ C) :
    LivesKept C p (s.schedUnlink n).panel ↔ LivesKept C p s.panel := by
  simp [State.schedUnlink, hCaptionLoss, hCaptionIdle]

@[simp] theorem State.schedFault_lives (s : State) (n : Svc)
    (hCaptionLoss : SvcCond.captionLoss ∈ C) (hCaptionIdle : SvcCond.captionIdle ∈ C) :
    LivesKept C p (s.schedFault n).panel ↔ LivesKept C p s.panel := by
  simp [State.schedFault, hCaptionLoss, hCaptionIdle]

@[simp] theorem State.linkSheets_lives (s : State) (reads : Vector (Option SheetRead) 16)
    (hFeedLoss : SvcCond.feedLoss ∈ C) (hCaptionLoss : SvcCond.captionLoss ∈ C) (hCaptionIdle : SvcCond.captionIdle ∈ C) :
    LivesKept C p (s.linkSheets reads).panel ↔ LivesKept C p s.panel := by
  simp [State.linkSheets, hFeedLoss, hCaptionLoss, hCaptionIdle]

@[simp] theorem State.linkStandings_lives (s : State)
    (hCaptionLoss : SvcCond.captionLoss ∈ C) (hCaptionIdle : SvcCond.captionIdle ∈ C) :
    LivesKept C p (s.linkStandings).panel ↔ LivesKept C p s.panel := by
  simp [State.linkStandings, hCaptionLoss, hCaptionIdle]

@[simp] theorem State.linkEntries_lives (s : State) :
    LivesKept C p (s.linkEntries).panel ↔ LivesKept C p s.panel := by
  have evaluated : ∀ t : State, t.evaluate.panel = t.panel := by simp
  have finished : s.finishStep.panel = s.panel := by simp
  rw [State.linkEntries, evaluated, State.startReminders_lives, State.modCtl_panel, State.dropOwed_lives, finished]

@[simp] theorem State.stopWrites_lives (s : State) :
    LivesKept C p (s.stopWrites).panel ↔ LivesKept C p s.panel := by
  have queues : ∀ (u : State) (f : Svc → LiveWrite → LiveWrite),
      (allServices.foldl (fun t n => t.modLive n (f n)) u).panel = u.panel :=
    fun u f => foldl_panel _ _ u fun _ _ => rfl
  simp [State.stopWrites, queues s fun n l => { l with queue := l.queue.filterMap (LiveItem.carry s n) }]

@[simp] theorem State.beginUnlink_lives (s : State)
    (hCaptionLoss : SvcCond.captionLoss ∈ C) (hCaptionIdle : SvcCond.captionIdle ∈ C) :
    LivesKept C p (s.beginUnlink).panel ↔ LivesKept C p s.panel := by
  simp [State.beginUnlink, hCaptionLoss, hCaptionIdle]

@[simp] theorem State.settleQueues_lives (s : State) :
    LivesKept C p (s.settleQueues).panel ↔ LivesKept C p s.panel := by
  simp [State.settleQueues]

@[simp] theorem State.settle_lives (s : State) :
    LivesKept C p (s.settle).panel ↔ LivesKept C p s.panel := by
  unfold State.settle
  (repeat' split) <;> simp

@[simp] theorem State.completeUnlink_lives (s : State)
    (hCaptionLoss : SvcCond.captionLoss ∈ C) (hCaptionIdle : SvcCond.captionIdle ∈ C) :
    LivesKept C p (s.completeUnlink).panel ↔ LivesKept C p s.panel := by
  unfold State.completeUnlink
  (repeat' split) <;> simp [hCaptionLoss, hCaptionIdle]

@[simp] theorem State.faultUnlink_lives (s : State)
    (hCaptionLoss : SvcCond.captionLoss ∈ C) (hCaptionIdle : SvcCond.captionIdle ∈ C) :
    LivesKept C p (s.faultUnlink).panel ↔ LivesKept C p s.panel := by
  have queues : ∀ (u : State) (f : LiveWrite → LiveWrite),
      (allServices.foldl (fun t n => t.modLive n f) u).panel = u.panel :=
    fun u f => foldl_panel _ _ u fun _ _ => rfl
  have closes : ∀ u : State, LivesKept C p (allServices.foldl (fun s n => s.schedFault n) u).panel ↔
      LivesKept C p u.panel :=
    fun u => LivesKept.foldl _ _ u fun v n => by simp [hCaptionLoss, hCaptionIdle]
  have mover : ∀ u : State, u.moverFault.panel = u.panel := by simp
  have alert : ∀ u : State, u.dropAlert.panel = u.panel := by simp
  rw [State.faultUnlink, State.modHeader_panel, queues, alert, State.dropOwed_lives, State.stopReminders_lives, mover,
    closes, State.modCtl_panel]

@[simp] theorem State.entryWriteLost_lives (s : State) (c : CondRef) :
    LivesKept C p (s.entryWriteLost c).panel ↔ LivesKept C p s.panel := by
  unfold State.entryWriteLost
  simp

@[simp] theorem State.entryWriteFailed_lives (s : State) (c : CondRef) :
    LivesKept C p (s.entryWriteFailed c).panel ↔ LivesKept C p s.panel := by
  unfold State.entryWriteFailed
  (repeat' split) <;> simp

@[simp] theorem State.failOwner_lives (s : State) (a : AccessRef) :
    LivesKept C p (s.failOwner a).panel ↔ LivesKept C p s.panel := by
  unfold State.failOwner
  (repeat' split) <;> simp

@[simp] theorem State.landCompleted_lives (s : State) (d : Completions) :
    LivesKept C p (s.landCompleted d).panel ↔ LivesKept C p s.panel := by
  unfold State.landCompleted
  (repeat' split) <;> simp

@[simp] theorem State.completed_lives (s : State) (d : Completions) :
    LivesKept C p (s.completed d).panel ↔ LivesKept C p s.panel := by
  simp [State.completed]

@[simp] theorem State.failFlying_lives (s : State) (a : AccessRef)
    (hCaptionLoss : SvcCond.captionLoss ∈ C) (hCaptionIdle : SvcCond.captionIdle ∈ C) :
    LivesKept C p (s.failFlying a).panel ↔ LivesKept C p s.panel := by
  simp [State.failFlying, hCaptionLoss, hCaptionIdle]

@[simp] theorem State.failAccess_lives (s : State) (a : AccessRef) (d : Completions)
    (hCaptionLoss : SvcCond.captionLoss ∈ C) (hCaptionIdle : SvcCond.captionIdle ∈ C) :
    LivesKept C p (s.failAccess a d).panel ↔ LivesKept C p s.panel := by
  unfold State.failAccess
  (repeat' split) <;> simp [hCaptionLoss, hCaptionIdle]

@[simp] theorem State.linkStep_lives (s : State) (r : LinkReport)
    (hFeedLoss : SvcCond.feedLoss ∈ C) (hCaptionLoss : SvcCond.captionLoss ∈ C) (hCaptionIdle : SvcCond.captionIdle ∈ C) :
    LivesKept C p (s.linkStep r).panel ↔ LivesKept C p s.panel := by
  unfold State.linkStep
  (repeat' split) <;> simp [hFeedLoss, hCaptionLoss, hCaptionIdle]

@[simp] theorem State.commandUnlink_lives (s : State)
    (hCaptionLoss : SvcCond.captionLoss ∈ C) (hCaptionIdle : SvcCond.captionIdle ∈ C) :
    LivesKept C p (s.commandUnlink).panel ↔ LivesKept C p s.panel := by
  simp [State.commandUnlink, hCaptionLoss, hCaptionIdle]

@[simp] theorem State.idle_lives (s : State) :
    LivesKept C p (s.idle).panel ↔ LivesKept C p s.panel := by
  unfold State.idle
  (repeat' split) <;> simp

@[simp] theorem State.captureAckRead_lives (s : State) (n : Svc) (ack : BitVec 16)
    (hRecordFatal : SvcCond.recordFatal ∈ C) :
    LivesKept C p (s.captureAckRead n ack).panel ↔ LivesKept C p s.panel := by
  unfold State.captureAckRead State.onRead
  dsimp only
  (repeat' split) <;> simp [hRecordFatal]

@[simp] theorem State.ackRead_lives (s : State) (c : CondRef) (ack : BitVec 16) :
    LivesKept C p (s.ackRead c ack).panel ↔ LivesKept C p s.panel := by
  have taken : ∀ e, (CondEntry.takeAck ack e).live = e.live := by simp [CondEntry.takeAck]
  unfold State.ackRead State.onRead
  (repeat' split) <;> simp [taken]

@[simp] theorem State.reminderOut_lives (s : State) (r : CondRef) :
    LivesKept C p (s.reminderOut r).panel ↔ LivesKept C p s.panel := by
  unfold State.reminderOut
  (repeat' split) <;> simp

@[simp] theorem State.alertWritten_lives (s : State) :
    LivesKept C p (s.alertWritten).panel ↔ LivesKept C p s.panel := by
  unfold State.alertWritten
  (repeat' split) <;> simp

@[simp] theorem State.sheetRead_lives (s : State) (n : Svc) (r : SheetRead)
    (hFeedLoss : SvcCond.feedLoss ∈ C) (hCaptionLoss : SvcCond.captionLoss ∈ C) (hCaptionIdle : SvcCond.captionIdle ∈ C) :
    LivesKept C p (s.sheetRead n r).panel ↔ LivesKept C p s.panel := by
  unfold State.sheetRead State.onRead
  dsimp only
  (repeat' split) <;> simp [hFeedLoss, hCaptionLoss, hCaptionIdle]

@[simp] theorem State.raiseLoad_lives (s : State) (n : Svc) :
    LivesKept C p (s.raiseLoad n).panel ↔ LivesKept C p s.panel := by
  unfold State.raiseLoad
  (repeat' split) <;> simp

end

end Sys2Proof.Machine

namespace Sys2Proof.Machine

/-! ### The Feed Receiver record under the operations of its lane (R2, R6 to R14) -/

@[simp] theorem State.advanceTo_feed_own (s : State) (n : Svc) (c : FireCause) (t : Nat) :
    (s.advanceTo n c t).feed[n.val] = { s.feed[n.val] with time := t } := by
  simp [State.advanceTo]

/-- R8 to R10, R13: what a stamp does to the lock state and the service time. -/
def Feed.judged (t : Nat) (f : Feed) : Feed :=
  if f.time < t then { f with lock := .locked, time := t } else { f with lock := .held }

@[simp] theorem State.judgeStamp_feed_own (s : State) (n : Svc) (t : Nat) :
    (s.judgeStamp n t).feed[n.val] = s.feed[n.val].judged t := by
  rcases Nat.lt_trichotomy t (s.feed[n.val].time + 1) with back | next | beyond
  · have notNext : t ≠ s.feed[n.val].time + 1 := by omega
    have notBeyond : ¬ s.feed[n.val].time + 1 < t := by omega
    have notLater : ¬ s.feed[n.val].time < t := by omega
    by_cases held : s.feed[n.val].lock = .held
    · have same : { s.feed[n.val] with lock := .held } = s.feed[n.val] := by rw [← held]
      simp [State.judgeStamp, Feed.judged, notNext, notBeyond, notLater, held, same]
    · simp [State.judgeStamp, Feed.judged, notNext, notBeyond, notLater, held]
  · simp [State.judgeStamp, Feed.judged, next]
  · have notNext : t ≠ s.feed[n.val].time + 1 := by omega
    have later : s.feed[n.val].time < t := by omega
    simp [State.judgeStamp, State.jumpTo, Feed.judged, notNext, beyond, later]

/-- R7 to R13: what a FRAME's stamp does to the record, under a sheet's enable and rate. -/
def Feed.stamped (enable : Bool) (rate t : Nat) (f : Feed) : Feed :=
  match f.lock with
  | .seeking => if enable then { f with lock := .locked, time := t, lossTimer := some rate } else f
  | .flywheel => { f.judged t with lossTimer := some rate, frameTimer := none }
  | _ => { f.judged t with lossTimer := some rate }

@[simp] theorem State.seedTime_feed_own (s : State) (n : Svc) (t : Nat) :
    (s.seedTime n t).feed[n.val] = { s.feed[n.val] with lock := .locked, time := t } := by
  simp [State.seedTime]

@[simp] theorem State.leaveFlywheel_feed_own (s : State) (n : Svc) :
    (s.leaveFlywheel n).feed[n.val] =
      if s.feed[n.val].lock = .flywheel then { s.feed[n.val] with frameTimer := none } else s.feed[n.val] := by
  unfold State.leaveFlywheel
  simp only [Fin.getElem_fin]
  split <;> simp

@[simp] theorem State.reloadLoss_feed_own (s : State) (n : Svc) :
    (s.reloadLoss n).feed[n.val] = { s.feed[n.val] with lossTimer := some (s.sheetOf n).rate } := by
  simp [State.reloadLoss]

@[simp] theorem State.applyStamp_feed_own (s : State) (n : Svc) (t : Nat) :
    (s.applyStamp n t).feed[n.val] = s.feed[n.val].stamped (s.sheetOf n).enable (s.sheetOf n).rate t := by
  cases lock : s.feed[n.val].lock with
  | seeking =>
    by_cases enabled : (s.sheetOf n).enable = true
    · simp [State.applyStamp, Feed.stamped, lock, enabled]
      simp [State.sheetOf]
    · simp [State.applyStamp, Feed.stamped, lock, enabled]
  | locked => simp [State.applyStamp, Feed.stamped, lock, State.sheetOf]
  | held => simp [State.applyStamp, Feed.stamped, lock, State.sheetOf]
  | flywheel =>
    simp only [State.applyStamp, Feed.stamped, lock, Fin.getElem_fin, State.reloadLoss_feed_own, Feed.judged,
      State.judgeStamp_feed_own, State.leaveFlywheel_feed_own, ↓reduceIte]
    split <;> simp [State.sheetOf]

@[simp] theorem State.judgeRate_feed_own (s : State) (n : Svc) (code : BitVec 16) :
    (s.judgeRate n code).feed[n.val] =
      { s.feed[n.val] with mismatch := decide (code.toNat ≠ (s.sheetOf n).rate), lastRate := some code } := by
  unfold State.judgeRate
  dsimp only
  split
  · next h => simp [h]
  · next h => split <;> simp [h]

@[simp] theorem State.applyStamp_sheetOf (s : State) (n m : Svc) (t : Nat) : (s.applyStamp n t).sheetOf m =
    s.sheetOf m := by
  simp [State.sheetOf]

/-- R2 to R14: what a FRAME does to its service's Feed Receiver record. -/
def Feed.framed (enable : Bool) (rate t : Nat) (code : BitVec 16) (f : Feed) : Feed :=
  { { f with lineDown := false }.stamped enable rate t with
    mismatch := decide (code.toNat ≠ rate), lastRate := some code, received := f.received + 1 }

theorem Feed.stamped_received (enable : Bool) (rate t : Nat) (f : Feed) :
    (f.stamped enable rate t).received = f.received := by
  unfold Feed.stamped Feed.judged
  repeat' split <;> try rfl

@[simp] theorem State.takeFrame_feed_own (s : State) (n : Svc) (t : Nat) (code : BitVec 16) :
    (s.takeFrame n t code).feed[n.val] = s.feed[n.val].framed (s.sheetOf n).enable (s.sheetOf n).rate t code := by
  have sheet : (s.modFeed n fun f => { f with lineDown := false }).sheetOf n = s.sheetOf n := by simp [State.sheetOf]
  simp [State.takeFrame, sheet, Feed.framed, Feed.stamped_received]

/-- R13: what one flywheel advance does to the record. -/
def Feed.flown (f : Feed) : Feed :=
  if f.time < Config.timeMax then { f with time := f.time + 1, advances := f.advances + 1 } else f

@[simp] theorem State.flyAdvance_feed_own (s : State) (n : Svc) : (s.flyAdvance n).feed[n.val] = s.feed[n.val].flown :=
    by
  unfold State.flyAdvance Feed.flown
  simp only [Fin.getElem_fin]
  split <;> simp

end Sys2Proof.Machine

namespace Sys2Proof.Machine

/-! ### Docket list entries under the operations of a segment event (R77, R87 to R98) -/

theorem State.entry_of_sched {s t : State} (h : t.sched = s.sched) (n : Svc) (k : Slot) : t.entry n k = s.entry n k :=
    by
  simp [State.entry, h]

theorem State.modEntry_get (s : State) (n : Svc) (k j : Slot) (f : Entry → Entry) :
    (s.modEntry n k f).entry n j = if j = k then f (s.entry n k) else s.entry n j := by
  split
  · next h => subst h; simp
  · next h => exact s.modEntry_entry_ne n n k j f (.inr h)

/-- A change of a service's Scheduler that keeps its entries. -/
theorem State.modSched_entry (s : State) (n m : Svc) (k : Slot) (f : Sched → Sched)
    (hf : ∀ c, (f c).entries = c.entries) : (s.modSched n f).entry m k = s.entry m k := by
  by_cases h : m = n
  · subst h; simp [State.entry, hf]
  · simp [State.entry, h]

/-! #### A fold over places -/

/-- A fold over places whose step for a place changes no other one, read at place j. -/
theorem foldl_at {ι σ β : Type} [DecidableEq ι] (get : σ → ι → β) (g : β → β) (f : σ → ι → σ)
    (own : ∀ u k, get (f u k) k = g (get u k)) (other : ∀ u k j, j ≠ k → get (f u k) j = get u j) (j : ι) :
    ∀ (l : List ι) (u : σ), l.Nodup → get (l.foldl f u) j = if j ∈ l then g (get u j) else get u j
  | [], u, _ => by simp
  | k :: l, u, h => by
    obtain ⟨hk, hl⟩ := List.nodup_cons.mp h
    rw [List.foldl_cons, foldl_at get g f own other j l _ hl]
    by_cases hj : j = k
    · subst hj; simp [hk, own]
    · simp [hj, other u k j hj]

theorem allSlots_nodup : allSlots.Nodup := List.nodup_finRange 24

/-- What a change of every entry that meets a test leaves of an entry. -/
theorem State.modEntriesWhere_entry (s : State) (n : Svc) (p : Entry → Bool) (f : Entry → Entry) (k : Slot) :
    (s.modEntriesWhere n p f).entry n k = if p (s.entry n k) then f (s.entry n k) else s.entry n k := by
  have fold := foldl_at (fun u j => State.entry u n j) (fun e => if p e then f e else e)
    (fun u j => if p (u.entry n j) then u.modEntry n j f else u)
    (fun u j => by split <;> simp)
    (fun u j i h => by split <;> simp [State.modEntry_get, h]) k allSlots s allSlots_nodup
  simpa [State.modEntriesWhere] using fold

theorem State.modTallies_entry (s : State) (n : Svc) (f : Tally → Tally) (k : Slot) :
    (s.modTallies n f).entry n k =
      if (s.entry n k).counting then { s.entry n k with tally := f (s.entry n k).tally } else s.entry n k :=
  s.modEntriesWhere_entry n Entry.counting _ k

theorem State.flagOpen_entry (s : State) (n : Svc) (f : VerdictFlags) (k : Slot) :
    (s.flagOpen n f).entry n k =
      if (s.entry n k).state = .opened then { s.entry n k with flags := (s.entry n k).flags.union f } else s.entry n k := by
  simp [State.flagOpen, State.modEntriesWhere_entry]

/-! #### Pauses and resumes (R94) -/

/-- An entry whose tally's pause and whose PAUSED flag have been set. -/
def Entry.adjusted (paused flag : Bool) (e : Entry) : Entry :=
  { e with tally := { e.tally with paused := paused }, flags := { e.flags with paused := flag } }

/-- What pauses and resumes in the outer layer can do to an entry: an OPEN one is adjusted, another is as before. -/
def Entry.Adjusts (e e' : Entry) : Prop :=
  e' = e ∨ e.state = .opened ∧ ∃ p q, e' = e.adjusted p q

theorem Entry.Adjusts.refl (e : Entry) : e.Adjusts e := .inl rfl

theorem Entry.Adjusts.trans {e e' e'' : Entry} (h : e.Adjusts e') (g : e'.Adjusts e'') : e.Adjusts e'' := by
  obtain rfl | ⟨ho, p, q, rfl⟩ := h
  · exact g
  · obtain rfl | ⟨-, p', q', rfl⟩ := g
    · exact .inr ⟨ho, p, q, rfl⟩
    · exact .inr ⟨ho, p', q', rfl⟩

theorem Entry.Adjusts.eq_of_not_open {e e' : Entry} (h : e.Adjusts e') (ho : e.state ≠ .opened) : e' = e := by
  obtain h | ⟨ho', -⟩ := h
  · exact h
  · exact absurd ho' ho

/-- Every entry of a service is adjusted or as before. -/
def AllAdjust (n : Svc) (s t : State) : Prop := ∀ k, (s.entry n k).Adjusts (t.entry n k)

theorem AllAdjust.refl (n : Svc) (s : State) : AllAdjust n s s := fun _ => .refl _

theorem AllAdjust.trans {n : Svc} {s t u : State} (h : AllAdjust n s t) (g : AllAdjust n t u) : AllAdjust n s u :=
  fun k => (h k).trans (g k)

theorem AllAdjust.of_sched {n : Svc} {s t : State} (h : t.sched = s.sched) : AllAdjust n s t :=
  fun k => .inl (State.entry_of_sched h n k)

theorem State.modContextOf_sched (s : State) (e : Entry) (f : Context → Context) : (s.modContextOf e f).sched =
    s.sched := by
  simp

theorem State.forOpen_adjusts (s : State) (n : Svc) (l : Layer) (f : State → Slot → State)
    (hf : ∀ u k, (u.entry n k).state = .opened → AllAdjust n u (f u k)) : AllAdjust n s (s.forOpen n l f) := by
  refine foldl_keeps (AllAdjust n s) _ (fun u k h => ?_) allSlots s (.refl n s)
  split
  · next ho =>
    have hopen : (u.entry n k).state = .opened := by
      simp only [State.standsOpen, Bool.and_eq_true, decide_eq_true_eq] at ho
      exact ho.1
    exact h.trans (hf u k hopen)
  · exact h

theorem State.pauseSegment_adjusts (s : State) (n : Svc) (k : Slot) (ho : (s.entry n k).state = .opened) :
    AllAdjust n s (State.pauseSegment n s k) := by
  intro j
  unfold State.pauseSegment
  split
  · exact .refl _
  · rw [State.modEntry_get]
    have same := fun i => State.entry_of_sched (s.modContextOf_sched (s.entry n k) Context.pause) n i
    split
    · next h =>
      subst h
      rw [same]
      exact .inr ⟨ho, _, true, by simp [Entry.adjusted, VerdictFlags.union, VerdictFlags.ofPaused, VerdictFlags.none]; rfl⟩
    · exact .inl (same j)

theorem State.resumeSegment_adjusts (s : State) (n : Svc) (k : Slot) (ho : (s.entry n k).state = .opened) :
    AllAdjust n s (State.resumeSegment n s k) := by
  intro j
  unfold State.resumeSegment
  rw [State.modEntry_get]
  have same := fun i => State.entry_of_sched (s.modContextOf_sched (s.entry n k) Context.resume) n i
  split
  · next h =>
    subst h
    rw [same]
    exact .inr ⟨ho, false, _, rfl⟩
  · exact .inl (same j)

theorem State.pauseOuter_adjusts (s : State) (n : Svc) : AllAdjust n s (s.pauseOuter n) :=
  s.forOpen_adjusts n .outer _ fun u k ho => u.pauseSegment_adjusts n k ho

theorem State.resumeOuter_adjusts (s : State) (n : Svc) : AllAdjust n s (s.resumeOuter n) := by
  unfold State.resumeOuter
  split
  · exact .refl n s
  · exact s.forOpen_adjusts n .outer _ fun u k ho => u.resumeSegment_adjusts n k ho

end Sys2Proof.Machine

namespace Sys2Proof.Machine

/-! #### Slot writes handed (R77) -/

/-- A write handed for a slot while the controller carries writes. -/
def Entry.hand (carries : Bool) (w : SlotContent) (e : Entry) : Entry := if carries then e.push w else e

theorem Entry.push_cases (e : Entry) (w : SlotContent) :
    ∃ ws handed, e.push w = { e with writes := ws, handed := handed } := by
  unfold Entry.push
  split
  · exact ⟨_, _, rfl⟩
  · split
    · exact ⟨_, _, rfl⟩
    · exact ⟨_, e.handed, rfl⟩

/-- A write handed changes the slot's writes and nothing else of the entry. -/
theorem Entry.hand_cases (carries : Bool) (w : SlotContent) (e : Entry) :
    ∃ ws handed, e.hand carries w = { e with writes := ws, handed := handed } := by
  unfold Entry.hand
  split
  · exact e.push_cases w
  · exact ⟨_, _, rfl⟩

section
variable (carries : Bool) (w : SlotContent) (e : Entry)

@[simp] theorem Entry.hand_posting : (e.hand carries w).posting = e.posting := by
  obtain ⟨_, _, h⟩ := e.hand_cases carries w; rw [h]
@[simp] theorem Entry.hand_state : (e.hand carries w).state = e.state := by
  obtain ⟨_, _, h⟩ := e.hand_cases carries w; rw [h]
@[simp] theorem Entry.hand_body : (e.hand carries w).body = e.body := by
  obtain ⟨_, _, h⟩ := e.hand_cases carries w; rw [h]
@[simp] theorem Entry.hand_snapshot : (e.hand carries w).snapshot = e.snapshot := by
  obtain ⟨_, _, h⟩ := e.hand_cases carries w; rw [h]
@[simp] theorem Entry.hand_context : (e.hand carries w).context = e.context := by
  obtain ⟨_, _, h⟩ := e.hand_cases carries w; rw [h]
@[simp] theorem Entry.hand_tally : (e.hand carries w).tally = e.tally := by
  obtain ⟨_, _, h⟩ := e.hand_cases carries w; rw [h]
@[simp] theorem Entry.hand_units : (e.hand carries w).units = e.units := by
  obtain ⟨_, _, h⟩ := e.hand_cases carries w; rw [h]
@[simp] theorem Entry.hand_flags : (e.hand carries w).flags = e.flags := by
  obtain ⟨_, _, h⟩ := e.hand_cases carries w; rw [h]
@[simp] theorem Entry.hand_openStamp : (e.hand carries w).openStamp = e.openStamp := by
  obtain ⟨_, _, h⟩ := e.hand_cases carries w; rw [h]
@[simp] theorem Entry.hand_closeStamp : (e.hand carries w).closeStamp = e.closeStamp := by
  obtain ⟨_, _, h⟩ := e.hand_cases carries w; rw [h]
@[simp] theorem Entry.hand_dropped : (e.hand carries w).dropped = e.dropped := by
  obtain ⟨_, _, h⟩ := e.hand_cases carries w; rw [h]

end

theorem State.pushWrite_entry (s : State) (n : Svc) (k j : Slot) (w : SlotContent) :
    (s.pushWrite n k w).entry n j = if j = k then (s.entry n k).hand s.carries w else s.entry n j := by
  unfold State.pushWrite Entry.hand
  split
  · exact s.modEntry_get n k j _
  · split
    · next h => rw [h]
    · rfl

theorem State.writeStanding_entry (s : State) (n : Svc) (k j : Slot) :
    (s.writeStanding n k).entry n j =
      if j = k then (s.entry n k).hand s.carries (.standing (s.entry n k).state (s.entry n k).posting) else s.entry n j :=
  s.pushWrite_entry n k j _

/-! #### The end of a segment (R96, R106) -/

/-- R98: an entry whose verdict v has been delivered. -/
def Entry.delivered (carries : Bool) (v : Verdict) (e : Entry) : Entry :=
  { e.hand carries (.verdict v) with state := .closed }.hand carries (.standing .closed e.posting)

/-- R96 step 6, R106: what the close of a docket hands and what becomes of an entry without a context. -/
def Entry.announced (carries : Bool) (e : Entry) : Entry :=
  if e.context.isSome then e.hand carries (.standing e.state e.posting)
  else if carries then
    match e.body, e.snapshot with
    | some b, some sn => e.delivered true (e.assemble b sn noMeterResult)
    | _, _ => e
  else e

/-- R96: an entry whose segment closes at a time, with the flags its cause adds. -/
def Entry.closedAt (carries : Bool) (now : Nat) (add : VerdictFlags) (e : Entry) : Entry :=
  { e with state := .closing, closeStamp := some now, flags := e.flags.union add }.announced carries

theorem State.raiseVerdict_sched (s : State) (n : Svc) (v : Verdict) : (s.raiseVerdict n v).sched = s.sched := by simp

theorem State.deliverVerdict_entry (s : State) (n : Svc) (k j : Slot) (v : Verdict) :
    (s.deliverVerdict n k v).entry n j = if j = k then (s.entry n k).delivered s.carries v else s.entry n j := by
  unfold State.deliverVerdict
  dsimp only
  rw [State.modSched_entry (hf := by simp), State.entry_of_sched (State.raiseVerdict_sched _ n v),
    State.writeStanding_entry, State.modEntry_get, State.modEntry_get, State.pushWrite_entry, State.pushWrite_entry]
  have same : ((s.pushWrite n k (.verdict v)).modEntry n k fun e => { e with state := .closed }).carries = s.carries :=
      by
    simp [State.carries]
  by_cases h : j = k
  · simp [h, same, Entry.delivered]
  · simp [h]

theorem State.finishVerdict_entry (s : State) (n : Svc) (k j : Slot) (loud : LoudResult) :
    (s.finishVerdict n k loud).entry n j =
      if j = k then
        match (s.entry n k).body, (s.entry n k).snapshot with
        | some b, some sn => (s.entry n k).delivered s.carries ((s.entry n k).assemble b sn loud)
        | _, _ => s.entry n k
      else s.entry n j := by
  unfold State.finishVerdict
  cases hb : (s.entry n k).body <;> cases hsn : (s.entry n k).snapshot
  case some.some b sn => simpa [hb, hsn] using s.deliverVerdict_entry n k j _
  all_goals
    by_cases h : j = k
    · simp [h]
    · simp [h]

theorem State.announceClose_entry (s : State) (n : Svc) (k j : Slot) :
    (s.announceClose n k (s.entry n k).context.isSome).entry n j =
      if j = k then (s.entry n k).announced s.carries else s.entry n j := by
  unfold State.announceClose Entry.announced
  split
  · exact s.writeStanding_entry n k j
  · split
    · next h =>
      rw [State.finishVerdict_entry, h]
    · split
      · next h => rw [h]
      · rfl

end Sys2Proof.Machine

namespace Sys2Proof.Machine

theorem State.closeContextOf_sched (s : State) (n : Svc) (e : Entry) (cls : SegClass) :
    (s.closeContextOf n e cls).sched = s.sched := by simp

theorem State.markEnd_sched (s : State) (n : Svc) (k : Slot) (b : Body) : (s.markEnd n k b).sched = s.sched := by simp

theorem State.leaveLayer_entry (s : State) (n : Svc) (l : Layer) (k j : Slot) :
    (s.leaveLayer n l k).entry n j = s.entry n j := by
  unfold State.leaveLayer
  split
  · exact State.modSched_entry _ _ _ _ _ fun c => by cases l <;> rfl
  · rfl

/-- R96 step 1: an entry whose segment closes at a time. -/
def Entry.leaving (now : Nat) (add : VerdictFlags) (e : Entry) : Entry :=
  { e with state := .closing, closeStamp := some now, flags := e.flags.union add }

/-- R96 steps 1 to 3: the segment has left its layer, and what it had paused is resumed. -/
def State.afterLeaving (s : State) (n : Svc) (k : Slot) (b : Body) (e : Entry) (add : VerdictFlags) : State :=
  let t := s.modEntry n k (Entry.leaving s.feed[n].time add)
  let t := (t.closeContextOf n e b.cls).leaveLayer n b.cls.layer k
  if b.cls.layer = .inner then t.resumeOuter n else t

theorem State.closeSegment_open {s : State} {n : Svc} {k : Slot} {b : Body} (ho : (s.entry n k).state = .opened)
    (hb : (s.entry n k).body = some b) (add : VerdictFlags) :
    s.closeSegment n k add =
      ((s.afterLeaving n k b (s.entry n k) add).markEnd n k b).announceClose n k (s.entry n k).context.isSome := by
  unfold State.closeSegment
  simp only [ho, hb]
  rfl

theorem State.closeSegment_idle {s : State} {n : Svc} {k : Slot}
    (h : (s.entry n k).state ≠ .opened ∨ (s.entry n k).body = none)
    (add : VerdictFlags) : s.closeSegment n k add = s := by
  unfold State.closeSegment
  dsimp only
  split
  · next hs hb => simp [hs, hb] at h
  · rfl

/-- After the segment of slot k has left its layer its entry is CLOSING, and the others are adjusted or as before. -/
theorem State.afterLeaving_adjusts (s : State) (n : Svc) (k j : Slot) (b : Body) (e : Entry) (add : VerdictFlags) :
    ((s.modEntry n k (Entry.leaving s.feed[n].time add)).entry n j).Adjusts ((s.afterLeaving n k b e add).entry n j) := by
  have left : ∀ u : State, ((u.closeContextOf n e b.cls).leaveLayer n b.cls.layer k).entry n j = u.entry n j :=
      fun u => by
    rw [State.leaveLayer_entry, State.entry_of_sched (u.closeContextOf_sched n e b.cls)]
  have resumed : ∀ u : State, (u.entry n j).Adjusts ((if b.cls.layer = .inner then u.resumeOuter n else u).entry n j) :=
    fun u => by
      split
      · exact u.resumeOuter_adjusts n j
      · exact .refl _
  rw [← left]
  exact resumed _

theorem State.afterLeaving_own (s : State) (n : Svc) (k : Slot) (b : Body) (e : Entry) (add : VerdictFlags) :
    (s.afterLeaving n k b e add).entry n k = (s.entry n k).leaving s.feed[n].time add := by
  have adjusts := s.afterLeaving_adjusts n k k b e add
  rw [State.modEntry_entry] at adjusts
  exact adjusts.eq_of_not_open (by simp [Entry.leaving])

theorem State.afterLeaving_other (s : State) (n : Svc) {k j : Slot} (h : j ≠ k) (b : Body) (e : Entry)
    (add : VerdictFlags) :
    (s.entry n j).Adjusts ((s.afterLeaving n k b e add).entry n j) := by
  have adjusts := s.afterLeaving_adjusts n k j b e add
  rwa [State.modEntry_get, if_neg h] at adjusts

theorem State.afterLeaving_ctl (s : State) (n : Svc) (k : Slot) (b : Body) (e : Entry) (add : VerdictFlags) :
    (s.afterLeaving n k b e add).ctl = s.ctl := by
  unfold State.afterLeaving
  dsimp only
  split <;> simp

/-- R96: what a close leaves of the entry that it closes. -/
theorem State.closeSegment_entry_own {s : State} {n : Svc} {k : Slot} {b : Body} (ho : (s.entry n k).state = .opened)
    (hb : (s.entry n k).body = some b) (add : VerdictFlags) :
    (s.closeSegment n k add).entry n k = (s.entry n k).closedAt s.carries s.feed[n].time add := by
  have marked : ((s.afterLeaving n k b (s.entry n k) add).markEnd n k b).entry n k = _ :=
    (State.entry_of_sched (State.markEnd_sched _ n k b) n k).trans (s.afterLeaving_own n k b _ add)
  have carries : ((s.afterLeaving n k b (s.entry n k) add).markEnd n k b).carries = s.carries := by
    simp [State.carries, State.afterLeaving_ctl]
  have announced := ((s.afterLeaving n k b (s.entry n k) add).markEnd n k b).announceClose_entry n k k
  rw [if_pos rfl, marked, carries] at announced
  rw [State.closeSegment_open ho hb]
  exact announced

/-- R94, R96: what a close leaves of the other entries of its service. -/
theorem State.closeSegment_entry_other (s : State) (n : Svc) {k j : Slot} (h : j ≠ k) (add : VerdictFlags) :
    (s.entry n j).Adjusts ((s.closeSegment n k add).entry n j) := by
  by_cases ho : (s.entry n k).state = .opened
  · cases hb : (s.entry n k).body with
    | none => rw [State.closeSegment_idle (.inr hb)]; exact .refl _
    | some b =>
      have context : (((s.afterLeaving n k b (s.entry n k) add).markEnd n k b).entry n k).context =
          (s.entry n k).context := by
        rw [State.entry_of_sched (State.markEnd_sched _ n k b), State.afterLeaving_own]; rfl
      have announced := ((s.afterLeaving n k b (s.entry n k) add).markEnd n k b).announceClose_entry n k j
      rw [if_neg h, context, State.entry_of_sched (State.markEnd_sched _ n k b)] at announced
      rw [State.closeSegment_open ho hb, announced]
      exact s.afterLeaving_other n h b _ add
  · rw [State.closeSegment_idle (.inl ho)]; exact .refl _

end Sys2Proof.Machine

namespace Sys2Proof.Machine

/-! #### Closes on the next opening of a layer (R91 step 1, R97) -/

theorem Entry.hand_closed_not_open (carries : Bool) (v : Verdict) (e : Entry) : (e.delivered carries v).state =
    .closed := by
  simp [Entry.delivered]

/-- A closed entry stands CLOSING, or CLOSED where it has no context and its verdict has been delivered. -/
theorem Entry.closedAt_state (carries : Bool) (now : Nat) (add : VerdictFlags) (e : Entry) :
    (e.closedAt carries now add).state = .closing ∨ (e.closedAt carries now add).state = .closed := by
  unfold Entry.closedAt Entry.announced
  split
  · simp
  · split
    · split
      · exact .inr (Entry.hand_closed_not_open _ _ _)
      · exact .inl rfl
    · exact .inl rfl

theorem Entry.closedAt_not_open (carries : Bool) (now : Nat) (add : VerdictFlags) (e : Entry) :
    (e.closedAt carries now add).state ≠ .opened := by
  rcases e.closedAt_state carries now add with h | h <;> simp [h]

/-- The entry holds an OPEN docket of a layer that ends ON_NEXT. -/
def Entry.endsOnNext (l : Layer) (e : Entry) : Prop :=
  e.state = .opened ∧ ∃ b, e.body = some b ∧ b.cls.layer = l ∧ b.isOnNext = true

/-- What the closes that an opening of layer l makes do to an entry: an OPEN docket of the layer that ends ON_NEXT closes, and
another entry is adjusted or as before. -/
def Entry.MeetsOpening (l : Layer) (carries : Bool) (now : Nat) (add : VerdictFlags) (e e' : Entry) : Prop :=
  (e.endsOnNext l → ∃ a, e.Adjusts a ∧ e' = a.closedAt carries now add) ∧ (¬ e.endsOnNext l → e.Adjusts e')

theorem Entry.Adjusts.body {e e' : Entry} (h : e.Adjusts e') : e'.body = e.body := by
  obtain rfl | ⟨-, p, q, rfl⟩ := h <;> rfl

theorem Entry.Adjusts.state {e e' : Entry} (h : e.Adjusts e') : e'.state = e.state := by
  obtain rfl | ⟨-, p, q, rfl⟩ := h <;> rfl

theorem Entry.Adjusts.endsOnNext {e e' : Entry} (h : e.Adjusts e') (l : Layer) : e'.endsOnNext l ↔ e.endsOnNext l := by
  simp only [Entry.endsOnNext, h.state, h.body]

/-- One slot of the closes that an opening makes. -/
def State.closeOne (n : Svc) (l : Layer) (add : VerdictFlags) (s : State) (k : Slot) : State :=
  if s.standsOpen n l k then
    if ((s.entry n k).body.map Body.isOnNext).getD false then s.closeSegment n k add else s
  else s

theorem State.closeOne_frame (n : Svc) (l : Layer) (add : VerdictFlags) (s : State) (k : Slot) :
    (State.closeOne n l add s k).ctl = s.ctl ∧ (State.closeOne n l add s k).feed = s.feed := by
  unfold State.closeOne
  (repeat' split) <;> simp

theorem State.closeOne_other (n : Svc) (l : Layer) (add : VerdictFlags) (s : State) {k j : Slot} (h : j ≠ k) :
    (s.entry n j).Adjusts ((State.closeOne n l add s k).entry n j) := by
  unfold State.closeOne
  split
  · split
    · exact s.closeSegment_entry_other n h add
    · exact .refl _
  · exact .refl _

theorem State.closeOne_own (n : Svc) (l : Layer) (add : VerdictFlags) (s : State) (k : Slot) :
    (s.entry n k).MeetsOpening l s.carries s.feed[n].time add ((State.closeOne n l add s k).entry n k) := by
  constructor
  · rintro ⟨ho, b, hb, hl, hnext⟩
    refine ⟨s.entry n k, .refl _, ?_⟩
    have := State.closeSegment_entry_own ho hb add
    simpa [State.closeOne, State.standsOpen, ho, hb, hl, hnext] using this
  · intro h
    unfold State.closeOne
    split
    · next hs =>
      split
      · next hnext =>
        cases hb : (s.entry n k).body with
        | none => simp [hb] at hnext
        | some b =>
          simp only [State.standsOpen, hb, Bool.and_eq_true, decide_eq_true_eq, Option.map_some, Option.some.injEq] at hs
          exact absurd ⟨hs.1, b, hb, hs.2, by simpa [hb] using hnext⟩ h
      · exact .refl _
    · exact .refl _

/-- The closes that an opening makes, slot by slot, read at slot j. -/
theorem foldl_closeOne (n : Svc) (l : Layer) (add : VerdictFlags) (j : Slot) :
    ∀ (ks : List Slot) (s : State), ks.Nodup →
      (j ∈ ks → (s.entry n j).MeetsOpening l s.carries s.feed[n].time add ((ks.foldl (State.closeOne n l add) s).entry n j)) ∧
      (j ∉ ks → (s.entry n j).Adjusts ((ks.foldl (State.closeOne n l add) s).entry n j))
  | [], s, _ => ⟨fun h => absurd h List.not_mem_nil, fun _ => .refl _⟩
  | k :: ks, s, h => by
    obtain ⟨hk, hks⟩ := List.nodup_cons.mp h
    obtain ⟨hctl, hfeed⟩ := State.closeOne_frame n l add s k
    have rest := foldl_closeOne n l add j ks (State.closeOne n l add s k) hks
    rw [show (State.closeOne n l add s k).carries = s.carries by simp [State.carries, hctl], hfeed] at rest
    rw [List.foldl_cons]
    by_cases hj : j = k
    · subst hj
      have own := State.closeOne_own n l add s j
      have later := rest.2 hk
      refine ⟨fun _ => ⟨fun hn => ?_, fun hn => ?_⟩, fun hnot => absurd List.mem_cons_self hnot⟩
      · obtain ⟨a, ha, hclosed⟩ := own.1 hn
        refine ⟨a, ha, ?_⟩
        rw [later.eq_of_not_open (by rw [hclosed]; exact a.closedAt_not_open _ _ _), hclosed]
      · exact (own.2 hn).trans later
    · have other := State.closeOne_other n l add s hj
      refine ⟨fun hmem => ?_, fun hnot => other.trans (rest.2 fun h => hnot (List.mem_cons_of_mem k h))⟩
      obtain ⟨closes, stays⟩ := rest.1 ((List.mem_cons.mp hmem).resolve_left hj)
      refine ⟨fun hn => ?_, fun hn => other.trans (stays (mt (other.endsOnNext l).mp hn))⟩
      obtain ⟨a, ha, hclosed⟩ := closes ((other.endsOnNext l).mpr hn)
      exact ⟨a, other.trans ha, hclosed⟩

theorem State.closeOnNext_eq (s : State) (n : Svc) (l : Layer) (f : Firing) :
    s.closeOnNext n l f = allSlots.foldl (State.closeOne n l { f with cueMissed := false }.flags) s := by
  unfold State.closeOnNext State.forOpen
  rfl

/-- R91 step 1, R97: what the closes that an opening makes leave of every entry of the service. -/
theorem State.closeOnNext_entry (s : State) (n : Svc) (l : Layer) (f : Firing) (j : Slot) :
    (s.entry n j).MeetsOpening l s.carries s.feed[n].time { f with cueMissed := false }.flags
      ((s.closeOnNext n l f).entry n j) := by
  rw [State.closeOnNext_eq]
  have slots := foldl_closeOne n l { f with cueMissed := false }.flags j allSlots s allSlots_nodup
  exact slots.1 (mem_allSlots j)

end Sys2Proof.Machine

namespace Sys2Proof.Machine

/-! #### Openings (R91 to R94) -/

/-- R91 to R93: an entry whose segment opens at a time, with its rule snapshot, its context and whether it opens paused. -/
def Entry.opening (sn : Snapshot) (ctx : Option CtxId) (paused : Bool) (f : Firing) (now : Nat) (e : Entry) : Entry :=
  { e with
    context := ctx, snapshot := some sn, openStamp := some now, state := .opened
    tally := { Tally.zero with paused := paused, required := sn.required, permille := sn.permille }
    flags := ((if ctx.isNone then e.flags.union .ofNoMeter else e.flags).union f.flags).union
      (if paused then .ofPaused else .none) }

/-- R91: the state in which an opening claims its context: the ON_NEXT dockets of its layer have closed. -/
def State.readyToOpen (s : State) (n : Svc) (b : Body) (f : Firing) : State := s.closeOnNext n b.cls.layer f

/-- R94: whether a docket that opens there opens paused. -/
def State.opensPaused (s : State) (n : Svc) (b : Body) : Bool :=
  decide (b.cls.layer = .outer) && s.sched[n].openInner.isSome && !b.includeInner

/-- R91 steps 3 to 5: the docket has its context and stands OPEN. -/
def State.opened (s : State) (n : Svc) (k : Slot) (b : Body) (f : Firing) : State :=
  let sn := (s.sheetOf n).snapshot b
  let paused := s.opensPaused n b
  let t := s.claimFor n k sn paused
  let t := t.modEntry n k fun e =>
    { e with snapshot := some sn, openStamp := some t.feed[n].time, state := .opened,
             tally := { Tally.zero with paused := paused, required := sn.required, permille := sn.permille },
             flags := (e.flags.union f.flags).union (if paused then .ofPaused else .none) }
  let t := t.modSched n fun c => c.setOpen b.cls.layer (some k)
  if b.cls.layer = .inner then t.pauseOuter n else t

theorem State.openSegment_body {s : State} {n : Svc} {k : Slot} {b : Body} (hb : (s.entry n k).body = some b)
    (f : Firing) :
    s.openSegment n k f = ((s.readyToOpen n b f).opened n k b f).writeStanding n k := by
  unfold State.openSegment
  rw [hb]
  rfl

theorem State.openSegment_none {s : State} {n : Svc} {k : Slot} (hb : (s.entry n k).body = none) (f : Firing) :
    s.openSegment n k f = s := by
  unfold State.openSegment
  rw [hb]

theorem State.claimFor_entry (s : State) (n : Svc) (k j : Slot) (sn : Snapshot) (paused : Bool) :
    (s.claimFor n k sn paused).entry n j =
      if j = k then
        { s.entry n k with
          context := s.freeContext
          flags := if s.freeContext.isNone then (s.entry n k).flags.union .ofNoMeter else (s.entry n k).flags }
      else s.entry n j := by
  unfold State.claimFor
  cases hc : s.freeContext with
  | some c =>
    have claimed : ∀ i, (s.claim c ⟨n, k, (s.entry n k).posting⟩ sn paused).entry n i = s.entry n i :=
      State.entry_of_sched (by simp) n
    simp [State.modEntry_get, claimed]
  | none =>
    rw [State.entry_of_sched (State.raise_frame _ _ _).2.2.2.2.2.1]
    simp [State.modEntry_get]

theorem State.pauseSegment_entry_ne (s : State) (n : Svc) {k j : Slot} (h : j ≠ k) :
    (State.pauseSegment n s k).entry n j = s.entry n j := by
  unfold State.pauseSegment
  split
  · rfl
  · rw [State.modEntry_get, if_neg h, State.entry_of_sched (s.modContextOf_sched _ _)]

/-- R94: an entry whose docket is not of the outer layer is left alone by a pause of the outer layer. -/
theorem State.pauseOuter_entry_inner (s : State) (n : Svc) (k : Slot)
    (h : (s.entry n k).body.map (fun b => b.cls.layer) ≠ some .outer) : (s.pauseOuter n).entry n k = s.entry n k := by
  have step : ∀ (u : State) (i : Slot), u.entry n k = s.entry n k →
      (if u.standsOpen n .outer i then State.pauseSegment n u i else u).entry n k = s.entry n k := fun u i hu => by
    split
    · next hs =>
      have ne : k ≠ i := by
        rintro rfl
        simp only [State.standsOpen, hu, Bool.and_eq_true, decide_eq_true_eq] at hs
        exact h hs.2
      rw [State.pauseSegment_entry_ne _ _ ne, hu]
    · exact hu
  exact foldl_keeps (fun u : State => u.entry n k = s.entry n k) _ step allSlots s rfl

/-- What an opening leaves of the entry that it opens. -/
theorem State.opened_entry_own (s : State) (n : Svc) (k : Slot) (b : Body) (hb : (s.entry n k).body = some b)
    (f : Firing) :
    (s.opened n k b f).entry n k =
      (s.entry n k).opening ((s.sheetOf n).snapshot b) s.freeContext (s.opensPaused n b) f s.feed[n].time := by
  unfold State.opened
  dsimp only
  have set : ∀ u : State, (u.modSched n fun c => c.setOpen b.cls.layer (some k)).entry n k = u.entry n k := fun u =>
    State.modSched_entry _ _ _ _ _ fun c => by cases b.cls.layer <;> rfl
  have feed : (s.claimFor n k ((s.sheetOf n).snapshot b) (s.opensPaused n b)).feed = s.feed := by simp
  have stays : ∀ u : State, (u.entry n k).body = some b →
      (if b.cls.layer = .inner then u.pauseOuter n else u).entry n k = u.entry n k := fun u hu => by
    split
    · next inner => exact u.pauseOuter_entry_inner n k (by simp [hu, inner])
    · rfl
  rw [stays _ (by rw [set, State.modEntry_entry, State.claimFor_entry, if_pos rfl]; exact hb), set, State.modEntry_entry,
    State.claimFor_entry, if_pos rfl, feed]
  rfl

/-- R94: what an opening leaves of the other entries of its service. -/
theorem State.opened_entry_other (s : State) (n : Svc) {k j : Slot} (h : j ≠ k) (b : Body) (f : Firing) :
    (s.entry n j).Adjusts ((s.opened n k b f).entry n j) := by
  unfold State.opened
  dsimp only
  have set : ∀ u : State, (u.modSched n fun c => c.setOpen b.cls.layer (some k)).entry n j = u.entry n j := fun u =>
    State.modSched_entry _ _ _ _ _ fun c => by cases b.cls.layer <;> rfl
  have paused : ∀ u : State, (u.entry n j).Adjusts ((if b.cls.layer = .inner then u.pauseOuter n else u).entry n j) :=
    fun u => by
      split
      · exact u.pauseOuter_adjusts n j
      · exact .refl _
  refine .trans (.inl ?_) (paused _)
  rw [set, State.modEntry_get, if_neg h, State.claimFor_entry, if_neg h]

end Sys2Proof.Machine

namespace Sys2Proof.Machine

theorem Entry.MeetsOpening.of_not_open {l : Layer} {carries : Bool} {now : Nat} {add : VerdictFlags} {e e' : Entry}
    (h : e.MeetsOpening l carries now add e') (ho : e.state ≠ .opened) : e' = e :=
  (h.2 fun hn => ho hn.1).eq_of_not_open ho

theorem Entry.MeetsOpening.adjusted {l : Layer} {carries : Bool} {now : Nat} {add : VerdictFlags} {e e' e'' : Entry}
    (h : e.MeetsOpening l carries now add e') (g : e'.Adjusts e'') : e.MeetsOpening l carries now add e'' := by
  refine ⟨fun hn => ?_, fun hn => (h.2 hn).trans g⟩
  obtain ⟨a, ha, rfl⟩ := h.1 hn
  exact ⟨a, ha, g.eq_of_not_open (a.closedAt_not_open _ _ _)⟩

theorem State.opened_ctl (s : State) (n : Svc) (k : Slot) (b : Body) (f : Firing) : (s.opened n k b f).ctl = s.ctl := by
  unfold State.opened
  dsimp only
  split <;> simp

/-- R91: what an opening leaves of the entry that it opens. -/
theorem State.openSegment_entry_own {s : State} {n : Svc} {k : Slot} {b : Body} (hb : (s.entry n k).body = some b)
    (ho : (s.entry n k).state ≠ .opened) (f : Firing) :
    (s.openSegment n k f).entry n k =
      ((s.entry n k).opening ((s.sheetOf n).snapshot b) (s.readyToOpen n b f).freeContext
        ((s.readyToOpen n b f).opensPaused n b) f s.feed[n].time).hand s.carries
          (.standing .opened (s.entry n k).posting) := by
  have ready : (s.readyToOpen n b f).entry n k = s.entry n k := (s.closeOnNext_entry n b.cls.layer f k).of_not_open ho
  have sheet : (s.readyToOpen n b f).sheetOf n = s.sheetOf n := by simp [State.readyToOpen, State.sheetOf]
  have feed : (s.readyToOpen n b f).feed = s.feed := by simp [State.readyToOpen]
  have carries : ((s.readyToOpen n b f).opened n k b f).carries = s.carries := by
    simp [State.carries, State.opened_ctl, State.readyToOpen]
  have own := (s.readyToOpen n b f).opened_entry_own n k b (by rw [ready]; exact hb) f
  rw [State.openSegment_body hb, State.writeStanding_entry, if_pos rfl, carries, own, sheet, feed, ready]
  rfl

/-- R91 step 1, R94, R97: what an opening leaves of the other entries of its service. -/
theorem State.openSegment_entry_other {s : State} {n : Svc} {k j : Slot} {b : Body} (hb : (s.entry n k).body = some b)
    (h : j ≠ k) (f : Firing) :
    (s.entry n j).MeetsOpening b.cls.layer s.carries s.feed[n].time { f with cueMissed := false }.flags
      ((s.openSegment n k f).entry n j) := by
  rw [State.openSegment_body hb, State.writeStanding_entry, if_neg h]
  exact (s.closeOnNext_entry n b.cls.layer f j).adjusted ((s.readyToOpen n b f).opened_entry_other n h b f)

/-! #### One boundary (R87) -/

/-- The boundary opens a docket that stands as e does. -/
def Boundary.opens (x : Boundary) (e : Entry) : Prop :=
  x.kind = .start ∧ e.state = .pending ∨ x.kind = .latest ∧ e.state = .armed

/-- R87: a boundary of another slot leaves an entry as an opening of its layer does where it opens one, else adjusted or as
before. -/
theorem State.fireBoundary_entry_other (s : State) (n : Svc) (f : Firing) (x : Boundary) {j : Slot} (h : j ≠ x.slot) :
    (∀ b, x.opens (s.entry n x.slot) → (s.entry n x.slot).body = some b →
      (s.entry n j).MeetsOpening b.cls.layer s.carries s.feed[n].time { f with cueMissed := false }.flags
        ((s.fireBoundary n f x).entry n j)) ∧
    (¬ (x.opens (s.entry n x.slot) ∧ (s.entry n x.slot).body.isSome = true) →
      (s.entry n j).Adjusts ((s.fireBoundary n f x).entry n j)) := by
  unfold State.fireBoundary
  dsimp only
  split
  · next hk hs =>
    refine ⟨fun b _ hb => s.openSegment_entry_other hb h f, fun hn => ?_⟩
    cases hb : (s.entry n x.slot).body with
    | none => rw [State.openSegment_none hb]; exact .refl _
    | some b => exact absurd ⟨.inl ⟨hk, hs⟩, by simp [hb]⟩ hn
  · next hk hs =>
    refine ⟨fun b ho => by simp [Boundary.opens, hk] at ho, fun _ => .inl ?_⟩
    rw [State.writeStanding_entry, if_neg h, State.modEntry_get, if_neg h]
  · next hk hs =>
    refine ⟨fun b _ hb => s.openSegment_entry_other hb h { f with cueMissed := true }, fun hn => ?_⟩
    cases hb : (s.entry n x.slot).body with
    | none => rw [State.openSegment_none hb]; exact .refl _
    | some b => exact absurd ⟨.inr ⟨hk, hs⟩, by simp [hb]⟩ hn
  · next hk hs =>
    exact ⟨fun b ho => by simp [Boundary.opens, hk] at ho, fun _ => s.closeSegment_entry_other n h _⟩
  · next hk hs =>
    exact ⟨fun b ho => by simp [Boundary.opens, hk] at ho, fun _ => s.closeSegment_entry_other n h _⟩
  · next h1 _ h2 _ _ =>
    refine ⟨fun b ho => ?_, fun _ => .refl _⟩
    rcases ho with ⟨hk, hs⟩ | ⟨hk, hs⟩
    · exact absurd hs (by simpa [hk] using h1 hk)
    · exact absurd hs (by simpa [hk] using h2 hk)

/-- R87: a boundary that finds its docket in another state than its own has no effect. -/
theorem State.fireBoundary_idle (s : State) (n : Svc) (f : Firing) (x : Boundary)
    (h : (x.kind = .start ∨ x.kind = .arm) ∧ (s.entry n x.slot).state ≠ .pending ∨
      x.kind = .latest ∧ (s.entry n x.slot).state ≠ .armed ∨
      (x.kind = .stop ∨ x.kind = .cap) ∧ (s.entry n x.slot).state ≠ .opened) : s.fireBoundary n f x = s := by
  unfold State.fireBoundary
  dsimp only
  split <;> first | rfl | simp_all

end Sys2Proof.Machine

namespace Sys2Proof.Machine

/-! #### How an entry moves on in a segment event -/

/-- A docket that has opened: OPEN, CLOSING or CLOSED. -/
def Standing.begun (st : Standing) : Prop := st = .opened ∨ st = .closing ∨ st = .closed

/-- A docket that waits for its start: PENDING or ARMED. -/
def Standing.waiting (st : Standing) : Prop := st = .pending ∨ st = .armed

/-- How boundaries, openings and closings move an entry on (R77, R87 to R96): an OPEN docket stays or ends with its tally kept but for
the pause, a waiting one stays so or has opened with a tally of its own, any other entry is as before; none of them adds
TIME_FAULT. -/
structure Entry.Progress (e e' : Entry) : Prop where
  timeFault : e'.flags.timeFault = e.flags.timeFault
  rest : ¬ e.state.waiting → e.state ≠ .opened → e' = e
  ofOpen : e.state = .opened → e'.state.begun ∧ e'.tally = { e.tally with paused := e'.tally.paused }
  ofWaiting : e.state.waiting → e'.state.waiting ∨
    e'.state.begun ∧ e'.tally = { Tally.zero with paused := e'.tally.paused, required := e'.tally.required,
                                                  permille := e'.tally.permille }

theorem Standing.begun_not_waiting {st : Standing} (h : st.begun) : ¬ st.waiting := by
  rintro (rfl | rfl) <;> simp [Standing.begun] at h

theorem Entry.Progress.refl (e : Entry) : e.Progress e :=
  ⟨rfl, fun _ _ => rfl, fun h => ⟨.inl h, rfl⟩, .inl⟩

theorem Entry.Progress.begun {e e' : Entry} (h : e.Progress e') (hb : e.state.begun) :
    e'.state.begun ∧ e'.tally = { e.tally with paused := e'.tally.paused } := by
  by_cases ho : e.state = .opened
  · exact h.ofOpen ho
  · rw [h.rest (Standing.begun_not_waiting hb) ho]
    exact ⟨hb, rfl⟩

theorem Entry.Progress.trans {e e' e'' : Entry} (h : e.Progress e') (g : e'.Progress e'') : e.Progress e'' where
  timeFault := g.timeFault.trans h.timeFault
  rest hw ho := by
    have same := h.rest hw ho
    subst same
    exact g.rest hw ho
  ofOpen ho := by
    obtain ⟨hb, ht⟩ := h.ofOpen ho
    obtain ⟨hb', ht'⟩ := g.begun hb
    exact ⟨hb', by rw [ht', ht]⟩
  ofWaiting hw := by
    rcases h.ofWaiting hw with hw' | ⟨hb, ht⟩
    · exact g.ofWaiting hw'
    · obtain ⟨hb', ht'⟩ := g.begun hb
      exact .inr ⟨hb', by rw [ht', ht]⟩

theorem Entry.Adjusts.progress {e e' : Entry} (h : e.Adjusts e') : e.Progress e' := by
  obtain rfl | ⟨ho, p, q, rfl⟩ := h
  · exact .refl _
  · exact ⟨rfl, fun _ hn => absurd ho hn, fun _ => ⟨.inl ho, rfl⟩,
      fun hw => absurd hw (Standing.begun_not_waiting (.inl ho))⟩

@[simp] theorem Entry.delivered_tally (carries : Bool) (v : Verdict) (e : Entry) : (e.delivered carries v).tally =
    e.tally := by
  simp [Entry.delivered]

@[simp] theorem Entry.delivered_flags (carries : Bool) (v : Verdict) (e : Entry) : (e.delivered carries v).flags =
    e.flags := by
  simp [Entry.delivered]

@[simp] theorem Entry.announced_tally (carries : Bool) (e : Entry) : (e.announced carries).tally = e.tally := by
  unfold Entry.announced
  (repeat' split) <;> simp

@[simp] theorem Entry.announced_flags (carries : Bool) (e : Entry) : (e.announced carries).flags = e.flags := by
  unfold Entry.announced
  (repeat' split) <;> simp

theorem Entry.closedAt_progress {e : Entry} (ho : e.state = .opened) (carries : Bool) (now : Nat) {add : VerdictFlags}
    (hadd : add.timeFault = false) : e.Progress (e.closedAt carries now add) where
  timeFault := by simp [Entry.closedAt, VerdictFlags.union, hadd]
  rest _ hn := absurd ho hn
  ofOpen _ := ⟨.inr (e.closedAt_state carries now add), by simp [Entry.closedAt]⟩
  ofWaiting hw := absurd hw (Standing.begun_not_waiting (.inl ho))

theorem Entry.MeetsOpening.progress {l : Layer} {carries : Bool} {now : Nat} {add : VerdictFlags} {e e' : Entry}
    (h : e.MeetsOpening l carries now add e') (hadd : add.timeFault = false) : e.Progress e' := by
  by_cases hn : e.endsOnNext l
  · obtain ⟨a, ha, rfl⟩ := h.1 hn
    exact ha.progress.trans (a.closedAt_progress (ha.state.trans hn.1) carries now hadd)
  · exact (h.2 hn).progress

theorem Entry.opening_progress {e : Entry} (hw : e.state.waiting) (sn : Snapshot) (ctx : Option CtxId) (paused : Bool)
    (f : Firing) (now : Nat) (carries : Bool) (w : SlotContent) :
    e.Progress ((e.opening sn ctx paused f now).hand carries w) where
  timeFault := by
    simp only [Entry.hand_flags, Entry.opening]
    cases ctx <;> cases paused <;> simp [VerdictFlags.union, Firing.flags, VerdictFlags.none, VerdictFlags.ofNoMeter,
      VerdictFlags.ofPaused]
  rest hn := absurd hw hn
  ofOpen ho := absurd hw (Standing.begun_not_waiting (.inl ho))
  ofWaiting _ := .inr ⟨.inl (by simp [Entry.opening]), by simp [Entry.opening]⟩

theorem Entry.armed_progress {e : Entry} (hp : e.state = .pending) (carries : Bool) (w : SlotContent) :
    e.Progress ({ e with state := .armed }.hand carries w) where
  timeFault := by simp
  rest hn := absurd (.inl hp) hn
  ofOpen ho := by simp [hp] at ho
  ofWaiting _ := .inl (.inr (by simp))

theorem Firing.flags_timeFault (f : Firing) : f.flags.timeFault = false := rfl

theorem State.closeSegment_progress (s : State) (n : Svc) (k j : Slot) {add : VerdictFlags}
    (hadd : add.timeFault = false) :
    (s.entry n j).Progress ((s.closeSegment n k add).entry n j) := by
  by_cases h : j = k
  · subst h
    by_cases ho : (s.entry n j).state = .opened
    · cases hb : (s.entry n j).body with
      | none => rw [State.closeSegment_idle (.inr hb)]; exact .refl _
      | some b =>
        rw [State.closeSegment_entry_own ho hb]
        exact Entry.closedAt_progress ho _ _ hadd
    · rw [State.closeSegment_idle (.inl ho)]; exact .refl _
  · exact (s.closeSegment_entry_other n h add).progress

theorem State.openSegment_progress (s : State) (n : Svc) {k : Slot} (j : Slot) (hw : (s.entry n k).state.waiting)
    (f : Firing) :
    (s.entry n j).Progress ((s.openSegment n k f).entry n j) := by
  cases hb : (s.entry n k).body with
  | none => rw [State.openSegment_none hb]; exact .refl _
  | some b =>
    by_cases h : j = k
    · subst h
      have ho : (s.entry n j).state ≠ .opened := fun ho => Standing.begun_not_waiting (.inl ho) hw
      rw [State.openSegment_entry_own hb ho]
      exact Entry.opening_progress hw _ _ _ _ _ _ _
    · exact (s.openSegment_entry_other hb h f).progress rfl

/-- R87: a boundary moves every entry of its service on. -/
theorem State.fireBoundary_progress (s : State) (n : Svc) (f : Firing) (x : Boundary) (j : Slot) :
    (s.entry n j).Progress ((s.fireBoundary n f x).entry n j) := by
  unfold State.fireBoundary
  dsimp only
  split
  · next hs => exact s.openSegment_progress n j (.inl hs) f
  · next hs =>
    by_cases h : j = x.slot
    · subst h
      rw [State.writeStanding_entry, if_pos rfl, State.modEntry_entry]
      exact Entry.armed_progress hs _ _
    · rw [State.writeStanding_entry, if_neg h, State.modEntry_get, if_neg h]
      exact .refl _
  · next hs => exact s.openSegment_progress n j (.inr hs) _
  · exact s.closeSegment_progress n x.slot j f.flags_timeFault
  · exact s.closeSegment_progress n x.slot j (Firing.flags_timeFault _)
  · exact .refl _

theorem State.fireAll_progress (s : State) (n : Svc) (c : FireCause) (bs : List Boundary) (j : Slot) :
    (s.entry n j).Progress ((s.fireAll n c bs).entry n j) :=
  foldl_keeps (fun u : State => (s.entry n j).Progress (u.entry n j)) _
    (fun u x h => h.trans (u.fireBoundary_progress n c.firing x j)) bs s (.refl _)

end Sys2Proof.Machine

namespace Sys2Proof.Machine

/-! ### Which conditions a segment event leaves alone (R160, R163) -/

/-- Between two panels every entry of a condition outside C is the same. -/
def CondsKept (C : List SvcCond) (p q : Vector (Vector CondEntry 16) 16) : Prop :=
  ∀ (n : Svc) (c : SvcCond), c ∉ C → q[n][svcIndex c] = p[n][svcIndex c]

section
variable {C : List SvcCond} {p : Vector (Vector CondEntry 16) 16}

theorem CondsKept.svcCond {s t : State} (h : CondsKept C s.panel t.panel) (n : Svc) {c : SvcCond} (hc : c ∉ C) :
    t.svcCond n c = s.svcCond n c := h n c hc

@[simp] theorem CondsKept.self (p : Vector (Vector CondEntry 16) 16) : CondsKept C p p ↔ True :=
  iff_true_intro fun _ _ _ => rfl

theorem CondsKept.iff {q r : Vector (Vector CondEntry 16) 16} (h : CondsKept C q r) : CondsKept C p r ↔
    CondsKept C p q :=
  ⟨fun g n c hc => (h n c hc).symm.trans (g n c hc), fun g n c hc => (h n c hc).trans (g n c hc)⟩

theorem CondsKept.trans {q r : Vector (Vector CondEntry 16) 16} (h : CondsKept C p q) (g : CondsKept C q r) :
    CondsKept C p r := g.iff.mpr h

@[simp] theorem CondsKept.ite (c : Prop) [Decidable c] (a b : State) :
    CondsKept C p (if c then a else b).panel ↔ if c then CondsKept C p a.panel else CondsKept C p b.panel := by
  split <;> rfl

@[simp] theorem CondsKept.foldl {α : Type} (f : State → α → State) (l : List α) (t : State)
    (hf : ∀ u a, CondsKept C u.panel (f u a).panel) : CondsKept C p (l.foldl f t).panel ↔ CondsKept C p t.panel :=
  (foldl_keeps (fun u => CondsKept C t.panel u.panel) f (fun _ a h => h.trans (hf _ a)) l t (fun _ _ _ => rfl)).iff

@[simp] theorem State.changeCond_conds (s : State) (n : Svc) (c : SvcCond) (f : CondEntry → CondEntry) (hc : c ∈ C) :
    CondsKept C p (s.changeCond (.service n c) f).panel ↔ CondsKept C p s.panel := by
  refine CondsKept.iff fun m d hd => ?_
  have ne : CondRef.service m d ≠ .service n c := by
    rintro ⟨⟩
    exact hd hc
  have kept := s.changeCond_get (.service n c) (.service m d) f
  rwa [if_neg ne] at kept

@[simp] theorem State.raise_conds (s : State) (n : Svc) (c : SvcCond) (hc : c ∈ C) :
    CondsKept C p (s.raise n c).panel ↔ CondsKept C p s.panel := by
  simp [State.raise, hc]

@[simp] theorem State.setLive_conds (s : State) (n : Svc) (c : SvcCond) (live : Bool) (hc : c ∈ C) :
    CondsKept C p (s.setLive n c live).panel ↔ CondsKept C p s.panel := by
  unfold State.setLive
  (repeat' split) <;> simp [hc]

/-- The conditions that a segment event can raise: the verdicts' and the shortage of contexts (R93, R111). -/
def segmentConds : List SvcCond := [.loudnessFail, .captionFail, .meterShortage]

/-- The conditions that follow the caption state and the requirement in force (R69). -/
def captionConds : List SvcCond := [.captionLoss, .captionIdle]

section
variable (hC : segmentConds ⊆ C)
include hC

theorem State.raiseVerdict_conds (s : State) (n : Svc) (v : Verdict) :
    CondsKept C p (s.raiseVerdict n v).panel ↔ CondsKept C p s.panel := by
  have loud : SvcCond.loudnessFail ∈ C := hC (by decide)
  have captions : SvcCond.captionFail ∈ C := hC (by decide)
  unfold State.raiseVerdict
  (repeat' split) <;> simp [loud, captions]

theorem State.deliverVerdict_conds (s : State) (n : Svc) (k : Slot) (v : Verdict) :
    CondsKept C p (s.deliverVerdict n k v).panel ↔ CondsKept C p s.panel := by
  simp [State.deliverVerdict, State.raiseVerdict_conds hC]

theorem State.announceClose_conds (s : State) (n : Svc) (k : Slot) (metered : Bool) :
    CondsKept C p (s.announceClose n k metered).panel ↔ CondsKept C p s.panel := by
  unfold State.announceClose State.finishVerdict
  (repeat' split) <;> simp [State.deliverVerdict_conds hC]

theorem State.closeSegment_conds (s : State) (n : Svc) (k : Slot) (add : VerdictFlags) :
    CondsKept C p (s.closeSegment n k add).panel ↔ CondsKept C p s.panel := by
  unfold State.closeSegment
  dsimp only
  split
  · simp [State.announceClose_conds hC]
  · rfl

theorem State.closeOnNext_conds (s : State) (n : Svc) (l : Layer) (f : Firing) :
    CondsKept C p (s.closeOnNext n l f).panel ↔ CondsKept C p s.panel := by
  rw [State.closeOnNext_eq]
  refine CondsKept.foldl _ _ s fun u k => ?_
  unfold State.closeOne
  (repeat' split) <;> simp [State.closeSegment_conds hC]

theorem State.claimFor_conds (s : State) (n : Svc) (k : Slot) (sn : Snapshot) (paused : Bool) :
    CondsKept C p (s.claimFor n k sn paused).panel ↔ CondsKept C p s.panel := by
  have shortage : SvcCond.meterShortage ∈ C := hC (by decide)
  unfold State.claimFor
  (repeat' split) <;> simp [shortage]

theorem State.openSegment_conds (s : State) (n : Svc) (k : Slot) (f : Firing) :
    CondsKept C p (s.openSegment n k f).panel ↔ CondsKept C p s.panel := by
  unfold State.openSegment
  split
  · rfl
  · simp only [State.writeStanding_frame, CondsKept.ite, State.pauseOuter_frame, State.modSched_panel,
      State.modEntry_panel, State.claimFor_conds hC, State.closeOnNext_conds hC, ite_self]

theorem State.fireBoundary_conds (s : State) (n : Svc) (f : Firing) (x : Boundary) :
    CondsKept C p (s.fireBoundary n f x).panel ↔ CondsKept C p s.panel := by
  unfold State.fireBoundary
  dsimp only
  split <;> simp [State.openSegment_conds hC, State.closeSegment_conds hC]

/-- R87 to R93: boundaries raise only the conditions of verdicts and of the shortage of contexts. -/
theorem State.fireAll_conds (s : State) (n : Svc) (c : FireCause) (bs : List Boundary) :
    CondsKept C p (s.fireAll n c bs).panel ↔ CondsKept C p s.panel := by
  unfold State.fireAll
  exact CondsKept.foldl _ _ s fun u x => by simp [State.fireBoundary_conds hC]

variable (hcap : captionConds ⊆ C)
include hcap

omit hC in
theorem State.judgeCaptions_conds (s : State) (n : Svc) :
    CondsKept C p (s.judgeCaptions n).panel ↔ CondsKept C p s.panel := by
  have loss : SvcCond.captionLoss ∈ C := hcap (by decide)
  have idle : SvcCond.captionIdle ∈ C := hcap (by decide)
  simp [State.judgeCaptions, loss, idle]

omit hC in
theorem State.refreshRequirement_conds (s : State) (n : Svc) :
    CondsKept C p (s.refreshRequirement n).panel ↔ CondsKept C p s.panel := by
  simp [State.refreshRequirement, State.judgeCaptions_conds hcap]

omit hC in
theorem State.judgeFrame_conds (s : State) (n : Svc) :
    CondsKept C p (s.judgeFrame n).panel ↔ CondsKept C p s.panel := by
  simp [State.judgeFrame, State.judgeCaptions_conds hcap]

theorem State.advanceTo_conds (s : State) (n : Svc) (c : FireCause) (t : Nat) :
    CondsKept C p (s.advanceTo n c t).panel ↔ CondsKept C p s.panel := by
  simp [State.advanceTo, State.advanceBoundaries, State.refreshRequirement_conds hcap, State.fireAll_conds hC]

theorem State.seedTime_conds (s : State) (n : Svc) (t : Nat) :
    CondsKept C p (s.seedTime n t).panel ↔ CondsKept C p s.panel := by
  simp [State.seedTime, State.seedBoundaries, State.refreshRequirement_conds hcap, State.fireAll_conds hC]

theorem State.flyAdvance_conds (s : State) (n : Svc) :
    CondsKept C p (s.flyAdvance n).panel ↔ CondsKept C p s.panel := by
  unfold State.flyAdvance
  split <;> simp [State.advanceTo_conds hC hcap]

end

end

end Sys2Proof.Machine

namespace Sys2Proof.Machine

/-! ### How contexts move on in a segment event (R42, R50 to R53) -/

/-- How pauses, resumes, closes and claims move a context on: one that is not FREE is as before, or, not being CLOSING, starts its
accumulator afresh in another state that is not FREE, with the figures of a close. -/
def Context.Moves (x y : Context) : Prop :=
  x.state ≠ .free →
    y = x ∨ x.state ≠ .closing ∧ ∃ (st : CtxState) (fig : Option CloseFigures), st ≠ .free ∧
      y = { x with state := st, acc := Accumulator.fresh, figures := fig }

theorem Context.Moves.refl (x : Context) : x.Moves x := fun _ => .inl rfl

theorem Context.Moves.trans {x y z : Context} (h : x.Moves y) (g : y.Moves z) : x.Moves z := fun hx => by
  obtain rfl | ⟨running, st, fig, hst, rfl⟩ := h hx
  · exact g hx
  · obtain rfl | ⟨-, st', fig', hst', rfl⟩ := g hst
    · exact .inr ⟨running, st, fig, hst, rfl⟩
    · exact .inr ⟨running, st', fig', hst', rfl⟩

theorem Context.pause_moves (x : Context) : x.Moves x.pause := fun _ => by
  unfold Context.pause
  split
  · next acc => exact .inr ⟨by simp [acc], .paused, x.figures, by simp, rfl⟩
  · exact .inl rfl

theorem Context.resume_moves (x : Context) : x.Moves x.resume := fun _ => by
  unfold Context.resume
  split
  · next paused => exact .inr ⟨by simp [paused], .accumulating, x.figures, by simp, rfl⟩
  · exact .inl rfl

theorem Context.close_moves (fig : CloseFigures) {x : Context} (running : x.state = .accumulating ∨ x.state = .paused) :
    x.Moves (x.close fig) :=
  fun _ => .inr ⟨by rcases running with h | h <;> simp [h], .closing, some fig, by simp, rfl⟩

/-- Every context of the pool moves on. -/
def PoolMoves (v w : Vector Context 36) : Prop := ∀ c : CtxId, v[c].Moves w[c]

theorem PoolMoves.refl (v : Vector Context 36) : PoolMoves v v := fun _ => .refl _

theorem PoolMoves.trans {u v w : Vector Context 36} (h : PoolMoves u v) (g : PoolMoves v w) : PoolMoves u w :=
  fun c => (h c).trans (g c)

theorem PoolMoves.upd (v : Vector Context 36) (c : CtxId) (f : Context → Context) (hf : v[c].Moves (f v[c])) :
    PoolMoves v (upd v c f) := fun d => by
  rw [upd_get]
  split
  · next h => subst h; exact hf
  · exact .refl _

theorem PoolMoves.foldl {α : Type} (f : State → α → State) (hf : ∀ u a, PoolMoves u.pool (f u a).pool) (l : List α)
    (s : State) :
    PoolMoves s.pool (l.foldl f s).pool :=
  foldl_keeps (fun u : State => PoolMoves s.pool u.pool) f (fun u a h => h.trans (hf u a)) l s (.refl _)

theorem State.modContextOf_pool (s : State) (e : Entry) (f : Context → Context) (hf : ∀ x : Context, x.Moves (f x)) :
    PoolMoves s.pool (s.modContextOf e f).pool := by
  unfold State.modContextOf
  split
  · exact .upd _ _ _ (hf _)
  · exact .refl _

theorem State.pauseOuter_pool (s : State) (n : Svc) : PoolMoves s.pool (s.pauseOuter n).pool := by
  unfold State.pauseOuter State.forOpen
  refine PoolMoves.foldl _ (fun u k => ?_) allSlots s
  unfold State.pauseSegment
  (repeat' split) <;> first | exact .refl _ | exact u.modContextOf_pool _ _ Context.pause_moves

theorem State.resumeOuter_pool (s : State) (n : Svc) : PoolMoves s.pool (s.resumeOuter n).pool := by
  unfold State.resumeOuter
  split
  · exact .refl _
  · unfold State.forOpen
    refine PoolMoves.foldl _ (fun u k => ?_) allSlots s
    unfold State.resumeSegment
    split
    · exact u.modContextOf_pool _ _ Context.resume_moves
    · exact .refl _

theorem State.closeContextOf_pool (s : State) (n : Svc) (e : Entry) (cls : SegClass) :
    PoolMoves s.pool (s.closeContextOf n e cls).pool := by
  unfold State.closeContextOf State.closeContext
  split
  · split
    · next running => exact .upd _ _ _ (Context.close_moves _ running)
    · exact .refl _
  · exact .refl _

theorem State.closeSegment_pool (s : State) (n : Svc) (k : Slot) (add : VerdictFlags) :
    PoolMoves s.pool (s.closeSegment n k add).pool := by
  unfold State.closeSegment
  dsimp only
  split
  · next b _ _ =>
    have left : ∀ u : State, PoolMoves u.pool
        ((u.closeContextOf n (s.entry n k) b.cls).leaveLayer n b.cls.layer k).pool := fun u => by
      rw [show ∀ v : State, (v.leaveLayer n b.cls.layer k).pool = v.pool by simp]
      exact u.closeContextOf_pool n _ _
    have resumed : ∀ u : State, PoolMoves u.pool (if b.cls.layer = .inner then u.resumeOuter n else u).pool :=
        fun u => by
      split
      · exact u.resumeOuter_pool n
      · exact .refl _
    have handed : ∀ (u : State) (m : Bool), ((u.markEnd n k b).announceClose n k m).pool = u.pool := by simp
    rw [handed]
    exact .trans (left (s.modEntry n k _)) (resumed _)
  · exact .refl _

theorem State.closeOnNext_pool (s : State) (n : Svc) (l : Layer) (f : Firing) :
    PoolMoves s.pool (s.closeOnNext n l f).pool := by
  rw [State.closeOnNext_eq]
  refine PoolMoves.foldl _ (fun u k => ?_) allSlots s
  unfold State.closeOne
  (repeat' split) <;> first | exact .refl _ | exact u.closeSegment_pool n k _

theorem State.freeContext_free {s : State} {c : CtxId} (h : s.freeContext = some c) : s.pool[c].state = .free := by
  simpa using List.find?_some h

theorem State.claimFor_pool (s : State) (n : Svc) (k : Slot) (sn : Snapshot) (paused : Bool) :
    PoolMoves s.pool (s.claimFor n k sn paused).pool := by
  unfold State.claimFor
  split
  · next c hc => exact .upd _ _ _ fun hx => absurd (State.freeContext_free hc) hx
  · rw [show ∀ u : State, (u.raise n .meterShortage).pool = u.pool by simp]
    exact .refl _

theorem State.opened_pool (s : State) (n : Svc) (k : Slot) (b : Body) (f : Firing) :
    PoolMoves s.pool (s.opened n k b f).pool := by
  have paused : ∀ u : State, PoolMoves u.pool (if b.cls.layer = .inner then u.pauseOuter n else u).pool := fun u => by
    split
    · exact u.pauseOuter_pool n
    · exact .refl _
  unfold State.opened
  dsimp only
  refine .trans ?_ (paused _)
  rw [State.modSched_pool, State.modEntry_pool]
  exact s.claimFor_pool n k _ _

theorem State.openSegment_pool (s : State) (n : Svc) (k : Slot) (f : Firing) :
    PoolMoves s.pool (s.openSegment n k f).pool := by
  cases hb : (s.entry n k).body with
  | none => rw [State.openSegment_none hb]; exact .refl _
  | some b =>
    have handed : ∀ u : State, (u.writeStanding n k).pool = u.pool := by simp
    rw [State.openSegment_body hb, handed]
    exact (s.closeOnNext_pool n _ f).trans (State.opened_pool _ n k b f)

theorem State.fireBoundary_pool (s : State) (n : Svc) (f : Firing) (x : Boundary) :
    PoolMoves s.pool (s.fireBoundary n f x).pool := by
  unfold State.fireBoundary
  dsimp only
  split
  · exact s.openSegment_pool n _ f
  · rw [show ∀ u : State, (u.writeStanding n x.slot).pool = u.pool by simp]
    exact .refl _
  · exact s.openSegment_pool n _ _
  · exact s.closeSegment_pool n _ _
  · exact s.closeSegment_pool n _ _
  · exact .refl _

/-- R87: boundaries move every context of the pool on. -/
theorem State.fireAll_pool (s : State) (n : Svc) (c : FireCause) (bs : List Boundary) :
    PoolMoves s.pool (s.fireAll n c bs).pool :=
  PoolMoves.foldl _ (fun u x => u.fireBoundary_pool n c.firing x) bs s

end Sys2Proof.Machine

namespace Sys2Proof.Machine

/-! ### Run breaks (R28) and the pool under the operations of a feed lane -/

theorem allContexts_nodup : allContexts.Nodup := List.nodup_finRange 36

/-- R28: what a break of a service's runs does to a context. -/
theorem State.breakContextRuns_pool (s : State) (n : Svc) (c : CtxId) :
    (s.breakContextRuns n).pool[c] = if s.pool[c].ownedBy n then s.pool[c].breakRun else s.pool[c] := by
  have fold := foldl_at (fun (u : State) (d : CtxId) => u.pool[d]) (fun x => if x.ownedBy n then x.breakRun else x)
    (fun u d => if u.pool[d].ownedBy n then u.modPool d Context.breakRun else u)
    (fun u d => by split <;> simp)
    (fun u d e h => by split <;> simp [h]) c allContexts s allContexts_nodup
  simpa [State.breakContextRuns] using fold

/-- R13, R16, R28: at an exit from FLYWHEEL the service's meter and contexts break their runs. -/
theorem State.leaveFlywheel_meter (s : State) (n : Svc) (h : s.feed[n].lock = .flywheel) :
    (s.leaveFlywheel n).meter[n] = s.brokenMeter n := by
  have kept : CondsKept [.feedLoss] s.panel
      ((s.modFeed n fun f => { f with frameTimer := none }).setLive n .feedLoss false).panel := by
    simp
  have silence := kept.svcCond n (c := .audioSilence) (by decide)
  unfold State.leaveFlywheel
  rw [if_pos h]
  simp [State.runBreak, State.brokenMeter, Meter.breakRun, silence]

theorem State.leaveFlywheel_pool (s : State) (n : Svc) (h : s.feed[n].lock = .flywheel) (c : CtxId) :
    (s.leaveFlywheel n).pool[c] = if s.pool[c].ownedBy n then s.pool[c].breakRun else s.pool[c] := by
  unfold State.leaveFlywheel
  rw [if_pos h]
  have broken := (((s.modFeed n fun f => { f with frameTimer := none }).setLive n .feedLoss false).modMeter n
    (Meter.breakRun ((((s.modFeed n fun f => { f with frameTimer := none }).setLive n .feedLoss false).svcCond n
      .audioSilence).live))).breakContextRuns_pool n c
  simpa [State.runBreak] using broken

theorem State.advanceTo_pool (s : State) (n : Svc) (c : FireCause) (t : Nat) :
    PoolMoves s.pool (s.advanceTo n c t).pool := by
  have fired : ∀ u : State, (u.refreshRequirement n).pool = u.pool := by simp
  unfold State.advanceTo State.advanceBoundaries
  dsimp only
  rw [fired]
  exact State.fireAll_pool (s.modFeed n _) n c _

theorem State.judgeStamp_pool (s : State) (n : Svc) (t : Nat) : PoolMoves s.pool (s.judgeStamp n t).pool := by
  have raised : ∀ u : State, (u.raiseTimeFault n).pool = u.pool := by simp
  unfold State.judgeStamp State.jumpTo
  dsimp only
  split
  · exact State.advanceTo_pool (s.modFeed n _) n _ _
  · split
    · have := State.advanceTo_pool ((s.modFeed n fun f => { f with lock := .locked }).raiseTimeFault n) n .jump t
      rwa [raised] at this
    · split
      · exact .refl _
      · rw [raised]; exact .refl _

/-- A context whose run was broken when the service left FLYWHEEL, moved on by what the same event fires. -/
theorem ContextRunsBroken.of_moves {n : Svc} {s u t : State}
    (hu : ∀ c : CtxId, u.pool[c] = if s.pool[c].ownedBy n then s.pool[c].breakRun else s.pool[c])
    (ht : PoolMoves u.pool t.pool) : ContextRunsBroken n s t := by
  intro c hown hacc
  have broken : u.pool[c] = { s.pool[c] with acc := Accumulator.fresh } := by
    rw [hu c, if_pos hown]
    exact if_pos hacc
  have taken : u.pool[c].state ≠ .free := by
    rw [broken]
    exact fun h => nomatch hacc.symm.trans h
  rcases ht c taken with same | ⟨-, st, fig, -, moved⟩
  · exact ⟨s.pool[c].state, s.pool[c].figures, by rw [same, broken]⟩
  · exact ⟨st, fig, by rw [moved, broken]⟩

/-- R2: the state in which a FRAME's stamp is applied. -/
def State.lineUp (s : State) (n : Svc) : State := s.modFeed n fun f => { f with lineDown := false }

theorem State.takeFrame_eq (s : State) (n : Svc) (t : Nat) (code : BitVec 16) :
    s.takeFrame n t code =
      ((((s.lineUp n).applyStamp n t).judgeRate n code).modFeed n fun f => { f with received := f.received + 1 }).judgeFrame n :=
  rfl

theorem State.applyStamp_flywheel {s : State} {n : Svc} (fly : s.feed[n].lock = .flywheel) (t : Nat) :
    (s.lineUp n).applyStamp n t = (((s.lineUp n).leaveFlywheel n).judgeStamp n t).reloadLoss n := by
  have lock : (s.lineUp n).feed[n].lock = .flywheel := by simpa [State.lineUp] using fly
  unfold State.applyStamp
  rw [lock]

theorem State.takeFrame_meter (s : State) (n : Svc) (t : Nat) (code : BitVec 16) :
    (s.takeFrame n t code).meter[n] = if s.feed[n].lock = .flywheel then s.brokenMeter n else s.meter[n] := by
  have later : (s.takeFrame n t code).meter = ((s.lineUp n).applyStamp n t).meter := by simp [State.takeFrame_eq]
  rw [later]
  split
  · next fly =>
    have left := (s.lineUp n).leaveFlywheel_meter n (by simpa [State.lineUp] using fly)
    rw [State.applyStamp_flywheel fly,
      show ∀ u : State, ((u.judgeStamp n t).reloadLoss n).meter = u.meter by simp, left]
    rfl
  · next other =>
    have same : ((s.lineUp n).applyStamp n t).meter = (s.lineUp n).meter := by
      unfold State.applyStamp
      split
      · split <;> simp
      · simp
      · simp
      · next fly => exact absurd (by simpa [State.lineUp] using fly) other
    rw [same]
    rfl

theorem State.takeFrame_pool (s : State) (n : Svc) (t : Nat) (code : BitVec 16) (fly : s.feed[n].lock = .flywheel) :
    PoolMoves ((s.lineUp n).leaveFlywheel n).pool (s.takeFrame n t code).pool := by
  have later : (s.takeFrame n t code).pool = ((s.lineUp n).applyStamp n t).pool := by simp [State.takeFrame_eq]
  rw [later, State.applyStamp_flywheel fly, show ∀ u : State, (u.reloadLoss n).pool = u.pool by simp]
  exact State.judgeStamp_pool _ n t

/-! ### The fields of the record after a FRAME -/

theorem Feed.framed_fields (enable : Bool) (rate t : Nat) (code : BitVec 16) (f : Feed) :
    (f.framed enable rate t code).lineDown = false ∧ (f.framed enable rate t code).lastRate = some code ∧
      ((f.framed enable rate t code).mismatch = true ↔ code.toNat ≠ rate) ∧
      (f.framed enable rate t code).lastSeq = f.lastSeq ∧ (f.framed enable rate t code).received = f.received + 1 ∧
      (f.framed enable rate t code).advances = f.advances ∧ (f.framed enable rate t code).discarded = f.discarded := by
  unfold Feed.framed Feed.stamped Feed.judged
  cases f.lock <;> dsimp only <;> split <;> simp

/-- R13: leaving FLYWHEEL stops the frame timer. -/
theorem Feed.framed_frameTimer (enable : Bool) (rate t : Nat) (code : BitVec 16) (f : Feed) :
    (f.framed enable rate t code).frameTimer = if f.lock = .flywheel then none else f.frameTimer := by
  unfold Feed.framed Feed.stamped Feed.judged
  cases f.lock <;> simp only [reduceCtorEq, ↓reduceIte] <;> split <;> rfl

/-- R7: SEEKING takes the stamp as the service time where the sheet enables the service. -/
theorem Feed.framed_seeking {f : Feed} (h : f.lock = .seeking) (enable : Bool) (rate t : Nat) (code : BitVec 16) :
    (f.framed enable rate t code).lock = (if enable then .locked else .seeking) ∧
      (f.framed enable rate t code).time = (if enable then t else f.time) ∧
      (f.framed enable rate t code).lossTimer = (if enable then some rate else f.lossTimer) := by
  cases enable <;> simp [Feed.framed, Feed.stamped, h]

/-- R8 to R10, R13, R14: outside SEEKING a later stamp is taken, another one is held. -/
theorem Feed.framed_timed {f : Feed} (h : f.lock ≠ .seeking) (enable : Bool) (rate t : Nat) (code : BitVec 16) :
    (f.framed enable rate t code).lock = (if f.time < t then .locked else .held) ∧
      (f.framed enable rate t code).time = (if f.time < t then t else f.time) ∧
      (f.framed enable rate t code).lossTimer = some rate := by
  unfold Feed.framed Feed.stamped Feed.judged
  cases lock : f.lock with
  | seeking => exact absurd lock h
  | locked | held | flywheel => dsimp only; split <;> simp

/-- R28: a FRAME that ends FLYWHEEL leaves the runs of the service's accumulating contexts broken. -/
theorem State.takeFrame_runsBroken (s : State) (n : Svc) (t : Nat) (code : BitVec 16)
    (fly : s.feed[n].lock = .flywheel) :
    ContextRunsBroken n s (s.takeFrame n t code) :=
  .of_moves ((s.lineUp n).leaveFlywheel_pool n (by simpa [State.lineUp] using fly)) (s.takeFrame_pool n t code fly)

/-- Settles O9: the record is that of `Feed.framed`; only the exit from FLYWHEEL touches the meter, and what the FRAME's
time advance then fires leaves the broken runs of the contexts broken. -/
theorem frameServiceTime : Obligations.FrameServiceTime := by
  intro s n stamp rate hp
  refine ⟨_, exec_effectOf (.frame n stamp rate) hp nofun, ?_⟩
  have feed : (effectOf (.frame n stamp rate) s).feed[n] =
      s.feed[n].framed (s.sheetOf n).enable (s.sheetOf n).rate stamp.toNat rate := s.takeFrame_feed_own n stamp.toNat rate
  have meter : (effectOf (.frame n stamp rate) s).meter[n] = _ := s.takeFrame_meter n stamp.toNat rate
  rw [feed, meter]
  obtain ⟨line, last, mismatch, seq, received, advances, discarded⟩ :=
    Feed.framed_fields (s.sheetOf n).enable (s.sheetOf n).rate stamp.toNat rate s.feed[n]
  have seeking := fun (lock : s.feed[n].lock = .seeking) =>
    Feed.framed_seeking lock (s.sheetOf n).enable (s.sheetOf n).rate stamp.toNat rate
  have timed := fun (lock : s.feed[n].lock ≠ .seeking) =>
    Feed.framed_timed lock (s.sheetOf n).enable (s.sheetOf n).rate stamp.toNat rate
  refine ⟨fun lock enabled => ?_, fun lock disabled => ?_, fun lock => ?_, Feed.framed_frameTimer .., line, last, mismatch,
    seq, received, advances, discarded, fun lock => if_neg lock,
    fun lock => ⟨if_pos lock, s.takeFrame_runsBroken n stamp.toNat rate lock⟩⟩
  · obtain ⟨hlock, htime, htimer⟩ := seeking lock
    rw [hlock, htime, htimer, enabled]
    exact ⟨rfl, rfl, rfl⟩
  · obtain ⟨hlock, htime, htimer⟩ := seeking lock
    rw [hlock, htime, htimer, disabled]
    exact ⟨rfl, rfl, rfl⟩
  · obtain ⟨hlock, htime, htimer⟩ := timed lock
    rw [hlock, htime, htimer]
    exact ⟨by split <;> exact ⟨rfl, rfl⟩, rfl⟩

/-- R12: the record at an entry to FLYWHEEL, before the advances already due. -/
def Feed.entered (rate : Nat) (f : Feed) : Feed :=
  { f with lock := .flywheel, lossTimer := none, frameTimer := some rate }

@[simp] theorem State.flyAdvances_feed_own (s : State) (n : Svc) (due : List Nat) :
    (due.foldl (fun s _ => s.flyAdvance n) s).feed[n.val] = Feed.flown^[due.length] s.feed[n.val] := by
  induction due generalizing s with
  | nil => rfl
  | cons d ds ih => simp [ih]

@[simp] theorem State.enterFlywheel_feed_own (s : State) (n : Svc) (due : Nat) :
    (s.enterFlywheel n due).feed[n.val] = Feed.flown^[due] (s.feed[n.val].entered (s.sheetOf n).rate) := by
  simp [State.enterFlywheel, Feed.entered]

theorem Feed.flown_lineDown (f : Feed) : f.flown.lineDown = f.lineDown := by
  unfold Feed.flown
  split <;> rfl

theorem Feed.flown_iterate_lineDown (f : Feed) (due : Nat) : (Feed.flown^[due] f).lineDown = f.lineDown := by
  induction due generalizing f with
  | zero => rfl
  | succ due ih => rw [Function.iterate_succ_apply, ih, Feed.flown_lineDown]

theorem State.takeLoss_lineDown (s : State) (n : Svc) (late : Bool) : (s.takeLoss n late).feed[n].lineDown = true := by
  unfold State.takeLoss
  dsimp only
  split <;> simp [Feed.flown_iterate_lineDown, Feed.entered]

/-- Settles O14: LOSS sets the indication before its lock state's own work, which leaves the indication as it is; the live
block's copy is the second of the Feed Receiver's bytes. -/
theorem lineIndication : Obligations.LineIndication := by
  refine ⟨fun s n late hp => ⟨_, exec_effectOf (.loss n late) hp nofun, ?_⟩, fun s n hp => exec_effectOf (.restore n) hp nofun,
    fun s n stamp rate hp => ⟨_, exec_effectOf (.frame n stamp rate) hp nofun, ?_⟩, fun s n => ⟨?_, ?_⟩⟩
  · exact s.takeLoss_lineDown n late
  · have feed : (effectOf (.frame n stamp rate) s).feed[n] = _ := s.takeFrame_feed_own n stamp.toNat rate
    rw [feed]
    exact (Feed.framed_fields ..).1
  · unfold State.livePieces
    exact List.mem_cons_of_mem _ List.mem_cons_self
  · cases down : s.feed[n].lineDown <;> simp [State.feedBytes, le, boolByte] <;> exact down

end Sys2Proof.Machine

namespace Sys2Proof.Machine

/-! ### The machine after reset, part by part -/

theorem State.reset_feed (n : Svc) : State.reset.feed[n] = Feed.reset := by simp [State.reset]
theorem State.reset_meter (n : Svc) : State.reset.meter[n] = Meter.reset := by simp [State.reset]
theorem State.reset_caption (n : Svc) : State.reset.caption[n] = Caption.reset factorySheet := by simp [State.reset]
theorem State.reset_sched (n : Svc) : State.reset.sched[n] = Sched.reset := by simp [State.reset]
theorem State.reset_proxy (n : Svc) : State.reset.proxy[n] = Proxy.reset := by simp [State.reset]
theorem State.reset_recorder (n : Svc) : State.reset.recorder[n] = Recorder.reset := by simp [State.reset]
theorem State.reset_live (n : Svc) : State.reset.live[n] = LiveWrite.reset := by simp [State.reset]
theorem State.reset_sheet (n : Svc) : State.reset.sheet[n] = SheetUnit.loaded factorySheet := by simp [State.reset]
theorem State.reset_sheetOf (n : Svc) : State.reset.sheetOf n = factorySheet := by
  simp [State.sheetOf, State.reset, SheetUnit.loaded]
theorem State.reset_stored (n : Svc) : State.reset.store.stored[n] = ⟨factorySheet, true⟩ := by
  simp [State.reset, Store.factory]
theorem State.reset_pool (c : CtxId) : State.reset.pool[c] = Context.free := by simp [State.reset]
theorem State.reset_extents (x : ExtId) : State.reset.extents[x] = Extent.blank := by simp [State.reset]

theorem State.reset_entry (n : Svc) (k : Slot) : State.reset.entry n k = Entry.fresh := by
  simp [State.entry, State.reset, Sched.reset]

/-- R69, R174: only CAPTION_LOSS, which the factory sheet requires, is live and raised after reset. -/
theorem State.reset_svcCond (n : Svc) (c : SvcCond) :
    State.reset.svcCond n c = if c = .captionLoss then CondEntry.raisedAtReset else CondEntry.reset := by
  have panel : State.reset.panel[n] = panelReset true := by simp [State.reset]
  unfold State.svcCond State.cond
  simp only [panel]
  cases c <;> rfl

theorem State.reset_devCond (c : DevCond) : State.reset.cond (.device c) = CondEntry.reset := by
  cases c <;> rfl

/-- R190: sixteen factory quotas fill the spool. -/
theorem State.reset_quotaSum : State.reset.quotaSum = Config.spoolSlots := by
  have quotas : (fun n : Svc => (State.reset.sheetOf n).quota) = fun _ => 65536 :=
    funext fun n => by rw [State.reset_sheetOf]; rfl
  unfold State.quotaSum
  rw [quotas]
  rfl

theorem State.reset_queued (n : Svc) : State.reset.proxy[n].queue = [] := by rw [State.reset_proxy]; rfl

theorem State.reset_spoolFree : State.reset.spoolFree = Config.spoolSlots := by
  have queues : (fun n : Svc => State.reset.proxy[n].queue.length) = fun _ => 0 :=
    funext fun n => by rw [State.reset_queued]; rfl
  unfold State.spoolFree
  rw [queues]
  rfl

theorem State.reset_freeCount : State.reset.freeCount = 36 := by
  unfold State.freeCount
  rw [List.filter_eq_self.mpr fun c _ => by rw [State.reset_pool]; rfl]
  rfl

/-- Settles O5: part by part, with the values of the reset tables. -/
theorem resetValues : Obligations.ResetValues := by
  refine ⟨rfl, rfl, rfl, rfl, rfl, rfl, rfl, rfl, State.reset_freeCount, rfl, State.reset_spoolFree, rfl, rfl,
    State.reset_quotaSum, rfl, rfl, rfl, rfl, rfl, rfl, rfl, fun n => ?_, State.reset_devCond,
    fun c => by rw [State.reset_pool]; rfl, fun x => by rw [State.reset_extents]; exact ⟨rfl, rfl, rfl, rfl, rfl, rfl, rfl, rfl, rfl⟩⟩
  rw [State.reset_sched, State.reset_recorder, State.reset_sheetOf, State.reset_stored, State.reset_svcCond]
  exact ⟨State.reset_feed n, State.reset_meter n, State.reset_caption n, rfl, rfl, rfl, rfl,
    fun k => by rw [State.reset_entry]; exact ⟨rfl, rfl, rfl, rfl, rfl⟩,
    State.reset_proxy n, rfl, rfl, rfl, rfl, rfl, rfl, rfl, rfl, rfl, rfl, rfl, rfl, rfl, State.reset_live n,
    State.reset_sheet n, rfl, rfl, rfl, fun c other => by rw [State.reset_svcCond, if_neg other]; rfl⟩

/-! ### The invariants after reset -/

theorem FeedSound.reset : FeedSound State.reset := by
  intro n
  rw [State.reset_feed, State.reset_svcCond]
  decide

theorem CaptionSound.reset : CaptionSound State.reset := by
  intro n
  rw [State.reset_caption, State.reset_svcCond, State.reset_svcCond]
  decide

theorem TallySound.reset : TallySound State.reset := by
  intro n k
  rw [State.reset_entry]
  decide

theorem CountsSound.reset : CountsSound State.reset := by
  refine ⟨fun c => ?_, fun c r busy => nomatch busy⟩
  rw [State.reset_pool]
  exact ⟨rfl, by decide, List.Pairwise.nil, nofun⟩

theorem QueueSound.reset : QueueSound State.reset := by
  refine ⟨List.nodup_nil, fun c => ?_, fun c => ?_, fun n k x opened => ?_⟩
  · rw [State.reset_pool]
    exact ⟨nofun, nofun⟩
  · rw [State.reset_pool]
    exact ⟨nofun, nofun⟩
  · rw [State.reset_entry] at opened
    nomatch opened

theorem SpoolSound.reset : SpoolSound State.reset := by
  have queues : (fun n : Svc => State.reset.proxy[n].queue.length) = fun _ => 0 :=
    funext fun n => by rw [State.reset_queued]; rfl
  refine ⟨fun n => ?_, ?_⟩
  · rw [State.reset_proxy]
    simp [Proxy.reset]
  · rw [queues]
    simp

theorem QuotaSound.reset : QuotaSound State.reset := State.reset_quotaSum.le

theorem DocketsSound.reset : DocketsSound State.reset := by
  intro n
  rw [State.reset_sched]
  refine ⟨fun l k h => ?_, List.nodup_nil, nofun, fun k h => ?_, fun k h => ?_, fun k h => ?_⟩
  · cases l <;> nomatch h
  all_goals
    rw [State.reset_entry] at h
    nomatch h

theorem FillSound.reset : FillSound State.reset := by
  refine ⟨fun n x => ?_, fun x filling => ?_, fun n => ?_, trivial⟩
  · rw [State.reset_recorder, State.reset_extents]
    exact ⟨nofun, fun h => nomatch h.1⟩
  · rw [State.reset_extents] at filling
    nomatch filling
  · rw [State.reset_recorder]
    decide

theorem AttentionSound.reset : AttentionSound State.reset := by
  refine ⟨by decide, by decide, nofun, fun r => ?_, fun n i queued => ?_, nofun, nofun⟩
  · cases r with
    | device c => rw [State.reset_devCond]; exact ⟨nofun, nofun⟩
    | service n c =>
      have entry := State.reset_svcCond n c
      unfold State.svcCond at entry
      rw [entry]
      split <;> exact ⟨nofun, nofun⟩
  · rw [State.reset_live] at queued
    nomatch queued

/-- Settles O52. -/
theorem invariantsAtReset : Obligations.InvariantsAtReset :=
  ⟨HostOrdered.reset, FeedSound.reset, CaptionSound.reset, TallySound.reset, CountsSound.reset, QueueSound.reset,
    SpoolSound.reset, QuotaSound.reset, DocketsSound.reset, FillSound.reset, AttentionSound.reset⟩

end Sys2Proof.Machine

namespace Sys2Proof.Machine

/-! ### Raises outside LINKED

No write is queued and no alert begins: only the entry itself changes. -/

theorem State.changeCond_unlinked {s : State} (h : s.isLinked = false) (r : CondRef) (f : CondEntry → CondEntry) :
    s.changeCond r f = s.modCond r f := by
  have link : (s.modCond r fun e => (f e).touched false).isLinked = false := by simpa [State.isLinked] using h
  unfold State.changeCond State.queueEntry
  rw [h, link]
  rfl

theorem State.evaluate_unlinked {s : State} (h : s.isLinked = false) : s.evaluate = s := by
  unfold State.evaluate
  rw [h]
  rfl

theorem State.raise_unlinked {s : State} (h : s.isLinked = false) (n : Svc) (c : SvcCond) :
    s.raise n c = s.modCond (.service n c) (CondEntry.raised (s.stampOf n)) := by
  unfold State.raise
  rw [State.changeCond_unlinked h]
  exact State.evaluate_unlinked (by simpa [State.isLinked] using h)

theorem State.raiseDevice_unlinked {s : State} (h : s.isLinked = false) (c : DevCond) :
    s.raiseDevice c = s.modCond (.device c) (CondEntry.raised none) := by
  unfold State.raiseDevice
  rw [State.changeCond_unlinked h]
  exact State.evaluate_unlinked (by simpa [State.isLinked] using h)

theorem State.setLive_unlinked {s : State} (h : s.isLinked = false) (n : Svc) (c : SvcCond)
    (dead : (s.svcCond n c).live = false) :
    s.setLive n c true = (s.modCond (.service n c) fun e => { e with live := true }).modCond (.service n c)
      (CondEntry.raised (s.stampOf n)) := by
  have link : (s.modCond (.service n c) fun e => { e with live := true }).isLinked = false := by
    simpa [State.isLinked] using h
  unfold State.setLive
  rw [State.changeCond_unlinked h, if_neg (by rw [dead]; decide)]
  simp only [↓reduceIte]
  rw [State.raise_unlinked link]
  rfl

theorem State.setLive_same {s : State} {n : Svc} {c : SvcCond} {live : Bool} (h : (s.svcCond n c).live = live) :
    s.setLive n c live = s := if_pos h

/-! ### The raises of a reset (R69, R190) -/

theorem State.isLinked_of_ctl {s t : State} (h : t.ctl = s.ctl) : t.isLinked = s.isLinked := by
  unfold State.isLinked
  rw [h]

/-- R190: STORE_FAULT raised where the stored sheet is bad. -/
def State.storeJudged (s : State) (n : Svc) : State :=
  if s.store.stored[n].good then s else s.modCond (.device .storeFault) (CondEntry.raised none)

theorem State.storeJudged_touches (s : State) (n : Svc) : Touches [.panel, .devPanel] s (s.storeJudged n) := by
  unfold State.storeJudged
  split
  · exact .refl _ _
  · exact s.modCond_touches _ _

theorem State.storeJudged_cond (s : State) (n : Svc) (q : CondRef) :
    (s.storeJudged n).cond q =
      if q = .device .storeFault ∧ s.store.stored[n].good = false then (s.cond q).raised none else s.cond q := by
  unfold State.storeJudged
  split
  · next good => rw [if_neg (by rw [good]; exact nofun)]
  · next bad =>
    rw [State.modCond_get]
    simp only [Bool.eq_false_iff.mpr bad, and_true]

theorem State.raiseLoad_eq {s : State} (h : s.isLinked = false) (n : Svc) :
    s.raiseLoad n =
      if s.sheet[n].cause = some .quotaSum then
        (s.storeJudged n).modCond (.service n .sheetFault) (CondEntry.raised (s.stampOf n))
      else s.storeJudged n := by
  have judged : (if s.store.stored[n].good then s else s.raiseDevice .storeFault) = s.storeJudged n := by
    rw [State.raiseDevice_unlinked h]
    rfl
  have outside := s.storeJudged_touches n
  have ctl : (s.storeJudged n).ctl = s.ctl := outside .ctl (by decide)
  have feed : (s.storeJudged n).feed = s.feed := outside .feed (by decide)
  have sheet : (s.storeJudged n).sheet = s.sheet := outside .sheet (by decide)
  unfold State.raiseLoad
  simp only [judged, sheet, State.raise_unlinked ((State.isLinked_of_ctl ctl).trans h), State.stampOf, feed]

theorem State.raiseLoad_touches_panels {s : State} (h : s.isLinked = false) (n : Svc) :
    Touches [.panel, .devPanel] s (s.raiseLoad n) := by
  rw [State.raiseLoad_eq h]
  split
  · exact (s.storeJudged_touches n).trans ((s.storeJudged n).modCond_touches _ _)
  · exact s.storeJudged_touches n

/-- R190: what the load of one service raises. -/
theorem State.raiseLoad_cond {s : State} (h : s.isLinked = false) (n : Svc) (q : CondRef) :
    (s.raiseLoad n).cond q =
      if q = .service n .sheetFault ∧ s.sheet[n].cause = some .quotaSum then (s.cond q).raised (s.stampOf n)
      else if q = .device .storeFault ∧ s.store.stored[n].good = false then (s.cond q).raised none else s.cond q := by
  rw [State.raiseLoad_eq h]
  by_cases cut : s.sheet[n].cause = some .quotaSum
  · rw [if_pos cut, State.modCond_get, State.storeJudged_cond]
    by_cases own : q = .service n .sheetFault
    · subst own
      simp only [cut, reduceCtorEq, false_and, and_self, ↓reduceIte]
    · simp only [own, false_and, ↓reduceIte]
  · rw [if_neg cut, State.storeJudged_cond]
    simp only [cut, and_false, ↓reduceIte]

theorem State.raiseLoads_touches_panels (l : List Svc) {s : State} (h : s.isLinked = false) :
    Touches [.panel, .devPanel] s (l.foldl (fun s n => s.raiseLoad n) s) :=
  foldl_keeps (Touches [.panel, .devPanel] s) _
    (fun u n hu => hu.trans (State.raiseLoad_touches_panels ((State.isLinked_of_ctl (hu .ctl (by decide))).trans h) n)) l s (.refl _ _)

/-- R190: the service conditions after the load of a list of services. -/
theorem State.raiseLoads_svcCond (n : Svc) (c : SvcCond) : ∀ (l : List Svc) (s : State), l.Nodup → s.isLinked = false →
    (l.foldl (fun s n => s.raiseLoad n) s).svcCond n c =
      if n ∈ l ∧ c = .sheetFault ∧ s.sheet[n].cause = some .quotaSum then (s.svcCond n c).raised (s.stampOf n)
      else s.svcCond n c
  | [], s, _, _ => by simp
  | m :: l, s, nodup, h => by
    obtain ⟨fresh, nodup⟩ := List.nodup_cons.mp nodup
    have step := State.raiseLoad_touches_panels h m
    have sheet : (s.raiseLoad m).sheet = s.sheet := step .sheet (by decide)
    have feed : (s.raiseLoad m).feed = s.feed := step .feed (by decide)
    have stamp : (s.raiseLoad m).stampOf n = s.stampOf n := by unfold State.stampOf; rw [feed]
    have first : (s.raiseLoad m).svcCond n c = _ := State.raiseLoad_cond h m (.service n c)
    rw [List.foldl_cons, State.raiseLoads_svcCond n c l _ nodup ((State.isLinked_of_ctl (step .ctl (by decide))).trans h),
      sheet, stamp, first, if_neg (show ¬(CondRef.service n c = .device .storeFault ∧ _) from nofun)]
    simp only [CondRef.service.injEq, List.mem_cons]
    by_cases own : n = m
    · subst own
      simp only [fresh, false_and, ↓reduceIte, true_and, true_or]
      rfl
    · simp only [own, false_and, ↓reduceIte, false_or]
      rfl

/-- R190: STORE_FAULT after the load of a list of services. -/
theorem State.raiseLoads_storeFault : ∀ (l : List Svc) (s : State), s.isLinked = false →
    (l.foldl (fun s n => s.raiseLoad n) s).cond (.device .storeFault) =
      (CondEntry.raised none)^[(l.filter fun n => !s.store.stored[n].good).length] (s.cond (.device .storeFault))
  | [], s, _ => rfl
  | m :: l, s, h => by
    have step := State.raiseLoad_touches_panels h m
    have store : (s.raiseLoad m).store = s.store := step .store (by decide)
    have first := State.raiseLoad_cond h m (.device .storeFault)
    rw [if_neg (show ¬(CondRef.device .storeFault = .service m .sheetFault ∧ _) from nofun)] at first
    rw [List.foldl_cons, State.raiseLoads_storeFault l _ ((State.isLinked_of_ctl (step .ctl (by decide))).trans h), store,
      first]
    by_cases good : s.store.stored[m].good = true
    · rw [List.filter_cons_of_neg (by simpa using good), if_neg (by simp_all)]
    · rw [List.filter_cons_of_pos (by simpa using good), if_pos (by simp_all)]
      rfl

/-- R190: the load raises no other device condition. -/
theorem State.raiseLoads_devCond {c : DevCond} (other : c ≠ .storeFault) (l : List Svc) {s : State}
    (h : s.isLinked = false) :
    (l.foldl (fun s n => s.raiseLoad n) s).cond (.device c) = s.cond (.device c) :=
  (foldl_keeps (fun u : State => u.isLinked = false ∧ u.cond (.device c) = s.cond (.device c)) _
    (fun u n hu => ⟨(State.isLinked_of_ctl (State.raiseLoad_touches_panels hu.1 n .ctl (by decide))).trans hu.1, by
      rw [State.raiseLoad_cond hu.1, if_neg (by simp), if_neg (by simp [other]), hu.2]⟩) l s ⟨h, rfl⟩).2

/-- R69: the caption conditions of a service as its reset leaves them: dead, with the state LOST. -/
structure CaptionsDead (s : State) (n : Svc) : Prop where
  lost : s.caption[n].state = .lost
  loss : (s.svcCond n .captionLoss).live = false
  idle : (s.svcCond n .captionIdle).live = false

theorem State.judgeCaptions_dead {s : State} {n : Svc} (dead : CaptionsDead s n) :
    s.judgeCaptions n = if s.caption[n].required then s.setLive n .captionLoss true else s := by
  obtain ⟨lost, loss, idle⟩ := dead
  unfold State.judgeCaptions
  cases required : s.caption[n].required with
  | true =>
    simp only [required, lost, reduceCtorEq, decide_true, decide_false, Bool.and_self, Bool.and_false, ↓reduceIte,
      State.setLive_same idle]
  | false =>
    simp only [required, Bool.false_and, Bool.false_eq_true, ↓reduceIte, State.setLive_same loss, State.setLive_same idle]

theorem State.judgeCaptions_dead_touches {s : State} (h : s.isLinked = false) {n : Svc} (dead : CaptionsDead s n) :
    Touches [.panel, .devPanel] s (s.judgeCaptions n) := by
  rw [State.judgeCaptions_dead dead]
  split
  · rw [State.setLive_unlinked h n _ dead.loss]
    exact (s.modCond_touches _ _).trans (State.modCond_touches _ _ _)
  · exact .refl _ _

theorem State.judgeCaptions_dead_cond {s : State} (h : s.isLinked = false) {n : Svc} (dead : CaptionsDead s n)
    (q : CondRef) :
    (s.judgeCaptions n).cond q =
      if q = .service n .captionLoss ∧ s.caption[n].required = true then
        ({ s.cond q with live := true } : CondEntry).raised (s.stampOf n)
      else s.cond q := by
  rw [State.judgeCaptions_dead dead]
  split
  · next required =>
    rw [State.setLive_unlinked h n _ dead.loss, State.modCond_get, State.modCond_get]
    simp only [required, and_true]
    split <;> rfl
  · next free => simp only [free, Bool.false_eq_true, and_false, ↓reduceIte]

/-- R69: the captions of a list of services judged at a reset. -/
theorem State.judgeAll_dead : ∀ (l : List Svc) (s : State), l.Nodup → s.isLinked = false → (∀ n ∈ l, CaptionsDead s n) →
    Touches [.panel, .devPanel] s (l.foldl (fun s n => s.judgeCaptions n) s) ∧
      (∀ c, (l.foldl (fun s n => s.judgeCaptions n) s).cond (.device c) = s.cond (.device c)) ∧
      ∀ n c, (l.foldl (fun s n => s.judgeCaptions n) s).svcCond n c =
        if n ∈ l ∧ c = .captionLoss ∧ s.caption[n].required = true then
          ({ s.svcCond n c with live := true } : CondEntry).raised (s.stampOf n)
        else s.svcCond n c
  | [], s, _, _, _ => ⟨.refl _ _, fun _ => rfl, fun n c => by simp⟩
  | m :: l, s, nodup, h, dead => by
    obtain ⟨fresh, nodup⟩ := List.nodup_cons.mp nodup
    have own := dead m List.mem_cons_self
    have step := State.judgeCaptions_dead_touches h own
    have caption : (s.judgeCaptions m).caption = s.caption := step .caption (by decide)
    have feed : (s.judgeCaptions m).feed = s.feed := step .feed (by decide)
    have first := State.judgeCaptions_dead_cond h own
    have others : ∀ n, n ≠ m → ∀ c, (s.judgeCaptions m).svcCond n c = s.svcCond n c := fun n other c => by
      have entry := first (.service n c)
      rw [if_neg (by simp [other])] at entry
      exact entry
    obtain ⟨touches, device, service⟩ := State.judgeAll_dead l _ nodup ((State.isLinked_of_ctl (step .ctl (by decide))).trans h)
      fun n hn => by
        have other : n ≠ m := fun same => fresh (same ▸ hn)
        obtain ⟨lost, loss, idle⟩ := dead n (List.mem_cons_of_mem _ hn)
        exact ⟨by rw [caption]; exact lost, by rw [others n other]; exact loss, by rw [others n other]; exact idle⟩
    refine ⟨step.trans touches, fun c => (device c).trans ((first _).trans (if_neg (by simp))), fun n c => ?_⟩
    have stamp : (s.judgeCaptions m).stampOf n = s.stampOf n := by unfold State.stampOf; rw [feed]
    rw [List.foldl_cons, service n c, caption, stamp]
    by_cases same : n = m
    · subst same
      have entry := first (.service n c)
      simp only [CondRef.service.injEq, true_and] at entry
      simp only [fresh, false_and, ↓reduceIte, List.mem_cons, true_or, true_and]
      exact entry
    · simp only [others n same, List.mem_cons, same, false_or]

/-! ### Every block at its reset values -/

theorem allServices_nodup : allServices.Nodup := List.nodup_finRange 16

theorem State.blocksReset_svcCond (s : State) (n : Svc) (c : SvcCond) :
    s.blocksReset.svcCond n c = CondEntry.reset := by
  have panel : s.blocksReset.panel[n] = panelReset false := by simp [State.blocksReset]
  unfold State.svcCond State.cond
  simp only [panel]
  cases c <;> rfl

theorem State.blocksReset_devCond (s : State) (c : DevCond) : s.blocksReset.cond (.device c) = CondEntry.reset := by
  cases c <;> rfl

theorem CondEntry.raised_iterate_reset (k : Nat) :
    (CondEntry.raised none)^[k] CondEntry.reset = { CondEntry.reset with raises := BitVec.ofNat 16 k } := by
  induction k with
  | zero => rfl
  | succ k ih =>
    rw [Function.iterate_succ_apply', ih]
    show CondEntry.mk _ _ _ _ _ (ite _ none none) _ _ _ = _
    rw [ite_self, BitVec.ofNat_add]
    rfl

/-- R190: the load's raises leave what the judgement of the captions reads as the reset set it. -/
theorem State.blocksReset_captionsDead {s : State} (h : s.isLinked = false) (n : Svc) :
    CaptionsDead (allServices.foldl (fun s n => s.raiseLoad n) s.blocksReset) n := by
  have unlinked : s.blocksReset.isLinked = false := h
  have caption : (allServices.foldl (fun s n => s.raiseLoad n) s.blocksReset).caption = s.blocksReset.caption :=
    State.raiseLoads_touches_panels _ unlinked .caption (by decide)
  have conds := fun c => State.raiseLoads_svcCond n c allServices s.blocksReset allServices_nodup unlinked
  refine ⟨?_, ?_, ?_⟩
  · rw [caption]
    simp [State.blocksReset, Caption.reset]
  all_goals
    rw [conds, if_neg (by simp), State.blocksReset_svcCond]
    rfl

/-- R190: the raises of the reset stand in the panels only. -/
theorem State.blocksReset_panels {s : State} (h : s.isLinked = false) :
    Touches [.panel, .devPanel] s.blocksReset s.blocksReset.raiseReset := by
  have loads := State.raiseLoads_touches_panels allServices (s := s.blocksReset) h
  exact loads.trans (State.judgeAll_dead allServices _ allServices_nodup
    ((State.isLinked_of_ctl (loads .ctl (by decide))).trans h) fun n _ => State.blocksReset_captionsDead h n).1

/-- R69, R190: the service conditions after a reset. -/
theorem State.blocksReset_raised {s : State} (h : s.isLinked = false) (n : Svc) (c : SvcCond) :
    s.blocksReset.raiseReset.svcCond n c =
      if c = .captionLoss ∧ s.blocksReset.caption[n].required = true then CondEntry.raisedAtReset
      else if c = .sheetFault ∧ s.blocksReset.sheet[n].cause = some .quotaSum then CondEntry.reset.raised none
      else CondEntry.reset := by
  have loads := State.raiseLoads_touches_panels allServices (s := s.blocksReset) h
  have loaded := State.raiseLoads_svcCond n c allServices s.blocksReset allServices_nodup h
  have captions : (allServices.foldl (fun s n => s.raiseLoad n) s.blocksReset).caption = s.blocksReset.caption :=
    loads .caption (by decide)
  have feeds : (allServices.foldl (fun s n => s.raiseLoad n) s.blocksReset).feed = s.blocksReset.feed :=
    loads .feed (by decide)
  have stamp : s.blocksReset.stampOf n = none := by simp [State.stampOf, State.blocksReset, Feed.reset]
  have stampLater : (allServices.foldl (fun s n => s.raiseLoad n) s.blocksReset).stampOf n = none := by
    rw [← stamp]
    unfold State.stampOf
    rw [feeds]
  have judged := (State.judgeAll_dead allServices _ allServices_nodup
    ((State.isLinked_of_ctl (loads .ctl (by decide))).trans h) fun n _ => State.blocksReset_captionsDead h n).2.2 n c
  rw [captions, stampLater, loaded, stamp, State.blocksReset_svcCond] at judged
  refine judged.trans ?_
  simp only [mem_allServices, true_and]
  by_cases loss : c = .captionLoss
  · subst loss
    simp only [reduceCtorEq, false_and, ↓reduceIte]
    rfl
  · simp only [loss, false_and, ↓reduceIte]

/-- R190: STORE_FAULT after a reset, and no other device condition. -/
theorem State.blocksReset_deviceRaised {s : State} (h : s.isLinked = false) :
    s.blocksReset.raiseReset.cond (.device .linkFault) = CondEntry.reset ∧
      s.blocksReset.raiseReset.cond (.device .storeComplete) = CondEntry.reset ∧
      s.blocksReset.raiseReset.cond (.device .storeFault) =
        { CondEntry.reset with
          raises := BitVec.ofNat 16 (allServices.filter fun n => !s.store.stored[n].good).length } := by
  have loads := State.raiseLoads_touches_panels allServices (s := s.blocksReset) h
  have judged := (State.judgeAll_dead allServices _ allServices_nodup
    ((State.isLinked_of_ctl (loads .ctl (by decide))).trans h) fun n _ => State.blocksReset_captionsDead h n).2.1
  have others : ∀ c, c ≠ .storeFault → s.blocksReset.raiseReset.cond (.device c) = CondEntry.reset := fun c other =>
    (judged c).trans ((State.raiseLoads_devCond other allServices (s := s.blocksReset) h).trans (s.blocksReset_devCond c))
  have store : s.blocksReset.store = s.store := rfl
  have fault := State.raiseLoads_storeFault allServices s.blocksReset h
  rw [State.blocksReset_devCond, CondEntry.raised_iterate_reset, store] at fault
  exact ⟨others _ (by decide), others _ (by decide), (judged .storeFault).trans fault⟩

/-- R190, R200, R201: outside LINKED a reset of the blocks, with its raises, leaves every block at its reset values. -/
theorem State.blocksReset_atReset {s : State} (h : s.isLinked = false) : BlocksAtReset s s.blocksReset.raiseReset := by
  have panels := State.blocksReset_panels h
  have sheet : s.blocksReset.raiseReset.sheet = s.blocksReset.sheet := panels .sheet (by decide)
  have caption : s.blocksReset.raiseReset.caption = s.blocksReset.caption := panels .caption (by decide)
  have conds := fun n => State.blocksReset_raised h n
  refine ⟨sheet, panels .integ (by decide), panels .mover (by decide), panels .devPriority (by decide),
    panels .alert (by decide), panels .header (by decide), fun c => ?_, fun x => ?_,
    fun n => ⟨?_, ?_, ?_, ?_, ?_, ?_, ?_, ?_, ?_, fun c notLoss notFault => ?_⟩, State.blocksReset_deviceRaised h⟩
  · simp [State.blocksReset]
  · simp [State.blocksReset]
  · simp [State.blocksReset]
  · simp [State.blocksReset]
  · simp [State.blocksReset, State.sheetOf]
  · simp [State.blocksReset]
  · simp [State.blocksReset]
  · simp [State.blocksReset]
  · have live : s.blocksReset.raiseReset.live = s.blocksReset.live := panels .live (by decide)
    rw [live]
    simp [State.blocksReset]
  · rw [conds, caption]
    simp only [true_and, reduceCtorEq, false_and, ↓reduceIte]
  · rw [conds, sheet]
    simp only [true_and, reduceCtorEq, false_and, ↓reduceIte]
    split <;> rfl
  · rw [conds, if_neg fun both => notLoss both.1, if_neg fun both => notFault both.1]

/-- A reset reads the stored sheets and the messages sent. -/
theorem BlocksAtReset.of_same {s u t : State} (h : BlocksAtReset u t) (stored : u.store.stored = s.store.stored)
    (alert : u.alert = s.alert) : BlocksAtReset s t := by
  have load : u.store.load = s.store.load := by
    unfold Store.load
    rw [stored]
  unfold BlocksAtReset at h ⊢
  rwa [load, stored, alert] at h

/-- R201: the part as POWER_ON finds it, with power and its commit abandoned. -/
def State.powering (s : State) : State :=
  { s with powered := true, ctl := Ctl.reset, store := { s.store with commit := none } }

theorem State.turnOn_eq (s : State) : s.turnOn = s.powering.blocksReset.raiseReset := rfl

theorem State.commandReset_ready {s : State} (ready : s.store.commit = none) :
    s.commandReset = (s.modCtl Ctl.deviceReset).blocksReset.raiseReset := by
  unfold State.commandReset
  rw [ready]
  rfl

theorem State.commandReset_committing {s : State} (committing : s.store.commit.isSome = true) :
    s.commandReset = s.setReadback codeReset .busy := if_pos committing

/-- Settles O6: a reset of the blocks takes place outside LINKED, so its raises queue no write and begin no alert. -/
theorem resets : Obligations.Resets := by
  refine ⟨fun s => ⟨s.turnOn, rfl, ?_⟩, fun s hp ready => ⟨_, exec_effectOf .deviceReset hp nofun, ?_⟩,
    fun s hp committing => (exec_effectOf .deviceReset hp nofun).trans
      (congrArg Host.Outcome.next (State.commandReset_committing committing))⟩
  · have panels := State.blocksReset_panels (s := s.powering) rfl
    have store : s.turnOn.store = s.powering.store := panels .store (by decide)
    have ctl : s.turnOn.ctl = s.powering.ctl := panels .ctl (by decide)
    have host : s.turnOn.host = s.powering.host := panels .host (by decide)
    have pending : s.turnOn.pending = s.powering.pending := panels .pending (by decide)
    rw [store, ctl, host, pending, State.turnOn_eq]
    exact ⟨(State.blocksReset_atReset (s := s.powering) rfl).of_same rfl rfl, panels .powered (by decide), rfl, rfl, rfl, rfl,
      rfl, rfl⟩
  · have panels := State.blocksReset_panels (s := s.modCtl Ctl.deviceReset) rfl
    have ctl := panels .ctl (by decide)
    have store := panels .store (by decide)
    have host := panels .host (by decide)
    have pending := panels .pending (by decide)
    have powered := panels .powered (by decide)
    simp only [sameIn] at ctl store host pending powered
    have reset : effectOf .deviceReset s = (s.modCtl Ctl.deviceReset).blocksReset.raiseReset :=
      State.commandReset_ready ready
    rw [reset, ctl, store, host, pending, powered]
    exact ⟨(State.blocksReset_atReset (s := s.modCtl Ctl.deviceReset) rfl).of_same rfl rfl, hp, rfl, rfl, rfl, rfl, rfl, rfl,
      rfl, rfl, rfl, rfl⟩

end Sys2Proof.Machine

namespace Sys2Proof.Machine

/-! ### CAPTION_LOSS and CAPTION_IDLE follow the caption state (R69) -/

theorem CondRef.service_ne {c d : SvcCond} (h : c ≠ d) (n : Svc) : CondRef.service n c ≠ .service n d := by
  rintro ⟨⟩
  exact h rfl

theorem State.setLive_other_cond (s : State) (n : Svc) {c d : SvcCond} (h : d ≠ c) (live : Bool) :
    ((s.setLive n c live).svcCond n d).live = (s.svcCond n d).live ∧
      (s.setLive n c live).raises n d = s.raises n d := by
  have hlive := s.setLive_live n c live (.service n d)
  have hraises := s.setLive_raises n c live (.service n d)
  rw [if_neg (CondRef.service_ne h n)] at hlive
  rw [if_neg fun both => CondRef.service_ne h n both.1] at hraises
  exact ⟨hlive, hraises⟩

theorem State.setLive_own_cond (s : State) (n : Svc) (c : SvcCond) (live : Bool) :
    ((s.setLive n c live).svcCond n c).live = live ∧
      (s.setLive n c live).raises n c = s.raises n c + if live = true ∧ (s.svcCond n c).live = false then 1 else 0 := by
  have hlive := s.setLive_live n c live (.service n c)
  have hraises := s.setLive_raises n c live (.service n c)
  rw [if_pos rfl] at hlive
  refine ⟨hlive, ?_⟩
  unfold State.raises State.svcCond
  rw [hraises]
  simp only [true_and]
  split <;> simp

/-- R69: an order in which both conditions are set does not matter to either. -/
theorem State.setLive_two (s : State) (n : Svc) {c d : SvcCond} (h : d ≠ c) (x y : Bool) {t : State}
    (ht : t = (s.setLive n c x).setLive n d y) :
    ((t.svcCond n c).live = x ∧ t.raises n c = s.raises n c + if x = true ∧ (s.svcCond n c).live = false then 1 else 0) ∧
      ((t.svcCond n d).live = y ∧ t.raises n d = s.raises n d + if y = true ∧ (s.svcCond n d).live = false then 1 else 0) := by
  subst ht
  obtain ⟨liveC, raisesC⟩ := s.setLive_own_cond n c x
  obtain ⟨keptD, sameD⟩ := s.setLive_other_cond n h x
  obtain ⟨keptC, sameC⟩ := (s.setLive n c x).setLive_other_cond n h.symm y
  obtain ⟨liveD, raisesD⟩ := (s.setLive n c x).setLive_own_cond n d y
  exact ⟨⟨keptC.trans liveC, sameC.trans raisesC⟩, liveD, by rw [raisesD, sameD, keptD]⟩

theorem State.judgeCaptions_follow (s : State) (n : Svc) : CaptionCondsFollow n s (s.judgeCaptions n) := by
  have caption : (s.judgeCaptions n).caption = s.caption := by simp
  have goes : ∀ c x, ((s.judgeCaptions n).svcCond n c).live = x →
      (s.judgeCaptions n).raises n c = s.raises n c + (if x = true ∧ (s.svcCond n c).live = false then 1 else 0) →
      (s.judgeCaptions n).raises n c = s.raises n c +
        if ((s.judgeCaptions n).svcCond n c).live = true ∧ (s.svcCond n c).live = false then 1 else 0 :=
    fun c x live raises => by rw [live]; exact raises
  have both : (((s.judgeCaptions n).svcCond n .captionLoss).live = (s.caption[n].required && decide (s.caption[n].state = .lost)) ∧
        (s.judgeCaptions n).raises n .captionLoss = s.raises n .captionLoss +
          if (s.caption[n].required && decide (s.caption[n].state = .lost)) = true ∧ (s.svcCond n .captionLoss).live = false
            then 1 else 0) ∧
      (((s.judgeCaptions n).svcCond n .captionIdle).live = (s.caption[n].required && decide (s.caption[n].state = .idle)) ∧
        (s.judgeCaptions n).raises n .captionIdle = s.raises n .captionIdle +
          if (s.caption[n].required && decide (s.caption[n].state = .idle)) = true ∧ (s.svcCond n .captionIdle).live = false
            then 1 else 0) := by
    cases loss : s.caption[n].required && decide (s.caption[n].state = .lost) with
    | true =>
      exact (s.setLive_two n (by decide : SvcCond.captionLoss ≠ .captionIdle) _ true (by
        unfold State.judgeCaptions
        dsimp only
        rw [loss]
        rfl)).symm
    | false =>
      exact s.setLive_two n (by decide : SvcCond.captionIdle ≠ .captionLoss) false _ (by
        unfold State.judgeCaptions
        dsimp only
        rw [loss]
        rfl)
  obtain ⟨⟨loss, lossRaises⟩, idle, idleRaises⟩ := both
  refine ⟨?_, ?_, fun c hc => ?_⟩
  · rw [loss, caption]
    simp
  · rw [idle, caption]
    simp
  · simp only [List.mem_cons, List.not_mem_nil, or_false] at hc
    rcases hc with rfl | rfl
    · exact goes _ _ loss lossRaises
    · exact goes _ _ idle idleRaises

/-- The caption conditions read of the state before are those of any state with the same caption entries. -/
theorem CaptionCondsFollow.of_kept {n : Svc} {s u t : State} {C : List SvcCond} (h : CaptionCondsFollow n u t)
    (kept : CondsKept C s.panel u.panel) (apart : ∀ c ∈ captionConds, c ∉ C) : CaptionCondsFollow n s t := by
  have loss := kept.svcCond n (apart .captionLoss (by decide))
  have idle := kept.svcCond n (apart .captionIdle (by decide))
  unfold CaptionCondsFollow State.raises at h ⊢
  simp only [List.mem_cons, List.not_mem_nil, or_false, forall_eq_or_imp, forall_eq] at h ⊢
  rwa [loss, idle] at h

/-- The same with a state after that has the same caption entries and the same captions. -/
theorem CaptionCondsFollow.to_kept {n : Svc} {s u t : State} {C : List SvcCond} (h : CaptionCondsFollow n s u)
    (kept : CondsKept C u.panel t.panel) (apart : ∀ c ∈ captionConds, c ∉ C) (captions : t.caption[n] = u.caption[n]) :
    CaptionCondsFollow n s t := by
  have loss := kept.svcCond n (apart .captionLoss (by decide))
  have idle := kept.svcCond n (apart .captionIdle (by decide))
  unfold CaptionCondsFollow State.raises at h ⊢
  simp only [List.mem_cons, List.not_mem_nil, or_false, forall_eq_or_imp, forall_eq] at h ⊢
  rwa [loss, idle, captions]

theorem State.refreshRequirement_follow (s : State) (n : Svc) : CaptionCondsFollow n s (s.refreshRequirement n) :=
  (State.judgeCaptions_follow _ n).of_kept (C := []) (by simp) (by decide)

theorem State.advanceTo_follow (s : State) (n : Svc) (c : FireCause) (t : Nat) :
    CaptionCondsFollow n s (s.advanceTo n c t) :=
  (State.refreshRequirement_follow _ n).of_kept (C := segmentConds)
    (by simp [State.fireAll_conds (List.Subset.refl segmentConds)]) (by decide)

theorem State.seedTime_follow (s : State) (n : Svc) (t : Nat) : CaptionCondsFollow n s (s.seedTime n t) :=
  (State.refreshRequirement_follow _ n).of_kept (C := segmentConds)
    (by simp [State.fireAll_conds (List.Subset.refl segmentConds)]) (by decide)

end Sys2Proof.Machine

namespace Sys2Proof.Machine

/-! ### Caption packets (R61, R64, R66) -/

theorem Caption.discontinuous_iff (c : Caption) (seq : Byte) :
    c.discontinuous seq = true ↔ c.state ≠ .lost ∧ c.lastSeq.isSome = true ∧ c.lastSeq ≠ some (seq - 1) := by
  cases last : c.lastSeq with
  | none => simp [Caption.discontinuous, last]
  | some v =>
    have next : seq = v + 1#8 ↔ v = seq - 1#8 := by bv_omega
    simp [Caption.discontinuous, last, next]

/-- R66: an accepted packet's discontinuity, if it is one, counted. -/
def State.discontinuityCounted (s : State) (n : Svc) (seq : Byte) : State :=
  if s.caption[n].discontinuous seq then s.countDiscontinuity n else s

theorem State.discontinuityCounted_caption (s : State) (n : Svc) (seq : Byte) :
    (s.discontinuityCounted n seq).caption[n] =
      { s.caption[n] with
        discontinuities :=
          if s.caption[n].discontinuous seq then s.caption[n].discontinuities + 1 else s.caption[n].discontinuities } := by
  unfold State.discontinuityCounted
  split <;> simp [State.countDiscontinuity]

theorem State.discontinuityCounted_entry (s : State) (n : Svc) (seq : Byte) (k : Slot) :
    (s.discontinuityCounted n seq).entry n k =
      if s.caption[n].discontinuous seq = true ∧ (s.entry n k).counting = true then
        { s.entry n k with
          tally := { (s.entry n k).tally with discontinuities := sat32 (s.entry n k).tally.discontinuities } }
      else s.entry n k := by
  unfold State.discontinuityCounted
  have same : (s.modCaption n fun c => { c with discontinuities := c.discontinuities + 1 }).entry n k = s.entry n k :=
    rfl
  split
  · next h => simp only [h, true_and, State.countDiscontinuity, State.modTallies_entry, same]
  · next h => simp only [h, Bool.false_eq_true, false_and, ↓reduceIte]

theorem State.sortPacket_accepted {s : State} {n : Svc} {page : Byte} {lang : Lang}
    (enabled : (s.sheetOf n).enable = true)
    (hpage : page.toNat = (s.sheetOf n).page) (hlang : lang = (s.sheetOf n).lang) (kind : CaptionKind) (seq : Byte) :
    s.sortPacket n page lang kind seq =
      ((s.discontinuityCounted n seq).modCaption n (Caption.accept (s.sheetOf n) kind seq)).judgeCaptions n := by
  unfold State.sortPacket
  simp only [enabled, hpage, hlang, decide_true, Bool.and_self, ↓reduceIte]
  rfl

theorem State.sortPacket_mismatched {s : State} {n : Svc} {page : Byte} {lang : Lang}
    (enabled : (s.sheetOf n).enable = true) (hpage : page.toNat = (s.sheetOf n).page) (hlang : lang ≠ (s.sheetOf n).lang)
    (kind : CaptionKind) (seq : Byte) : s.sortPacket n page lang kind seq = s.countMismatch n := by
  unfold State.sortPacket
  simp only [enabled, hpage, hlang, decide_true, Bool.and_self, ↓reduceIte]

theorem State.sortPacket_ignored {s : State} {n : Svc} {page : Byte}
    (h : (s.sheetOf n).enable = false ∨ page.toNat ≠ (s.sheetOf n).page) (lang : Lang) (kind : CaptionKind) (seq : Byte) :
    s.sortPacket n page lang kind seq = s := by
  unfold State.sortPacket
  rcases h with h | h <;> simp only [h, Bool.false_and, decide_false, Bool.and_false, Bool.false_eq_true, ↓reduceIte]

/-- R64: the caption record after an accepted packet. -/
theorem State.sortPacket_caption {s : State} {n : Svc} {page : Byte} {lang : Lang}
    (enabled : (s.sheetOf n).enable = true)
    (hpage : page.toNat = (s.sheetOf n).page) (hlang : lang = (s.sheetOf n).lang) (kind : CaptionKind) (seq : Byte) :
    (s.sortPacket n page lang kind seq).caption[n] =
      Caption.accept (s.sheetOf n) kind seq (s.discontinuityCounted n seq).caption[n] := by
  rw [State.sortPacket_accepted enabled hpage hlang]
  simp

theorem State.sortPacket_entry {s : State} {n : Svc} {page : Byte} {lang : Lang} (enabled : (s.sheetOf n).enable = true)
    (hpage : page.toNat = (s.sheetOf n).page) (hlang : lang = (s.sheetOf n).lang) (kind : CaptionKind) (seq : Byte) (k : Slot) :
    (s.sortPacket n page lang kind seq).entry n k = (s.discontinuityCounted n seq).entry n k := by
  rw [State.sortPacket_accepted enabled hpage hlang]
  exact State.entry_of_sched (by simp) n k

theorem State.sortPacket_follow {s : State} {n : Svc} {page : Byte} {lang : Lang}
    (enabled : (s.sheetOf n).enable = true)
    (hpage : page.toNat = (s.sheetOf n).page) (hlang : lang = (s.sheetOf n).lang) (kind : CaptionKind) (seq : Byte) :
    CaptionCondsFollow n s (s.sortPacket n page lang kind seq) := by
  rw [State.sortPacket_accepted enabled hpage hlang]
  refine (State.judgeCaptions_follow _ n).of_kept (C := []) ?_ (by decide)
  unfold State.discontinuityCounted
  split <;> simp

/-- R69: CAPTION_LOSS and CAPTION_IDLE of a service are live exactly as its captions make them. -/
def CaptionLives (n : Svc) (s : State) : Prop :=
  ((s.svcCond n .captionLoss).live = true ↔ s.caption[n].required = true ∧ s.caption[n].state = .lost) ∧
    ((s.svcCond n .captionIdle).live = true ↔ s.caption[n].required = true ∧ s.caption[n].state = .idle)

theorem CaptionSound.lives {s : State} (sound : CaptionSound s) (n : Svc) : CaptionLives n s := (sound n).2.2

theorem CaptionCondsFollow.lives {s t : State} {n : Svc} (follow : CaptionCondsFollow n s t) : CaptionLives n t :=
  ⟨follow.1, follow.2.1⟩

/-- R69: the raises of the caption conditions, by the captions before and after. -/
theorem CaptionCondsFollow.raises {s t : State} {n : Svc} (follow : CaptionCondsFollow n s t)
    (before : CaptionLives n s) :
    t.raises n .captionLoss = s.raises n .captionLoss +
        (if (t.caption[n].required = true ∧ t.caption[n].state = .lost) ∧
          ¬(s.caption[n].required = true ∧ s.caption[n].state = .lost) then 1 else 0) ∧
      t.raises n .captionIdle = s.raises n .captionIdle +
        (if (t.caption[n].required = true ∧ t.caption[n].state = .idle) ∧
          ¬(s.caption[n].required = true ∧ s.caption[n].state = .idle) then 1 else 0) := by
  obtain ⟨loss, idle, raises⟩ := follow
  obtain ⟨lossBefore, idleBefore⟩ := before
  rw [raises _ (by decide), raises _ (by decide)]
  simp only [← loss, ← idle, ← lossBefore, ← idleBefore, Bool.not_eq_true, and_self]

theorem Caption.accept_state (sh : Sheet) (kind : CaptionKind) (seq : Byte) (c : Caption) :
    (c.accept sh kind seq).state =
      if kind = .idle then (if c.state = .lost then .idle else c.state) else .live := by
  cases kind <;> rfl

theorem Caption.accept_not_lost (sh : Sheet) (kind : CaptionKind) (seq : Byte) (c : Caption) :
    (c.accept sh kind seq).state ≠ .lost := by
  rw [Caption.accept_state]
  split
  · split
    · nofun
    · assumption
  · nofun

/-- R69: an accepted packet brings IDLE only where an IDLE packet ends LOST. -/
theorem Caption.accept_idle_iff (sh : Sheet) (kind : CaptionKind) (seq : Byte) (c : Caption) :
    (c.accept sh kind seq).state = .idle ∧ c.state ≠ .idle ↔ c.state = .lost ∧ kind = .idle := by
  rw [Caption.accept_state]
  cases kind <;> cases c.state <;> decide

theorem CaptionCondsFollow.raises_of_accept {s t : State} {n : Svc} (follow : CaptionCondsFollow n s t)
    (sound : CaptionSound s) {sh : Sheet} {kind : CaptionKind} {seq : Byte} {c : Caption}
    (caption : t.caption[n] = c.accept sh kind seq) (state : c.state = s.caption[n].state)
    (required : c.required = s.caption[n].required) :
    t.raises n .captionLoss = s.raises n .captionLoss ∧
      t.raises n .captionIdle = s.raises n .captionIdle +
        (if s.caption[n].required = true ∧ s.caption[n].state = .lost ∧ kind = .idle then 1 else 0) := by
  obtain ⟨loss, idle⟩ := follow.raises (sound.lives n)
  have same : (c.accept sh kind seq).required = s.caption[n].required := by rw [← required]; cases kind <;> rfl
  have comes := c.accept_idle_iff sh kind seq
  rw [state] at comes
  have notLost := c.accept_not_lost sh kind seq
  rw [loss, idle, caption, same]
  constructor
  · simp [notLost]
  · congr 1
    refine if_congr ?_ rfl rfl
    rw [← comes]
    tauto

/-! ### O16 -/

/-- The state in which an acceptable CAPTION is sorted. -/
def State.sequenced (s : State) (n : Svc) (seq : Byte) : State := s.modFeed n fun f => { f with lastSeq := some seq }

theorem State.takeCaption_page {page : Byte} (low : 1 ≤ page.toNat) (high : page.toNat ≤ 8) (s : State) (n : Svc)
    (lang : Lang) (kind : CaptionKind) (seq : Byte) :
    s.takeCaption n page lang kind seq = (s.sequenced n seq).sortPacket n page lang kind seq :=
  if_pos (by simp [pageOk, low, high])

theorem Entry.counting_iff (e : Entry) : e.counting = true ↔ e.state = .opened ∧ e.tally.paused = false := by
  simp [Entry.counting]

/-- Settles O16: a CAPTION of a good page is sorted against the adopted sheet (`State.sortPacket_accepted` and its fellows). -/
theorem captionPackets : Obligations.CaptionPackets := by
  intro s n page lang kind seq hp low high
  dsimp only
  have effect : effectOf (.caption n page lang kind seq) s = (s.sequenced n seq).sortPacket n page lang kind seq :=
    State.takeCaption_page low high s n lang kind seq
  refine ⟨_, exec_effectOf (.caption n page lang kind seq) hp nofun, ?_⟩
  rw [effect]
  refine ⟨?_, fun ignored => ?_, fun enabled hpage hlang => ?_, fun enabled hpage hlang => ?_⟩
  · simp [State.sequenced]
  · exact State.sortPacket_ignored (s := s.sequenced n seq) ignored lang kind seq
  · rw [State.sortPacket_mismatched (s := s.sequenced n seq) enabled hpage hlang]
    refine ⟨?_, ?_, ?_, fun k => ?_⟩
    · simp [State.countMismatch, State.sequenced]
    · simp [State.sequenced]
    · simp [State.sequenced]
    · rw [State.countMismatch, State.modTallies_entry]
      exact if_congr (Entry.counting_iff _) rfl rfl
  · have caption := State.sortPacket_caption (s := s.sequenced n seq) enabled hpage hlang kind seq
    rw [State.discontinuityCounted_caption, if_congr (Caption.discontinuous_iff _ seq) rfl rfl] at caption
    have follow := State.sortPacket_follow (s := s.sequenced n seq) enabled hpage hlang kind seq
    refine ⟨?_, fun sound => ?_, fun k => ?_⟩
    · rw [caption]
      cases kind <;> rfl
    · obtain ⟨loss, idle⟩ := follow.lives
      obtain ⟨lossRaises, idleRaises⟩ := follow.raises_of_accept (s := s.sequenced n seq) sound caption rfl rfl
      have required : ((s.sequenced n seq).sortPacket n page lang kind seq).caption[n].required = s.caption[n].required := by
        rw [caption]
        cases kind <;> rfl
      rw [← required]
      refine ⟨loss, idle, lossRaises, ?_⟩
      rw [required]
      exact idleRaises
    · rw [State.sortPacket_entry (s := s.sequenced n seq) enabled hpage hlang, State.discontinuityCounted_entry]
      exact if_congr (and_congr (Caption.discontinuous_iff _ seq) (Entry.counting_iff _)) rfl rfl

end Sys2Proof.Machine

namespace Sys2Proof.Machine

/-! ### The entry to FLYWHEEL (R11, R12) -/

/-- R12: the state at the entry to FLYWHEEL, before the advances already due. -/
def State.flywheelEntered (s : State) (n : Svc) : State :=
  ((s.modFeed n (Feed.entered (s.sheetOf n).rate)).setLive n .feedLoss true).runBreak n

theorem State.enterFlywheel_eq (s : State) (n : Svc) (due : Nat) :
    s.enterFlywheel n due = (List.range due).foldl (fun s _ => s.flyAdvance n) (s.flywheelEntered n) := rfl

theorem State.flyAdvance_pool (s : State) (n : Svc) : PoolMoves s.pool (s.flyAdvance n).pool := by
  unfold State.flyAdvance
  split
  · have counted : ∀ u : State, ((u.flagOpen n .ofFlywheel).modTallies n Tally.advanced).pool = u.pool := by simp
    dsimp only
    rw [counted]
    exact State.advanceTo_pool (s.modFeed n _) n _ _
  · exact .refl _

theorem State.enterFlywheel_pool (s : State) (n : Svc) (due : Nat) :
    PoolMoves (s.flywheelEntered n).pool (s.enterFlywheel n due).pool :=
  PoolMoves.foldl _ (fun u _ => u.flyAdvance_pool n) _ _

theorem State.enterFlywheel_meter (s : State) (n : Svc) (due : Nat) :
    (s.enterFlywheel n due).meter = (s.flywheelEntered n).meter :=
  foldl_same State.meter _ (fun u _ => by simp) _ _

theorem State.enterFlywheel_conds (s : State) (n : Svc) (due : Nat) :
    CondsKept (segmentConds ++ captionConds) (s.flywheelEntered n).panel (s.enterFlywheel n due).panel := by
  rw [State.enterFlywheel_eq]
  exact (CondsKept.foldl _ _ _ fun u _ =>
    (u.flyAdvance_conds (List.subset_append_left ..) (List.subset_append_right ..) n).mpr (by simp)).mpr (by simp)

theorem State.flywheelEntered_pool (s : State) (n : Svc) (c : CtxId) :
    (s.flywheelEntered n).pool[c] = if s.pool[c].ownedBy n then s.pool[c].breakRun else s.pool[c] := by
  have broken := (((s.modFeed n (Feed.entered (s.sheetOf n).rate)).setLive n .feedLoss true).modMeter n
    (Meter.breakRun ((((s.modFeed n (Feed.entered (s.sheetOf n).rate)).setLive n .feedLoss true).svcCond n
      .audioSilence).live))).breakContextRuns_pool n c
  simpa [State.flywheelEntered, State.runBreak] using broken

theorem State.flywheelEntered_meter (s : State) (n : Svc) : (s.flywheelEntered n).meter[n] = s.brokenMeter n := by
  have kept : CondsKept [.feedLoss] s.panel ((s.modFeed n (Feed.entered (s.sheetOf n).rate)).setLive n .feedLoss true).panel := by
    simp
  have silence := kept.svcCond n (c := .audioSilence) (by decide)
  simp [State.flywheelEntered, State.runBreak, State.brokenMeter, Meter.breakRun, silence]

/-- R162, R163: the raise at a change to live takes the service's stamp. -/
theorem State.setLive_last {s : State} {n : Svc} {c : SvcCond} (dead : (s.svcCond n c).live = false) :
    ((s.setLive n c true).svcCond n c).last = s.stampOf n := by
  unfold State.setLive
  rw [if_neg (by rw [dead]; decide)]
  unfold State.svcCond
  simp only [↓reduceIte, State.raise_get, CondEntry.touched_last, CondEntry.raised, State.stampOf, State.changeCond_frame]

theorem State.runBreak_svcCond (s : State) (n m : Svc) (c : SvcCond) : (s.runBreak n).svcCond m c = s.svcCond m c := by
  have panel : (s.runBreak n).panel = s.panel := by simp
  unfold State.svcCond State.cond
  rw [panel]

/-- R11, R162: FEED_LOSS at the entry: live, with one raise stamped by the service time. -/
theorem State.flywheelEntered_feedLoss {s : State} {n : Svc} (dead : (s.svcCond n .feedLoss).live = false) :
    ((s.flywheelEntered n).svcCond n .feedLoss).live = true ∧
      (s.flywheelEntered n).raises n .feedLoss = s.raises n .feedLoss + 1 ∧
      ((s.flywheelEntered n).svcCond n .feedLoss).last = some s.feed[n].time := by
  have before : ((s.modFeed n (Feed.entered (s.sheetOf n).rate)).svcCond n .feedLoss).live = false := dead
  obtain ⟨live, raises⟩ := (s.modFeed n (Feed.entered (s.sheetOf n).rate)).setLive_own_cond n .feedLoss true
  have last := State.setLive_last before
  rw [if_pos ⟨rfl, before⟩] at raises
  unfold State.raises State.flywheelEntered at *
  rw [State.runBreak_svcCond]
  refine ⟨live, raises, last.trans ?_⟩
  simp [State.stampOf, Feed.entered]

theorem State.flywheelEntered_others (s : State) (n : Svc) :
    CondsKept [.feedLoss] s.panel (s.flywheelEntered n).panel := by
  simp [State.flywheelEntered]

/-- R13: what k flywheel advances do to the record. -/
theorem Feed.flown_iterate {f : Feed} (h : f.time ≤ Config.timeMax) (k : Nat) :
    Feed.flown^[k] f =
      { f with
        time := min (f.time + k) Config.timeMax
        advances := f.advances + BitVec.ofNat 32 (min (f.time + k) Config.timeMax - f.time) } := by
  induction k with
  | zero => simp [h]
  | succ k ih =>
    rw [Function.iterate_succ_apply', ih]
    unfold Feed.flown
    dsimp only
    split
    · next room =>
      have now : min (f.time + k) Config.timeMax = f.time + k := by omega
      have then_ : min (f.time + (k + 1)) Config.timeMax = f.time + k + 1 := by omega
      have fewer : f.time + k - f.time = k := by omega
      have more : f.time + k + 1 - f.time = k + 1 := by omega
      rw [now, then_, fewer, more, BitVec.ofNat_add, BitVec.add_assoc]
      rfl
    · next full =>
      have same : min (f.time + (k + 1)) Config.timeMax = min (f.time + k) Config.timeMax := by omega
      rw [same]

end Sys2Proof.Machine

namespace Sys2Proof.Machine

/-! ### The entry does not read the line indication (R6, R12) -/

/-- The state with other Feed Receiver records. -/
def State.withFeed (s : State) (fs : Vector Feed 16) : State := { s with feed := fs }

theorem State.queueEntry_withFeed (s : State) (fs : Vector Feed 16) (r : CondRef) :
    (s.withFeed fs).queueEntry r = (s.queueEntry r).withFeed fs := by
  have linked : (s.withFeed fs).isLinked = s.isLinked := rfl
  unfold State.queueEntry
  rw [linked]
  cases s.isLinked <;> cases r <;> rfl

theorem State.changeCond_withFeed (s : State) (fs : Vector Feed 16) (r : CondRef) (f : CondEntry → CondEntry) :
    (s.withFeed fs).changeCond r f = (s.changeCond r f).withFeed fs := by
  unfold State.changeCond
  rw [← State.queueEntry_withFeed]
  cases r <;> rfl

theorem State.evaluate_withFeed (s : State) (fs : Vector Feed 16) :
    (s.withFeed fs).evaluate = s.evaluate.withFeed fs := by
  have linked : (s.withFeed fs).isLinked = s.isLinked := rfl
  have alert : (s.withFeed fs).alert = s.alert := rfl
  have top : (s.withFeed fs).topPending = s.topPending := rfl
  have pending : ∀ p, (s.withFeed fs).pendingAt p = s.pendingAt p := fun _ => rfl
  unfold State.evaluate
  simp only [linked, alert, top, pending]
  split
  · split
    · cases s.pendingAt s.topPending <;> rfl
    · rfl
  · rfl

theorem State.raise_withFeed {s : State} {fs : Vector Feed 16} {n : Svc}
    (stamp : (s.withFeed fs).stampOf n = s.stampOf n)
    (c : SvcCond) : (s.withFeed fs).raise n c = (s.raise n c).withFeed fs := by
  unfold State.raise
  rw [stamp, State.changeCond_withFeed, State.evaluate_withFeed]

theorem State.setLive_withFeed {s : State} {fs : Vector Feed 16} {n : Svc}
    (stamp : (s.withFeed fs).stampOf n = s.stampOf n)
    (c : SvcCond) (live : Bool) : (s.withFeed fs).setLive n c live = (s.setLive n c live).withFeed fs := by
  have entry : (s.withFeed fs).svcCond n c = s.svcCond n c := rfl
  have later : ((s.changeCond (.service n c) fun e => { e with live := live }).withFeed fs).stampOf n =
      (s.changeCond (.service n c) fun e => { e with live := live }).stampOf n := by
    have same : (s.changeCond (.service n c) fun e => { e with live := live }).feed = s.feed := by simp
    unfold State.stampOf at stamp ⊢
    rw [same]
    exact stamp
  unfold State.setLive
  rw [entry]
  split
  · rfl
  · rw [State.changeCond_withFeed]
    dsimp only
    rw [State.raise_withFeed later]
    split <;> rfl

theorem State.breakContextRuns_withFeed (s : State) (fs : Vector Feed 16) (n : Svc) :
    (s.withFeed fs).breakContextRuns n = (s.breakContextRuns n).withFeed fs := by
  unfold State.breakContextRuns
  generalize allContexts = l
  induction l generalizing s with
  | nil => rfl
  | cons c l ih =>
    rw [List.foldl_cons, List.foldl_cons, ← ih]
    congr 1
    have pool : (s.withFeed fs).pool = s.pool := rfl
    rw [pool]
    split <;> rfl

theorem State.runBreak_withFeed (s : State) (fs : Vector Feed 16) (n : Svc) :
    (s.withFeed fs).runBreak n = (s.runBreak n).withFeed fs :=
  State.breakContextRuns_withFeed (s.modMeter n _) fs n

theorem State.modFeed_eq_withFeed (s : State) (n : Svc) (f : Feed → Feed) :
    s.modFeed n f = s.withFeed (upd s.feed n f) :=
  rfl

theorem State.withFeed_self (s : State) : s.withFeed s.feed = s := rfl

theorem State.modFeed_modFeed (s : State) (n : Svc) (f g : Feed → Feed) :
    (s.modFeed n f).modFeed n g = s.modFeed n fun x => g (f x) := by
  have vector : upd (upd s.feed n f) n g = upd s.feed n fun x => g (f x) := by
    simp [upd]
  exact congrArg s.withFeed vector

/-- R6, R12: an entry is the same with another line indication, which stays in the record. -/
theorem State.flywheelEntered_lineDown (s : State) (n : Svc) (down : Bool) :
    ((s.modFeed n fun f => { f with lineDown := down }).flywheelEntered n) =
      (s.flywheelEntered n).modFeed n fun f => { f with lineDown := down } := by
  have entered : (s.modFeed n fun f => { f with lineDown := down }).modFeed n (Feed.entered (s.sheetOf n).rate) =
      (s.modFeed n (Feed.entered (s.sheetOf n).rate)).modFeed n fun f => { f with lineDown := down } := by
    rw [State.modFeed_modFeed, State.modFeed_modFeed]
    rfl
  have stamp : ((s.modFeed n (Feed.entered (s.sheetOf n).rate)).modFeed n fun f => { f with lineDown := down }).stampOf n =
      (s.modFeed n (Feed.entered (s.sheetOf n).rate)).stampOf n := by
    simp [State.stampOf]
  have feed : (s.flywheelEntered n).feed = (s.modFeed n (Feed.entered (s.sheetOf n).rate)).feed := by
    simp [State.flywheelEntered]
  have sheet : (s.modFeed n fun f => { f with lineDown := down }).sheetOf n = s.sheetOf n := rfl
  rw [State.modFeed_eq_withFeed] at stamp
  rw [State.modFeed_eq_withFeed (s.flywheelEntered n), feed]
  unfold State.flywheelEntered
  rw [sheet, entered, State.modFeed_eq_withFeed (s.modFeed n (Feed.entered (s.sheetOf n).rate)), State.setLive_withFeed stamp,
    State.runBreak_withFeed]

theorem State.modFeed_same {s : State} {n : Svc} {f : Feed → Feed} (h : f s.feed[n] = s.feed[n]) :
    s.modFeed n f = s := by
  have vector : upd s.feed n f = s.feed := by
    unfold upd
    rw [h]
    exact Vector.set_getElem_self ..
  rw [State.modFeed_eq_withFeed, vector, State.withFeed_self]

/-! ### O12 -/

theorem Lock.timed_iff (l : Lock) : l = .locked ∨ l = .held ↔ l ≠ .seeking ∧ l ≠ .flywheel := by
  cases l <;> decide

theorem State.takeLoss_timed {s : State} {n : Svc} (h : s.feed[n].lock = .locked ∨ s.feed[n].lock = .held)
    (late : Bool) :
    s.takeLoss n late =
      (s.modFeed n fun f => { f with lineDown := true }).enterFlywheel n (if late then 1 else 0) := by
  have lock : (s.modFeed n fun f => { f with lineDown := true }).feed[n].lock = s.feed[n].lock := by simp
  unfold State.takeLoss
  dsimp only
  rcases h with h | h <;> rw [lock, h]

theorem State.takeLoss_untimed {s : State} {n : Svc} (h : s.feed[n].lock = .seeking ∨ s.feed[n].lock = .flywheel)
    (late : Bool) : s.takeLoss n late = s.modFeed n fun f => { f with lineDown := true } := by
  have lock : (s.modFeed n fun f => { f with lineDown := true }).feed[n].lock = s.feed[n].lock := by simp
  unfold State.takeLoss
  dsimp only
  rcases h with h | h <;> rw [lock, h]

/-- From s to t FLYWHEEL has been entered from LOCKED or HELD, with the advances already due and a line indication. -/
def EntersFlywheel (n : Svc) (due : Nat) (down : Bool) (s t : State) : Prop :=
  t.feed[n].lock = .flywheel ∧ t.feed[n].lossTimer = none ∧ t.feed[n].frameTimer = some (s.sheetOf n).rate ∧
    t.feed[n].time = min (s.feed[n].time + due) (2 ^ 48 - 1) ∧
    t.feed[n].advances =
      s.feed[n].advances + BitVec.ofNat 32 (min (s.feed[n].time + due) (2 ^ 48 - 1) - s.feed[n].time) ∧
    t.feed[n].lineDown = down ∧ t.feed[n].received = s.feed[n].received ∧ (t.svcCond n .feedLoss).live = true ∧
    t.raises n .feedLoss = s.raises n .feedLoss + 1 ∧ (t.svcCond n .feedLoss).last = some s.feed[n].time ∧
    t.raises n .timeFault = s.raises n .timeFault ∧ t.meter[n] = s.brokenMeter n ∧ ContextRunsBroken n s t

theorem State.enterFlywheel_enters {s : State} {n : Svc} (sound : FeedSound s)
    (timed : s.feed[n].lock = .locked ∨ s.feed[n].lock = .held) (due : Nat) :
    EntersFlywheel n due s.feed[n].lineDown s (s.enterFlywheel n due) := by
  obtain ⟨-, -, live, bound⟩ := sound n
  have dead : (s.svcCond n .feedLoss).live = false :=
    Bool.eq_false_iff.mpr fun h => ((Lock.timed_iff _).mp timed).2 (live.mp h)
  have feed : (s.enterFlywheel n due).feed[n] = Feed.flown^[due] (s.feed[n].entered (s.sheetOf n).rate) :=
    s.enterFlywheel_feed_own n due
  rw [Feed.flown_iterate (f := s.feed[n].entered (s.sheetOf n).rate) bound] at feed
  obtain ⟨lossLive, lossRaises, lossLast⟩ := State.flywheelEntered_feedLoss dead
  have kept := s.enterFlywheel_conds n due
  have loss := kept.svcCond n (c := .feedLoss) (by decide)
  have fault := (kept.svcCond n (c := .timeFault) (by decide)).trans
    ((s.flywheelEntered_others n).svcCond n (c := .timeFault) (by decide))
  have meter : (s.enterFlywheel n due).meter[n] = s.brokenMeter n := by
    rw [State.enterFlywheel_meter]
    exact s.flywheelEntered_meter n
  unfold EntersFlywheel
  unfold State.raises at lossRaises ⊢
  rw [feed, loss, fault, meter]
  exact ⟨rfl, rfl, rfl, rfl, rfl, rfl, rfl, lossLive, lossRaises, lossLast, rfl, rfl,
    .of_moves (s.flywheelEntered_pool n) (s.enterFlywheel_pool n due)⟩

theorem FeedSound.lineDown {s : State} (sound : FeedSound s) (n : Svc) (down : Bool) :
    FeedSound (s.modFeed n fun f => { f with lineDown := down }) := by
  intro m
  by_cases own : m = n
  · subst own
    have feed : (s.modFeed m fun f => { f with lineDown := down }).feed[m] = { s.feed[m] with lineDown := down } :=
      by simp
    rw [feed]
    exact sound m
  · have feed : (s.modFeed n fun f => { f with lineDown := down }).feed[m] = s.feed[m] := by simp [own]
    rw [feed]
    exact sound m

theorem State.enterFlywheel_pool_none_due (s : State) (n : Svc) (x : CtxId) :
    (s.enterFlywheel n 0).pool[x] =
      if s.pool[x].ownedBy n = true ∧ s.pool[x].state = .accumulating then { s.pool[x] with acc := Accumulator.fresh }
      else s.pool[x] := by
  rw [State.enterFlywheel_eq, List.range_zero, List.foldl_nil, State.flywheelEntered_pool]
  unfold Context.breakRun
  by_cases own : s.pool[x].ownedBy n = true
  · simp only [own, ↓reduceIte, true_and]
  · simp only [own, ↓reduceIte, false_and, Bool.false_eq_true]

theorem State.lossTimerOut_timed {s : State} {n : Svc} (sound : FeedSound s)
    (timed : s.feed[n].lock = .locked ∨ s.feed[n].lock = .held) : s.lossTimerOut n = s.enterFlywheel n 2 :=
  if_pos ((sound n).1.mpr timed)

/-- R13: a report of a frame timer that has just been loaded is one flywheel advance. -/
theorem State.frameTimerDue_loaded {s : State} {n : Svc} (loaded : s.feed[n].frameTimer = some (s.sheetOf n).rate) :
    s.frameTimerDue n = s.flyAdvance n := by
  unfold State.frameTimerDue
  rw [if_pos (by rw [loaded]; rfl), State.modFeed_same]
  rw [← loaded]

theorem Feed.flown_iterate_frameTimer (f : Feed) (due : Nat) : (Feed.flown^[due] f).frameTimer = f.frameTimer := by
  induction due generalizing f with
  | zero => rfl
  | succ due ih =>
    rw [Function.iterate_succ_apply, ih]
    unfold Feed.flown
    split <;> rfl

theorem State.enterFlywheel_loaded (s : State) (n : Svc) (due : Nat) :
    (s.enterFlywheel n due).feed[n].frameTimer = some ((s.enterFlywheel n due).sheetOf n).rate := by
  have sheet : (s.enterFlywheel n due).sheetOf n = s.sheetOf n := by simp [State.sheetOf]
  have feed : (s.enterFlywheel n due).feed[n] = Feed.flown^[due] (s.feed[n].entered (s.sheetOf n).rate) :=
    s.enterFlywheel_feed_own n due
  rw [sheet, feed, Feed.flown_iterate_frameTimer]
  rfl

/-- R12, R13: a FLYWHEEL_ADVANCE that follows an entry is one more advance already due. -/
theorem State.enterFlywheel_succ (s : State) (n : Svc) (due : Nat) :
    s.enterFlywheel n (due + 1) = (s.enterFlywheel n due).frameTimerDue n := by
  rw [State.frameTimerDue_loaded (s.enterFlywheel_loaded n due), State.enterFlywheel_eq, State.enterFlywheel_eq,
    List.range_succ, List.foldl_append]
  rfl

theorem State.exec_advance_entered {s : State} (hp : s.powered = true) (n : Svc) (due : Nat) :
    exec (.flywheelAdvance n) (s.enterFlywheel n due) = .next (s.enterFlywheel n (due + 1)) := by
  have powered : (s.enterFlywheel n due).powered = true := by simpa using hp
  rw [State.enterFlywheel_succ]
  exact exec_effectOf (.flywheelAdvance n) powered nofun

/-- R12: a LOSS sets the line indication and enters. -/
theorem State.lossEntry_enters {s : State} {n : Svc} (sound : FeedSound s)
    (timed : s.feed[n].lock = .locked ∨ s.feed[n].lock = .held) (due : Nat) :
    EntersFlywheel n due true s ((s.modFeed n fun f => { f with lineDown := true }).enterFlywheel n due) := by
  have feed : (s.modFeed n fun f => { f with lineDown := true }).feed[n] = { s.feed[n] with lineDown := true } :=
    by simp
  have enters :=
    State.enterFlywheel_enters (s := s.modFeed n fun f => { f with lineDown := true }) (sound.lineDown n true)
    (by rw [feed]; exact timed) due
  unfold EntersFlywheel at enters ⊢
  rw [feed] at enters
  exact enters

/-- R6, R12: the entries by LOSS and by the loss timer differ in the line indication only. -/
theorem State.lossEntry_lineDown (s : State) (n : Svc) :
    ((s.modFeed n fun f => { f with lineDown := true }).enterFlywheel n 0).modFeed n
      (fun f => { f with lineDown := s.feed[n].lineDown }) = s.enterFlywheel n 0 := by
  have back : (s.modFeed n fun f => { f with lineDown := true }).modFeed n
      (fun f => { f with lineDown := s.feed[n].lineDown }) = s := by
    rw [State.modFeed_modFeed]
    exact State.modFeed_same rfl
  have entered := (s.modFeed n fun f => { f with lineDown := true }).flywheelEntered_lineDown n s.feed[n].lineDown
  rw [back] at entered
  rw [State.enterFlywheel_eq, State.enterFlywheel_eq, List.range_zero, List.foldl_nil, List.foldl_nil]
  exact entered.symm

/-- Settles O12: the entry is `State.enterFlywheel_enters`, and each advance already due is the one that FLYWHEEL_ADVANCE
makes (`State.enterFlywheel_succ`). -/
theorem enterFlywheel : Obligations.EnterFlywheel := by
  refine ⟨fun s n c due hp sound timed event => ?_, fun s n hp sound timed => ?_, fun s n late hp untimed => ?_,
    fun s n hp stopped => ?_⟩
  · refine ⟨effectOf c s, exec_effectOf c hp (by rintro rfl; simp at event), ?_⟩
    rcases event with ⟨rfl, rfl⟩ | ⟨rfl, rfl⟩ | ⟨rfl, rfl⟩
    · have effect : effectOf (.lossTimerExpiry n) s = s.enterFlywheel n 2 := State.lossTimerOut_timed sound timed
      obtain ⟨lock, timer, frame, time, advances, line, received, live, raises, last, fault, meter, runs⟩ :=
        State.enterFlywheel_enters sound timed 2
      rw [effect]
      exact ⟨lock, timer, frame, time, advances, line.trans (by simp), received, live, raises, last, fault, meter, runs, nofun⟩
    · have effect : effectOf (.loss n false) s = _ := State.takeLoss_timed timed false
      obtain ⟨lock, timer, frame, time, advances, line, received, live, raises, last, fault, meter, runs⟩ :=
        State.lossEntry_enters sound timed 0
      rw [effect]
      exact ⟨lock, timer, frame, time, advances, line.trans (by simp), received, live, raises, last, fault, meter, runs,
        fun _ => State.enterFlywheel_pool_none_due _ n⟩
    · have effect : effectOf (.loss n true) s = _ := State.takeLoss_timed timed true
      obtain ⟨lock, timer, frame, time, advances, line, received, live, raises, last, fault, meter, runs⟩ :=
        State.lossEntry_enters sound timed 1
      rw [effect]
      exact ⟨lock, timer, frame, time, advances, line.trans (by simp), received, live, raises, last, fault, meter, runs, nofun⟩
  · have early : effectOf (.loss n false) s = _ := State.takeLoss_timed timed false
    have late : effectOf (.loss n true) s = _ := State.takeLoss_timed timed true
    have timer : effectOf (.lossTimerExpiry n) s = s.enterFlywheel n 2 := State.lossTimerOut_timed sound timed
    refine ⟨_, s.enterFlywheel n 0, s.enterFlywheel n 1, (exec_effectOf (.loss n false) hp nofun).trans
        (congrArg Host.Outcome.next early), ?_, (State.lossEntry_lineDown s n).symm, State.exec_advance_entered hp n 0, ?_⟩
    · exact (exec_effectOf (.loss n true) hp nofun).trans ((congrArg Host.Outcome.next late).trans
        (State.exec_advance_entered (s := s.modFeed n _) hp n 0).symm)
    · exact (exec_effectOf (.lossTimerExpiry n) hp nofun).trans ((congrArg Host.Outcome.next timer).trans
        (State.exec_advance_entered hp n 1).symm)
  · exact (exec_effectOf (.loss n late) hp nofun).trans (congrArg Host.Outcome.next (State.takeLoss_untimed untimed late))
  · refine (exec_effectOf (.lossTimerExpiry n) hp nofun).trans (congrArg Host.Outcome.next ?_)
    exact if_neg (by rw [stopped]; decide)

end Sys2Proof.Machine

namespace Sys2Proof.Machine

/-! ### TIME_FAULT at a FRAME (R7 to R10, R14, R108) -/

theorem State.svcCond_of_panel {s t : State} (h : t.panel = s.panel) (n : Svc) (c : SvcCond) :
    t.svcCond n c = s.svcCond n c := by
  unfold State.svcCond State.cond
  rw [h]

theorem State.advanceTo_progress (s : State) (n : Svc) (c : FireCause) (t : Nat) (k : Slot) :
    (s.entry n k).Progress ((s.advanceTo n c t).entry n k) := by
  have fired : ∀ u : State, (u.refreshRequirement n).sched = u.sched := by simp
  unfold State.advanceTo State.advanceBoundaries
  dsimp only
  rw [State.entry_of_sched (fired _)]
  exact State.fireAll_progress (s.modFeed n _) n c _ k

theorem State.seedTime_progress (s : State) (n : Svc) (t : Nat) (k : Slot) :
    (s.entry n k).Progress ((s.seedTime n t).entry n k) := by
  have fired : ∀ u : State, (u.refreshRequirement n).sched = u.sched := by simp
  unfold State.seedTime State.seedBoundaries
  dsimp only
  rw [State.entry_of_sched (fired _)]
  exact State.fireAll_progress (s.modFeed n _) n _ _ k

/-- From s to t TIME_FAULT has been raised once with a stamp where b holds, and then it flags every docket OPEN at s; otherwise
neither the condition nor the flag has moved. -/
def TimeFaulted (n : Svc) (b : Prop) [Decidable b] (stamp : Option Nat) (s t : State) : Prop :=
  t.svcCond n .timeFault =
      (if b then ((s.svcCond n .timeFault).raised stamp).touched s.isLinked else s.svcCond n .timeFault) ∧
    ∀ k : Slot, (t.entry n k).flags.timeFault = true ↔
      (s.entry n k).flags.timeFault = true ∨ b ∧ (s.entry n k).state = .opened

/-- From s to t TIME_FAULT stands as it was, and every docket has only moved on. -/
structure FaultKept (n : Svc) (s t : State) : Prop where
  cond : t.svcCond n .timeFault = s.svcCond n .timeFault
  moved : ∀ k : Slot, (s.entry n k).Progress (t.entry n k)

section
variable {n : Svc} {b : Prop} [Decidable b] {stamp : Option Nat} {s t u : State}

theorem FaultKept.faulted (h : FaultKept n s t) (hb : ¬ b) : TimeFaulted n b stamp s t :=
  ⟨by rw [if_neg hb]; exact h.cond, fun k => by rw [(h.moved k).timeFault]; simp [hb]⟩

theorem TimeFaulted.then (h : TimeFaulted n b stamp s u) (g : FaultKept n u t) : TimeFaulted n b stamp s t :=
  ⟨g.cond.trans h.1, fun k => by rw [(g.moved k).timeFault]; exact h.2 k⟩

theorem TimeFaulted.congr {b' : Prop} [Decidable b'] (h : TimeFaulted n b stamp s t) (same : b ↔ b') :
    TimeFaulted n b' stamp s t :=
  ⟨h.1.trans (if_congr same rfl rfl), fun k => by rw [← same]; exact h.2 k⟩

/-- The state before may be any with the same entry of TIME_FAULT, dockets and link. -/
theorem TimeFaulted.of_same (h : TimeFaulted n b stamp u t) (cond : u.svcCond n .timeFault = s.svcCond n .timeFault)
    (sched : u.sched = s.sched) (link : u.isLinked = s.isLinked) : TimeFaulted n b stamp s t := by
  unfold TimeFaulted at h ⊢
  rw [cond, link] at h
  exact ⟨h.1, fun k => by rw [← State.entry_of_sched sched]; exact h.2 k⟩

theorem State.raiseTimeFault_faulted (s : State) (n : Svc) (hb : b) :
    TimeFaulted n b (s.stampOf n) s (s.raiseTimeFault n) := by
  have raised := s.raise_get n .timeFault (.service n .timeFault)
  rw [if_pos rfl] at raised
  have panel : (s.raiseTimeFault n).panel = (s.raise n .timeFault).panel := by simp [State.raiseTimeFault]
  refine ⟨?_, fun k => ?_⟩
  · rw [if_pos hb]
    exact (State.svcCond_of_panel panel n .timeFault).trans raised
  · have entry : (s.raise n .timeFault).entry n k = s.entry n k := State.entry_of_sched (by simp) n k
    rw [State.raiseTimeFault, State.flagOpen_entry, entry]
    split
    · next opened => simp [VerdictFlags.union, VerdictFlags.ofTimeFault, opened, hb]
    · next other => simp [other]

end

theorem State.advanceTo_faultKept (s : State) (n : Svc) (c : FireCause) (t : Nat) :
    FaultKept n s (s.advanceTo n c t) where
  cond := ((s.advanceTo_conds (List.subset_append_left segmentConds captionConds) (List.subset_append_right ..) n c t).mpr
    (by simp)).svcCond n (by decide)
  moved := s.advanceTo_progress n c t

theorem State.seedTime_faultKept (s : State) (n : Svc) (t : Nat) : FaultKept n s (s.seedTime n t) where
  cond := ((s.seedTime_conds (List.subset_append_left segmentConds captionConds) (List.subset_append_right ..) n t).mpr
    (by simp)).svcCond n (by decide)
  moved := s.seedTime_progress n t

theorem FaultKept.of_same {n : Svc} {s t : State} (panel : t.panel = s.panel) (sched : t.sched = s.sched) :
    FaultKept n s t where
  cond := State.svcCond_of_panel panel n .timeFault
  moved k := by
    rw [State.entry_of_sched sched]
    exact .refl _

/-- R8 to R10, R13: the raise for a stamp. -/
theorem State.judgeStamp_faulted (s : State) (n : Svc) (t : Nat) :
    TimeFaulted n (s.feed[n].time + 1 < t ∨ t ≤ s.feed[n].time ∧ s.feed[n].lock ≠ .held) (some s.feed[n].time) s
      (s.judgeStamp n t) := by
  have stamp : ∀ l : Lock, l ≠ .seeking → (s.modFeed n fun f => { f with lock := l }).stampOf n = some s.feed[n].time :=
    fun l hl => by simp [State.stampOf, hl]
  unfold State.judgeStamp
  dsimp only
  split
  · next step =>
    refine ((FaultKept.of_same rfl rfl : FaultKept n s (s.modFeed n fun f => { f with lock := .locked })).faulted
      (by omega)).then (State.advanceTo_faultKept _ n _ t)
  · split
    · next beyond =>
      have raised := State.raiseTimeFault_faulted (s.modFeed n fun f => { f with lock := .locked }) n
        (.inl beyond : s.feed[n].time + 1 < t ∨ t ≤ s.feed[n].time ∧ s.feed[n].lock ≠ .held)
      rw [stamp _ (by decide)] at raised
      exact (raised.of_same rfl rfl rfl).then (State.advanceTo_faultKept _ n _ t)
    · split
      · next notNext notBeyond held => exact (FaultKept.of_same rfl rfl).faulted (by rintro (h | ⟨-, h⟩) <;> contradiction)
      · next notNext notBeyond other =>
        have raised := State.raiseTimeFault_faulted (s.modFeed n fun f => { f with lock := .held }) n
          (.inr ⟨by omega, other⟩ : s.feed[n].time + 1 < t ∨ t ≤ s.feed[n].time ∧ s.feed[n].lock ≠ .held)
        rw [stamp _ (by decide)] at raised
        exact raised.of_same rfl rfl rfl

theorem State.applyStamp_faulted (s : State) (n : Svc) (t : Nat) :
    TimeFaulted n (s.feed[n].lock ≠ .seeking ∧
      (s.feed[n].time + 1 < t ∨ t ≤ s.feed[n].time ∧ s.feed[n].lock ≠ .held)) (some s.feed[n].time) s
      (s.applyStamp n t) := by
  have reloaded : ∀ u : State, FaultKept n u (u.reloadLoss n) := fun u => .of_same rfl rfl
  unfold State.applyStamp
  cases lock : s.feed[n].lock with
  | seeking =>
    dsimp only
    split
    · exact ((s.seedTime_faultKept n t).faulted (by simp)).then (reloaded _)
    · exact (FaultKept.of_same rfl rfl).faulted (by simp)
  | locked | held =>
    have judged := (s.judgeStamp_faulted n t).then (reloaded _)
    rw [lock] at judged
    exact judged.congr (by simp)
  | flywheel =>
    have feed : (s.leaveFlywheel n).feed[n] = { s.feed[n] with frameTimer := none } :=
      (s.leaveFlywheel_feed_own n).trans (if_pos lock)
    have kept : CondsKept [.feedLoss] s.panel (s.leaveFlywheel n).panel := by
      unfold State.leaveFlywheel
      split <;> simp
    have judged := ((s.leaveFlywheel n).judgeStamp_faulted n t).then (reloaded _)
    rw [feed] at judged
    refine (judged.of_same (kept.svcCond n (by decide)) (by simp) (by simp [State.isLinked])).congr ?_
    simp [lock, -Fin.getElem_fin]

/-- R14: the raise for a rate code. -/
theorem State.judgeRate_faulted (s : State) (n : Svc) (code : BitVec 16) :
    TimeFaulted n (code.toNat ≠ (s.sheetOf n).rate ∧ (s.feed[n].mismatch = false ∨ s.feed[n].lastRate ≠ some code))
      (s.stampOf n) s (s.judgeRate n code) := by
  have stamp : (s.modFeed n fun f => { f with mismatch := true, lastRate := some code }).stampOf n = s.stampOf n := by
    simp [State.stampOf]
  have raises : s.feed[n].rateRaises code = true ↔ s.feed[n].mismatch = false ∨ s.feed[n].lastRate ≠ some code := by
    simp [Feed.rateRaises]
  unfold State.judgeRate
  dsimp only
  split
  · next good => exact (FaultKept.of_same rfl rfl).faulted (by simp [good])
  · next bad =>
    split
    · next fresh =>
      have raised :=
        State.raiseTimeFault_faulted (s.modFeed n fun f => { f with mismatch := true, lastRate := some code }) n
        (⟨bad, raises.mp fresh⟩ : code.toNat ≠ (s.sheetOf n).rate ∧ (s.feed[n].mismatch = false ∨ s.feed[n].lastRate ≠ some code))
      rw [stamp] at raised
      exact raised.of_same rfl rfl rfl
    · next known => exact (FaultKept.of_same rfl rfl).faulted fun both => known (raises.mpr both.2)

theorem State.modTallies_state (s : State) (n : Svc) (f : Tally → Tally) (k : Slot) :
    ((s.modTallies n f).entry n k).state = (s.entry n k).state ∧ ((s.modTallies n f).entry n k).flags = (s.entry n k).flags := by
  rw [State.modTallies_entry]
  split <;> exact ⟨rfl, rfl⟩

/-! #### FEED_LOSS at a FRAME (R13, R16) -/

/-- The conditions that a FRAME can move besides FEED_LOSS. -/
def frameConds : List SvcCond := segmentConds ++ captionConds ++ [.timeFault]

theorem segmentConds_subset_frameConds : segmentConds ⊆ frameConds := by decide
theorem captionConds_subset_frameConds : captionConds ⊆ frameConds := by decide

theorem State.raiseTimeFault_conds (s : State) (n : Svc) : CondsKept frameConds s.panel (s.raiseTimeFault n).panel := by
  have flagged : (s.raiseTimeFault n).panel = (s.raise n .timeFault).panel := by simp [State.raiseTimeFault]
  rw [flagged]
  exact (s.raise_conds n .timeFault (by decide)).mpr (by simp)

theorem State.advanceTo_frameConds (s : State) (n : Svc) (c : FireCause) (t : Nat) :
    CondsKept frameConds s.panel (s.advanceTo n c t).panel :=
  (s.advanceTo_conds segmentConds_subset_frameConds captionConds_subset_frameConds n c t).mpr (by simp)

theorem State.judgeStamp_conds (s : State) (n : Svc) (t : Nat) :
    CondsKept frameConds s.panel (s.judgeStamp n t).panel := by
  unfold State.judgeStamp State.jumpTo
  dsimp only
  split
  · exact State.advanceTo_frameConds (s.modFeed n _) n _ t
  · split
    · exact (State.raiseTimeFault_conds (s.modFeed n _) n).trans (State.advanceTo_frameConds _ n _ t)
    · split
      · simp
      · exact State.raiseTimeFault_conds (s.modFeed n _) n

/-- Outside FLYWHEEL a stamp leaves FEED_LOSS alone. -/
theorem State.applyStamp_conds {s : State} {n : Svc} (h : s.feed[n].lock ≠ .flywheel) (t : Nat) :
    CondsKept frameConds s.panel (s.applyStamp n t).panel := by
  have reloaded : ∀ u : State, (u.reloadLoss n).panel = u.panel := by simp
  unfold State.applyStamp
  cases lock : s.feed[n].lock with
  | seeking =>
    dsimp only
    split
    · rw [reloaded]
      exact (s.seedTime_conds segmentConds_subset_frameConds captionConds_subset_frameConds n t).mpr (by simp)
    · simp
  | locked | held =>
    dsimp only
    rw [reloaded]
    exact s.judgeStamp_conds n t
  | flywheel => exact absurd lock h

theorem State.judgeRate_conds (s : State) (n : Svc) (code : BitVec 16) :
    CondsKept frameConds s.panel (s.judgeRate n code).panel := by
  unfold State.judgeRate
  dsimp only
  split
  · simp
  · split
    · exact State.raiseTimeFault_conds (s.modFeed n _) n
    · simp

theorem State.takeFrame_conds (s : State) (n : Svc) (t : Nat) (code : BitVec 16) :
    CondsKept frameConds ((s.lineUp n).applyStamp n t).panel (s.takeFrame n t code).panel := by
  rw [State.takeFrame_eq]
  exact ((((s.lineUp n).applyStamp n t).judgeRate_conds n code).trans
    ((State.judgeFrame_conds captionConds_subset_frameConds (State.modFeed _ n _) n).mpr (by simp)))

/-- R13: the exit from FLYWHEEL clears FEED_LOSS and raises nothing. -/
theorem State.leaveFlywheel_feedLoss {s : State} {n : Svc} (h : s.feed[n].lock = .flywheel) :
    ((s.leaveFlywheel n).svcCond n .feedLoss).live = false ∧ (s.leaveFlywheel n).raises n .feedLoss = s.raises n .feedLoss := by
  obtain ⟨live, raises⟩ := (s.modFeed n fun f => { f with frameTimer := none }).setLive_own_cond n .feedLoss false
  unfold State.leaveFlywheel State.raises at *
  rw [if_pos h, State.runBreak_svcCond]
  exact ⟨live, raises.trans (by simp; rfl)⟩

theorem State.takeFrame_feedLoss (s : State) (n : Svc) (t : Nat) (code : BitVec 16) :
    ((s.takeFrame n t code).svcCond n .feedLoss).live =
        ((s.svcCond n .feedLoss).live && decide (s.feed[n].lock ≠ .flywheel)) ∧
      (s.takeFrame n t code).raises n .feedLoss = s.raises n .feedLoss := by
  have later := (s.takeFrame_conds n t code).svcCond n (c := .feedLoss) (by decide)
  have lock : (s.lineUp n).feed[n].lock = s.feed[n].lock := by simp [State.lineUp]
  unfold State.raises
  rw [later]
  by_cases fly : s.feed[n].lock = .flywheel
  · obtain ⟨live, raises⟩ := State.leaveFlywheel_feedLoss (lock.trans fly)
    have reloaded : (((s.lineUp n).leaveFlywheel n).judgeStamp n t).svcCond n .feedLoss =
        ((s.lineUp n).leaveFlywheel n).svcCond n .feedLoss := (State.judgeStamp_conds _ n t).svcCond n (by decide)
    rw [State.applyStamp_flywheel fly, show ∀ u : State, (u.reloadLoss n).svcCond n .feedLoss = u.svcCond n .feedLoss from fun _ => rfl,
      reloaded]
    exact ⟨by simp [live, fly, -Fin.getElem_fin], raises⟩
  · have kept := (State.applyStamp_conds (s := s.lineUp n) (by rw [lock]; exact fly) t).svcCond n (c := .feedLoss) (by decide)
    rw [kept]
    exact ⟨by simp [fly, -Fin.getElem_fin]; rfl, rfl⟩

/-! #### O10 -/

theorem State.judgeFrame_faultKept (s : State) (n : Svc) (k : Slot) :
    (s.judgeFrame n).svcCond n .timeFault = s.svcCond n .timeFault ∧
      ((s.judgeFrame n).entry n k).state = (s.entry n k).state ∧ ((s.judgeFrame n).entry n k).flags = (s.entry n k).flags := by
  have judged : ((s.modCaption n Caption.judge).judgeCaptions n).entry n k = s.entry n k :=
    State.entry_of_sched (by simp) n k
  obtain ⟨state, flags⟩ := ((s.modCaption n Caption.judge).judgeCaptions n).modTallies_state n
    (Tally.judged ((s.modCaption n Caption.judge).judgeCaptions n).caption[n].state) k
  rw [judged] at state flags
  exact ⟨((s.judgeFrame_conds (List.Subset.refl captionConds) n).mpr (by simp)).svcCond n (by decide), state, flags⟩

/-- Two raises in a row, each where its condition holds. -/
theorem TimeFaulted.two {n : Svc} {b c : Prop} [Decidable b] [Decidable c] {x y : Option Nat} {s u t : State}
    (h : TimeFaulted n b x s u) (g : TimeFaulted n c y u t) :
    t.raises n .timeFault = s.raises n .timeFault + (if b then 1 else 0) + (if c then 1 else 0) ∧
      (t.svcCond n .timeFault).last = (if c then y else if b then x else (s.svcCond n .timeFault).last) ∧
      ((s.svcCond n .timeFault).raises = (s.svcCond n .timeFault).acked →
        (t.svcCond n .timeFault).first = (if b then x else if c then y else (s.svcCond n .timeFault).first)) ∧
      (t.svcCond n .timeFault).live = (s.svcCond n .timeFault).live := by
  unfold State.raises
  rw [g.1, h.1]
  by_cases hb : b <;> by_cases hc : c <;> simp [hb, hc, CondEntry.raised, CondEntry.outstanding] <;> intro even <;> simp [even]

theorem Feed.stamped_kept (enable : Bool) (rate t : Nat) (f : Feed) :
    (f.stamped enable rate t).mismatch = f.mismatch ∧ (f.stamped enable rate t).lastRate = f.lastRate := by
  unfold Feed.stamped Feed.judged
  cases f.lock <;> dsimp only <;> split <;> exact ⟨rfl, rfl⟩

/-- R108: the rate code is judged on the record that the stamp leaves, and the service time and lock state of that record stay. -/
theorem State.applyStamp_record (s : State) (n : Svc) (t : Nat) (code : BitVec 16) :
    ((s.lineUp n).applyStamp n t).feed[n].mismatch = s.feed[n].mismatch ∧
      ((s.lineUp n).applyStamp n t).feed[n].lastRate = s.feed[n].lastRate ∧
      ((s.lineUp n).applyStamp n t).stampOf n =
        (if (s.takeFrame n t code).feed[n].lock = .seeking then none else some (s.takeFrame n t code).feed[n].time) := by
  have lined : (s.lineUp n).feed[n] = { s.feed[n] with lineDown := false } := by simp [State.lineUp]
  have sheet : (s.lineUp n).sheetOf n = s.sheetOf n := rfl
  have stamped : ((s.lineUp n).applyStamp n t).feed[n] = (s.lineUp n).feed[n].stamped _ _ t :=
    (s.lineUp n).applyStamp_feed_own n t
  have framed : (s.takeFrame n t code).feed[n] = s.feed[n].framed _ _ t code := s.takeFrame_feed_own n t code
  unfold State.stampOf
  rw [framed, stamped, lined, sheet]
  exact ⟨(Feed.stamped_kept ..).1, (Feed.stamped_kept ..).2, rfl⟩

theorem State.judgeRate_state (s : State) (n : Svc) (code : BitVec 16) (k : Slot) :
    ((s.judgeRate n code).entry n k).state = (s.entry n k).state := by
  unfold State.judgeRate
  dsimp only
  split
  · rfl
  · split
    · have entry : ∀ u : State, (u.raise n .timeFault).entry n k = u.entry n k := fun u => State.entry_of_sched (by simp) n k
      rw [State.raiseTimeFault, State.flagOpen_entry, entry]
      split <;> rfl
    · rfl

/-- Settles O10: the raise for the stamp is `State.applyStamp_faulted`, that for the rate code `State.judgeRate_faulted`. -/
theorem frameTimeFault : Obligations.FrameTimeFault := by
  intro s n stamp rate hp
  refine ⟨s.takeFrame n stamp.toNat rate, exec_effectOf (.frame n stamp rate) hp nofun, ?_⟩
  have lined : (s.lineUp n).feed[n] = { s.feed[n] with lineDown := false } := by simp [State.lineUp]
  have byStamp := (s.lineUp n).applyStamp_faulted n stamp.toNat
  rw [lined] at byStamp
  have sheet : ((s.lineUp n).applyStamp n stamp.toNat).sheetOf n = s.sheetOf n :=
    (State.applyStamp_sheetOf ..).trans rfl
  have byRate := ((s.lineUp n).applyStamp n stamp.toNat).judgeRate_faulted n rate
  obtain ⟨mismatch, lastRate, stampLater⟩ := s.applyStamp_record n stamp.toNat rate
  rw [sheet, mismatch, lastRate, stampLater] at byRate
  have judged :=
    fun k => State.judgeFrame_faultKept ((((s.lineUp n).applyStamp n stamp.toNat).judgeRate n rate).modFeed n
    fun f => { f with received := f.received + 1 }) n k
  have cond : (s.takeFrame n stamp.toNat rate).svcCond n .timeFault =
    (((s.lineUp n).applyStamp n stamp.toNat).judgeRate n rate).svcCond n .timeFault := (judged 0).1
  obtain ⟨raises, last, first, live⟩ := byStamp.two byRate
  obtain ⟨lossLive, lossRaises⟩ := s.takeFrame_feedLoss n stamp.toNat rate
  unfold State.raises at raises
  rw [← cond] at raises last first live
  refine ⟨raises, last, first, fun k => ?_, live, lossLive, lossRaises⟩
  have flags : ((s.takeFrame n stamp.toNat rate).entry n k).flags =
    ((((s.lineUp n).applyStamp n stamp.toNat).judgeRate n rate).entry n k).flags := (judged k).2.2
  have state : ((s.takeFrame n stamp.toNat rate).entry n k).state = (((s.lineUp n).applyStamp n stamp.toNat).entry n k).state :=
    (judged k).2.1.trans (State.judgeRate_state _ n rate k)
  rw [flags, state, byRate.2 k, byStamp.2 k, or_assoc]
  rfl

end Sys2Proof.Machine

namespace Sys2Proof.Machine

/-! ### The requirement in force moves at a time advance (R68, R69) -/

/-- From s to t only the requirement in force of the captions has moved, and the caption conditions with it. -/
structure RequirementMoved (n : Svc) (s t : State) : Prop where
  caption : t.caption[n] = { s.caption[n] with required := t.caption[n].required, source := t.caption[n].source }
  lives : CaptionLives n s → CaptionLives n t
  lossRaises : CaptionLives n s → t.raises n .captionLoss = s.raises n .captionLoss +
    (if (t.caption[n].required = true ∧ s.caption[n].state = .lost) ∧
      ¬(s.caption[n].required = true ∧ s.caption[n].state = .lost) then 1 else 0)
  idleRaises : CaptionLives n s → t.raises n .captionIdle = s.raises n .captionIdle +
    (if (t.caption[n].required = true ∧ s.caption[n].state = .idle) ∧
      ¬(s.caption[n].required = true ∧ s.caption[n].state = .idle) then 1 else 0)

/-- From s to t the captions and their conditions stand as they were. -/
structure CaptionKept (n : Svc) (s t : State) : Prop where
  caption : t.caption[n] = s.caption[n]
  loss : t.svcCond n .captionLoss = s.svcCond n .captionLoss
  idle : t.svcCond n .captionIdle = s.svcCond n .captionIdle

theorem CaptionKept.of_conds {C : List SvcCond} {n : Svc} {s t : State} (kept : CondsKept C s.panel t.panel)
    (apart : ∀ c ∈ captionConds, c ∉ C) (caption : t.caption = s.caption) : CaptionKept n s t :=
  ⟨by rw [caption], kept.svcCond n (apart _ (by decide)), kept.svcCond n (apart _ (by decide))⟩

section
variable {n : Svc} {s t u : State}

theorem CaptionKept.lives_iff (h : CaptionKept n s t) : CaptionLives n t ↔ CaptionLives n s := by
  unfold CaptionLives
  rw [h.caption, h.loss, h.idle]

theorem CaptionKept.trans (h : CaptionKept n s u) (g : CaptionKept n u t) : CaptionKept n s t :=
  ⟨g.caption.trans h.caption, g.loss.trans h.loss, g.idle.trans h.idle⟩

theorem CaptionKept.moved (h : CaptionKept n s t) : RequirementMoved n s t where
  caption := by rw [h.caption]
  lives := h.lives_iff.mpr
  lossRaises _ := by
    unfold State.raises
    rw [h.loss, h.caption, if_neg fun both => both.2 both.1]
    simp
  idleRaises _ := by
    unfold State.raises
    rw [h.idle, h.caption, if_neg fun both => both.2 both.1]
    simp

theorem RequirementMoved.of_kept (h : RequirementMoved n u t) (kept : CaptionKept n s u) : RequirementMoved n s t := by
  obtain ⟨caption, lives, loss, idle⟩ := h
  rw [kept.lives_iff] at lives loss idle
  unfold State.raises at loss idle
  rw [kept.caption] at caption loss idle
  rw [kept.loss] at loss
  rw [kept.idle] at idle
  exact ⟨caption, lives, loss, idle⟩

theorem RequirementMoved.to_kept (h : RequirementMoved n s u) (kept : CaptionKept n u t) : RequirementMoved n s t := by
  obtain ⟨caption, lives, loss, idle⟩ := h
  rw [← kept.lives_iff] at lives
  unfold State.raises at loss idle
  rw [← kept.caption] at caption loss idle
  rw [← kept.loss] at loss
  rw [← kept.idle] at idle
  exact ⟨caption, lives, loss, idle⟩

/-- R69: a caption record that only takes another requirement, with its conditions following. -/
theorem CaptionCondsFollow.moved (h : CaptionCondsFollow n s t)
    (caption : t.caption[n] = { s.caption[n] with required := t.caption[n].required, source := t.caption[n].source }) :
    RequirementMoved n s t := by
  have state : t.caption[n].state = s.caption[n].state := by rw [caption]
  have raises := fun before => h.raises before
  rw [state] at raises
  exact ⟨caption, fun _ => h.lives, fun before => (raises before).1, fun before => (raises before).2⟩

end

theorem State.advanceTo_moved (s : State) (n : Svc) (c : FireCause) (t : Nat) :
    RequirementMoved n s (s.advanceTo n c t) :=
  (s.advanceTo_follow n c t).moved (by simp [State.advanceTo, State.advanceBoundaries, State.refreshRequirement])

theorem State.seedTime_moved (s : State) (n : Svc) (t : Nat) : RequirementMoved n s (s.seedTime n t) :=
  (s.seedTime_follow n t).moved (by simp [State.seedTime, State.seedBoundaries, State.refreshRequirement])

theorem State.raiseTimeFault_captionKept (s : State) (n : Svc) : CaptionKept n s (s.raiseTimeFault n) := by
  have kept : CondsKept [.timeFault] s.panel (s.raiseTimeFault n).panel := by
    have flagged : (s.raiseTimeFault n).panel = (s.raise n .timeFault).panel := by simp [State.raiseTimeFault]
    rw [flagged]
    simp
  exact .of_conds kept (by decide) (by simp [State.raiseTimeFault])

theorem State.modFeed_captionKept (s : State) (n : Svc) (f : Feed → Feed) : CaptionKept n s (s.modFeed n f) :=
  ⟨rfl, rfl, rfl⟩

theorem State.leaveFlywheel_captionKept (s : State) (n : Svc) : CaptionKept n s (s.leaveFlywheel n) := by
  have kept : CondsKept [.feedLoss] s.panel (s.leaveFlywheel n).panel := by
    unfold State.leaveFlywheel
    split <;> simp
  exact .of_conds kept (by decide) (by simp)

theorem State.judgeStamp_moved (s : State) (n : Svc) (t : Nat) : RequirementMoved n s (s.judgeStamp n t) := by
  unfold State.judgeStamp State.jumpTo
  dsimp only
  split
  · exact (State.advanceTo_moved _ n _ t).of_kept (s.modFeed_captionKept n _)
  · split
    · exact ((State.advanceTo_moved _ n _ t).of_kept (State.raiseTimeFault_captionKept _ n)).of_kept (s.modFeed_captionKept n _)
    · split
      · exact CaptionKept.moved ⟨rfl, rfl, rfl⟩
      · exact (State.raiseTimeFault_captionKept _ n).moved.of_kept (s.modFeed_captionKept n _)

theorem State.applyStamp_moved (s : State) (n : Svc) (t : Nat) : RequirementMoved n s (s.applyStamp n t) := by
  have reloaded : ∀ u : State, CaptionKept n u (u.reloadLoss n) := fun u => u.modFeed_captionKept n _
  unfold State.applyStamp
  split
  · split
    · exact (s.seedTime_moved n t).to_kept (reloaded _)
    · exact CaptionKept.moved ⟨rfl, rfl, rfl⟩
  · exact (s.judgeStamp_moved n t).to_kept (reloaded _)
  · exact (s.judgeStamp_moved n t).to_kept (reloaded _)
  · exact ((State.judgeStamp_moved _ n t).of_kept (s.leaveFlywheel_captionKept n)).to_kept (reloaded _)

theorem State.judgeRate_captionKept (s : State) (n : Svc) (code : BitVec 16) :
    CaptionKept n s (s.judgeRate n code) := by
  unfold State.judgeRate
  dsimp only
  split
  · exact s.modFeed_captionKept n _
  · split
    · exact (s.modFeed_captionKept n _).trans (State.raiseTimeFault_captionKept _ n)
    · exact s.modFeed_captionKept n _

/-- The state in which a FRAME's received-frame notice is taken. -/
def State.beforeNotice (s : State) (n : Svc) (t : Nat) (code : BitVec 16) : State :=
  (((s.lineUp n).applyStamp n t).judgeRate n code).modFeed n fun f => { f with received := f.received + 1 }

theorem State.beforeNotice_moved (s : State) (n : Svc) (t : Nat) (code : BitVec 16) :
    RequirementMoved n s (s.beforeNotice n t code) :=
  ((((s.lineUp n).applyStamp_moved n t).of_kept (s.modFeed_captionKept n _)).to_kept (State.judgeRate_captionKept _ n code)).to_kept
    (State.modFeed_captionKept _ n _)

/-! ### The judgement (R62, R63, R65, R69, R71) -/

theorem Caption.judge_fields (c : Caption) :
    c.judge.liveness = c.liveness - 1 ∧ c.judge.required = c.required ∧ c.judge.accepted = c.accepted ∧
      c.judge.mismatches = c.mismatches ∧ c.judge.discontinuities = c.discontinuities := by
  unfold Caption.judge
  dsimp only
  repeat' split
  all_goals exact ⟨rfl, rfl, rfl, rfl, rfl⟩

theorem Caption.judge_expired {c : Caption} (h : c.liveness = 1) :
    c.judge.state = .lost ∧ (c.state ≠ .lost → c.judge.content = 0 ∧ c.judge.lastSeq = none) := by
  unfold Caption.judge
  simp only [h, decide_true, ↓reduceIte]
  split
  · next lost => exact ⟨lost, fun other => absurd lost other⟩
  · exact ⟨rfl, fun _ => ⟨rfl, rfl⟩⟩

theorem Caption.judge_running {c : Caption} (h : c.liveness ≠ 1) :
    c.judge.content = c.content - 1 ∧ c.judge.lastSeq = c.lastSeq ∧
      c.judge.state = (if c.content = 1 ∧ c.state = .live then .idle else c.state) := by
  unfold Caption.judge
  simp only [h, decide_false, Bool.false_eq_true, ↓reduceIte, Bool.and_eq_true, decide_eq_true_eq]
  split <;> exact ⟨rfl, rfl, rfl⟩

theorem State.judgeFrame_caption (s : State) (n : Svc) : (s.judgeFrame n).caption[n] = s.caption[n].judge := by
  simp [State.judgeFrame]

theorem State.judgeFrame_follow (s : State) (n : Svc) : CaptionCondsFollow n s (s.judgeFrame n) :=
  ((State.judgeCaptions_follow (s.modCaption n Caption.judge) n).of_kept (C := []) (by simp) (by decide)).to_kept (C := [])
    (by simp [State.judgeFrame]) (by decide) (by simp [State.judgeFrame])

theorem State.judgeFrame_entry (s : State) (n : Svc) (k : Slot) :
    (s.judgeFrame n).entry n k =
      if (s.entry n k).counting = true then
        { s.entry n k with tally := (s.entry n k).tally.judged (s.judgeFrame n).caption[n].state }
      else s.entry n k := by
  have judged : ((s.modCaption n Caption.judge).judgeCaptions n).entry n k = s.entry n k :=
    State.entry_of_sched (by simp) n k
  have caption : (s.judgeFrame n).caption = ((s.modCaption n Caption.judge).judgeCaptions n).caption := by
    simp [State.judgeFrame]
  rw [caption]
  unfold State.judgeFrame
  dsimp only
  rw [State.modTallies_entry, judged]

/-! #### Tallies between the stamp and the notice -/

/-- How a FRAME moves an entry's standing and tally before its received-frame notice: as `Entry.Progress`, whatever the flags. -/
structure Entry.Runs (e e' : Entry) : Prop where
  rest : ¬ e.state.waiting → e.state ≠ .opened → e'.state = e.state
  ofOpen : e.state = .opened → e'.state.begun ∧ e'.tally = { e.tally with paused := e'.tally.paused }
  ofWaiting : e.state.waiting → e'.state.waiting ∨
    e'.state.begun ∧ e'.tally = { Tally.zero with paused := e'.tally.paused, required := e'.tally.required,
                                                  permille := e'.tally.permille }

theorem Entry.Progress.runs {e e' : Entry} (h : e.Progress e') : e.Runs e' :=
  ⟨fun hw ho => by rw [h.rest hw ho], h.ofOpen, h.ofWaiting⟩

/-- The same from an entry before, or to one after, with the same standing and tally. -/
theorem Entry.Runs.of_same {e d e' d' : Entry} (h : e.Runs e') (state : e.state = d.state) (tally : e.tally = d.tally)
    (state' : d'.state = e'.state) (tally' : d'.tally = e'.tally) : d.Runs d' := by
  obtain ⟨rest, ofOpen, ofWaiting⟩ := h
  rw [state, tally, ← tally', ← state'] at *
  exact ⟨rest, ofOpen, ofWaiting⟩

/-- An entry with another's standing and tally. -/
structure Entry.SameRun (e e' : Entry) : Prop where
  state : e'.state = e.state
  tally : e'.tally = e.tally

theorem Entry.Runs.refl (e : Entry) : e.Runs e := (Entry.Progress.refl e).runs

theorem Entry.Runs.after {e d e' : Entry} (h : d.Runs e') (same : e.SameRun d) : e.Runs e' :=
  h.of_same same.state same.tally rfl rfl

theorem Entry.Runs.then {e d e' : Entry} (h : e.Runs d) (same : d.SameRun e') : e.Runs e' :=
  h.of_same rfl rfl same.state same.tally

theorem State.raiseTimeFault_sameRun (s : State) (n : Svc) (k : Slot) :
    (s.entry n k).SameRun ((s.raiseTimeFault n).entry n k) := by
  have entry : (s.raise n .timeFault).entry n k = s.entry n k := State.entry_of_sched (by simp) n k
  rw [State.raiseTimeFault, State.flagOpen_entry, entry]
  split <;> exact ⟨rfl, rfl⟩

theorem State.judgeStamp_runs (s : State) (n : Svc) (t : Nat) (k : Slot) :
    (s.entry n k).Runs ((s.judgeStamp n t).entry n k) := by
  unfold State.judgeStamp State.jumpTo
  dsimp only
  split
  · exact (State.advanceTo_progress (s.modFeed n _) n _ t k).runs
  · split
    · exact (State.advanceTo_progress _ n _ t k).runs.after (State.raiseTimeFault_sameRun (s.modFeed n _) n k)
    · split
      · exact .refl _
      · exact (Entry.Runs.refl _).then (State.raiseTimeFault_sameRun (s.modFeed n _) n k)

theorem State.applyStamp_runs (s : State) (n : Svc) (t : Nat) (k : Slot) :
    (s.entry n k).Runs ((s.applyStamp n t).entry n k) := by
  have left : (s.leaveFlywheel n).entry n k = s.entry n k := State.entry_of_sched (by simp) n k
  have reloaded : ∀ u : State, (u.reloadLoss n).entry n k = u.entry n k := fun _ => rfl
  have judged := (s.leaveFlywheel n).judgeStamp_runs n t k
  rw [left] at judged
  unfold State.applyStamp
  split
  · split
    · rw [reloaded]
      exact (s.seedTime_progress n t k).runs
    · exact .refl _
  · rw [reloaded]
    exact s.judgeStamp_runs n t k
  · rw [reloaded]
    exact s.judgeStamp_runs n t k
  · rw [reloaded]
    exact judged

theorem State.judgeRate_sameRun (s : State) (n : Svc) (code : BitVec 16) (k : Slot) :
    (s.entry n k).SameRun ((s.judgeRate n code).entry n k) := by
  unfold State.judgeRate
  dsimp only
  split
  · exact ⟨rfl, rfl⟩
  · split
    · exact State.raiseTimeFault_sameRun (s.modFeed n _) n k
    · exact ⟨rfl, rfl⟩

theorem State.beforeNotice_runs (s : State) (n : Svc) (t : Nat) (code : BitVec 16) (k : Slot) :
    (s.entry n k).Runs ((s.beforeNotice n t code).entry n k) :=
  ((s.lineUp n).applyStamp_runs n t k).then (State.judgeRate_sameRun _ n code k)

/-- The counts of a tally, but for what its opening set. -/
theorem Entry.Runs.counts {e e' : Entry} (h : e.Runs e') (opened : e'.state = .opened) :
    let was := if e.state = .opened then e.tally else Tally.zero
    e'.tally.counted = was.counted ∧ e'.tally.covered = was.covered ∧ e'.tally.idle = was.idle ∧
      e'.tally.feedLoss = was.feedLoss ∧ e'.tally.discontinuities = was.discontinuities ∧
      e'.tally.mismatches = was.mismatches := by
  dsimp only
  split
  · next stood =>
    rw [(h.ofOpen stood).2]
    exact ⟨rfl, rfl, rfl, rfl, rfl, rfl⟩
  · next other =>
    by_cases waits : e.state.waiting
    · rcases h.ofWaiting waits with still | ⟨-, tally⟩
      · exact absurd still (Standing.begun_not_waiting (.inl opened))
      · rw [tally]
        exact ⟨rfl, rfl, rfl, rfl, rfl, rfl⟩
    · exact absurd ((h.rest waits other).symm.trans opened) other

theorem Tally.judged_counts (st : CapState) (t : Tally) :
    (t.judged st).paused = t.paused ∧ (t.judged st).feedLoss = t.feedLoss ∧
      (t.judged st).discontinuities = t.discontinuities ∧ (t.judged st).mismatches = t.mismatches ∧
      if t.counted < 4294967295 then
        (t.judged st).counted = t.counted + 1 ∧ (t.judged st).covered = t.covered + (if st = .lost then 0 else 1) ∧
          (t.judged st).idle = t.idle + (if st = .idle then 1 else 0)
      else t.judged st = t := by
  unfold Tally.judged
  split
  · cases st <;> exact ⟨rfl, rfl, rfl, rfl, rfl, rfl, rfl⟩
  · exact ⟨rfl, rfl, rfl, rfl, rfl⟩

end Sys2Proof.Machine

namespace Sys2Proof.Machine

/-! ### O11 -/

/-- What the judgement of a received frame makes of the captions, from a state whose requirement in force may have moved. -/
theorem RequirementMoved.judged_caption {n : Svc} {s u : State} (moved : RequirementMoved n s u) :
    (u.judgeFrame n).caption[n].liveness = s.caption[n].liveness - 1 ∧
      (s.caption[n].liveness = 1 →
        (u.judgeFrame n).caption[n].state = .lost ∧
        (s.caption[n].state ≠ .lost → (u.judgeFrame n).caption[n].content = 0 ∧ (u.judgeFrame n).caption[n].lastSeq = none)) ∧
      (s.caption[n].liveness ≠ 1 →
        (u.judgeFrame n).caption[n].content = s.caption[n].content - 1 ∧
        (u.judgeFrame n).caption[n].lastSeq = s.caption[n].lastSeq ∧
        (u.judgeFrame n).caption[n].state =
          (if s.caption[n].content = 1 ∧ s.caption[n].state = .live then .idle else s.caption[n].state)) ∧
      (u.judgeFrame n).caption[n].accepted = s.caption[n].accepted ∧
      (u.judgeFrame n).caption[n].mismatches = s.caption[n].mismatches ∧
      (u.judgeFrame n).caption[n].discontinuities = s.caption[n].discontinuities := by
  have expired := Caption.judge_expired (c := u.caption[n])
  have running := Caption.judge_running (c := u.caption[n])
  obtain ⟨liveness, -, accepted, mismatches, discontinuities⟩ := u.caption[n].judge_fields
  rw [State.judgeFrame_caption, liveness, accepted, mismatches, discontinuities]
  rw [moved.caption] at expired running ⊢
  exact ⟨rfl, expired, running, rfl, rfl, rfl⟩

theorem and_not_and_right (a b p : Prop) : (a ∧ p) ∧ ¬(b ∧ p) ↔ a ∧ ¬b ∧ p := by tauto

theorem and_not_and_left (a p q : Prop) : (a ∧ q) ∧ ¬(a ∧ p) ↔ a ∧ ¬p ∧ q := by tauto

/-- R69: the caption conditions after the judgement, with one raise at each change to live. -/
theorem RequirementMoved.judged_conds {n : Svc} {s u : State} (moved : RequirementMoved n s u)
    (before : CaptionLives n s) :
    CaptionLives n (u.judgeFrame n) ∧
      (u.judgeFrame n).raises n .captionLoss =
        s.raises n .captionLoss +
          (if (u.judgeFrame n).caption[n].required = true ∧ s.caption[n].required = false ∧ s.caption[n].state = .lost then 1
            else 0) +
          (if (u.judgeFrame n).caption[n].required = true ∧ s.caption[n].state ≠ .lost ∧
            (u.judgeFrame n).caption[n].state = .lost then 1 else 0) ∧
      (u.judgeFrame n).raises n .captionIdle =
        s.raises n .captionIdle +
          (if (u.judgeFrame n).caption[n].required = true ∧ s.caption[n].required = false ∧ s.caption[n].state = .idle then 1
            else 0) +
          (if (u.judgeFrame n).caption[n].required = true ∧ s.caption[n].state ≠ .idle ∧
            (u.judgeFrame n).caption[n].state = .idle then 1 else 0) := by
  have follow := u.judgeFrame_follow n
  have required : (u.judgeFrame n).caption[n].required = u.caption[n].required := by
    rw [State.judgeFrame_caption]
    exact u.caption[n].judge_fields.2.1
  have state : u.caption[n].state = s.caption[n].state := by rw [moved.caption]
  obtain ⟨loss, idle⟩ := follow.raises (moved.lives before)
  have byRequirement : ∀ st : CapState, (u.caption[n].required = true ∧ s.caption[n].state = st) ∧
      ¬(s.caption[n].required = true ∧ s.caption[n].state = st) ↔
      u.caption[n].required = true ∧ s.caption[n].required = false ∧ s.caption[n].state = st := fun st => by
    rw [← Bool.not_eq_true]
    exact and_not_and_right _ _ _
  have byState : ∀ st : CapState, (u.caption[n].required = true ∧ (u.judgeFrame n).caption[n].state = st) ∧
      ¬(u.caption[n].required = true ∧ s.caption[n].state = st) ↔
      u.caption[n].required = true ∧ s.caption[n].state ≠ st ∧ (u.judgeFrame n).caption[n].state = st := fun st =>
    and_not_and_left _ _ _
  rw [required, state] at loss idle
  rw [loss, idle, moved.lossRaises before, moved.idleRaises before, required]
  exact ⟨follow.lives, by rw [if_congr (byRequirement .lost) rfl rfl, if_congr (byState .lost) rfl rfl],
    by rw [if_congr (byRequirement .idle) rfl rfl, if_congr (byState .idle) rfl rfl]⟩

/-- R71: what the judgement counts in an entry that stands OPEN. -/
theorem State.judgeFrame_counts (u : State) (n : Svc) (k : Slot) (opened : (u.entry n k).state = .opened) :
    ((u.judgeFrame n).entry n k).tally.paused = (u.entry n k).tally.paused ∧
      ((u.judgeFrame n).entry n k).tally.feedLoss = (u.entry n k).tally.feedLoss ∧
      ((u.judgeFrame n).entry n k).tally.discontinuities = (u.entry n k).tally.discontinuities ∧
      ((u.judgeFrame n).entry n k).tally.mismatches = (u.entry n k).tally.mismatches ∧
      if (u.entry n k).tally.paused = false ∧ (u.entry n k).tally.counted < 4294967295 then
        ((u.judgeFrame n).entry n k).tally.counted = (u.entry n k).tally.counted + 1 ∧
        ((u.judgeFrame n).entry n k).tally.covered =
          (u.entry n k).tally.covered + (if (u.judgeFrame n).caption[n].state = .lost then 0 else 1) ∧
        ((u.judgeFrame n).entry n k).tally.idle =
          (u.entry n k).tally.idle + (if (u.judgeFrame n).caption[n].state = .idle then 1 else 0)
      else (u.judgeFrame n).entry n k = u.entry n k := by
  obtain ⟨paused, loss, disc, mism, counts⟩ := (u.entry n k).tally.judged_counts (u.judgeFrame n).caption[n].state
  rw [State.judgeFrame_entry]
  by_cases counting : (u.entry n k).counting = true
  · have runs := ((Entry.counting_iff _).mp counting).2
    rw [if_pos counting]
    simp only [runs, true_and]
    refine ⟨paused.trans runs, loss, disc, mism, ?_⟩
    split at counts
    · next room => rw [if_pos room]; exact counts
    · next full =>
      rw [if_neg full]
      show Entry.mk _ _ _ _ _ _ _ _ _ _ _ _ _ _ _ _ = _
      rw [counts]
  · have stands : (u.entry n k).tally.paused ≠ false := fun runs => counting ((Entry.counting_iff _).mpr ⟨opened, runs⟩)
    rw [if_neg counting, if_neg fun both => stands both.1]
    exact ⟨rfl, rfl, rfl, rfl, rfl⟩

theorem State.judgeFrame_not_open (u : State) (n : Svc) (k : Slot) (other : (u.entry n k).state ≠ .opened) :
    (u.judgeFrame n).entry n k = u.entry n k := by
  rw [State.judgeFrame_entry, if_neg fun counting => other ((Entry.counting_iff _).mp counting).1]

theorem State.judgeFrame_state (u : State) (n : Svc) (k : Slot) :
    ((u.judgeFrame n).entry n k).state = (u.entry n k).state := by
  rw [State.judgeFrame_entry]
  split <;> rfl

/-- An expiry report that names the judgement is the judgement. -/
theorem effectOf_expiry {s : State} {n : Svc} {c : Instr}
    (event : c = .livenessExpiry n ∧ s.caption[n].liveness = 1 ∨ c = .contentExpiry n ∧ s.caption[n].content = 1) :
    effectOf c s = s.judgeFrame n := by
  rcases event with ⟨rfl, due⟩ | ⟨rfl, due⟩
  · exact if_pos due
  · exact if_pos due

/-- R2, R65: of each judging event, the state in which its judgement is made. -/
theorem judgingEvent {s : State} {n : Svc} {c : Instr}
    (event : (∃ stamp rate, c = .frame n stamp rate) ∨ (c = .livenessExpiry n ∧ s.caption[n].liveness = 1) ∨
      (c = .contentExpiry n ∧ s.caption[n].content = 1)) :
    ∃ u, effectOf c s = u.judgeFrame n ∧ RequirementMoved n s u ∧ (∀ k, (s.entry n k).Runs (u.entry n k)) ∧
      ((∀ stamp rate, c ≠ .frame n stamp rate) → u = s) := by
  rcases event with ⟨stamp, rate, rfl⟩ | expiry
  · exact ⟨s.beforeNotice n stamp.toNat rate, s.takeFrame_eq n stamp.toNat rate, s.beforeNotice_moved n stamp.toNat rate,
      s.beforeNotice_runs n stamp.toNat rate, fun other => absurd rfl (other stamp rate)⟩
  · exact ⟨s, effectOf_expiry expiry, CaptionKept.moved ⟨rfl, rfl, rfl⟩, fun _ => .refl _, fun _ => rfl⟩

/-- Settles O11: a FRAME's judgement is made after what its stamp and rate code do, that of an expiry at once
(`judgingEvent`). -/
theorem frameJudgement : Obligations.FrameJudgement := by
  intro s n c hp event
  obtain ⟨u, effect, moved, runs, atOnce⟩ := judgingEvent event
  obtain ⟨liveness, expired, running, accepted, mismatches, discontinuities⟩ := moved.judged_caption
  refine ⟨effectOf c s, exec_effectOf c hp (by rintro rfl; simp at event), ?_⟩
  rw [effect]
  refine ⟨liveness, expired, running, accepted, mismatches, discontinuities, fun sound => ?_, fun _ k ended => ?_,
    fun _ k opened => ?_, fun expiry k => ?_⟩
  · obtain ⟨⟨loss, idle⟩, lossRaises, idleRaises⟩ := moved.judged_conds (sound.lives n)
    exact ⟨loss, idle, lossRaises, idleRaises⟩
  · have stands : (u.entry n k).state ≠ .opened := by rwa [State.judgeFrame_state] at ended
    rw [State.judgeFrame_not_open u n k stands]
    refine ⟨fun opened => ((runs k).ofOpen opened).2, fun waits begun => ?_⟩
    rcases (runs k).ofWaiting waits with still | ⟨-, tally⟩
    · exact absurd still (Standing.begun_not_waiting (.inr begun))
    · rw [tally]
      exact ⟨rfl, rfl, rfl⟩
  · have stands : (u.entry n k).state = .opened := by rwa [State.judgeFrame_state] at opened
    obtain ⟨counted, covered, idle, loss, disc, mism⟩ := (runs k).counts stands
    obtain ⟨paused, lossNow, discNow, mismNow, now⟩ := u.judgeFrame_counts n k stands
    dsimp only
    rw [← counted, ← covered, ← idle, ← loss, ← disc, ← mism, paused]
    refine ⟨lossNow, discNow, mismNow, ?_⟩
    split at now
    · next room => rw [if_pos room]; exact now
    · next full => rw [if_neg full, now]; exact ⟨rfl, rfl, rfl⟩
  · obtain rfl := atOnce expiry
    by_cases stands : (u.entry n k).state = .opened
    · obtain ⟨-, -, -, -, now⟩ := u.judgeFrame_counts n k stands
      simpa only [stands, true_and] using now
    · rw [if_neg fun both => stands both.1]
      exact u.judgeFrame_not_open n k stands

end Sys2Proof.Machine

namespace Sys2Proof.Machine

/-! ### FEED_LOSS, lock states and timers (R11, R13, R15, R18) -/

/-- The live-type conditions besides FEED_LOSS. -/
def otherLives : List SvcCond := [.audioSilence, .captionLoss, .captionIdle, .spoolOverflow, .recordFatal]

/-- The live-type conditions besides those of the captions. -/
def noCaptionLives : List SvcCond := [.feedLoss, .audioSilence, .spoolOverflow, .recordFatal]

/-- A command that does not touch the feed receivers leaves FEED_LOSS alone. -/
theorem effectOf_lossKept (c : Instr) (s : State) (h : Part.feed ∉ commandParts c) :
    LivesKept otherLives s.panel (effectOf c s).panel := by
  cases c with
  | frame | caption | loss | restore | discardedMessage | lossTimerExpiry | flywheelAdvance | sheetStaging | linkStepComplete
  | deviceReset | powerOn => simp [commandParts, segmentParts] at h
  | powerLoss written torn =>
    have panel : (s.turnOff written torn).panel = s.panel := s.turnOff_touches written torn .panel (by decide)
    rw [effectOf, panel]
    simp
  | _ => simp [effectOf, otherLives]

/-- A command that does not touch the captions leaves their conditions alone. -/
theorem effectOf_captionsKept (c : Instr) (s : State) (h : Part.caption ∉ commandParts c) :
    LivesKept noCaptionLives s.panel (effectOf c s).panel := by
  cases c with
  | frame | caption | cue | loss | lossTimerExpiry | flywheelAdvance | countLimit | livenessExpiry | contentExpiry
  | commandWordRead | postingValidation | sheetStaging | linkStepComplete | unlink | unlinkComplete | accessFailure
  | accessTimeout | deviceReset | powerOn => simp [commandParts, segmentParts] at h
  | powerLoss written torn =>
    have panel : (s.turnOff written torn).panel = s.panel := s.turnOff_touches written torn .panel (by decide)
    rw [effectOf, panel]
    simp
  | _ => simp [effectOf, noCaptionLives]

/-! #### Feed receivers -/

/-- R11, R13, R15, R18: the relations of `FeedSound` in one record, with the live field of FEED_LOSS. -/
def Feed.Sound (f : Feed) (loss : Bool) : Prop :=
  (f.lossTimer.isSome = true ↔ f.lock = .locked ∨ f.lock = .held) ∧ (f.frameTimer.isSome = true ↔ f.lock = .flywheel) ∧
    (loss = true ↔ f.lock = .flywheel) ∧ f.time ≤ Config.timeMax

theorem FeedSound.iff (s : State) : FeedSound s ↔ ∀ n : Svc, s.feed[n].Sound (s.svcCond n .feedLoss).live := .rfl

/-- From s to t the feed receivers and FEED_LOSS stand as they were. -/
structure FeedKept (s t : State) : Prop where
  feed : t.feed = s.feed
  lives : LivesKept otherLives s.panel t.panel

theorem FeedSound.of_kept {s t : State} (sound : FeedSound s) (kept : FeedKept s t) : FeedSound t := by
  intro n
  rw [kept.feed, kept.lives.svcCond n (by decide)]
  exact sound n

/-- Between s and t the feed receivers of the other services stand, and n's is sound. -/
theorem FeedSound.of_own {s t : State} {n : Svc} (sound : FeedSound s) (feed : ∀ m : Svc, m ≠ n → t.feed[m] = s.feed[m])
    (lives : ∀ m : Svc, m ≠ n → (t.svcCond m .feedLoss).live = (s.svcCond m .feedLoss).live)
    (own : t.feed[n].Sound (t.svcCond n .feedLoss).live) : FeedSound t := by
  intro m
  by_cases h : m = n
  · subst h
    exact own
  · rw [feed m h, lives m h]
    exact sound m

theorem OthersSame.svcCond {s t : State} {n m : Svc} (others : OthersSame n s t) (h : m ≠ n) (c : SvcCond) :
    t.svcCond m c = s.svcCond m c := by
  obtain ⟨-, -, -, -, -, -, panel, -, -⟩ := others m h
  unfold State.svcCond State.cond
  simp only [panel]

theorem OthersSame.feedSound {s t : State} {n : Svc} (others : OthersSame n s t) (sound : FeedSound s)
    (own : t.feed[n].Sound (t.svcCond n .feedLoss).live) : FeedSound t :=
  sound.of_own (fun m h => (others m h).1) (fun m h => by rw [others.svcCond h]) own

/-! R7 to R13: the records that the events of a feed lane make are sound. -/

theorem Feed.Sound.loss_eq {f : Feed} {loss : Bool} (h : f.Sound loss) : loss = decide (f.lock = .flywheel) := by
  obtain ⟨-, -, live, -⟩ := h
  cases loss
  · exact (decide_eq_false fun fly => nomatch live.mpr fly).symm
  · exact (decide_eq_true (live.mp rfl)).symm

theorem Option.isSome_eq_false_of_iff {α : Type} {o : Option α} {p : Prop} (h : o.isSome = true ↔ p) (hp : ¬ p) :
    o = none := by
  cases o with
  | none => rfl
  | some a => exact absurd (h.mp rfl) hp

/-- R7 to R14: a FRAME leaves a sound record, and FEED_LOSS live only where it did not end FLYWHEEL. -/
theorem Feed.Sound.framed {f : Feed} {loss : Bool} (h : f.Sound loss) (enable : Bool) (rate : Nat) {t : Nat}
    (bound : t ≤ Config.timeMax) (code : BitVec 16) :
    (f.framed enable rate t code).Sound (loss && decide (f.lock ≠ .flywheel)) := by
  have dead : (loss && decide (f.lock ≠ .flywheel)) = false := by
    rw [h.loss_eq]
    cases f.lock <;> rfl
  obtain ⟨lossTimer, frameTimer, -, time⟩ := h
  rw [dead]
  have frame := f.framed_frameTimer enable rate t code
  have stopped : (f.framed enable rate t code).frameTimer = none := by
    rw [frame]
    split
    · rfl
    · next other => exact Option.isSome_eq_false_of_iff frameTimer other
  by_cases seeking : f.lock = .seeking
  · obtain ⟨lock, clock, timer⟩ := Feed.framed_seeking seeking enable rate t code
    unfold Feed.Sound
    rw [stopped, lock, clock, timer, Option.isSome_eq_false_of_iff lossTimer (by rw [seeking]; decide)]
    cases enable <;> simp [time, bound]
  · obtain ⟨lock, clock, timer⟩ := Feed.framed_timed seeking enable rate t code
    unfold Feed.Sound
    rw [stopped, lock, clock, timer]
    split <;> simp [time, bound]

theorem Feed.Sound.flown {f : Feed} {loss : Bool} (h : f.Sound loss) : f.flown.Sound loss := by
  obtain ⟨lossTimer, frameTimer, live, time⟩ := h
  unfold Feed.flown
  split
  · next room => exact ⟨lossTimer, frameTimer, live, room⟩
  · exact ⟨lossTimer, frameTimer, live, time⟩

theorem Feed.Sound.flown_iterate {f : Feed} {loss : Bool} (h : f.Sound loss) (due : Nat) :
    (Feed.flown^[due] f).Sound loss := by
  induction due generalizing f with
  | zero => exact h
  | succ due ih => exact ih h.flown

theorem Feed.Sound.entered {f : Feed} {loss : Bool} (h : f.Sound loss) (rate : Nat) : (f.entered rate).Sound true :=
  ⟨by simp [Feed.entered], by simp [Feed.entered], by simp [Feed.entered], h.2.2.2⟩

theorem State.flywheelEntered_live (s : State) (n : Svc) : ((s.flywheelEntered n).svcCond n .feedLoss).live = true := by
  unfold State.flywheelEntered
  rw [State.runBreak_svcCond]
  exact (State.setLive_own_cond _ n .feedLoss true).1

theorem State.enterFlywheel_own {s : State} {n : Svc} {loss : Bool} (h : s.feed[n].Sound loss) (due : Nat) :
    (s.enterFlywheel n due).feed[n].Sound ((s.enterFlywheel n due).svcCond n .feedLoss).live := by
  have feed : (s.enterFlywheel n due).feed[n] = Feed.flown^[due] (s.feed[n].entered (s.sheetOf n).rate) :=
    s.enterFlywheel_feed_own n due
  rw [feed, (s.enterFlywheel_conds n due).svcCond n (by decide), State.flywheelEntered_live]
  exact (h.entered _).flown_iterate due

theorem State.takeFrame_feedSound {s : State} (sound : FeedSound s) (n : Svc) (stamp : Stamp) (code : BitVec 16) :
    FeedSound (s.takeFrame n stamp.toNat code) := by
  have feed : (s.takeFrame n stamp.toNat code).feed[n] = _ := s.takeFrame_feed_own n stamp.toNat code
  refine (s.takeFrame_others n stamp.toNat code).feedSound sound ?_
  rw [feed, (s.takeFrame_feedLoss n stamp.toNat code).1]
  exact ((FeedSound.iff s).mp sound n).framed _ _ (Nat.le_pred_of_lt stamp.isLt) code

theorem Lock.untimed {l : Lock} (h : ¬(l = .locked ∨ l = .held)) : l = .seeking ∨ l = .flywheel := by
  revert h
  cases l <;> decide

theorem State.takeLoss_feedSound {s : State} (sound : FeedSound s) (n : Svc) (late : Bool) :
    FeedSound (s.takeLoss n late) := by
  refine (s.takeLoss_others n late).feedSound sound ?_
  have down := (FeedSound.iff _).mp (sound.lineDown n true) n
  by_cases timed : s.feed[n].lock = .locked ∨ s.feed[n].lock = .held
  · rw [State.takeLoss_timed timed]
    exact State.enterFlywheel_own down _
  · rw [State.takeLoss_untimed (Lock.untimed timed)]
    exact down

theorem State.lossTimerOut_feedSound {s : State} (sound : FeedSound s) (n : Svc) : FeedSound (s.lossTimerOut n) := by
  refine (s.lossTimerOut_others n).feedSound sound ?_
  unfold State.lossTimerOut
  split
  · exact State.enterFlywheel_own ((FeedSound.iff s).mp sound n) 2
  · exact sound n

/-- A change of one record that leaves it sound. -/
theorem State.modFeed_feedSound {s : State} (sound : FeedSound s) {n : Svc} {f : Feed → Feed}
    (own : (f s.feed[n]).Sound (s.svcCond n .feedLoss).live) : FeedSound (s.modFeed n f) := by
  have feed : (s.modFeed n f).feed[n] = f s.feed[n] := by simp
  refine (s.modFeed_others n f).feedSound sound ?_
  rw [feed]
  exact own

theorem State.flyAdvance_feedSound {s : State} (sound : FeedSound s) (n : Svc) : FeedSound (s.flyAdvance n) := by
  have feed : (s.flyAdvance n).feed[n] = _ := s.flyAdvance_feed_own n
  have kept : CondsKept (segmentConds ++ captionConds) s.panel (s.flyAdvance n).panel :=
    (s.flyAdvance_conds (List.subset_append_left ..) (List.subset_append_right ..) n).mpr (by simp)
  refine (s.flyAdvance_others n).feedSound sound ?_
  rw [feed, kept.svcCond n (by decide)]
  exact ((FeedSound.iff s).mp sound n).flown

theorem State.frameTimerDue_feedSound {s : State} (sound : FeedSound s) (n : Svc) : FeedSound (s.frameTimerDue n) := by
  unfold State.frameTimerDue
  split
  · next running =>
    obtain ⟨lossTimer, frameTimer, live, time⟩ := sound n
    exact State.flyAdvance_feedSound
      (State.modFeed_feedSound sound ⟨lossTimer, ⟨fun _ => frameTimer.mp running, fun _ => rfl⟩, live, time⟩) n
  · exact sound

theorem State.takeCaption_feedSound {s : State} (sound : FeedSound s) (n : Svc) (page : Byte) (lang : Lang)
    (kind : CaptionKind)
    (seq : Byte) : FeedSound (s.takeCaption n page lang kind seq) := by
  have sequenced : FeedSound (s.sequenced n seq) := State.modFeed_feedSound sound (sound n)
  unfold State.takeCaption
  split
  · exact sequenced.of_kept ⟨by simp [State.sequenced], by simp [State.sequenced, otherLives]⟩
  · exact State.modFeed_feedSound sound (sound n)

/-! Adoptions (R16, R180, R181) -/

/-- R16: FEED_LOSS is not live once FLYWHEEL has been left. -/
theorem State.leaveFlywheel_dead {s : State} (sound : FeedSound s) (n : Svc) :
    ((s.leaveFlywheel n).svcCond n .feedLoss).live = false := by
  by_cases fly : s.feed[n].lock = .flywheel
  · exact (State.leaveFlywheel_feedLoss fly).1
  · have same : s.leaveFlywheel n = s := if_neg fly
    rw [same, ((FeedSound.iff s).mp sound n).loss_eq]
    exact decide_eq_false fly

theorem State.disable_feedSound {s : State} (sound : FeedSound s) (n : Svc) : FeedSound (s.disable n) := by
  have seeking : FeedSound ((s.leaveFlywheel n).modFeed n fun f =>
      { f with lock := .seeking, lossTimer := none, frameTimer := none }) := by
    have feed : ((s.leaveFlywheel n).modFeed n fun f => { f with lock := .seeking, lossTimer := none, frameTimer := none }).feed[n] =
        { (s.leaveFlywheel n).feed[n] with lock := .seeking, lossTimer := none, frameTimer := none } := by simp
    have left : (s.leaveFlywheel n).feed[n] = _ := s.leaveFlywheel_feed_own n
    have time : (s.leaveFlywheel n).feed[n].time ≤ Config.timeMax := by
      rw [left]
      split <;> exact (sound n).2.2.2
    refine OthersSame.feedSound ((s.leaveFlywheel_others n).trans (State.modFeed_others _ n _)) sound ?_
    rw [feed]
    exact ⟨by simp, by simp, ⟨fun live => absurd (live.symm.trans (State.leaveFlywheel_dead sound n)) (by decide), nofun⟩, time⟩
  exact seeking.of_kept ⟨by simp [State.disable, State.loseStream], by simp [State.disable, otherLives]⟩

theorem State.handGroups_feedSound {s : State} (sound : FeedSound s) (n : Svc) (old : Sheet) :
    FeedSound (s.handGroups n old) := by
  have disabled : ∀ c : Prop, [Decidable c] → FeedSound (if c then s.disable n else s) := fun c _ => by
    split
    · exact State.disable_feedSound sound n
    · exact sound
  have mixed : ∀ (u : State) (c : Prop) [Decidable c], FeedSound u → FeedSound (if c then u.mixChange n else u) :=
    fun u c _ hu => by
    split
    · exact hu.of_kept ⟨by simp, by simp⟩
    · exact hu
  have rated : ∀ (u : State) (c : Prop) [Decidable c], FeedSound u →
      FeedSound (if c then u.modFeed n fun f => { f with mismatch := false } else u) := fun u c _ hu => by
    split
    · exact State.modFeed_feedSound hu (hu n)
    · exact hu
  have streamed : ∀ (u : State) (c : Prop) [Decidable c], FeedSound u → FeedSound (if c then u.loseStream n else u) :=
    fun u c _ hu => by split <;> exact hu
  have refreshed : ∀ u : State, FeedSound u → FeedSound (u.refreshRequirement n) := fun u hu =>
    hu.of_kept ⟨by simp, by simp [otherLives]⟩
  exact refreshed _ (streamed _ _ (rated _ _ (mixed _ _ (disabled _))))

theorem State.adoptSheet_feedSound {s : State} (sound : FeedSound s) (n : Svc) (rev : BitVec 32) (body : List Byte) :
    FeedSound (s.adoptSheet n rev body) := by
  have replaced : FeedSound (s.modSheet n fun u =>
      { u with adopted := (parseSheet rev body).withAlerting (s.sheetOf n), source := .host, lastTaken := some rev
               clamped := sheetClamps body }) := sound
  exact (State.handGroups_feedSound replaced n (s.sheetOf n)).of_kept ⟨by simp [State.adoptSheet], by simp [State.adoptSheet]⟩

theorem State.stage_feedSound {s : State} (sound : FeedSound s) (n : Svc) (r : SheetRead) :
    FeedSound (s.stage n r) := by
  have refused : ∀ c, FeedSound (s.refuseSheet n r.before c) := fun c =>
    sound.of_kept ⟨by simp, by simp⟩
  unfold State.stage
  split
  · exact sound
  split
  · exact sound
  split
  · exact refused _
  split
  · exact State.adoptSheet_feedSound sound n _ _
  · exact refused _

theorem State.sheetRead_feedSound {s : State} (sound : FeedSound s) (n : Svc) (r : SheetRead) :
    FeedSound (s.sheetRead n r) := by
  have done : FeedSound s.accessDone := sound
  unfold State.sheetRead State.onRead
  split
  · exact State.stage_feedSound done n r
  split
  · exact done
  · exact sound

theorem State.decideOne_feedSound {s : State} (sound : FeedSound s) (excess : Bool) (read : Option SheetRead)
    (n : Svc) :
    FeedSound (s.decideOne excess read n) := by
  have refused : ∀ rev c, FeedSound (s.refuseSheet n rev c) := fun rev c => sound.of_kept ⟨by simp, by simp⟩
  unfold State.decideOne
  split
  · exact sound
  split
  · exact refused _ _
  split
  · exact refused _ _
  · exact State.adoptSheet_feedSound sound n _ _

theorem State.decideSheets_feedSound {s : State} (sound : FeedSound s) (reads : Vector (Option SheetRead) 16) :
    FeedSound (s.decideSheets reads) :=
  foldl_keeps FeedSound _ (fun _ d h => State.decideOne_feedSound h _ d.2 d.1) _ s sound

theorem State.linkStep_feedSound {s : State} (sound : FeedSound s) (r : LinkReport) : FeedSound (s.linkStep r) := by
  unfold State.linkStep
  split
  · exact sound.of_kept ⟨by simp, by simp⟩
  · next reads after _ _ =>
    have done : FeedSound (s.sheetsDone after) := sound.of_kept ⟨by simp, by simp⟩
    exact State.decideSheets_feedSound done reads
  · exact sound.of_kept ⟨by simp, by simp [otherLives]⟩
  · exact sound.of_kept ⟨by simp, by simp⟩
  · exact sound.of_kept ⟨by simp, by simp⟩
  · exact sound

/-! Resets (R17, R174) -/

theorem BlocksAtReset.feedSound {s t : State} (h : BlocksAtReset s t) : FeedSound t := by
  obtain ⟨-, -, -, -, -, -, -, -, services, -⟩ := h
  intro n
  obtain ⟨feed, -, -, -, -, -, -, -, -, others⟩ := services n
  rw [feed, others .feedLoss (by decide) (by decide)]
  decide

theorem State.turnOn_atReset (s : State) : BlocksAtReset s s.turnOn :=
  (State.blocksReset_atReset (s := s.powering) rfl).of_same rfl rfl

theorem State.commandReset_atReset {s : State} (ready : s.store.commit = none) : BlocksAtReset s s.commandReset := by
  rw [State.commandReset_ready ready]
  exact (State.blocksReset_atReset (s := s.modCtl Ctl.deviceReset) rfl).of_same rfl rfl

theorem State.commandReset_feedSound {s : State} (sound : FeedSound s) : FeedSound s.commandReset := by
  cases commit : s.store.commit with
  | none => exact (State.commandReset_atReset commit).feedSound
  | some c =>
    rw [State.commandReset_committing (by rw [commit]; rfl)]
    exact sound

/-! Every command -/

theorem effectOf_feedSound (c : Instr) {s : State} (sound : FeedSound s) : FeedSound (effectOf c s) := by
  by_cases touches : Part.feed ∈ commandParts c
  · cases c with
    | frame n stamp rate => exact State.takeFrame_feedSound sound n stamp rate
    | caption n page lang kind seq => exact State.takeCaption_feedSound sound n page lang kind seq
    | loss n late => exact State.takeLoss_feedSound sound n late
    | restore n => exact sound.lineDown n false
    | discardedMessage n => exact State.modFeed_feedSound sound (sound n)
    | lossTimerExpiry n => exact State.lossTimerOut_feedSound sound n
    | flywheelAdvance n => exact State.frameTimerDue_feedSound sound n
    | sheetStaging n read => exact State.sheetRead_feedSound sound n read
    | linkStepComplete report => exact State.linkStep_feedSound sound report
    | deviceReset => exact State.commandReset_feedSound sound
    | powerOn => exact s.turnOn_atReset.feedSound
    | _ => simp [commandParts, segmentParts, moverParts] at touches
  · exact sound.of_kept ⟨effectOf_touches c s .feed touches, effectOf_lossKept c s touches⟩

/-- A step is the idle step, or its command's answer. -/
theorem step_next {s t : State} (h : step s = .next t) :
    t = s.idle ∨ ∃ c rest, t = { s with pending := rest } ∨ t = effectOf c { s with pending := rest } := by
  unfold step at h
  split at h
  · exact .inl (Host.Outcome.next.inj h).symm
  · next c rest _ => exact .inr ⟨c, rest, exec_next h⟩

theorem State.idle_feed (s : State) : s.idle.feed = s.feed := by
  unfold State.idle
  split
  · simp
  · rfl

theorem step_feedSound {s t : State} (sound : FeedSound s) (h : step s = .next t) : FeedSound t := by
  obtain rfl | ⟨c, rest, rfl | rfl⟩ := step_next h
  · exact sound.of_kept ⟨s.idle_feed, by simp⟩
  · exact sound
  · exact effectOf_feedSound c (s := { s with pending := rest }) sound

end Sys2Proof.Machine

namespace Sys2Proof.Machine

/-! ### Caption states, counters and conditions (R62 to R66, R69) -/

/-- R62 to R64: the counters of a caption record stand as its state wants them. -/
def Caption.Fields (c : Caption) : Prop :=
  (c.state = .lost → c.liveness = 0 ∧ c.content = 0 ∧ c.lastSeq = none) ∧ (c.content ≠ 0 → c.state = .live)

theorem CaptionSound.iff (s : State) : CaptionSound s ↔ ∀ n : Svc, s.caption[n].Fields ∧ CaptionLives n s :=
  forall_congr' fun _ => ⟨fun ⟨lost, content, loss, idle⟩ => ⟨⟨lost, content⟩, loss, idle⟩,
    fun ⟨⟨lost, content⟩, loss, idle⟩ => ⟨lost, content, loss, idle⟩⟩

/-- All but the conditions of service n, which are to be judged next. -/
def CaptionSoundBut (n : Svc) (s : State) : Prop := ∀ m : Svc, s.caption[m].Fields ∧ (m ≠ n → CaptionLives m s)

theorem CaptionSound.but {s : State} (h : CaptionSound s) (n : Svc) : CaptionSoundBut n s := fun m =>
  ⟨((CaptionSound.iff s).mp h m).1, fun _ => ((CaptionSound.iff s).mp h m).2⟩

/-- From s to t the captions of every service and their conditions stand as they were. -/
structure CaptionsKept (s t : State) : Prop where
  caption : t.caption = s.caption
  lives : LivesKept noCaptionLives s.panel t.panel

section
variable {s t : State} {n : Svc}

theorem CaptionsKept.lives_iff (h : CaptionsKept s t) (m : Svc) : CaptionLives m t ↔ CaptionLives m s := by
  unfold CaptionLives
  rw [h.caption, h.lives.svcCond m (by decide), h.lives.svcCond m (by decide)]

theorem CaptionSound.of_kept (sound : CaptionSound s) (kept : CaptionsKept s t) : CaptionSound t := by
  rw [CaptionSound.iff] at sound ⊢
  intro m
  rw [kept.lives_iff, kept.caption]
  exact sound m

theorem CaptionSoundBut.of_kept (sound : CaptionSoundBut n s) (kept : CaptionsKept s t) : CaptionSoundBut n t := by
  intro m
  rw [kept.lives_iff, kept.caption]
  exact sound m

theorem CaptionSoundBut.modCaption (sound : CaptionSoundBut n s) {f : Caption → Caption}
    (fields : (f s.caption[n]).Fields) :
    CaptionSoundBut n (s.modCaption n f) := by
  intro m
  by_cases own : m = n
  · subst own
    have caption : (s.modCaption m f).caption[m] = f s.caption[m] := by simp
    rw [caption]
    exact ⟨fields, fun other => absurd rfl other⟩
  · have caption : (s.modCaption n f).caption[m] = s.caption[m] := by simp [own]
    unfold CaptionLives
    rw [caption]
    exact sound m

theorem CaptionSoundBut.judge (sound : CaptionSoundBut n s) : CaptionSound (s.judgeCaptions n) := by
  have captions : (s.judgeCaptions n).caption = s.caption := by simp
  rw [CaptionSound.iff]
  intro m
  rw [captions]
  refine ⟨(sound m).1, ?_⟩
  by_cases own : m = n
  · subst own
    exact (s.judgeCaptions_follow m).lives
  · have others := s.judgeCaptions_others n
    have lives := (sound m).2 own
    unfold CaptionLives at lives ⊢
    rw [others.svcCond own, others.svcCond own, captions]
    exact lives

/-- R68, R69: taking the requirement in force afresh judges the conditions. -/
theorem CaptionSoundBut.refresh (sound : CaptionSoundBut n s) : CaptionSound (s.refreshRequirement n) :=
  CaptionSoundBut.judge (sound.modCaption (sound n).1)

theorem CaptionSound.refresh (sound : CaptionSound s) (n : Svc) : CaptionSound (s.refreshRequirement n) :=
  (sound.but n).refresh

/-! R62, R65: the judgement of a received frame. -/

theorem Caption.Fields.judge {c : Caption} (h : c.Fields) : c.judge.Fields := by
  obtain ⟨lost, content⟩ := h
  by_cases expired : c.liveness = 1
  · have waits : c.state ≠ .lost := fun state => by
      rw [(lost state).1] at expired
      exact absurd expired (by decide)
    obtain ⟨state, cleared⟩ := Caption.judge_expired expired
    obtain ⟨none, seq⟩ := cleared waits
    refine ⟨fun _ => ⟨?_, none, seq⟩, fun some => absurd none some⟩
    rw [c.judge_fields.1, expired]
  · obtain ⟨counter, seq, state⟩ := Caption.judge_running expired
    unfold Caption.Fields
    rw [c.judge_fields.1, counter, seq, state]
    split
    · next ends => exact ⟨nofun, fun left => absurd (by rw [ends.1]) left⟩
    · next runs =>
      refine ⟨fun stays => ?_, fun left => content (by omega)⟩
      obtain ⟨noLiveness, noContent, noSeq⟩ := lost stays
      rw [noLiveness, noContent]
      exact ⟨rfl, rfl, noSeq⟩

theorem Caption.Fields.accept {c : Caption} (h : c.Fields) (sh : Sheet) (kind : CaptionKind) (seq : Byte) :
    (c.accept sh kind seq).Fields := by
  refine ⟨fun lost => absurd lost (c.accept_not_lost sh kind seq), fun runs => ?_⟩
  cases kind with
  | text | clear => rfl
  | idle =>
    have live := h.2 runs
    rw [Caption.accept_state, live]
    rfl

theorem State.judgeFrame_captionSound (sound : CaptionSound s) (n : Svc) : CaptionSound (s.judgeFrame n) :=
  (((sound.but n).modCaption ((CaptionSound.iff s).mp sound n).1.judge).judge).of_kept
    ⟨by simp [State.judgeFrame], by simp [State.judgeFrame]⟩

/-- A change of one caption record's counts. -/
theorem CaptionSound.count (sound : CaptionSound s) {f : Caption → Caption} (fields : (f s.caption[n]).Fields)
    (state : (f s.caption[n]).state = s.caption[n].state) (required : (f s.caption[n]).required = s.caption[n].required) :
    CaptionSound (s.modCaption n f) := by
  have changed := (sound.but n).modCaption fields
  have caption : (s.modCaption n f).caption[n] = f s.caption[n] := by simp
  rw [CaptionSound.iff]
  intro m
  by_cases own : m = n
  · subst own
    refine ⟨(changed m).1, ?_⟩
    unfold CaptionLives
    rw [caption, state, required]
    exact sound.lives m
  · exact ⟨(changed m).1, (changed m).2 own⟩

theorem State.countMismatch_captionSound (sound : CaptionSound s) (n : Svc) : CaptionSound (s.countMismatch n) :=
  (CaptionSound.count sound (f := fun c => { c with mismatches := c.mismatches + 1 }) ((CaptionSound.iff s).mp sound n).1 rfl
    rfl).of_kept ⟨by simp [State.countMismatch], by simp⟩

theorem State.discontinuityCounted_captionSound (sound : CaptionSound s) (n : Svc) (seq : Byte) :
    CaptionSound (s.discontinuityCounted n seq) := by
  unfold State.discontinuityCounted
  split
  · exact (CaptionSound.count sound (f := fun c => { c with discontinuities := c.discontinuities + 1 })
      ((CaptionSound.iff s).mp sound n).1 rfl rfl).of_kept ⟨by simp [State.countDiscontinuity], by simp⟩
  · exact sound

theorem State.sortPacket_captionSound (sound : CaptionSound s) (n : Svc) (page : Byte) (lang : Lang)
    (kind : CaptionKind)
    (seq : Byte) : CaptionSound (s.sortPacket n page lang kind seq) := by
  have counted := State.discontinuityCounted_captionSound sound n seq
  by_cases ignored : (s.sheetOf n).enable = false ∨ page.toNat ≠ (s.sheetOf n).page
  · rw [State.sortPacket_ignored ignored]
    exact sound
  obtain ⟨enabled, hpage⟩ := not_or.mp ignored
  have on := Bool.eq_true_of_not_eq_false enabled
  by_cases hlang : lang = (s.sheetOf n).lang
  · rw [State.sortPacket_accepted on (not_not.mp hpage) hlang]
    exact ((counted.but n).modCaption (((CaptionSound.iff _).mp counted n).1.accept _ kind seq)).judge
  · rw [State.sortPacket_mismatched on (not_not.mp hpage) hlang]
    exact State.countMismatch_captionSound sound n

/-! R68, R87, R91: what time fires. -/

theorem State.advanceTo_captionSound (sound : CaptionSound s) (n : Svc) (c : FireCause) (t : Nat) :
    CaptionSound (s.advanceTo n c t) :=
  CaptionSound.refresh (sound.of_kept ⟨by simp, by simp [noCaptionLives]⟩) n

theorem State.seedTime_captionSound (sound : CaptionSound s) (n : Svc) (t : Nat) : CaptionSound (s.seedTime n t) :=
  CaptionSound.refresh (sound.of_kept ⟨by simp, by simp [noCaptionLives]⟩) n

theorem State.flyAdvance_captionSound (sound : CaptionSound s) (n : Svc) : CaptionSound (s.flyAdvance n) := by
  have counted : ∀ u : State, CaptionSound u → CaptionSound ((u.flagOpen n .ofFlywheel).modTallies n Tally.advanced) :=
    fun u hu => hu.of_kept ⟨by simp, by simp⟩
  unfold State.flyAdvance
  split
  · exact counted _ (State.advanceTo_captionSound (s := s.modFeed n _) sound n _ _)
  · exact sound

theorem State.enterFlywheel_captionSound (sound : CaptionSound s) (n : Svc) (due : Nat) :
    CaptionSound (s.enterFlywheel n due) := by
  have entered : CaptionSound (s.flywheelEntered n) :=
    sound.of_kept ⟨by simp [State.flywheelEntered], by simp [State.flywheelEntered, noCaptionLives]⟩
  exact foldl_keeps CaptionSound _ (fun u _ h => State.flyAdvance_captionSound h n) _ _ entered

theorem State.judgeStamp_captionSound (sound : CaptionSound s) (n : Svc) (t : Nat) :
    CaptionSound (s.judgeStamp n t) := by
  have raised : ∀ u : State, CaptionSound u → CaptionSound (u.raiseTimeFault n) :=
    fun u hu => hu.of_kept ⟨by simp, by simp⟩
  unfold State.judgeStamp State.jumpTo
  dsimp only
  split
  · exact State.advanceTo_captionSound (s := s.modFeed n _) sound n _ t
  split
  · exact State.advanceTo_captionSound (raised (s.modFeed n _) sound) n _ t
  split
  · exact sound
  · exact raised (s.modFeed n _) sound

theorem State.applyStamp_captionSound (sound : CaptionSound s) (n : Svc) (t : Nat) :
    CaptionSound (s.applyStamp n t) := by
  have reloaded : ∀ u : State, CaptionSound u → CaptionSound (u.reloadLoss n) := fun u hu => hu
  have left : CaptionSound (s.leaveFlywheel n) := sound.of_kept ⟨by simp, by simp [noCaptionLives]⟩
  unfold State.applyStamp
  split
  · split
    · exact reloaded _ (State.seedTime_captionSound sound n t)
    · exact sound
  · exact reloaded _ (State.judgeStamp_captionSound sound n t)
  · exact reloaded _ (State.judgeStamp_captionSound sound n t)
  · exact reloaded _ (State.judgeStamp_captionSound left n t)

theorem State.takeFrame_captionSound (sound : CaptionSound s) (n : Svc) (t : Nat) (code : BitVec 16) :
    CaptionSound (s.takeFrame n t code) := by
  have stamped := State.applyStamp_captionSound (s := s.lineUp n) sound n t
  have judged : CaptionSound (((s.lineUp n).applyStamp n t).judgeRate n code) := stamped.of_kept ⟨by simp, by simp⟩
  exact State.judgeFrame_captionSound (s := State.modFeed _ n _) judged n

theorem State.takeLoss_captionSound (sound : CaptionSound s) (n : Svc) (late : Bool) :
    CaptionSound (s.takeLoss n late) := by
  by_cases timed : s.feed[n].lock = .locked ∨ s.feed[n].lock = .held
  · rw [State.takeLoss_timed timed]
    exact State.enterFlywheel_captionSound (s := s.modFeed n _) sound n _
  · rw [State.takeLoss_untimed (Lock.untimed timed)]
    exact sound

theorem State.lossTimerOut_captionSound (sound : CaptionSound s) (n : Svc) : CaptionSound (s.lossTimerOut n) := by
  unfold State.lossTimerOut
  split
  · exact State.enterFlywheel_captionSound sound n 2
  · exact sound

theorem State.frameTimerDue_captionSound (sound : CaptionSound s) (n : Svc) : CaptionSound (s.frameTimerDue n) := by
  unfold State.frameTimerDue
  split
  · exact State.flyAdvance_captionSound (s := s.modFeed n _) sound n
  · exact sound

theorem State.takeCaption_captionSound (sound : CaptionSound s) (n : Svc) (page : Byte) (lang : Lang)
    (kind : CaptionKind)
    (seq : Byte) : CaptionSound (s.takeCaption n page lang kind seq) := by
  unfold State.takeCaption
  split
  · exact State.sortPacket_captionSound (s := s.sequenced n seq) sound n page lang kind seq
  · exact sound

theorem State.takeCue_captionSound (sound : CaptionSound s) (n : Svc) (id : BitVec 16) (kind : CueKind) :
    CaptionSound (s.takeCue n id kind) := by
  unfold State.takeCue
  dsimp only
  generalize (if (s.sheetOf n).enable then s.cueSlots n id kind else []) = ks
  split
  · exact sound
  · exact CaptionSound.refresh (sound.of_kept ⟨by simp, by simp [noCaptionLives]⟩) n

theorem State.takeCountLimit_captionSound (sound : CaptionSound s) (n : Svc) (k : Slot) :
    CaptionSound (s.takeCountLimit n k) := by
  unfold State.takeCountLimit
  split
  · exact CaptionSound.refresh (sound.of_kept ⟨by simp, by simp [noCaptionLives]⟩) n
  · exact sound

end

end Sys2Proof.Machine

namespace Sys2Proof.Machine

section
variable {s : State} {n : Svc}

/-! Dockets (R79 to R84, R101, R102) -/

theorem CaptionSoundBut.closeOpen (sound : CaptionSoundBut n s) (f : VerdictFlags) : CaptionSound (s.closeOpen n f) :=
  CaptionSoundBut.refresh (sound.of_kept ⟨by simp, by simp [noCaptionLives]⟩)

theorem State.closeOpen_captionSound (sound : CaptionSound s) (n : Svc) (f : VerdictFlags) :
    CaptionSound (s.closeOpen n f) :=
  (sound.but n).closeOpen f

theorem State.emptyDockets_captionSound (sound : CaptionSound s) (n : Svc) : CaptionSound (s.emptyDockets n) :=
  CaptionSound.refresh (s := s.modSched n _) sound n

theorem State.validCommand_captionSound (sound : CaptionSound s) (n : Svc) (k : Slot) (cmd : Nat) :
    CaptionSound (s.validCommand n k cmd) := by
  unfold State.validCommand
  dsimp only
  split
  · split
    · exact sound.of_kept ⟨by simp, by simp⟩
    split
    · exact CaptionSound.refresh (sound.of_kept ⟨by simp, by simp [noCaptionLives]⟩) n
    · exact sound
  split
  · split
    · exact sound.of_kept ⟨by simp, by simp⟩
    · exact sound
  · exact sound

theorem State.onRead_captionSound (sound : CaptionSound s) {effect : State → State}
    (acts : ∀ u, CaptionSound u → CaptionSound (effect u)) : CaptionSound (s.onRead effect) := by
  unfold State.onRead
  split
  · exact acts s.accessDone sound
  split
  · exact sound
  · exact sound

theorem State.readCommandWord_captionSound (sound : CaptionSound s) (n : Svc) (k : Slot) (w : BitVec 32) :
    CaptionSound (s.readCommandWord n k w) := by
  refine State.onRead_captionSound sound fun u hu => ?_
  have read : CaptionSound (if (u.entry n k).wordFault (u.entry n k).lastWord w then
      (u.modEntry n k (Entry.readWord w)).raise n .docketFault else u.modEntry n k (Entry.readWord w)) := by
    split
    · exact hu.of_kept ⟨by simp, by simp⟩
    · exact hu
  dsimp only
  split
  · exact State.validCommand_captionSound read n k _
  · exact read

theorem State.firePassed_captionSound (sound : CaptionSound s) (n : Svc) (k : Slot) :
    CaptionSound (s.firePassed n k) := by
  unfold State.firePassed
  split
  · exact sound
  · exact CaptionSound.refresh (sound.of_kept ⟨by simp, by simp [noCaptionLives]⟩) n

theorem State.settlePosting_captionSound (sound : CaptionSound s) (n : Svc) (k : Slot) (p : BitVec 16)
    (r : RefusalCause ⊕ Body) :
    CaptionSound (s.settlePosting n k p r) := by
  cases r with
  | inl c =>
    have refused : CaptionSound (((s.modEntry n k (Entry.refuse p)).pushWrite n k (.cause c)).writeStanding n k) :=
      sound.of_kept ⟨by simp, by simp⟩
    exact refused
  | inr b =>
    have accepted : CaptionSound ((s.modEntry n k (Entry.accept p b)).writeStanding n k) :=
      sound.of_kept ⟨by simp, by simp⟩
    exact State.firePassed_captionSound accepted n k

theorem State.validatePosting_captionSound (sound : CaptionSound s) (n : Svc) (k : Slot) (bytes : List Byte) :
    CaptionSound (s.validatePosting n k bytes) := by
  unfold State.validatePosting
  split
  · exact sound
  split
  · exact State.settlePosting_captionSound (s := s.accessDone) sound n k _ _
  split
  · exact sound
  · exact sound

/-! Adoptions (R74, R180, R181) -/

theorem State.loseStream_captionSoundBut (sound : CaptionSoundBut n s) : CaptionSoundBut n (s.loseStream n) :=
  sound.modCaption ⟨fun _ => ⟨rfl, rfl, rfl⟩, fun left => absurd rfl left⟩

theorem State.disable_captionSound (sound : CaptionSound s) (n : Svc) : CaptionSound (s.disable n) := by
  have left : CaptionSound (s.leaveFlywheel n) := sound.of_kept ⟨by simp, by simp [noCaptionLives]⟩
  exact (State.loseStream_captionSoundBut (s := (s.leaveFlywheel n).modFeed n _) (left.but n)).closeOpen .ofEarlyClose

theorem State.handGroups_captionSound (sound : CaptionSound s) (n : Svc) (old : Sheet) :
    CaptionSound (s.handGroups n old) := by
  have disabled : ∀ c : Prop, [Decidable c] → CaptionSound (if c then s.disable n else s) := fun c _ => by
    split
    · exact State.disable_captionSound sound n
    · exact sound
  have mixed : ∀ (u : State) (c : Prop) [Decidable c], CaptionSound u → CaptionSound (if c then u.mixChange n else u) :=
    fun u c _ hu => by
      split
      · exact hu.of_kept ⟨by simp, by simp⟩
      · exact hu
  have rated : ∀ (u : State) (c : Prop) [Decidable c], CaptionSound u →
      CaptionSound (if c then u.modFeed n fun f => { f with mismatch := false } else u) := fun u c _ hu => by
    split <;> exact hu
  have streamed : ∀ (u : State) (c : Prop) [Decidable c], CaptionSound u → CaptionSoundBut n (if c then u.loseStream n else u) :=
    fun u c _ hu => by
      split
      · exact State.loseStream_captionSoundBut (hu.but n)
      · exact hu.but n
  exact (streamed _ _ (rated _ _ (mixed _ _ (disabled _)))).refresh

theorem State.adoptSheet_captionSound (sound : CaptionSound s) (n : Svc) (rev : BitVec 32) (body : List Byte) :
    CaptionSound (s.adoptSheet n rev body) := by
  have replaced : CaptionSound (s.modSheet n fun u =>
      { u with adopted := (parseSheet rev body).withAlerting (s.sheetOf n), source := .host, lastTaken := some rev
               clamped := sheetClamps body }) := sound
  exact (State.handGroups_captionSound replaced n (s.sheetOf n)).of_kept ⟨by simp [State.adoptSheet], by simp [State.adoptSheet]⟩

theorem State.refuseSheet_captionSound (sound : CaptionSound s) (n : Svc) (rev : BitVec 32) (c : SheetCause) :
    CaptionSound (s.refuseSheet n rev c) := sound.of_kept ⟨by simp, by simp⟩

theorem State.stage_captionSound (sound : CaptionSound s) (n : Svc) (r : SheetRead) : CaptionSound (s.stage n r) := by
  unfold State.stage
  split
  · exact sound
  split
  · exact sound
  split
  · exact State.refuseSheet_captionSound sound n _ _
  split
  · exact State.adoptSheet_captionSound sound n _ _
  · exact State.refuseSheet_captionSound sound n _ _

theorem State.decideOne_captionSound (sound : CaptionSound s) (excess : Bool) (read : Option SheetRead) (n : Svc) :
    CaptionSound (s.decideOne excess read n) := by
  unfold State.decideOne
  split
  · exact sound
  split
  · exact State.refuseSheet_captionSound sound n _ _
  split
  · exact State.refuseSheet_captionSound sound n _ _
  · exact State.adoptSheet_captionSound sound n _ _

/-! The link (R195, R197, R199) -/

theorem State.decideSheets_captionSound (sound : CaptionSound s) (reads : Vector (Option SheetRead) 16) :
    CaptionSound (s.decideSheets reads) :=
  foldl_keeps CaptionSound _ (fun _ d h => State.decideOne_captionSound h _ d.2 d.1) _ s sound

theorem State.nextStep_captionSound (sound : CaptionSound s) (step : LinkStep) : CaptionSound (s.nextStep step) := sound

theorem State.emptyAll_captionSound (sound : CaptionSound s) :
    CaptionSound (allServices.foldl (fun s n => s.emptyDockets n) s) :=
  foldl_keeps CaptionSound _ (fun _ m h => State.emptyDockets_captionSound h m) allServices s sound

theorem State.linkStep_captionSound (sound : CaptionSound s) (r : LinkReport) : CaptionSound (s.linkStep r) := by
  unfold State.linkStep
  split
  · exact sound.of_kept ⟨by simp, by simp⟩
  · next reads after _ _ =>
    have done : CaptionSound (s.sheetsDone after) := sound.of_kept ⟨by simp, by simp⟩
    exact State.nextStep_captionSound (State.decideSheets_captionSound done reads) .standings
  · have finished : CaptionSound s.finishStep := sound.of_kept ⟨by simp, by simp⟩
    exact State.nextStep_captionSound (State.emptyAll_captionSound finished) .descriptors
  · exact sound.of_kept ⟨by simp, by simp⟩
  · exact sound.of_kept ⟨by simp, by simp⟩
  · exact sound

theorem State.schedUnlink_captionSound (sound : CaptionSound s) (n : Svc) : CaptionSound (s.schedUnlink n) := by
  have waiting : ∀ u : State, CaptionSound u →
      CaptionSound ((u.forgetWaiting n).modEntriesWhere n (fun e => !e.handed) Entry.rehandOnce) := fun u hu =>
    hu.of_kept ⟨by simp, by simp⟩
  exact waiting _ (State.closeOpen_captionSound sound n .ofUnlinkClose)

theorem State.beginUnlink_captionSound (sound : CaptionSound s) : CaptionSound s.beginUnlink := by
  have stopped : CaptionSound (s.handAlert.modCtl fun c => { c with link := .unlinking }).stopReminders.stopWrites.dropAlert :=
    sound.of_kept ⟨by simp, by simp⟩
  have closed :=
    foldl_keeps CaptionSound (fun s n => s.schedUnlink n) (fun u m hu => State.schedUnlink_captionSound hu m)
    allServices _ stopped
  have moved : ∀ u : State, CaptionSound u → CaptionSound u.moverUnlink := fun u hu => hu.of_kept ⟨by simp, by simp⟩
  unfold State.beginUnlink
  dsimp only
  exact moved _ closed

theorem State.commandUnlink_captionSound (sound : CaptionSound s) : CaptionSound s.commandUnlink := by
  unfold State.commandUnlink
  dsimp only
  split
  · exact State.beginUnlink_captionSound (s := s.setReadback codeUnlink s.unlinkResult) sound
  · exact sound

theorem State.completeUnlink_captionSound (sound : CaptionSound s) : CaptionSound s.completeUnlink := by
  have settled : CaptionSound s.settle := sound.of_kept ⟨by simp, by simp⟩
  have unlinked : ∀ u : State, CaptionSound u → CaptionSound (u.modCtl fun c => { c with link := .unlinked }) :=
    fun _ hu => hu
  unfold State.completeUnlink
  split
  · exact unlinked _ (State.emptyAll_captionSound settled)
  · exact sound

theorem State.schedFault_captionSound (sound : CaptionSound s) (n : Svc) : CaptionSound (s.schedFault n) :=
  State.emptyDockets_captionSound (State.closeOpen_captionSound sound n .ofUnlinkClose) n

theorem State.faultUnlink_captionSound (sound : CaptionSound s) : CaptionSound s.faultUnlink := by
  have closed := foldl_keeps CaptionSound (fun s n => s.schedFault n) (fun u m hu => State.schedFault_captionSound hu m)
    allServices (s.modCtl fun c => { c with link := .unlinked, faultMark := true }) sound
  have stopped : ∀ u : State, CaptionSound u → CaptionSound u.moverFault.stopReminders.dropOwed.dropAlert := fun u hu =>
    hu.of_kept ⟨by simp, by simp⟩
  have emptied : ∀ u : State, CaptionSound u →
      CaptionSound (allServices.foldl (fun s n => s.modLive n fun l => { l with queue := [] }) u) := fun u hu =>
    foldl_keeps CaptionSound (fun s n => s.modLive n fun l => { l with queue := [] }) (fun _ _ h => h) allServices u hu
  have cleared : ∀ u : State, CaptionSound u → CaptionSound (u.modHeader fun _ => []) := fun _ hu => hu
  unfold State.faultUnlink
  dsimp only
  exact cleared _ (emptied _ (stopped _ closed))

theorem State.failAccess_captionSound (sound : CaptionSound s) (a : AccessRef) (d : Completions) :
    CaptionSound (s.failAccess a d) := by
  have completed : CaptionSound (s.completed d) := sound.of_kept ⟨by simp, by simp⟩
  have counted : ∀ u : State, CaptionSound u → CaptionSound u.countFailure := fun _ hu => hu
  have failed : ∀ u : State, CaptionSound u → CaptionSound (u.failOwner a) := fun u hu =>
    hu.of_kept ⟨by simp, by simp [noCaptionLives]⟩
  unfold State.failAccess State.failFlying
  dsimp only
  split
  · split
    · exact State.faultUnlink_captionSound (counted _ completed)
    · exact failed _ (counted _ completed)
  · exact sound

end

end Sys2Proof.Machine

namespace Sys2Proof.Machine

/-! ### Every step keeps the signals (O54) -/

theorem CaptionSound.of_atReset {s t : State} (h : BlocksAtReset s t) : CaptionSound t := by
  obtain ⟨-, -, -, -, -, -, -, -, services, -⟩ := h
  intro n
  obtain ⟨-, -, caption, -, -, -, -, loss, -, others⟩ := services n
  have dead := others .captionIdle (by decide) (by decide)
  rw [loss, dead, caption]
  cases required : (t.sheetOf n).enable && (t.sheetOf n).unscheduled <;>
    simp [Caption.reset, required, CondEntry.reset, CondEntry.raisedAtReset]

theorem State.commandReset_captionSound {s : State} (sound : CaptionSound s) : CaptionSound s.commandReset := by
  cases commit : s.store.commit with
  | none => exact .of_atReset (State.commandReset_atReset commit)
  | some c =>
    rw [State.commandReset_committing (by rw [commit]; rfl)]
    exact sound

theorem State.livenessOut_captionSound {s : State} (sound : CaptionSound s) (n : Svc) :
    CaptionSound (s.livenessOut n) := by
  unfold State.livenessOut
  split
  · exact State.judgeFrame_captionSound sound n
  · exact sound

theorem State.contentOut_captionSound {s : State} (sound : CaptionSound s) (n : Svc) :
    CaptionSound (s.contentOut n) := by
  unfold State.contentOut
  split
  · exact State.judgeFrame_captionSound sound n
  · exact sound

theorem effectOf_captionSound (c : Instr) {s : State} (sound : CaptionSound s) : CaptionSound (effectOf c s) := by
  by_cases touches : Part.caption ∈ commandParts c
  · cases c with
    | frame n stamp rate => exact State.takeFrame_captionSound sound n stamp.toNat rate
    | caption n page lang kind seq => exact State.takeCaption_captionSound sound n page lang kind seq
    | cue n id kind => exact State.takeCue_captionSound sound n id kind
    | loss n late => exact State.takeLoss_captionSound sound n late
    | lossTimerExpiry n => exact State.lossTimerOut_captionSound sound n
    | flywheelAdvance n => exact State.frameTimerDue_captionSound sound n
    | countLimit n k => exact State.takeCountLimit_captionSound sound n k
    | livenessExpiry n => exact State.livenessOut_captionSound sound n
    | contentExpiry n => exact State.contentOut_captionSound sound n
    | commandWordRead n k word => exact State.readCommandWord_captionSound sound n k word
    | postingValidation n k body => exact State.validatePosting_captionSound sound n k body
    | sheetStaging n read => exact State.onRead_captionSound sound fun _ hu => State.stage_captionSound hu n read
    | linkStepComplete report => exact State.linkStep_captionSound sound report
    | unlink => exact State.commandUnlink_captionSound sound
    | unlinkComplete => exact State.completeUnlink_captionSound sound
    | accessFailure a => exact State.failAccess_captionSound sound a.access a.done
    | accessTimeout a => exact State.failAccess_captionSound sound a.access a.done
    | deviceReset => exact State.commandReset_captionSound sound
    | powerOn => exact .of_atReset s.turnOn_atReset
    | _ => simp [commandParts, moverParts] at touches
  · exact sound.of_kept ⟨effectOf_touches c s .caption touches, effectOf_captionsKept c s touches⟩

theorem State.idle_caption (s : State) : s.idle.caption = s.caption := by
  unfold State.idle
  split
  · simp
  · rfl

theorem step_captionSound {s t : State} (sound : CaptionSound s) (h : step s = .next t) : CaptionSound t := by
  obtain rfl | ⟨c, rest, rfl | rfl⟩ := step_next h
  · exact sound.of_kept ⟨s.idle_caption, by simp⟩
  · exact sound
  · exact effectOf_captionSound c (s := { s with pending := rest }) sound

/-- Settles O54: the events of a lane, an adoption and a reset leave both relations standing; every other command leaves
the parts that they are about as they were. -/
theorem keepsSignalsSound : Obligations.KeepsSignalsSound :=
  ⟨fun _ _ => step_feedSound, fun _ _ => step_captionSound⟩

end Sys2Proof.Machine

namespace Sys2Proof.Machine

/-! ### The boundaries of a body and their order (R87, R88) -/

/-- R87: where the boundaries of a body stand. -/
theorem Body.mem_boundaries (b : Body) (k : Slot) (x : Boundary) :
    x ∈ b.boundaries k ↔
      x.slot = k ∧
      (x.kind = .start ∧ b.start = .atStamp x.stamp ∨ x.kind = .arm ∧ (∃ id last, b.start = .onCue id x.stamp last) ∨
        x.kind = .latest ∧ (∃ id first, b.start = .onCue id first x.stamp) ∨
        x.kind = .stop ∧ b.finish = .atStamp x.stamp ∨
        x.kind = .cap ∧ ((∃ id, b.finish = .onCue id x.stamp) ∨ b.finish = .onNext x.stamp)) := by
  obtain ⟨stamp, kind, slot⟩ := x
  unfold Body.boundaries
  rw [List.mem_append]
  cases b.start <;> cases b.finish <;> cases kind <;> simp [and_comm, eq_comm]

theorem Boundary.before_iff (x y : Boundary) : x.before y = true ↔ x.precedes y := by
  simp [Boundary.before, Boundary.precedes]

theorem Boundary.precedes_irrefl (x : Boundary) : ¬ x.precedes x := by
  simp [Boundary.precedes]

theorem Boundary.precedes_trans {x y z : Boundary} (h : x.precedes y) (g : y.precedes z) : x.precedes z := by
  unfold Boundary.precedes at *
  simp only [Fin.lt_def] at *
  omega

theorem Boundary.precedes_asymm {x y : Boundary} (h : x.precedes y) : ¬ y.precedes x :=
  fun g => x.precedes_irrefl (Boundary.precedes_trans h g)

/-- R88: two boundaries between which the order decides. -/
def Boundary.apart (x y : Boundary) : Prop := x.precedes y ∨ y.precedes x

theorem mem_insertBoundary (x y : Boundary) (bs : List Boundary) : x ∈ insertBoundary y bs ↔ x = y ∨ x ∈ bs := by
  induction bs with
  | nil => simp [insertBoundary]
  | cons b bs ih =>
    unfold insertBoundary
    split <;> simp [ih]
    tauto

theorem mem_sortBoundaries (x : Boundary) (bs : List Boundary) : x ∈ sortBoundaries bs ↔ x ∈ bs := by
  induction bs with
  | nil => simp [sortBoundaries]
  | cons b bs ih => simp [sortBoundaries, mem_insertBoundary, ih]

theorem insertBoundary_pairwise {y : Boundary} {bs : List Boundary} (sorted : bs.Pairwise Boundary.precedes)
    (apart : ∀ x ∈ bs, y.apart x) : (insertBoundary y bs).Pairwise Boundary.precedes := by
  induction bs with
  | nil => simp [insertBoundary]
  | cons b bs ih =>
    obtain ⟨first, rest⟩ := List.pairwise_cons.mp sorted
    unfold insertBoundary
    split
    · next earlier =>
      refine List.pairwise_cons.mpr ⟨fun x hx => ?_, ih rest fun x hx => apart x (List.mem_cons_of_mem b hx)⟩
      rcases (mem_insertBoundary x y bs).mp hx with rfl | hx
      · exact (Boundary.before_iff _ _).mp earlier
      · exact first x hx
    · next later =>
      have before : y.precedes b :=
        (apart b List.mem_cons_self).resolve_right fun h => later ((Boundary.before_iff _ _).mpr h)
      refine List.pairwise_cons.mpr ⟨fun x hx => ?_, sorted⟩
      rcases List.mem_cons.mp hx with rfl | hx
      · exact before
      · exact Boundary.precedes_trans before (first x hx)

theorem sortBoundaries_pairwise {bs : List Boundary} (apart : bs.Pairwise Boundary.apart) :
    (sortBoundaries bs).Pairwise Boundary.precedes := by
  induction bs with
  | nil => exact .nil
  | cons b bs ih =>
    obtain ⟨first, rest⟩ := List.pairwise_cons.mp apart
    exact insertBoundary_pairwise (ih rest) fun x hx => first x ((mem_sortBoundaries x bs).mp hx)

/-- The boundaries of one body stand at different ranks. -/
theorem Body.boundaries_apart (b : Body) (k : Slot) : (b.boundaries k).Pairwise Boundary.apart := by
  unfold Body.boundaries
  cases b.start <;> cases b.finish <;>
    simp [List.pairwise_cons, Boundary.apart, Boundary.precedes, BoundaryKind.rank] <;> omega

/-- The boundaries of the body of an entry, none without one. -/
def Entry.boundaries (e : Entry) (k : Slot) : List Boundary :=
  match e.body with
  | none => []
  | some b => b.boundaries k

theorem Entry.mem_boundaries (e : Entry) (k : Slot) (x : Boundary) :
    x ∈ e.boundaries k ↔ ∃ b, e.body = some b ∧ x ∈ b.boundaries k := by
  unfold Entry.boundaries
  cases e.body <;> simp

theorem Entry.slot_of_boundaries {e : Entry} {k : Slot} {x : Boundary} (h : x ∈ e.boundaries k) : x.slot = k := by
  obtain ⟨b, -, hb⟩ := (e.mem_boundaries k x).mp h
  exact ((b.mem_boundaries k x).mp hb).1

theorem State.boundariesOf_eq (s : State) (n : Svc) (ks : List Slot) (p : Nat → Bool) :
    s.boundariesOf n ks p =
      sortBoundaries ((ks.flatMap fun k => (s.entry n k).boundaries k).filter fun x => p x.stamp) := rfl

/-- R88: one event takes the boundaries that it fires in their order. -/
theorem State.boundariesOf_pairwise (s : State) (n : Svc) {ks : List Slot} (p : Nat → Bool) (distinct : ks.Nodup) :
    (s.boundariesOf n ks p).Pairwise Boundary.precedes := by
  rw [State.boundariesOf_eq]
  refine sortBoundaries_pairwise (List.Pairwise.filter _ (List.pairwise_flatMap.mpr ⟨fun k _ => ?_, ?_⟩))
  · unfold Entry.boundaries
    cases (s.entry n k).body with
    | none => exact .nil
    | some b => exact b.boundaries_apart k
  · refine distinct.imp fun {j k} ne x hx y hy => ?_
    have slots : x.slot ≠ y.slot := by
      rw [Entry.slot_of_boundaries hx, Entry.slot_of_boundaries hy]
      exact ne
    unfold Boundary.apart Boundary.precedes
    simp only [Fin.lt_def, Ne, Fin.ext_iff] at slots ⊢
    omega

theorem State.mem_boundariesOf (s : State) (n : Svc) (ks : List Slot) (p : Nat → Bool) (x : Boundary) :
    x ∈ s.boundariesOf n ks p ↔
      p x.stamp = true ∧ x.slot ∈ ks ∧ ∃ b, (s.entry n x.slot).body = some b ∧ x ∈ b.boundaries x.slot := by
  rw [State.boundariesOf_eq, mem_sortBoundaries, List.mem_filter, List.mem_flatMap, ← Entry.mem_boundaries]
  constructor
  · rintro ⟨⟨k, hk, hx⟩, hp⟩
    obtain rfl := Entry.slot_of_boundaries hx
    exact ⟨hp, hk, hx⟩
  · rintro ⟨hp, hk, hx⟩
    exact ⟨⟨x.slot, hk, hx⟩, hp⟩

end Sys2Proof.Machine

namespace Sys2Proof.Machine

/-! ### What boundaries add to the integration queue and the mark list (R53, R150) -/

/-- From s to t contexts have only joined the integration queue, and marks of the service have only been requested or lost. -/
structure LogsGrow (n : Svc) (s t : State) : Prop where
  queue : s.integ.queue <+: t.integ.queue
  marks : s.recorder[n].marks <+: t.recorder[n].marks
  lost : s.recorder[n].lostMarks ≤ t.recorder[n].lostMarks

theorem LogsGrow.of_same {n : Svc} {s t : State} (integ : t.integ = s.integ) (recorder : t.recorder = s.recorder) :
    LogsGrow n s t := by
  refine ⟨?_, ?_, ?_⟩
  · rw [integ]
  · rw [recorder]
  · rw [recorder]

theorem LogsGrow.refl (n : Svc) (s : State) : LogsGrow n s s := .of_same rfl rfl

theorem LogsGrow.trans {n : Svc} {s t u : State} (h : LogsGrow n s t) (g : LogsGrow n t u) : LogsGrow n s u :=
  ⟨h.queue.trans g.queue, h.marks.trans g.marks, h.lost.trans g.lost⟩

theorem le_sat32 (x : Nat) : x ≤ sat32 x := by
  unfold sat32 satInc
  split <;> omega

theorem State.requestMark_logs (s : State) (n : Svc) (m : MarkRequest) : LogsGrow n s (s.requestMark n m) := by
  unfold State.requestMark
  refine ⟨by simp, ?_, ?_⟩
  · simp only [State.modRecorder_recorder, upd_get, if_pos]
    split
    · exact List.prefix_append _ _
    · exact List.prefix_rfl
  · simp only [State.modRecorder_recorder, upd_get, if_pos]
    split
    · exact Nat.le_refl _
    · exact le_sat32 _

theorem State.closeContextOf_logs (s : State) (n : Svc) (e : Entry) (cls : SegClass) :
    LogsGrow n s (s.closeContextOf n e cls) := by
  unfold State.closeContextOf State.closeContext
  split
  · split
    · exact ⟨List.prefix_append _ _, List.prefix_rfl, Nat.le_refl _⟩
    · exact .refl n s
  · exact .refl n s

theorem State.markEnd_logs (s : State) (n : Svc) (k : Slot) (b : Body) : LogsGrow n s (s.markEnd n k b) := by
  unfold State.markEnd
  split
  · exact .refl n s
  · exact s.requestMark_logs n _

theorem State.afterLeaving_logs (s : State) (n : Svc) (k : Slot) (b : Body) (e : Entry) (add : VerdictFlags) :
    LogsGrow n s (s.afterLeaving n k b e add) := by
  have resumed : ∀ u : State, LogsGrow n u (if b.cls.layer = .inner then u.resumeOuter n else u) := fun u => by
    split
    · exact .of_same (by simp) (by simp)
    · exact .refl n u
  have left : ∀ u : State, LogsGrow n u (u.leaveLayer n b.cls.layer k) := fun u => .of_same (by simp) (by simp)
  have begun : LogsGrow n s (s.modEntry n k (Entry.leaving s.feed[n].time add)) := .of_same rfl rfl
  exact ((begun.trans (State.closeContextOf_logs _ n e b.cls)).trans (left _)).trans (resumed _)

theorem State.closeSegment_logs (s : State) (n : Svc) (k : Slot) (add : VerdictFlags) :
    LogsGrow n s (s.closeSegment n k add) := by
  by_cases ho : (s.entry n k).state = .opened
  · cases hb : (s.entry n k).body with
    | none => rw [State.closeSegment_idle (.inr hb)]; exact .refl n s
    | some b =>
      have announced : ∀ (u : State) (m : Bool), LogsGrow n u (u.announceClose n k m) :=
        fun u m => .of_same (by simp) (by simp)
      rw [State.closeSegment_open ho hb]
      exact ((s.afterLeaving_logs n k b _ add).trans (State.markEnd_logs _ n k b)).trans (announced _ _)
  · rw [State.closeSegment_idle (.inl ho)]; exact .refl n s

theorem State.closeOne_logs (n : Svc) (l : Layer) (add : VerdictFlags) (s : State) (k : Slot) :
    LogsGrow n s (State.closeOne n l add s k) := by
  unfold State.closeOne
  split
  · split
    · exact s.closeSegment_logs n k add
    · exact .refl n s
  · exact .refl n s

theorem State.closeOnNext_logs (s : State) (n : Svc) (l : Layer) (f : Firing) : LogsGrow n s (s.closeOnNext n l f) := by
  rw [State.closeOnNext_eq]
  exact foldl_keeps (LogsGrow n s) _ (fun u k h => h.trans (State.closeOne_logs n l _ u k)) allSlots s (.refl n s)

theorem State.opened_logs (s : State) (n : Svc) (k : Slot) (b : Body) (f : Firing) :
    LogsGrow n s (s.opened n k b f) := by
  unfold State.opened
  dsimp only
  split <;> exact .of_same (by simp) (by simp)

theorem State.openSegment_logs (s : State) (n : Svc) (k : Slot) (f : Firing) : LogsGrow n s (s.openSegment n k f) := by
  cases hb : (s.entry n k).body with
  | none => rw [State.openSegment_none hb]; exact .refl n s
  | some b =>
    have handed : ∀ u : State, LogsGrow n u (u.writeStanding n k) := fun u => .of_same (by simp) (by simp)
    rw [State.openSegment_body hb]
    exact ((s.closeOnNext_logs n _ f).trans (State.opened_logs _ n k b f)).trans (handed _)

theorem State.fireBoundary_logs (s : State) (n : Svc) (f : Firing) (x : Boundary) :
    LogsGrow n s (s.fireBoundary n f x) := by
  unfold State.fireBoundary
  dsimp only
  split
  · exact s.openSegment_logs n _ f
  · exact .of_same (by simp) (by simp)
  · exact s.openSegment_logs n _ _
  · exact s.closeSegment_logs n _ _
  · exact s.closeSegment_logs n _ _
  · exact .refl n s

end Sys2Proof.Machine

namespace Sys2Proof.Machine

/-! ### What a docket keeps in a segment event -/

section
variable (carries : Bool) (v : Verdict) (now : Nat) (add : VerdictFlags) (e : Entry)

@[simp] theorem Entry.delivered_body : (e.delivered carries v).body = e.body := by simp [Entry.delivered]
@[simp] theorem Entry.delivered_posting : (e.delivered carries v).posting = e.posting := by simp [Entry.delivered]
@[simp] theorem Entry.delivered_units : (e.delivered carries v).units = e.units := by simp [Entry.delivered]
@[simp] theorem Entry.delivered_context : (e.delivered carries v).context = e.context := by simp [Entry.delivered]
@[simp] theorem Entry.delivered_snapshot : (e.delivered carries v).snapshot = e.snapshot := by simp [Entry.delivered]
@[simp] theorem Entry.delivered_openStamp : (e.delivered carries v).openStamp = e.openStamp := by simp [Entry.delivered]
@[simp] theorem Entry.delivered_closeStamp : (e.delivered carries v).closeStamp = e.closeStamp :=
  by simp [Entry.delivered]

/-- R96, R106: what a close announces changes the standing and the writes of an entry only. -/
theorem Entry.announced_fields :
    (e.announced carries).body = e.body ∧ (e.announced carries).posting = e.posting ∧
      (e.announced carries).units = e.units ∧ (e.announced carries).context = e.context ∧
      (e.announced carries).openStamp = e.openStamp ∧ (e.announced carries).closeStamp = e.closeStamp := by
  unfold Entry.announced
  (repeat' split) <;> simp

/-- R96: what a close leaves of the entry that it closes. -/
theorem Entry.closedAt_fields :
    (e.closedAt carries now add).body = e.body ∧ (e.closedAt carries now add).posting = e.posting ∧
      (e.closedAt carries now add).units = e.units ∧ (e.closedAt carries now add).context = e.context ∧
      (e.closedAt carries now add).openStamp = e.openStamp ∧ (e.closedAt carries now add).closeStamp = some now ∧
      (e.closedAt carries now add).flags = e.flags.union add := by
  obtain ⟨body, posting, units, context, openStamp, closeStamp⟩ :=
    Entry.announced_fields carries { e with state := .closing, closeStamp := some now, flags := e.flags.union add }
  exact ⟨body, posting, units, context, openStamp, closeStamp, Entry.announced_flags ..⟩

end

theorem Entry.MeetsOpening.body {l : Layer} {carries : Bool} {now : Nat} {add : VerdictFlags} {e e' : Entry}
    (h : e.MeetsOpening l carries now add e') : e'.body = e.body := by
  by_cases hn : e.endsOnNext l
  · obtain ⟨a, ha, rfl⟩ := h.1 hn
    exact (Entry.closedAt_fields ..).1.trans ha.body
  · exact (h.2 hn).body

theorem State.closeSegment_body (s : State) (n : Svc) (k j : Slot) (add : VerdictFlags) :
    ((s.closeSegment n k add).entry n j).body = (s.entry n j).body := by
  by_cases h : j = k
  · subst h
    by_cases ho : (s.entry n j).state = .opened
    · cases hb : (s.entry n j).body with
      | none => rw [State.closeSegment_idle (.inr hb), hb]
      | some b => rw [State.closeSegment_entry_own ho hb, (Entry.closedAt_fields ..).1, hb]
    · rw [State.closeSegment_idle (.inl ho)]
  · exact (s.closeSegment_entry_other n h add).body

theorem State.openSegment_bodyKept (s : State) (n : Svc) {k : Slot} (j : Slot) (ho : (s.entry n k).state ≠ .opened)
    (f : Firing) :
    ((s.openSegment n k f).entry n j).body = (s.entry n j).body := by
  cases hb : (s.entry n k).body with
  | none => rw [State.openSegment_none hb]
  | some b =>
    by_cases h : j = k
    · subst h
      rw [State.openSegment_entry_own hb ho, Entry.hand_body]
      rfl
    · exact (s.openSegment_entry_other hb h f).body

/-- R87: a boundary changes no body. -/
theorem State.fireBoundary_body (s : State) (n : Svc) (f : Firing) (x : Boundary) (j : Slot) :
    ((s.fireBoundary n f x).entry n j).body = (s.entry n j).body := by
  unfold State.fireBoundary
  dsimp only
  split
  · next hs => exact s.openSegment_bodyKept n j (by rw [hs]; decide) f
  · next hs =>
    rw [State.writeStanding_entry, State.modEntry_get, State.modEntry_get]
    split
    · next own => rw [Entry.hand_body, if_pos rfl, own]
    · rfl
  · next hs => exact s.openSegment_bodyKept n j (by rw [hs]; decide) _
  · exact s.closeSegment_body n x.slot j _
  · exact s.closeSegment_body n x.slot j _
  · rfl

/-! ### The contexts of OPEN dockets (R42, R53) -/

/-- A context that takes sets or is paused. -/
def Context.running (c : Context) : Prop := c.state = .accumulating ∨ c.state = .paused

/-- The context of every OPEN docket of a service is its own, ACCUMULATING or PAUSED. -/
def OpenOwn (n : Svc) (s : State) : Prop :=
  ∀ (k : Slot) (x : CtxId), (s.entry n k).state = .opened → (s.entry n k).context = some x →
    s.pool[x].running ∧ s.pool[x].owner = some ⟨n, k, (s.entry n k).posting⟩

theorem QueueSound.openOwn {s : State} (sound : QueueSound s) (n : Svc) : OpenOwn n s := sound.2.2.2 n

/-- From x to y a running context runs on for its owner. -/
def Context.RunsOn (x y : Context) : Prop := x.running → y.running ∧ y.owner = x.owner

theorem Context.RunsOn.refl (x : Context) : x.RunsOn x := fun h => ⟨h, rfl⟩

theorem Context.RunsOn.trans {x y z : Context} (h : x.RunsOn y) (g : y.RunsOn z) : x.RunsOn z := fun hx => by
  obtain ⟨hy, owner⟩ := h hx
  obtain ⟨hz, owner'⟩ := g hy
  exact ⟨hz, owner'.trans owner⟩

theorem Context.pause_runsOn (x : Context) : x.RunsOn x.pause := fun h => by
  unfold Context.pause
  split
  · exact ⟨.inr rfl, rfl⟩
  · exact ⟨h, rfl⟩

theorem Context.resume_runsOn (x : Context) : x.RunsOn x.resume := fun h => by
  unfold Context.resume
  split
  · exact ⟨.inl rfl, rfl⟩
  · exact ⟨h, rfl⟩

theorem State.modContextOf_runsOn (s : State) (e : Entry) {f : Context → Context} (hf : ∀ x : Context, x.RunsOn (f x))
    (y : CtxId) : s.pool[y].RunsOn (s.modContextOf e f).pool[y] := by
  unfold State.modContextOf
  split
  · rw [State.modPool_pool, upd_get]
    split
    · next own => subst own; exact hf _
    · exact .refl _
  · exact .refl _

theorem State.forOpen_runsOn (s : State) (n : Svc) (l : Layer) (f : State → Slot → State) (y : CtxId)
    (hf : ∀ (u : State) (k : Slot), u.pool[y].RunsOn (f u k).pool[y]) : s.pool[y].RunsOn (s.forOpen n l f).pool[y] := by
  refine foldl_keeps (fun u : State => s.pool[y].RunsOn u.pool[y]) _ (fun u k h => ?_) allSlots s (.refl _)
  split
  · exact h.trans (hf u k)
  · exact h

theorem State.pauseOuter_runsOn (s : State) (n : Svc) (y : CtxId) : s.pool[y].RunsOn (s.pauseOuter n).pool[y] := by
  refine s.forOpen_runsOn n .outer _ y fun u k => ?_
  unfold State.pauseSegment
  split
  · exact .refl _
  · exact u.modContextOf_runsOn _ Context.pause_runsOn y

theorem State.resumeOuter_runsOn (s : State) (n : Svc) (y : CtxId) : s.pool[y].RunsOn (s.resumeOuter n).pool[y] := by
  unfold State.resumeOuter
  split
  · exact .refl _
  · exact s.forOpen_runsOn n .outer _ y fun u k => u.modContextOf_runsOn _ Context.resume_runsOn y

theorem State.modPool_runsOn_ne (s : State) {c y : CtxId} (f : Context → Context) (ne : y ≠ c) :
    s.pool[y].RunsOn (s.modPool c f).pool[y] := by
  rw [State.modPool_pool, upd_get, if_neg ne]
  exact .refl _

theorem State.closeContextOf_runsOn (s : State) (n : Svc) {e : Entry} (cls : SegClass) {y : CtxId}
    (other : e.context ≠ some y) :
    s.pool[y].RunsOn (s.closeContextOf n e cls).pool[y] := by
  unfold State.closeContextOf State.closeContext
  split
  · next c hc =>
    have ne : y ≠ c := by
      rintro rfl
      exact other hc
    split
    · exact s.modPool_runsOn_ne _ ne
    · exact .refl _
  · exact .refl _

theorem State.afterLeaving_runsOn (s : State) (n : Svc) (k : Slot) (b : Body) {e : Entry} (add : VerdictFlags)
    {y : CtxId}
    (other : e.context ≠ some y) : s.pool[y].RunsOn (s.afterLeaving n k b e add).pool[y] := by
  have resumed : ∀ u : State, u.pool[y].RunsOn (if b.cls.layer = .inner then u.resumeOuter n else u).pool[y] :=
    fun u => by
    split
    · exact u.resumeOuter_runsOn n y
    · exact .refl _
  have left : ∀ u : State, (u.leaveLayer n b.cls.layer k).pool = u.pool := by simp
  have closed := (s.modEntry n k (Entry.leaving s.feed[n].time add)).closeContextOf_runsOn n b.cls other
  unfold State.afterLeaving
  dsimp only
  refine closed.trans (.trans ?_ (resumed _))
  rw [left]
  exact .refl _

/-- R53: a close leaves the contexts of other dockets running. -/
theorem State.closeSegment_runsOn (s : State) (n : Svc) {k : Slot} (add : VerdictFlags) {y : CtxId}
    (other : (s.entry n k).context ≠ some y) : s.pool[y].RunsOn (s.closeSegment n k add).pool[y] := by
  by_cases ho : (s.entry n k).state = .opened
  · cases hb : (s.entry n k).body with
    | none => rw [State.closeSegment_idle (.inr hb)]; exact .refl _
    | some b =>
      have handed : ∀ (u : State) (m : Bool), ((u.markEnd n k b).announceClose n k m).pool = u.pool := by simp
      rw [State.closeSegment_open ho hb, handed]
      exact s.afterLeaving_runsOn n k b add other
  · rw [State.closeSegment_idle (.inl ho)]; exact .refl _

theorem Entry.Adjusts.docket {e e' : Entry} (h : e.Adjusts e') :
    e'.context = e.context ∧ e'.posting = e.posting ∧ e'.units = e.units := by
  obtain rfl | ⟨-, p, q, rfl⟩ := h <;> exact ⟨rfl, rfl, rfl⟩

theorem OpenOwn.ne_context {n : Svc} {s : State} (own : OpenOwn n s) {k j : Slot} (h : j ≠ k) {x : CtxId}
    (hk : (s.entry n k).state = .opened) (hj : (s.entry n j).state = .opened) (hx : (s.entry n j).context = some x) :
    (s.entry n k).context ≠ some x := fun same => by
  have owners := (own k x hk same).2.symm.trans (own j x hj hx).2
  simp only [Option.some.injEq, Owner.mk.injEq] at owners
  exact h owners.2.1.symm

theorem OpenOwn.closeSegment {n : Svc} {s : State} (own : OpenOwn n s) (k : Slot) (add : VerdictFlags) :
    OpenOwn n (s.closeSegment n k add) := by
  by_cases ho : (s.entry n k).state = .opened
  · cases hb : (s.entry n k).body with
    | none => rw [State.closeSegment_idle (.inr hb)]; exact own
    | some b =>
      intro j x hj hx
      have ne : j ≠ k := by
        rintro rfl
        rw [State.closeSegment_entry_own ho hb] at hj
        exact Entry.closedAt_not_open _ _ _ _ hj
      have adjusts := s.closeSegment_entry_other n ne add
      obtain ⟨context, posting, -⟩ := adjusts.docket
      rw [adjusts.state] at hj
      rw [context] at hx
      obtain ⟨running, owner⟩ := own j x hj hx
      obtain ⟨running', owner'⟩ := s.closeSegment_runsOn n add (own.ne_context ne ho hj hx) running
      exact ⟨running', by rw [owner', owner, posting]⟩
  · rw [State.closeSegment_idle (.inl ho)]; exact own

theorem OpenOwn.closeOne {n : Svc} {s : State} (own : OpenOwn n s) (l : Layer) (add : VerdictFlags) (k : Slot) :
    OpenOwn n (State.closeOne n l add s k) := by
  unfold State.closeOne
  split
  · split
    · exact own.closeSegment k add
    · exact own
  · exact own

theorem OpenOwn.closeOnNext {n : Svc} {s : State} (own : OpenOwn n s) (l : Layer) (f : Firing) :
    OpenOwn n (s.closeOnNext n l f) := by
  rw [State.closeOnNext_eq]
  exact foldl_keeps (OpenOwn n) _ (fun u k h => h.closeOne l _ k) allSlots s own

theorem State.claimFor_runsOn (s : State) (n : Svc) (k : Slot) (sn : Snapshot) (paused : Bool) (y : CtxId) :
    s.pool[y].RunsOn (s.claimFor n k sn paused).pool[y] := by
  unfold State.claimFor
  split
  · next c hc =>
    rw [State.modEntry_pool]
    unfold State.claim
    rw [State.modPool_pool, upd_get]
    split
    · next own =>
      subst own
      intro running
      rcases running with h | h <;> exact nomatch h.symm.trans (State.freeContext_free hc)
    · exact .refl _
  · rw [show ∀ u : State, (u.raise n .meterShortage).pool = u.pool by simp]
    exact .refl _

/-- R42: the context claimed is the docket's own. -/
theorem State.claimFor_own (s : State) (n : Svc) (k : Slot) (sn : Snapshot) (paused : Bool) {x : CtxId}
    (claimed : s.freeContext = some x) :
    (s.claimFor n k sn paused).pool[x].running ∧
      (s.claimFor n k sn paused).pool[x].owner = some ⟨n, k, (s.entry n k).posting⟩ := by
  unfold State.claimFor
  rw [claimed]
  dsimp only
  rw [State.modEntry_pool]
  unfold State.claim
  rw [State.modPool_pool, upd_get, if_pos rfl]
  unfold Context.claimed Context.running
  cases paused <;> simp

theorem State.opened_runsOn_claim (s : State) (n : Svc) (k : Slot) (b : Body) (f : Firing) (y : CtxId) :
    (s.claimFor n k ((s.sheetOf n).snapshot b) (s.opensPaused n b)).pool[y].RunsOn (s.opened n k b f).pool[y] := by
  have paused : ∀ u : State, u.pool[y].RunsOn (if b.cls.layer = .inner then u.pauseOuter n else u).pool[y] :=
    fun u => by
    split
    · exact u.pauseOuter_runsOn n y
    · exact .refl _
  unfold State.opened
  dsimp only
  refine .trans ?_ (paused _)
  rw [State.modSched_pool, State.modEntry_pool]
  exact .refl _

theorem OpenOwn.opened {n : Svc} {s : State} (own : OpenOwn n s) {k : Slot} {b : Body}
    (hb : (s.entry n k).body = some b)
    (f : Firing) : OpenOwn n (s.opened n k b f) := by
  intro j x hj hx
  have later := s.opened_runsOn_claim n k b f x
  by_cases h : j = k
  · subst h
    rw [State.opened_entry_own s n j b hb f] at hx ⊢
    obtain ⟨running, owner⟩ := s.claimFor_own n j ((s.sheetOf n).snapshot b) (s.opensPaused n b) hx
    obtain ⟨running', owner'⟩ := later running
    exact ⟨running', owner'.trans owner⟩
  · have adjusts := s.opened_entry_other n h b f
    obtain ⟨context, posting, -⟩ := adjusts.docket
    rw [adjusts.state] at hj
    rw [context] at hx
    obtain ⟨running, owner⟩ := own j x hj hx
    obtain ⟨running', owner'⟩ := ((s.claimFor_runsOn n k _ _ x).trans later) running
    exact ⟨running', by rw [owner', owner, posting]⟩

/-- A write handed leaves every docket with its context. -/
theorem OpenOwn.writeStanding {n : Svc} {s : State} (own : OpenOwn n s) (k : Slot) :
    OpenOwn n (s.writeStanding n k) := by
  intro j x hj hx
  have pool : (s.writeStanding n k).pool = s.pool := by simp
  have same : ((s.writeStanding n k).entry n j).state = (s.entry n j).state ∧
      ((s.writeStanding n k).entry n j).context = (s.entry n j).context ∧
      ((s.writeStanding n k).entry n j).posting = (s.entry n j).posting := by
    rw [State.writeStanding_entry]
    split
    · next h => subst h; simp
    · exact ⟨rfl, rfl, rfl⟩
  obtain ⟨state, context, posting⟩ := same
  rw [state] at hj
  rw [context] at hx
  rw [pool, posting]
  exact own j x hj hx

theorem OpenOwn.openSegment {n : Svc} {s : State} (own : OpenOwn n s) {k : Slot} (ho : (s.entry n k).state ≠ .opened)
    (f : Firing) : OpenOwn n (s.openSegment n k f) := by
  cases hb : (s.entry n k).body with
  | none => rw [State.openSegment_none hb]; exact own
  | some b =>
    have ready : (s.readyToOpen n b f).entry n k = s.entry n k := (s.closeOnNext_entry n b.cls.layer f k).of_not_open ho
    rw [State.openSegment_body hb]
    exact ((own.closeOnNext b.cls.layer f).opened (by
      show ((s.readyToOpen n b f).entry n k).body = some b
      rw [ready]
      exact hb) f).writeStanding k

theorem OpenOwn.arm {n : Svc} {s : State} (own : OpenOwn n s) (k : Slot) :
    OpenOwn n (s.modEntry n k fun e => { e with state := .armed }) := by
  intro j x hj hx
  rw [State.modEntry_get] at hj hx ⊢
  split at hj
  · exact nomatch hj
  · next h =>
    rw [if_neg h] at hx ⊢
    exact own j x hj hx

/-- R41, R42: the contexts of the OPEN dockets stay their own when a boundary fires. -/
theorem OpenOwn.fireBoundary {n : Svc} {s : State} (own : OpenOwn n s) (f : Firing) (x : Boundary) :
    OpenOwn n (s.fireBoundary n f x) := by
  unfold State.fireBoundary
  dsimp only
  split
  · next hs => exact own.openSegment (by rw [hs]; decide) f
  · exact (own.arm x.slot).writeStanding x.slot
  · next hs => exact own.openSegment (by rw [hs]; decide) _
  · exact own.closeSegment _ _
  · exact own.closeSegment _ _
  · exact own

end Sys2Proof.Machine

namespace Sys2Proof.Machine

/-! ### From one state of a segment event to a later one -/

/-- From s to t boundaries of the service have fired. -/
structure Onward (n : Svc) (s t : State) : Prop where
  ctl : t.ctl = s.ctl
  feed : t.feed = s.feed
  sheet : t.sheet = s.sheet
  moves : PoolMoves s.pool t.pool
  logs : LogsGrow n s t
  own : OpenOwn n s → OpenOwn n t

theorem Onward.refl (n : Svc) (s : State) : Onward n s s := ⟨rfl, rfl, rfl, .refl _, .refl n s, id⟩

theorem Onward.trans {n : Svc} {s t u : State} (h : Onward n s t) (g : Onward n t u) : Onward n s u :=
  ⟨g.ctl.trans h.ctl, g.feed.trans h.feed, g.sheet.trans h.sheet, h.moves.trans g.moves, h.logs.trans g.logs,
    fun own => g.own (h.own own)⟩

theorem Onward.carries {n : Svc} {s t : State} (h : Onward n s t) : t.carries = s.carries := by
  unfold State.carries
  rw [h.ctl]

theorem Onward.sheetOf {n : Svc} {s t : State} (h : Onward n s t) : t.sheetOf n = s.sheetOf n := by
  unfold State.sheetOf
  rw [h.sheet]

/-- R53: a CLOSING context stays as its close left it. -/
theorem Onward.closing {n : Svc} {s t : State} (h : Onward n s t) {x : CtxId} (closing : s.pool[x].state = .closing) :
    t.pool[x] = s.pool[x] := by
  rcases h.moves x (by simp [-Fin.getElem_fin, closing]) with same | ⟨other, -⟩
  · exact same
  · exact absurd closing other

theorem State.closeSegment_onward (s : State) (n : Svc) (k : Slot) (add : VerdictFlags) :
    Onward n s (s.closeSegment n k add) :=
  ⟨by simp, by simp, by simp, s.closeSegment_pool n k add, s.closeSegment_logs n k add, fun own => own.closeSegment k add⟩

theorem State.closeOne_onward (n : Svc) (l : Layer) (add : VerdictFlags) (s : State) (k : Slot) :
    Onward n s (State.closeOne n l add s k) := by
  unfold State.closeOne
  split
  · split
    · exact s.closeSegment_onward n k add
    · exact .refl n s
  · exact .refl n s

theorem State.closeOnes_onward (s : State) (n : Svc) (l : Layer) (add : VerdictFlags) (ks : List Slot) :
    Onward n s (ks.foldl (State.closeOne n l add) s) :=
  foldl_keeps (Onward n s) _ (fun u k h => h.trans (State.closeOne_onward n l add u k)) ks s (.refl n s)

theorem State.opened_onward (s : State) (n : Svc) {k : Slot} {b : Body} (hb : (s.entry n k).body = some b)
    (f : Firing) :
    Onward n s (s.opened n k b f) where
  ctl := s.opened_ctl n k b f
  feed := by
    unfold State.opened
    dsimp only
    split <;> simp
  sheet := by
    unfold State.opened
    dsimp only
    split <;> simp
  moves := s.opened_pool n k b f
  logs := s.opened_logs n k b f
  own own := own.opened hb f

theorem State.writeStanding_onward (s : State) (n : Svc) (k : Slot) : Onward n s (s.writeStanding n k) where
  ctl := by simp
  feed := by simp
  sheet := by simp
  moves := by
    rw [show (s.writeStanding n k).pool = s.pool by simp]
    exact .refl _
  logs := .of_same (by simp) (by simp)
  own own := own.writeStanding k

theorem State.fireBoundary_onward (s : State) (n : Svc) (f : Firing) (x : Boundary) :
    Onward n s (s.fireBoundary n f x) :=
  ⟨by simp, by simp, by simp, s.fireBoundary_pool n f x, s.fireBoundary_logs n f x, fun own => own.fireBoundary f x⟩

/-! ### The end of a segment (R53, R150) -/

/-- R150: an END mark is requested, or counted lost where 64 requests wait. -/
def MarkTaken (n : Svc) (m : MarkRequest) (s t : State) : Prop :=
  m ∈ t.recorder[n].marks ∨
    64 ≤ t.recorder[n].marks.length ∧
      (s.recorder[n].lostMarks < t.recorder[n].lostMarks ∨ 4294967295 ≤ s.recorder[n].lostMarks)

theorem MarkTaken.after {n : Svc} {m : MarkRequest} {s t u : State} (h : MarkTaken n m s t) (g : LogsGrow n t u) :
    MarkTaken n m s u := by
  rcases h with asked | ⟨full, lost⟩
  · exact .inl (g.marks.subset asked)
  · exact .inr ⟨full.trans g.marks.length_le, lost.imp_left fun h => h.trans_le g.lost⟩

theorem MarkTaken.before {n : Svc} {m : MarkRequest} {s t u : State} (h : MarkTaken n m t u) (g : LogsGrow n s t)
    (later : LogsGrow n t u) : MarkTaken n m s u := by
  have grown := g.lost
  have kept := later.lost
  rcases h with asked | ⟨full, lost⟩
  · exact .inl asked
  · exact .inr ⟨full, by omega⟩

theorem State.requestMark_taken (s : State) (n : Svc) (m : MarkRequest) : MarkTaken n m s (s.requestMark n m) := by
  unfold MarkTaken State.requestMark
  rw [State.modRecorder_recorder, upd_get, if_pos rfl]
  split
  · exact .inl (by simp)
  · next full =>
    refine .inr ⟨by simpa [Config.markPlaces] using full, ?_⟩
    dsimp only
    unfold sat32 satInc
    split <;> omega

/-- From s to t the segment of slot k, OPEN at s with body b, has ended. -/
structure SegmentEnded (n : Svc) (k : Slot) (b : Body) (s t : State) : Prop where
  context : ∀ x : CtxId, (s.entry n k).context = some x →
    t.pool[x].state = .closing ∧ t.pool[x].figures = some ((s.sheetOf n).closeFigures b.cls) ∧
      ∃ q, s.integ.queue ++ q ++ [x] <+: t.integ.queue
  mark : ∀ last, (s.entry n k).units.last = some last → MarkTaken n ⟨last + 1, .finish, b.segId, k⟩ s t
  logs : LogsGrow n s t

theorem SegmentEnded.after {n : Svc} {k : Slot} {b : Body} {s t u : State} (h : SegmentEnded n k b s t)
    (g : Onward n t u) : SegmentEnded n k b s u where
  context x hx := by
    obtain ⟨closing, figures, q, joined⟩ := h.context x hx
    rw [g.closing closing]
    exact ⟨closing, figures, q, joined.trans g.logs.queue⟩
  mark last hl := (h.mark last hl).after g.logs
  logs := h.logs.trans g.logs

theorem SegmentEnded.before {n : Svc} {k : Slot} {b : Body} {s t u : State} (h : SegmentEnded n k b t u)
    (g : Onward n s t) (context : (t.entry n k).context = (s.entry n k).context)
    (units : (t.entry n k).units = (s.entry n k).units) : SegmentEnded n k b s u where
  context x hx := by
    obtain ⟨closing, figures, q, joined⟩ := h.context x (context.trans hx)
    obtain ⟨r, hr⟩ := g.logs.queue
    rw [g.sheetOf] at figures
    exact ⟨closing, figures, r ++ q, by rwa [← List.append_assoc, hr]⟩
  mark last hl := (h.mark last (by rw [units, hl])).before g.logs h.logs
  logs := g.logs.trans h.logs

theorem State.closeContextOf_closes (s : State) (n : Svc) {e : Entry} (cls : SegClass) {x : CtxId}
    (hx : e.context = some x)
    (running : s.pool[x].running) :
    (s.closeContextOf n e cls).pool[x].state = .closing ∧
      (s.closeContextOf n e cls).pool[x].figures = some ((s.sheetOf n).closeFigures cls) ∧
      (s.closeContextOf n e cls).integ.queue = s.integ.queue ++ [x] := by
  have running' : s.pool[x].state = .accumulating ∨ s.pool[x].state = .paused := running
  unfold State.closeContextOf
  rw [hx]
  dsimp only
  unfold State.closeContext
  rw [if_pos running']
  simp [Context.close]

/-- R53: the context of the segment that leaves its layer is CLOSING and has joined the integration queue. -/
theorem State.afterLeaving_closes (s : State) (n : Svc) (k : Slot) (b : Body) {e : Entry} (add : VerdictFlags)
    {x : CtxId}
    (hx : e.context = some x) (running : s.pool[x].running) :
    (s.afterLeaving n k b e add).pool[x].state = .closing ∧
      (s.afterLeaving n k b e add).pool[x].figures = some ((s.sheetOf n).closeFigures b.cls) ∧
      (s.afterLeaving n k b e add).integ.queue = s.integ.queue ++ [x] := by
  have closed := (s.modEntry n k (Entry.leaving s.feed[n].time add)).closeContextOf_closes n b.cls hx running
  have resumed : ∀ u : State, u.pool[x].state = .closing →
      (if b.cls.layer = .inner then u.resumeOuter n else u).pool[x] = u.pool[x] := fun u closing => by
    split
    · exact (u.resumeOuter_pool n x (by rw [closing]; decide)).resolve_right fun other => other.1 closing
    · rfl
  have queue : ∀ u : State, (if b.cls.layer = .inner then u.resumeOuter n else u).integ = u.integ := fun u => by
    split <;> simp
  have left : ∀ u : State, (u.leaveLayer n b.cls.layer k).pool = u.pool ∧ (u.leaveLayer n b.cls.layer k).integ = u.integ :=
    fun u => ⟨by simp, by simp⟩
  obtain ⟨c, hc⟩ : ∃ c, c = (s.modEntry n k (Entry.leaving s.feed[n].time add)).closeContextOf n e b.cls := ⟨_, rfl⟩
  have leaves : s.afterLeaving n k b e add =
      if b.cls.layer = .inner then (c.leaveLayer n b.cls.layer k).resumeOuter n else c.leaveLayer n b.cls.layer k := by
    rw [hc]
    rfl
  rw [← hc] at closed
  obtain ⟨closing, figures, joined⟩ := closed
  rw [leaves, resumed _ (by rw [(left c).1]; exact closing), queue, (left c).1, (left c).2]
  exact ⟨closing, figures, joined⟩

theorem State.markEnd_taken (s : State) (n : Svc) (k : Slot) (b : Body) {last : Nat}
    (hl : (s.entry n k).units.last = some last) :
    MarkTaken n ⟨last + 1, .finish, b.segId, k⟩ s (s.markEnd n k b) := by
  unfold State.markEnd
  rw [hl]
  exact s.requestMark_taken n _

/-- R96: a close of an OPEN docket ends its segment. -/
theorem State.closeSegment_ended {s : State} {n : Svc} {k : Slot} {b : Body} (ho : (s.entry n k).state = .opened)
    (hb : (s.entry n k).body = some b) (own : OpenOwn n s) (add : VerdictFlags) :
    SegmentEnded n k b s (s.closeSegment n k add) where
  context x hx := by
    have handed : ∀ (u : State) (m : Bool), ((u.markEnd n k b).announceClose n k m).pool = u.pool ∧
        ((u.markEnd n k b).announceClose n k m).integ = u.integ := fun u m => ⟨by simp, by simp⟩
    obtain ⟨closing, figures, joined⟩ := s.afterLeaving_closes n k b add hx (own k x ho hx).1
    rw [State.closeSegment_open ho hb, (handed _ _).1, (handed _ _).2]
    exact ⟨closing, figures, [], by rw [joined, List.append_nil]⟩
  mark last hl := by
    have announced : ∀ (u : State) (m : Bool), LogsGrow n u (u.announceClose n k m) :=
      fun u m => .of_same (by simp) (by simp)
    have units : ((s.afterLeaving n k b (s.entry n k) add).entry n k).units.last = some last := by
      rw [State.afterLeaving_own]
      exact hl
    rw [State.closeSegment_open ho hb]
    exact ((State.markEnd_taken _ n k b units).after (announced _ _)).before (s.afterLeaving_logs n k b _ add)
      ((State.markEnd_logs _ n k b).trans (announced _ _))
  logs := s.closeSegment_logs n k add

end Sys2Proof.Machine

namespace Sys2Proof.Machine

/-! ### The writes that a segment event hands (R77, R96, R106) -/

/-- What is left of some writes to hand where the controller carries none or the slot's are dropped. -/
def Entry.sent (carries : Bool) (ws : List SlotContent) (e : Entry) : List SlotContent :=
  if carries = true ∧ e.dropped = false then ws else []

/-- From e to e' some writes have been handed for the slot. -/
structure Entry.Hands (carries : Bool) (ws : List SlotContent) (e e' : Entry) : Prop where
  dropped : e'.dropped = e.dropped
  contents : e'.writes.map SlotWrite.content = e.writes.map SlotWrite.content ++ e.sent carries ws
  handed : e'.handed = (e.handed || e.writes.isEmpty && !(e.sent carries ws).isEmpty)

theorem Entry.sent_nil (carries : Bool) (e : Entry) : e.sent carries [] = [] := by
  unfold Entry.sent
  split <;> rfl

/-- Nothing is handed where nothing is left to hand. -/
theorem Entry.Hands.of_none {e : Entry} {carries : Bool} {ws : List SlotContent} (none : e.sent carries ws = []) :
    e.Hands carries ws e := ⟨rfl, by simp [none], by simp [none]⟩

theorem Entry.Hands.of_same {e e' : Entry} (carries : Bool) (dropped : e'.dropped = e.dropped)
    (writes : e'.writes = e.writes)
    (handed : e'.handed = e.handed) : e.Hands carries [] e' :=
  ⟨dropped, by simp [writes, Entry.sent_nil], by simp [handed, Entry.sent_nil]⟩

theorem Entry.Hands.trans {carries : Bool} {vs ws : List SlotContent} {e e' e'' : Entry} (h : e.Hands carries vs e')
    (g : e'.Hands carries ws e'') : e.Hands carries (vs ++ ws) e'' := by
  have later : e'.sent carries ws = e.sent carries ws := by
    unfold Entry.sent
    rw [h.dropped]
  have both : e.sent carries (vs ++ ws) = e.sent carries vs ++ e.sent carries ws := by
    unfold Entry.sent
    split <;> simp
  refine ⟨g.dropped.trans h.dropped, ?_, ?_⟩
  · rw [g.contents, h.contents, later, both, List.append_assoc]
  · have empty : e'.writes.isEmpty = (e.writes.isEmpty && (e.sent carries vs).isEmpty) := by
      rw [← List.isEmpty_map (f := SlotWrite.content) (l := e'.writes), h.contents]
      cases e.writes <;> cases e.sent carries vs <;> rfl
    rw [g.handed, h.handed, later, both, empty]
    cases e.sent carries vs <;> simp

theorem Entry.hand_hands (carries : Bool) (w : SlotContent) (e : Entry) : e.Hands carries [w] (e.hand carries w) := by
  cases carries with
  | false => exact .of_none (by simp [Entry.sent])
  | true =>
    cases dropped : e.dropped with
    | true =>
      have same : e.hand true w = e := by simp [Entry.hand, Entry.push, dropped]
      rw [same]
      exact .of_none (by simp [Entry.sent, dropped])
    | false =>
      have sent : e.sent true [w] = [w] := by simp [Entry.sent, dropped]
      refine ⟨e.hand_dropped true w, ?_, ?_⟩ <;> rw [sent] <;> unfold Entry.hand Entry.push <;>
        cases writes : e.writes <;> simp [dropped]

theorem Entry.Hands.slotHands {n : Svc} {k : Slot} {ws : List SlotContent} {s t : State}
    (h : (s.entry n k).Hands s.carries ws (t.entry n k)) : SlotHands n k ws s t := ⟨h.contents, h.handed⟩

/-- R105, R106: the verdict of an entry that has closed without a context. -/
def Entry.noMeterVerdict (e : Entry) : Option Verdict :=
  match e.context, e.body, e.snapshot with
  | none, some b, some sn => some (e.assemble b sn noMeterResult)
  | _, _, _ => none

/-- R96 step 6, R106: what the close of an entry hands. -/
def Entry.closeWrites (e : Entry) : List SlotContent :=
  if e.context.isSome then [.standing .closing e.posting]
  else
    match e.noMeterVerdict with
    | some v => [.verdict v, .standing .closed e.posting]
    | none => []

theorem closeWrites_eq (n : Svc) (k : Slot) (t : State) : closeWrites n k t = (t.entry n k).closeWrites := rfl

theorem Entry.delivered_hands (carries : Bool) (v : Verdict) (e : Entry) :
    e.Hands carries [.verdict v, .standing .closed e.posting] (e.delivered carries v) := by
  have verdict := e.hand_hands carries (.verdict v)
  have closed : (e.hand carries (.verdict v)).Hands carries [] { e.hand carries (.verdict v) with state := .closed } :=
    .of_same carries rfl rfl rfl
  have standing :=
    Entry.hand_hands carries (.standing .closed e.posting) { e.hand carries (.verdict v) with state := .closed }
  exact (verdict.trans closed).trans standing

/-- A verdict delivered is the one that the entry then holds. -/
theorem Entry.delivered_assemble (carries : Bool) (v : Verdict) (e : Entry) (b : Body) (sn : Snapshot)
    (loud : LoudResult) :
    (e.delivered carries v).assemble b sn loud = e.assemble b sn loud := by
  simp [Entry.assemble]

/-- R96 step 6, R106: what a close announces is what the entry's close hands. -/
theorem Entry.announced_hands (carries : Bool) (e : Entry) (closing : e.state = .closing) :
    e.Hands carries (e.announced carries).closeWrites (e.announced carries) := by
  unfold Entry.announced
  cases context : e.context with
  | some c =>
    have writes : (e.hand carries (.standing e.state e.posting)).closeWrites = [.standing .closing e.posting] := by
      simp [Entry.closeWrites, context]
    dsimp only [Option.isSome_some]
    rw [if_pos rfl, writes, ← closing]
    exact e.hand_hands carries _
  | none =>
    dsimp only [Option.isSome_none]
    rw [if_neg nofun]
    cases carries with
    | false => exact .of_none (by simp [Entry.sent])
    | true =>
      rw [if_pos rfl]
      cases body : e.body with
      | none =>
        have writes : e.closeWrites = [] := by simp [Entry.closeWrites, Entry.noMeterVerdict, context, body]
        dsimp only
        rw [writes]
        exact .of_same true rfl rfl rfl
      | some b =>
        cases snapshot : e.snapshot with
        | none =>
          have writes : e.closeWrites = [] := by simp [Entry.closeWrites, Entry.noMeterVerdict, context, snapshot]
          dsimp only
          rw [writes]
          exact .of_same true rfl rfl rfl
        | some sn =>
          have writes : (e.delivered true (e.assemble b sn noMeterResult)).closeWrites =
              [.verdict (e.assemble b sn noMeterResult), .standing .closed e.posting] := by
            simp [Entry.closeWrites, Entry.noMeterVerdict, context, body, snapshot, Entry.delivered_assemble]
          dsimp only
          rw [writes]
          exact e.delivered_hands true _

theorem Entry.closedAt_hands (carries : Bool) (now : Nat) (add : VerdictFlags) (e : Entry) :
    e.Hands carries (e.closedAt carries now add).closeWrites (e.closedAt carries now add) :=
  .trans (vs := []) (e' := e.leaving now add) (.of_same carries rfl rfl rfl) (Entry.announced_hands carries _ rfl)

theorem Entry.Adjusts.hands {e e' : Entry} (h : e.Adjusts e') (carries : Bool) : e.Hands carries [] e' := by
  obtain rfl | ⟨-, p, q, rfl⟩ := h <;> exact .of_same carries rfl rfl rfl

end Sys2Proof.Machine

namespace Sys2Proof.Machine

/-! ### Boundaries fired one after the other, read at one docket (R87, R88, R97) -/

/-- R87: the standing in which a boundary of a kind finds its docket when it takes effect. -/
def BoundaryKind.finds : BoundaryKind → Standing
  | .start => .pending
  | .arm => .pending
  | .latest => .armed
  | .stop => .opened
  | .cap => .opened

/-- R88: boundaries fired one after the other with the flags f. -/
def State.fired (n : Svc) (f : Firing) (xs : List Boundary) (s : State) : State :=
  xs.foldl (fun s x => s.fireBoundary n f x) s

theorem State.fired_cons (n : Svc) (f : Firing) (x : Boundary) (xs : List Boundary) (s : State) :
    State.fired n f (x :: xs) s = State.fired n f xs (s.fireBoundary n f x) := rfl

theorem State.fired_append (n : Svc) (f : Firing) (xs ys : List Boundary) (s : State) :
    State.fired n f (xs ++ ys) s = State.fired n f ys (State.fired n f xs s) := List.foldl_append ..

theorem State.fired_onward (n : Svc) (f : Firing) (xs : List Boundary) (s : State) :
    Onward n s (State.fired n f xs s) :=
  foldl_keeps (Onward n s) _ (fun u x h => h.trans (u.fireBoundary_onward n f x)) xs s (.refl n s)

theorem State.fired_body (n : Svc) (f : Firing) (xs : List Boundary) (s : State) (k : Slot) :
    ((State.fired n f xs s).entry n k).body = (s.entry n k).body :=
  foldl_same (fun u : State => (u.entry n k).body) _ (fun u x => u.fireBoundary_body n f x k) xs s

/-- R87: a boundary that does not find its docket in its own standing has no effect. -/
theorem State.fireBoundary_unfound {s : State} {n : Svc} {x : Boundary} (h : (s.entry n x.slot).state ≠ x.kind.finds)
    (f : Firing) : s.fireBoundary n f x = s := by
  refine s.fireBoundary_idle n f x ?_
  cases kind : x.kind <;> rw [kind] at h
  case start => exact .inl ⟨.inl rfl, h⟩
  case arm => exact .inl ⟨.inr rfl, h⟩
  case latest => exact .inr (.inl ⟨rfl, h⟩)
  case stop => exact .inr (.inr ⟨.inl rfl, h⟩)
  case cap => exact .inr (.inr ⟨.inr rfl, h⟩)

theorem State.fireBoundary_start {s : State} {n : Svc} {x : Boundary} (kind : x.kind = .start)
    (state : (s.entry n x.slot).state = .pending) (f : Firing) : s.fireBoundary n f x = s.openSegment n x.slot f := by
  simp only [State.fireBoundary, kind, state]

theorem State.fireBoundary_arm {s : State} {n : Svc} {x : Boundary} (kind : x.kind = .arm)
    (state : (s.entry n x.slot).state = .pending) (f : Firing) :
    s.fireBoundary n f x = (s.modEntry n x.slot fun e => { e with state := .armed }).writeStanding n x.slot := by
  simp only [State.fireBoundary, kind, state]

theorem State.fireBoundary_latest {s : State} {n : Svc} {x : Boundary} (kind : x.kind = .latest)
    (state : (s.entry n x.slot).state = .armed) (f : Firing) :
    s.fireBoundary n f x = s.openSegment n x.slot { f with cueMissed := true } := by
  simp only [State.fireBoundary, kind, state]

/-- R91: the boundary opens a docket of a layer. -/
def Boundary.OpensIn (n : Svc) (l : Layer) (s : State) (x : Boundary) : Prop :=
  x.opens (s.entry n x.slot) ∧ ∃ o, (s.entry n x.slot).body = some o ∧ o.cls.layer = l

/-- A docket that is not OPEN stands as it did when boundaries fire that do not find it in its own standing. -/
theorem State.fireBoundary_rest {s : State} {n : Svc} {k : Slot} {x : Boundary} (ho : (s.entry n k).state ≠ .opened)
    (unfound : x.slot = k → (s.entry n k).state ≠ x.kind.finds) (f : Firing) :
    (s.fireBoundary n f x).entry n k = s.entry n k := by
  by_cases own : x.slot = k
  · rw [State.fireBoundary_unfound (by rw [own]; exact unfound own)]
  · obtain ⟨opens, others⟩ := s.fireBoundary_entry_other n f x (Ne.symm own)
    by_cases any : x.opens (s.entry n x.slot) ∧ (s.entry n x.slot).body.isSome = true
    · obtain ⟨b, hb⟩ := Option.isSome_iff_exists.mp any.2
      exact (opens b any.1 hb).of_not_open ho
    · exact (others any).eq_of_not_open ho

theorem State.fired_rest {n : Svc} {k : Slot} {f : Firing} {xs : List Boundary} {s : State}
    (ho : (s.entry n k).state ≠ .opened)
    (unfound : ∀ x ∈ xs, x.slot = k → (s.entry n k).state ≠ x.kind.finds) :
    (State.fired n f xs s).entry n k = s.entry n k := by
  induction xs generalizing s with
  | nil => rfl
  | cons x xs ih =>
    have first := State.fireBoundary_rest ho (unfound x List.mem_cons_self) f
    rw [State.fired_cons, ih (by rw [first]; exact ho)
      (by rw [first]; exact fun y hy => unfound y (List.mem_cons_of_mem x hy)), first]

/-- A docket that has closed stands as it did. -/
theorem State.fired_ended {n : Svc} {k : Slot} {s : State}
    (closed : (s.entry n k).state = .closing ∨ (s.entry n k).state = .closed)
    (f : Firing) (xs : List Boundary) : (State.fired n f xs s).entry n k = s.entry n k := by
  refine State.fired_rest (by rcases closed with h | h <;> rw [h] <;> decide) fun x _ _ => ?_
  rcases closed with h | h <;> rw [h] <;> cases x.kind <;> decide

/-! #### The closes of an OPEN docket -/

/-- The docket starts, or ends, on a cue. -/
def Body.startsOnCue (b : Body) : Bool :=
  match b.start with
  | .atStamp _ => false
  | .onCue _ _ _ => true
def Body.endsOnCue (b : Body) : Bool :=
  match b.finish with
  | .onCue _ _ => true
  | _ => false

theorem Body.endsOnCue_of_isOnNext {b : Body} (h : b.isOnNext = true) : b.endsOnCue = false := by
  unfold Body.isOnNext at h
  unfold Body.endsOnCue
  split at h
  · next finish => rw [finish]
  · exact nomatch h

/-- R91 step 5, R96: the flags of a close that time fires. -/
def Firing.closing (f : Firing) (b : Body) : Firing := { f with cueMissed := b.endsOnCue }

/-- From s to t the docket of slot k, OPEN at s with body b, has been closed with the flags of f. -/
structure ClosesWith (n : Svc) (k : Slot) (b : Body) (f : Firing) (s t : State) : Prop where
  entry : ∃ a, (s.entry n k).Adjusts a ∧ t.entry n k = a.closedAt s.carries s.feed[n].time (f.closing b).flags
  ended : OpenOwn n s → SegmentEnded n k b s t

section
variable {n : Svc} {k : Slot} {b : Body} {f : Firing} {s t u : State}

theorem ClosesWith.state (h : ClosesWith n k b f s t) :
    (t.entry n k).state = .closing ∨ (t.entry n k).state = .closed := by
  obtain ⟨a, -, ha⟩ := h.entry
  rw [ha]
  exact a.closedAt_state ..

theorem ClosesWith.after (h : ClosesWith n k b f s t) (g : Onward n t u) (same : u.entry n k = t.entry n k) :
    ClosesWith n k b f s u := by
  obtain ⟨a, adjusts, ha⟩ := h.entry
  exact ⟨⟨a, adjusts, same.trans ha⟩, fun own => (h.ended own).after g⟩

theorem ClosesWith.fired (h : ClosesWith n k b f s t) (g : Firing) (xs : List Boundary) :
    ClosesWith n k b f s (State.fired n g xs t) :=
  h.after (State.fired_onward n g xs t) (State.fired_ended h.state g xs)

theorem ClosesWith.before (h : ClosesWith n k b f t u) (g : Onward n s t)
    (adjusts : (s.entry n k).Adjusts (t.entry n k)) :
    ClosesWith n k b f s u := by
  obtain ⟨a, later, ha⟩ := h.entry
  obtain ⟨context, -, units⟩ := adjusts.docket
  rw [g.carries, g.feed] at ha
  exact ⟨⟨a, adjusts.trans later, ha⟩, fun own => (h.ended (g.own own)).before g context units⟩

theorem State.closeSegment_closesWith (ho : (s.entry n k).state = .opened) (hb : (s.entry n k).body = some b)
    (f : Firing) :
    ClosesWith n k b f s (s.closeSegment n k (f.closing b).flags) where
  entry := ⟨_, .refl _, State.closeSegment_entry_own ho hb _⟩
  ended own := State.closeSegment_ended ho hb own _

/-- R87: an end boundary of an OPEN docket closes it. -/
theorem State.fireBoundary_closes {x : Boundary} (ho : (s.entry n k).state = .opened) (hb : (s.entry n k).body = some b)
    (plain : f.cueMissed = false) (hx : x ∈ b.boundaries k) (ends : x.kind.finds = .opened) :
    ClosesWith n k b f s (s.fireBoundary n f x) := by
  obtain ⟨slot, place⟩ := (b.mem_boundaries k x).mp hx
  have closes : s.fireBoundary n f x = s.closeSegment n k (f.closing b).flags := by
    unfold State.fireBoundary Firing.closing Body.endsOnCue
    rw [slot]
    rcases place with ⟨kind, -⟩ | ⟨kind, -⟩ | ⟨kind, -⟩ | ⟨kind, finish⟩ | ⟨kind, ⟨id, finish⟩ | finish⟩
    · rw [kind] at ends; exact nomatch ends
    · rw [kind] at ends; exact nomatch ends
    · rw [kind] at ends; exact nomatch ends
    · simp [kind, ho, finish, ← plain]
    · simp [kind, ho, hb, Body.isOnNext, finish]
    · simp [kind, ho, hb, Body.isOnNext, finish]
  rw [closes]
  exact State.closeSegment_closesWith ho hb f

/-- R91 step 1, R97: the closes that an opening of its layer makes end an OPEN docket that ends ON_NEXT. -/
theorem State.closeOnNext_closes (ho : (s.entry n k).state = .opened) (hb : (s.entry n k).body = some b)
    (next : b.isOnNext = true) (f : Firing) : ClosesWith n k b f s (s.closeOnNext n b.cls.layer f) := by
  have flags : { f with cueMissed := false } = f.closing b := by
    unfold Firing.closing
    rw [Body.endsOnCue_of_isOnNext next]
  rw [State.closeOnNext_eq, flags]
  obtain ⟨xs, ys, slots⟩ := List.append_of_mem (mem_allSlots k)
  have distinct : (xs ++ k :: ys).Nodup := slots ▸ allSlots_nodup
  obtain ⟨distinctXs, distinctYs, apart⟩ := List.nodup_append.mp distinct
  rw [slots, List.foldl_append, List.foldl_cons]
  obtain ⟨u, hu⟩ : ∃ u, u = xs.foldl (State.closeOne n b.cls.layer (f.closing b).flags) s := ⟨_, rfl⟩
  rw [← hu]
  have onward : Onward n s u := hu ▸ s.closeOnes_onward n _ _ xs
  have adjusts : (s.entry n k).Adjusts (u.entry n k) := by
    rw [hu]
    exact (foldl_closeOne n _ _ k xs s distinctXs).2 fun mem => apart k mem k List.mem_cons_self rfl
  have own : State.closeOne n b.cls.layer (f.closing b).flags u k = u.closeSegment n k (f.closing b).flags := by
    simp [State.closeOne, State.standsOpen, adjusts.state, adjusts.body, ho, hb, next]
  rw [own]
  have closed := State.closeSegment_closesWith (adjusts.state.trans ho) (adjusts.body.trans hb) f
  have rest := (foldl_closeOne n b.cls.layer (f.closing b).flags k ys (u.closeSegment n k (f.closing b).flags)
    (List.nodup_cons.mp distinctYs).2).2 (List.nodup_cons.mp distinctYs).1
  exact (closed.after (State.closeOnes_onward _ n _ _ ys)
    (rest.eq_of_not_open (by rcases closed.state with h | h <;> rw [h] <;> decide))).before onward adjusts

end

end Sys2Proof.Machine

namespace Sys2Proof.Machine

section
variable {n : Svc} {k : Slot} {b : Body} {f : Firing} {s : State}

/-- A boundary that opens a docket of the layer closes an OPEN one that ends ON_NEXT. -/
theorem State.fireBoundary_closesOnNext {x : Boundary} (ho : (s.entry n k).state = .opened)
    (hb : (s.entry n k).body = some b)
    (next : b.isOnNext = true) (opens : x.OpensIn n b.cls.layer s) : ClosesWith n k b f s (s.fireBoundary n f x) := by
  obtain ⟨kinds, o, ho', layer⟩ := opens
  have waits : (s.entry n x.slot).state ≠ .opened := by rcases kinds with ⟨-, h⟩ | ⟨-, h⟩ <;> rw [h] <;> decide
  have other : k ≠ x.slot := by
    rintro rfl
    exact waits ho
  have closes : ∀ g : Firing, g.closing b = f.closing b → ClosesWith n k b f s (s.openSegment n x.slot g) :=
    fun g flags => by
    have closed := State.closeOnNext_closes ho hb next g
    have ready : (s.closeOnNext n b.cls.layer g).entry n x.slot = s.entry n x.slot :=
      (s.closeOnNext_entry n b.cls.layer g x.slot).of_not_open waits
    have adjusts := (s.closeOnNext n b.cls.layer g).opened_entry_other n other o g
    have onward :=
      State.opened_onward (s.closeOnNext n b.cls.layer g) n (k := x.slot) (b := o) (by rw [ready]; exact ho') g
    have opened := closed.after onward
      (adjusts.eq_of_not_open (by rcases closed.state with h | h <;> rw [h] <;> decide))
    have written :=
      opened.after (State.writeStanding_onward _ n x.slot) (by rw [State.writeStanding_entry, if_neg other])
    rw [State.openSegment_body ho', State.readyToOpen, layer]
    exact ⟨by rw [← flags]; exact written.entry, written.ended⟩
  rcases kinds with ⟨kind, state⟩ | ⟨kind, state⟩
  · rw [State.fireBoundary_start kind state]
    exact closes f rfl
  · rw [State.fireBoundary_latest kind state]
    exact closes _ rfl

/-- Any other boundary than those that close it leaves an OPEN docket adjusted or as before. -/
theorem State.fireBoundary_staysOpen {x : Boundary} (ho : (s.entry n k).state = .opened)
    (hb : (s.entry n k).body = some b)
    (ends : x.slot = k → x.kind.finds ≠ .opened) (stays : b.isOnNext = true → ¬ x.OpensIn n b.cls.layer s) :
    (s.entry n k).Adjusts ((s.fireBoundary n f x).entry n k) := by
  by_cases own : x.slot = k
  · rw [State.fireBoundary_unfound (by rw [own, ho]; exact (ends own).symm)]
    exact .refl _
  · obtain ⟨opens, others⟩ := s.fireBoundary_entry_other n f x (Ne.symm own)
    by_cases any : x.opens (s.entry n x.slot) ∧ (s.entry n x.slot).body.isSome = true
    · obtain ⟨o, ho'⟩ := Option.isSome_iff_exists.mp any.2
      refine (opens o any.1 ho').2 fun meets => ?_
      obtain ⟨-, b', hb', layer, next⟩ := meets
      obtain rfl : b' = b := Option.some.inj (hb'.symm.trans hb)
      exact stays next ⟨any.1, o, ho', layer.symm⟩
    · exact others any

/-- Among boundaries fired in a row one opens a docket of a layer. -/
def SomeOpens (n : Svc) (f : Firing) (l : Layer) : List Boundary → State → Prop
  | [], _ => False
  | x :: xs, s => x.OpensIn n l s ∨ SomeOpens n f l xs (s.fireBoundary n f x)

theorem someOpens_iff (n : Svc) (f : Firing) (l : Layer) (xs : List Boundary) (s : State) :
    SomeOpens n f l xs s ↔ ∃ ys x zs, xs = ys ++ x :: zs ∧ x.OpensIn n l (State.fired n f ys s) := by
  induction xs generalizing s with
  | nil => simp [SomeOpens]
  | cons a xs ih =>
    rw [SomeOpens, ih]
    constructor
    · rintro (opens | ⟨ys, x, zs, rfl, opens⟩)
      · exact ⟨[], a, xs, rfl, opens⟩
      · exact ⟨a :: ys, x, zs, rfl, opens⟩
    · rintro ⟨_ | ⟨y, ys⟩, x, zs, eq, opens⟩
      · obtain ⟨rfl, rfl⟩ := List.cons.inj eq
        exact .inl opens
      · obtain ⟨rfl, rfl⟩ := List.cons.inj eq
        exact .inr ⟨ys, x, zs, rfl, opens⟩

/-- Where none of its ends fires, an OPEN docket that ends ON_NEXT closes exactly when one of its layer opens, and another stays. -/
theorem State.fired_open {xs : List Boundary} (ho : (s.entry n k).state = .opened) (hb : (s.entry n k).body = some b)
    (ends : ∀ x ∈ xs, x.slot = k → x.kind.finds ≠ .opened) :
    (b.isOnNext = true → SomeOpens n f b.cls.layer xs s → ClosesWith n k b f s (State.fired n f xs s)) ∧
      (¬ (b.isOnNext = true ∧ SomeOpens n f b.cls.layer xs s) →
        (s.entry n k).Adjusts ((State.fired n f xs s).entry n k)) := by
  induction xs generalizing s with
  | nil => exact ⟨fun _ => False.elim, fun _ => .refl _⟩
  | cons x xs ih =>
    rw [State.fired_cons]
    by_cases now : b.isOnNext = true ∧ x.OpensIn n b.cls.layer s
    · exact ⟨fun next _ => (State.fireBoundary_closesOnNext ho hb next now.2).fired f xs,
        fun none => absurd ⟨now.1, .inl now.2⟩ none⟩
    · have adjusts : (s.entry n k).Adjusts ((s.fireBoundary n f x).entry n k) :=
        State.fireBoundary_staysOpen ho hb (ends x List.mem_cons_self) fun next opens => now ⟨next, opens⟩
      obtain ⟨closes, stays⟩ := ih (adjusts.state.trans ho) (adjusts.body.trans hb)
        fun y hy => ends y (List.mem_cons_of_mem x hy)
      refine ⟨fun next some => ?_, fun none => ?_⟩
      · exact (closes next (some.resolve_left fun opens => now ⟨next, opens⟩)).before (s.fireBoundary_onward n f x) adjusts
      · exact adjusts.trans (stays fun both => none ⟨both.1, .inr both.2⟩)

/-- An OPEN docket one of whose ends fires is closed. -/
theorem State.fired_ends {xs : List Boundary} {x : Boundary} (ho : (s.entry n k).state = .opened)
    (hb : (s.entry n k).body = some b) (plain : f.cueMissed = false) (fires : x ∈ xs) (hx : x ∈ b.boundaries k)
    (ends : x.kind.finds = .opened) (only : ∀ y ∈ xs, y.slot = k → y.kind.finds = .opened → y = x) (once : xs.Nodup) :
    ClosesWith n k b f s (State.fired n f xs s) := by
  obtain ⟨ys, zs, rfl⟩ := List.append_of_mem fires
  have before : ∀ y ∈ ys, y.slot = k → y.kind.finds ≠ .opened := fun y hy own finds => by
    obtain rfl := only y (List.mem_append_left _ hy) own finds
    exact (List.nodup_append.mp once).2.2 y hy y List.mem_cons_self rfl
  obtain ⟨closes, stays⟩ := State.fired_open (f := f) ho hb before
  rw [State.fired_append, State.fired_cons]
  by_cases next : b.isOnNext = true ∧ SomeOpens n f b.cls.layer ys s
  · exact (closes next.1 next.2).fired f (x :: zs)
  · have adjusts := stays next
    have closed := State.fireBoundary_closes (f := f) (adjusts.state.trans ho) (adjusts.body.trans hb) plain hx ends
    exact (closed.fired f zs).before (State.fired_onward n f ys s) adjusts

end

end Sys2Proof.Machine

namespace Sys2Proof.Machine

/-! #### The boundaries of one docket among those of an event -/

theorem Boundary.ext_iff' {x y : Boundary} : x = y ↔ x.stamp = y.stamp ∧ x.kind = y.kind ∧ x.slot = y.slot := by
  cases x
  cases y
  simp

section
variable {b : Body} {k : Slot} {x y : Boundary}

/-- R87: a boundary that opens a docket from PENDING, or arms it, stands at its first start. -/
theorem Body.stamp_of_finds_pending (hx : x ∈ b.boundaries k) (finds : x.kind.finds = .pending) :
    x.stamp = b.firstStart ∧ x.kind = (if b.startsOnCue then .arm else .start) := by
  obtain ⟨-, place⟩ := (b.mem_boundaries k x).mp hx
  rcases place with ⟨kind, start⟩ | ⟨kind, id, last, start⟩ | ⟨kind, -⟩ | ⟨kind, -⟩ | ⟨kind, -⟩
  · simp [Body.firstStart, Body.startsOnCue, start, kind]
  · simp [Body.firstStart, Body.startsOnCue, start, kind]
  all_goals exact nomatch kind ▸ finds

/-- R87: a boundary that opens an ARMED docket stands at its last start. -/
theorem Body.stamp_of_finds_armed (hx : x ∈ b.boundaries k) (finds : x.kind.finds = .armed) :
    x.stamp = b.lastStart ∧ x.kind = .latest ∧ b.startsOnCue = true := by
  obtain ⟨-, place⟩ := (b.mem_boundaries k x).mp hx
  rcases place with ⟨kind, start⟩ | ⟨kind, id, last, start⟩ | ⟨kind, id, first, start⟩ | ⟨kind, -⟩ | ⟨kind, -⟩
  · exact nomatch kind ▸ finds
  · exact nomatch kind ▸ finds
  · simp [Body.lastStart, Body.startsOnCue, start, kind]
  all_goals exact nomatch kind ▸ finds

/-- R87: the end of a docket. -/
def Body.lastBoundary (b : Body) (k : Slot) : Boundary :=
  ⟨b.endStamp, match b.finish with | .atStamp _ => .stop | _ => .cap, k⟩

theorem Body.lastBoundary_mem (b : Body) (k : Slot) : b.lastBoundary k ∈ b.boundaries k := by
  unfold Body.lastBoundary Body.boundaries Body.endStamp
  cases b.finish <;> simp

theorem Body.lastBoundary_finds (b : Body) (k : Slot) : (b.lastBoundary k).kind.finds = .opened := by
  unfold Body.lastBoundary
  cases b.finish <;> rfl

theorem Body.eq_lastBoundary (hx : x ∈ b.boundaries k) (finds : x.kind.finds = .opened) : x = b.lastBoundary k := by
  obtain ⟨slot, place⟩ := (b.mem_boundaries k x).mp hx
  rw [Boundary.ext_iff']
  rcases place with ⟨kind, -⟩ | ⟨kind, -⟩ | ⟨kind, -⟩ | ⟨kind, finish⟩ | ⟨kind, ⟨id, finish⟩ | finish⟩
  iterate 3 exact nomatch kind ▸ finds
  all_goals simp [Body.lastBoundary, Body.endStamp, finish, kind, slot]

/-- R87: no two boundaries of a docket take effect in the same standing. -/
theorem Body.boundary_unique (hx : x ∈ b.boundaries k) (hy : y ∈ b.boundaries k) (same : x.kind.finds = y.kind.finds) :
    x = y := by
  have slot := ((b.mem_boundaries k x).mp hx).1.trans ((b.mem_boundaries k y).mp hy).1.symm
  cases finds : x.kind.finds with
  | pending =>
    obtain ⟨stamp, kind⟩ := Body.stamp_of_finds_pending hx finds
    obtain ⟨stamp', kind'⟩ := Body.stamp_of_finds_pending hy (same ▸ finds)
    exact Boundary.ext_iff'.mpr ⟨stamp.trans stamp'.symm, kind.trans kind'.symm, slot⟩
  | armed =>
    obtain ⟨stamp, kind, -⟩ := Body.stamp_of_finds_armed hx finds
    obtain ⟨stamp', kind', -⟩ := Body.stamp_of_finds_armed hy (same ▸ finds)
    exact Boundary.ext_iff'.mpr ⟨stamp.trans stamp'.symm, kind.trans kind'.symm, slot⟩
  | opened => exact (Body.eq_lastBoundary hx finds).trans (Body.eq_lastBoundary hy (same ▸ finds)).symm
  | idle | closing | closed | refused | withdrawn => cases kind : x.kind <;> rw [kind] at finds <;> exact nomatch finds

theorem Body.start_mem (b : Body) (k : Slot) (h : b.startsOnCue = false) :
    ⟨b.lastStart, .start, k⟩ ∈ b.boundaries k ∧ b.lastStart = b.firstStart := by
  unfold Body.startsOnCue at h
  unfold Body.boundaries Body.lastStart Body.firstStart
  cases start : b.start with
  | atStamp t => simp
  | onCue id first last => simp [start] at h

theorem Body.arm_mem (b : Body) (k : Slot) (h : b.startsOnCue = true) :
    ⟨b.firstStart, .arm, k⟩ ∈ b.boundaries k ∧ ⟨b.lastStart, .latest, k⟩ ∈ b.boundaries k := by
  unfold Body.startsOnCue at h
  unfold Body.boundaries Body.lastStart Body.firstStart
  cases start : b.start with
  | atStamp t => simp [start] at h
  | onCue id first last => simp

end

theorem nodup_of_precedes {xs : List Boundary} (sorted : xs.Pairwise Boundary.precedes) : xs.Nodup :=
  sorted.imp fun {x _} h => by
    rintro rfl
    exact x.precedes_irrefl h

/-- R87: an entry whose docket arms. -/
def Entry.arming (carries : Bool) (e : Entry) : Entry :=
  { e with state := .armed }.hand carries (.standing .armed e.posting)

/-- R91 step 5: the flags of an opening that time fires. -/
def Firing.opening (f : Firing) (b : Body) : Firing := { f with cueMissed := b.startsOnCue }

/-- The entry as it stands when a waiting docket opens: one that starts on a cue has armed. -/
def Entry.readied (carries : Bool) (b : Body) (e : Entry) : Entry :=
  if e.state = .pending ∧ b.startsOnCue = true then e.arming carries else e

/-- From e to o the docket has opened with a body, under the flags of f. -/
def Entry.OpensWith (carries : Bool) (now : Nat) (b : Body) (f : Firing) (e o : Entry) : Prop :=
  ∃ sn ctx paused, o = (e.opening sn ctx paused (f.opening b) now).hand carries (.standing .opened e.posting)

section
variable {n : Svc} {k : Slot} {b : Body} {f : Firing} {s : State} {xs ys zs : List Boundary} {x : Boundary}

/-- A docket waits as it stands until the first boundary that finds it so. -/
theorem State.fired_until (own : ∀ y ∈ ys, y.slot = k → y ∈ b.boundaries k) (hx : x ∈ b.boundaries k)
    (ho : (s.entry n k).state ≠ .opened) (finds : x.kind.finds = (s.entry n k).state) (fresh : x ∉ ys) :
    (State.fired n f ys s).entry n k = s.entry n k :=
  State.fired_rest ho fun y hy slot same => fresh (by
    rwa [Body.boundary_unique hx (own y hy slot) (finds.trans same)])

theorem State.fireBoundary_armed (hx : x ∈ b.boundaries k) (kind : x.kind = .arm)
    (pending : (s.entry n k).state = .pending) :
    (s.fireBoundary n f x).entry n k = (s.entry n k).arming s.carries := by
  obtain ⟨slot, -⟩ := (b.mem_boundaries k x).mp hx
  subst slot
  rw [State.fireBoundary_arm kind pending, State.writeStanding_entry, if_pos rfl, State.modEntry_entry]
  rfl

/-- R87, R91: a boundary that opens a waiting docket. -/
theorem State.fireBoundary_opensWith (hb : (s.entry n k).body = some b) (hx : x ∈ b.boundaries k)
    (plain : f.cueMissed = false) (opens : x.opens (s.entry n k)) :
    (s.entry n k).OpensWith s.carries s.feed[n].time b f ((s.fireBoundary n f x).entry n k) := by
  obtain ⟨slot, -⟩ := (b.mem_boundaries k x).mp hx
  subst slot
  rcases opens with ⟨kind, state⟩ | ⟨kind, state⟩
  · have start := (Body.stamp_of_finds_pending hx (by rw [kind]; rfl)).2
    have cue : f.opening b = f := by
      cases onCue : b.startsOnCue with
      | true => rw [kind, onCue] at start; exact nomatch start
      | false => rw [Firing.opening, onCue, ← plain]
    rw [State.fireBoundary_start kind state, State.openSegment_entry_own hb (by rw [state]; decide), Entry.OpensWith, cue]
    exact ⟨_, _, _, rfl⟩
  · obtain ⟨-, -, onCue⟩ := Body.stamp_of_finds_armed hx (by rw [kind]; rfl)
    rw [State.fireBoundary_latest kind state, State.openSegment_entry_own hb (by rw [state]; decide), Entry.OpensWith,
      Firing.opening, onCue]
    exact ⟨_, _, _, rfl⟩

/-- R87, R88: where the boundary stands that opens a waiting docket. -/
theorem State.fired_reaches (own : ∀ y ∈ xs, y.slot = k → y ∈ b.boundaries k)
    (sorted : xs.Pairwise Boundary.precedes) (starts : b.firstStart ≤ b.lastStart)
    (waits : (s.entry n k).state = .pending ∧ (b.startsOnCue = true → ⟨b.firstStart, .arm, k⟩ ∈ xs) ∨
      (s.entry n k).state = .armed ∧ b.startsOnCue = true)
    (last : ⟨b.lastStart, if b.startsOnCue then .latest else .start, k⟩ ∈ xs) :
    ∃ ys x zs, xs = ys ++ x :: zs ∧ x ∈ b.boundaries k ∧ x.stamp = b.lastStart ∧
      (State.fired n f ys s).entry n k = (s.entry n k).readied s.carries b ∧
      x.opens ((s.entry n k).readied s.carries b) := by
  have distinct := nodup_of_precedes sorted
  have mem := own _ last rfl
  have ends : ∀ {ys zs : List Boundary} {x : Boundary}, (ys ++ x :: zs).Nodup → x ∉ ys := fun h hx =>
    (List.nodup_append.mp h).2.2 _ hx _ List.mem_cons_self rfl
  cases onCue : b.startsOnCue with
  | false =>
    have pending := (waits.resolve_right fun h => by rw [onCue] at h; exact nomatch h.2).1
    have readied : (s.entry n k).readied s.carries b = s.entry n k :=
      if_neg fun h => by rw [onCue] at h; exact nomatch h.2
    rw [onCue] at last mem
    obtain ⟨ys, zs, rfl⟩ := List.append_of_mem last
    rw [readied]
    exact ⟨ys, _, zs, rfl, mem, rfl, State.fired_until (fun y hy => own y (List.mem_append_left _ hy)) mem
      (by rw [pending]; decide) pending.symm (ends distinct), .inl ⟨rfl, pending⟩⟩
  | true =>
    rw [onCue] at last mem
    rcases waits with ⟨pending, arms⟩ | ⟨armed, -⟩
    · have readied : (s.entry n k).readied s.carries b = (s.entry n k).arming s.carries := if_pos ⟨pending, onCue⟩
      have armMem := (b.arm_mem k onCue).1
      obtain ⟨ys, zs, rfl⟩ := List.append_of_mem (arms onCue)
      have order : Boundary.precedes ⟨b.firstStart, .arm, k⟩ ⟨b.lastStart, .latest, k⟩ := by
        rcases starts.lt_or_eq with less | same
        · exact .inl less
        · exact .inr ⟨same, .inl Nat.one_lt_two⟩
      have later : ⟨b.lastStart, .latest, k⟩ ∈ zs := by
        rcases List.mem_append.mp last with before | after
        · exact absurd ((List.pairwise_append.mp sorted).2.2 _ before _ List.mem_cons_self) (Boundary.precedes_asymm order)
        · exact (List.mem_cons.mp after).resolve_left fun same => nomatch congrArg Boundary.kind same
      obtain ⟨ws, vs, rfl⟩ := List.append_of_mem later
      have first : (State.fired n f ys s).entry n k = s.entry n k :=
        State.fired_until (fun y hy => own y (List.mem_append_left _ hy)) armMem (by rw [pending]; decide) pending.symm
          (ends distinct)
      have armed : ((State.fired n f ys s).fireBoundary n f ⟨b.firstStart, .arm, k⟩).entry n k = (s.entry n k).arming s.carries := by
        rw [State.fireBoundary_armed armMem rfl (by rw [first]; exact pending), first, (State.fired_onward n f ys s).carries]
      have state : ((s.entry n k).arming s.carries).state = .armed := by simp [Entry.arming]
      have split : ys ++ ⟨b.firstStart, .arm, k⟩ :: (ws ++ ⟨b.lastStart, .latest, k⟩ :: vs) =
          (ys ++ ⟨b.firstStart, .arm, k⟩ :: ws) ++ ⟨b.lastStart, .latest, k⟩ :: vs := by simp
      rw [split] at distinct own
      rw [readied]
      refine ⟨_, _, vs, split, mem, rfl, ?_, .inr ⟨rfl, state⟩⟩
      rw [State.fired_append, State.fired_cons, State.fired_until
        (fun y hy => own y (List.mem_append_left _ (List.mem_append_right _ (List.mem_cons_of_mem _ hy)))) mem
        (by rw [armed, state]; decide) (by rw [armed, state]; rfl)
        (fun h => ends distinct (List.mem_append_right _ (List.mem_cons_of_mem _ h))), armed]
    · have readied : (s.entry n k).readied s.carries b = s.entry n k := if_neg fun h => by rw [armed] at h; exact nomatch h.1
      obtain ⟨ys, zs, rfl⟩ := List.append_of_mem last
      rw [readied]
      exact ⟨ys, _, zs, rfl, mem, rfl, State.fired_until (fun y hy => own y (List.mem_append_left _ hy)) mem
        (by rw [armed]; decide) armed.symm (ends distinct), .inr ⟨rfl, armed⟩⟩

end

end Sys2Proof.Machine

namespace Sys2Proof.Machine

/-! #### What the boundaries of one event make of a docket -/

section
variable {n : Svc} {k : Slot} {b : Body} {f : Firing} {s : State} {ks : List Slot} {p : Nat → Bool}

/-- The boundaries of one docket among those of an event. -/
theorem State.boundariesOf_own (hb : (s.entry n k).body = some b) :
    ∀ x ∈ s.boundariesOf n ks p, x.slot = k → x ∈ b.boundaries k ∧ p x.stamp = true := by
  rintro x hx rfl
  obtain ⟨due, -, b', hb', mem⟩ := (s.mem_boundariesOf n ks p x).mp hx
  obtain rfl : b' = b := Option.some.inj (hb'.symm.trans hb)
  exact ⟨mem, due⟩

theorem State.boundariesOf_due (hb : (s.entry n k).body = some b) (hk : k ∈ ks) {x : Boundary} (hx : x ∈ b.boundaries k)
    (due : p x.stamp = true) : x ∈ s.boundariesOf n ks p := by
  obtain ⟨rfl, -⟩ := (b.mem_boundaries k x).mp hx
  exact (s.mem_boundariesOf n ks p x).mpr ⟨due, hk, b, hb, hx⟩

/-- A docket waits on while none of its boundaries that find it so is due. -/
theorem State.event_waits (hb : (s.entry n k).body = some b)
    (waits : (s.entry n k).state = .pending ∧ ¬ p b.firstStart = true ∨ (s.entry n k).state = .armed ∧ ¬ p b.lastStart = true)
    {xs : List Boundary} (some : xs ⊆ s.boundariesOf n ks p) : (State.fired n f xs s).entry n k = s.entry n k := by
  refine State.fired_rest (by rcases waits with ⟨h, -⟩ | ⟨h, -⟩ <;> rw [h] <;> decide) fun x hx slot found => ?_
  obtain ⟨mem, due⟩ := State.boundariesOf_own hb x (some hx) slot
  rcases waits with ⟨state, notDue⟩ | ⟨state, notDue⟩
  · rw [(Body.stamp_of_finds_pending mem (found.symm.trans state)).1] at due
    exact notDue due
  · rw [(Body.stamp_of_finds_armed mem (found.symm.trans state)).1] at due
    exact notDue due

/-- A docket arms whose first start is due and whose last start is not. -/
theorem State.event_arms (hb : (s.entry n k).body = some b) (hk : k ∈ ks) (distinct : ks.Nodup)
    (pending : (s.entry n k).state = .pending) (first : p b.firstStart = true) (last : ¬ p b.lastStart = true) :
    (State.fired n f (s.boundariesOf n ks p) s).entry n k = (s.entry n k).arming s.carries := by
  have onCue : b.startsOnCue = true := by
    by_contra stamp
    exact last ((b.start_mem k (Bool.eq_false_iff.mpr stamp)).2 ▸ first)
  have mem := (b.arm_mem k onCue).1
  have own := State.boundariesOf_own (ks := ks) (p := p) hb
  have once := nodup_of_precedes (s.boundariesOf_pairwise n p distinct)
  have all := State.boundariesOf_due hb hk mem first
  generalize s.boundariesOf n ks p = xs at own once all
  obtain ⟨ys, zs, rfl⟩ := List.append_of_mem all
  have before : (State.fired n f ys s).entry n k = s.entry n k :=
    State.fired_until (fun y hy slot => (own y (List.mem_append_left _ hy) slot).1) mem (by rw [pending]; decide) pending.symm
      fun h => (List.nodup_append.mp once).2.2 _ h _ List.mem_cons_self rfl
  have armed := State.fireBoundary_armed (f := f) (s := State.fired n f ys s) mem rfl (by rw [before]; exact pending)
  rw [before, (State.fired_onward n f ys s).carries] at armed
  have state : ((s.entry n k).arming s.carries).state = .armed := by simp [Entry.arming]
  rw [State.fired_append, State.fired_cons, State.fired_rest (by rw [armed, state]; decide), armed]
  rintro z hz slot found
  rw [armed, state] at found
  obtain ⟨mem, due⟩ := own z (List.mem_append_right _ (List.mem_cons_of_mem _ hz)) slot
  rw [(Body.stamp_of_finds_armed mem found.symm).1] at due
  exact last due

/-- A docket waits for a last start that is due, with its arming before it. -/
structure DueToOpen (b : Body) (p : Nat → Bool) (e : Entry) : Prop where
  waits : e.state = .pending ∧ p b.firstStart = true ∨ e.state = .armed ∧ b.startsOnCue = true
  last : p b.lastStart = true
  starts : b.firstStart ≤ b.lastStart

/-- Where the boundary of an event stands that opens a docket. -/
theorem State.event_reaches (hb : (s.entry n k).body = some b) (hk : k ∈ ks) (distinct : ks.Nodup)
    (due : DueToOpen b p (s.entry n k)) :
    ∃ ys x zs, s.boundariesOf n ks p = ys ++ x :: zs ∧ x ∈ b.boundaries k ∧ x.stamp = b.lastStart ∧
      (State.fired n f ys s).entry n k = (s.entry n k).readied s.carries b ∧
      x.opens ((s.entry n k).readied s.carries b) := by
  obtain ⟨waits, last, starts⟩ := due
  refine State.fired_reaches (fun y hy slot => (State.boundariesOf_own hb y hy slot).1) (s.boundariesOf_pairwise n p distinct)
    starts ?_ ?_
  · exact waits.imp_left fun pending => ⟨pending.1, fun onCue => State.boundariesOf_due hb hk (b.arm_mem k onCue).1 pending.2⟩
  · cases onCue : b.startsOnCue with
    | true => exact State.boundariesOf_due hb hk (b.arm_mem k onCue).2 last
    | false => exact State.boundariesOf_due hb hk (b.start_mem k onCue).1 last

/-- From s to t the docket of slot k has opened, and has ended or stays OPEN as its end and the other openings of its layer have it. -/
def OpensThen (n : Svc) (k : Slot) (b : Body) (f : Firing) (due : Prop) (s t : State) : Prop :=
  ∃ u, Onward n s u ∧ ((s.entry n k).readied s.carries b).OpensWith s.carries s.feed[n].time b f (u.entry n k) ∧
    (due → ClosesWith n k b f u t) ∧
    (¬ due → b.isOnNext = true ∧ ClosesWith n k b f u t ∨ (u.entry n k).Adjusts (t.entry n k))

theorem Entry.readied_body (carries : Bool) (b : Body) (e : Entry) : (e.readied carries b).body = e.body := by
  unfold Entry.readied Entry.arming
  split <;> simp

theorem Entry.OpensWith.opened {carries : Bool} {now : Nat} {e o : Entry} (h : e.OpensWith carries now b f o) :
    o.state = .opened ∧ o.body = e.body := by
  obtain ⟨sn, ctx, paused, rfl⟩ := h
  simp [Entry.opening]

/-- A docket opens whose last start is due. -/
theorem State.event_opens (hb : (s.entry n k).body = some b) (hk : k ∈ ks) (distinct : ks.Nodup)
    (due : DueToOpen b p (s.entry n k)) (plain : f.cueMissed = false) (ends : b.lastStart < b.endStamp) :
    OpensThen n k b f (p b.endStamp = true) s (State.fired n f (s.boundariesOf n ks p) s) := by
  obtain ⟨ys, x, zs, split, mem, stamp, ready, opens⟩ := State.event_reaches (f := f) hb hk distinct due
  have own := State.boundariesOf_own (ks := ks) (p := p) hb
  have sorted := s.boundariesOf_pairwise n p distinct
  have fires := State.boundariesOf_due (ks := ks) (p := p) hb hk (b.lastBoundary_mem k)
  rw [split] at own sorted fires ⊢
  have ownLater : ∀ z ∈ zs, z.slot = k → z.kind.finds = .opened → z = b.lastBoundary k ∧ p b.endStamp = true :=
    fun z hz slot finds => by
    obtain ⟨memZ, dueZ⟩ := own z (List.mem_append_right _ (List.mem_cons_of_mem _ hz)) slot
    obtain rfl := Body.eq_lastBoundary memZ finds
    exact ⟨rfl, dueZ⟩
  have before := State.fired_onward n f ys s
  have opened :=
    State.fireBoundary_opensWith (s := State.fired n f ys s) (f := f) (by rw [State.fired_body]; exact hb) mem plain
    (by rw [ready]; exact opens)
  rw [ready, before.carries, before.feed] at opened
  obtain ⟨state, body⟩ := opened.opened
  rw [Entry.readied_body, hb] at body
  rw [State.fired_append, State.fired_cons]
  refine ⟨_, before.trans (State.fireBoundary_onward _ n f x), opened, fun dueEnd => ?_, fun notDue => ?_⟩
  · have later : b.lastBoundary k ∈ zs := by
      have after : x.precedes (b.lastBoundary k) := .inl (by rw [stamp]; exact ends)
      rcases List.mem_append.mp (fires dueEnd) with early | late
      · exact absurd ((List.pairwise_append.mp sorted).2.2 _ early _ List.mem_cons_self) (Boundary.precedes_asymm after)
      · refine (List.mem_cons.mp late).resolve_left fun same => ?_
        rw [← same] at after
        exact Boundary.precedes_irrefl _ after
    exact State.fired_ends state body plain later (b.lastBoundary_mem k) (b.lastBoundary_finds k)
      (fun z hz slot finds => (ownLater z hz slot finds).1)
      (List.nodup_cons.mp (List.nodup_append.mp (nodup_of_precedes sorted)).2.1).2
  · obtain ⟨closes, stays⟩ := State.fired_open (f := f) (xs := zs) state body fun z hz slot finds =>
      notDue (ownLater z hz slot finds).2
    by_cases next : b.isOnNext = true ∧ SomeOpens n f b.cls.layer zs ((State.fired n f ys s).fireBoundary n f x)
    · exact .inl ⟨next.1, closes next.1 next.2⟩
    · exact .inr (stays next)

/-- An OPEN docket closes whose end is due. -/
theorem State.event_ends (hb : (s.entry n k).body = some b) (hk : k ∈ ks) (distinct : ks.Nodup)
    (opened : (s.entry n k).state = .opened) (plain : f.cueMissed = false) (due : p b.endStamp = true) :
    ClosesWith n k b f s (State.fired n f (s.boundariesOf n ks p) s) :=
  State.fired_ends opened hb plain (State.boundariesOf_due hb hk (b.lastBoundary_mem k) due) (b.lastBoundary_mem k)
    (b.lastBoundary_finds k)
    (fun y hy slot finds => Body.eq_lastBoundary (State.boundariesOf_own hb y hy slot).1 finds)
    (nodup_of_precedes (s.boundariesOf_pairwise n p distinct))

/-- An OPEN docket whose end is not due closes only where it ends ON_NEXT and one of its layer opens. -/
theorem State.event_open (hb : (s.entry n k).body = some b) (opened : (s.entry n k).state = .opened)
    (notDue : ¬ p b.endStamp = true) :
    let opens := b.isOnNext = true ∧ SomeOpens n f b.cls.layer (s.boundariesOf n ks p) s
    (opens → ClosesWith n k b f s (State.fired n f (s.boundariesOf n ks p) s)) ∧
      (¬ opens → (s.entry n k).Adjusts ((State.fired n f (s.boundariesOf n ks p) s).entry n k)) := by
  obtain ⟨closes, stays⟩ := State.fired_open (f := f) (xs := s.boundariesOf n ks p) opened hb fun x hx slot finds => by
    obtain ⟨mem, due⟩ := State.boundariesOf_own hb x hx slot
    rw [Body.eq_lastBoundary mem finds] at due
    exact notDue due
  exact ⟨fun both => closes both.1 both.2, stays⟩

/-- One of the dockets that open in an event is of a layer. -/
theorem State.someOpens_of_due (hb : (s.entry n k).body = some b) (hk : k ∈ ks) (distinct : ks.Nodup)
    (due : DueToOpen b p (s.entry n k)) : SomeOpens n f b.cls.layer (s.boundariesOf n ks p) s := by
  obtain ⟨ys, x, zs, split, mem, -, ready, opens⟩ := State.event_reaches (f := f) hb hk distinct due
  obtain ⟨rfl, -⟩ := (b.mem_boundaries k x).mp mem
  refine (someOpens_iff ..).mpr ⟨ys, x, zs, split, ?_, b, ?_, rfl⟩
  · rw [ready]
    exact opens
  · rw [State.fired_body]
    exact hb

theorem State.due_of_someOpens {l : Layer} (opens : SomeOpens n f l (s.boundariesOf n ks p) s)
    (starts : ∀ (j : Slot) (o : Body), (s.entry n j).body = some o → o.firstStart ≤ o.lastStart) :
    ∃ (j : Slot) (o : Body), (s.entry n j).body = some o ∧ o.cls.layer = l ∧ DueToOpen o p (s.entry n j) := by
  obtain ⟨ys, x, zs, split, kinds, o, ho, layer⟩ := (someOpens_iff ..).mp opens
  rw [State.fired_body] at ho
  have some : ys ⊆ s.boundariesOf n ks p := by
    rw [split]
    exact List.subset_append_left ..
  obtain ⟨mem, due⟩ := State.boundariesOf_own ho x (by rw [split]; simp) rfl
  have moved : (s.entry n x.slot).Progress ((State.fired n f ys s).entry n x.slot) :=
    foldl_keeps (fun u : State => (s.entry n x.slot).Progress (u.entry n x.slot)) _
      (fun u y h => h.trans (u.fireBoundary_progress n f y x.slot)) ys s (.refl _)
  have waited : (s.entry n x.slot).state.waiting := by
    have waits : ((State.fired n f ys s).entry n x.slot).state.waiting := kinds.imp And.right And.right
    by_contra not
    by_cases stood : (s.entry n x.slot).state = .opened
    · exact Standing.begun_not_waiting (moved.ofOpen stood).1 waits
    · exact not (by rwa [moved.rest not stood] at waits)
  refine ⟨x.slot, o, ho, layer, ?_, ?_, starts x.slot o ho⟩
  · rcases waited with pending | armed
    · refine .inl ⟨pending, ?_⟩
      by_contra notDue
      rw [State.event_waits ho (.inl ⟨pending, notDue⟩) some] at kinds
      rcases kinds with ⟨kind, -⟩ | ⟨-, other⟩
      · rw [(Body.stamp_of_finds_pending mem (by rw [kind]; rfl)).1] at due
        exact notDue due
      · exact nomatch pending.symm.trans other
    · refine .inr ⟨armed, ?_⟩
      rcases kinds with ⟨kind, state⟩ | ⟨kind, -⟩
      · by_contra stamp
        have same : (State.fired n f ys s).entry n x.slot = s.entry n x.slot :=
          State.fired_rest (by rw [armed]; decide) fun y hy slot found =>
            stamp (Body.stamp_of_finds_armed (State.boundariesOf_own ho y (some hy) slot).1 (found.symm.trans armed)).2.2
        rw [same] at state
        exact nomatch armed.symm.trans state
      · exact (Body.stamp_of_finds_armed mem (by rw [kind]; rfl)).2.2
  · rcases kinds with ⟨kind, -⟩ | ⟨kind, -⟩
    · obtain ⟨stamp, start⟩ := Body.stamp_of_finds_pending mem (by rw [kind]; rfl)
      have onCue : o.startsOnCue = false := by
        by_contra onCue
        rw [kind, if_pos (Bool.not_eq_false _ ▸ onCue)] at start
        exact nomatch start
      rwa [stamp, ← (o.start_mem x.slot onCue).2] at due
    · rwa [(Body.stamp_of_finds_armed mem (by rw [kind]; rfl)).1] at due

end

end Sys2Proof.Machine

namespace Sys2Proof.Machine

/-! ### The requirement in force after an event (R68) -/

/-- From s to t all that the requirement in force rests on, and it itself, is as it was. -/
structure ForceKept (n : Svc) (s t : State) : Prop where
  sheet : t.sheetOf n = s.sheetOf n
  inner : t.sched[n].openInner = s.sched[n].openInner
  outer : t.sched[n].openOuter = s.sched[n].openOuter
  snapshot : ∀ k : Slot, (t.entry n k).snapshot = (s.entry n k).snapshot
  required : t.caption[n].required = s.caption[n].required
  source : t.caption[n].source = s.caption[n].source

theorem ForceKept.of_same {n : Svc} {s t : State} (sheet : t.sheet = s.sheet) (sched : t.sched = s.sched)
    (caption : t.caption = s.caption) : ForceKept n s t := by
  refine ⟨?_, ?_, ?_, fun k => ?_, ?_, ?_⟩
  · unfold State.sheetOf
    rw [sheet]
  · rw [sched]
  · rw [sched]
  · rw [State.entry_of_sched sched]
  · rw [caption]
  · rw [caption]

theorem ForceKept.trans {n : Svc} {s t u : State} (h : ForceKept n s t) (g : ForceKept n t u) : ForceKept n s u :=
  ⟨g.sheet.trans h.sheet, g.inner.trans h.inner, g.outer.trans h.outer, fun k => (g.snapshot k).trans (h.snapshot k),
    g.required.trans h.required, g.source.trans h.source⟩

theorem InForce.of_kept {n : Svc} {s t : State} (h : InForce n s) (kept : ForceKept n s t) : InForce n t := by
  unfold InForce at *
  simp only [kept.sheet, kept.inner, kept.outer, kept.snapshot, kept.required, kept.source]
  exact h

theorem State.requirement_of_enable {s : State} {n : Svc} :
    ((s.sheetOf n).enable = false → s.requirement n = (false, .unscheduled)) ∧
      ((s.sheetOf n).enable = true →
        (∀ k, s.sched[n].openInner = some k → s.requirement n = (s.segmentRequires n k, .inner)) ∧
        (∀ k, s.sched[n].openInner = none → s.sched[n].openOuter = some k → s.requirement n = (s.segmentRequires n k, .outer)) ∧
        (s.sched[n].openInner = none → s.sched[n].openOuter = none →
          s.requirement n = ((s.sheetOf n).unscheduled, .unscheduled))) := by
  unfold State.requirement
  refine ⟨fun off => by rw [if_neg (by rw [off]; decide)], fun on => ?_⟩
  rw [if_pos on]
  refine ⟨fun k inner => ?_, fun k inner outer => ?_, fun inner outer => ?_⟩
  · rw [inner]
  · rw [inner, outer]
  · rw [inner, outer]

/-- R68: the requirement taken afresh is the one in force. -/
theorem State.refreshRequirement_inForce (s : State) (n : Svc) : InForce n (s.refreshRequirement n) := by
  have sheet : (s.refreshRequirement n).sheetOf n = s.sheetOf n := by simp [State.refreshRequirement, State.sheetOf]
  have sched : (s.refreshRequirement n).sched = s.sched := by simp [State.refreshRequirement]
  have caption : (s.refreshRequirement n).caption[n].required = (s.requirement n).1 ∧
      (s.refreshRequirement n).caption[n].source = (s.requirement n).2 := by
    simp [State.refreshRequirement]
  have entry := State.entry_of_sched sched n
  obtain ⟨off, on⟩ := s.requirement_of_enable (n := n)
  unfold InForce
  rw [sheet, sched, caption.1, caption.2]
  simp only [entry]
  refine ⟨fun h => by rw [off h]; exact ⟨rfl, rfl⟩, fun h => ?_⟩
  obtain ⟨inner, outer, none⟩ := on h
  exact ⟨fun k hk => by rw [inner k hk]; exact ⟨rfl, rfl⟩, fun k hi hk => by rw [outer k hi hk]; exact ⟨rfl, rfl⟩,
    fun hi ho => by rw [none hi ho]; exact ⟨rfl, rfl⟩⟩

theorem State.modEntriesWhere_open (s : State) (n : Svc) (p : Entry → Bool) (f : Entry → Entry) :
    (s.modEntriesWhere n p f).sched[n].openInner = s.sched[n].openInner ∧
      (s.modEntriesWhere n p f).sched[n].openOuter = s.sched[n].openOuter := by
  refine foldl_keeps (fun u : State => u.sched[n].openInner = s.sched[n].openInner ∧
    u.sched[n].openOuter = s.sched[n].openOuter) _ (fun u k h => ?_) allSlots s ⟨rfl, rfl⟩
  split
  · simpa [State.modEntry] using h
  · exact h

theorem State.modEntriesWhere_forceKept (s : State) (n : Svc) (p : Entry → Bool) {f : Entry → Entry}
    (hf : ∀ e : Entry, (f e).snapshot = e.snapshot) : ForceKept n s (s.modEntriesWhere n p f) := by
  obtain ⟨inner, outer⟩ := s.modEntriesWhere_open n p f
  have caption : (s.modEntriesWhere n p f).caption = s.caption := by simp
  refine ⟨by simp [State.sheetOf], inner, outer, fun k => ?_, by rw [caption], by rw [caption]⟩
  rw [State.modEntriesWhere_entry]
  split
  · exact hf _
  · rfl

theorem State.flagOpen_forceKept (s : State) (n : Svc) (f : VerdictFlags) : ForceKept n s (s.flagOpen n f) :=
  s.modEntriesWhere_forceKept n _ fun _ => rfl

theorem State.modTallies_forceKept (s : State) (n : Svc) (f : Tally → Tally) : ForceKept n s (s.modTallies n f) :=
  s.modEntriesWhere_forceKept n _ fun _ => rfl

theorem State.raiseTimeFault_forceKept (s : State) (n : Svc) : ForceKept n s (s.raiseTimeFault n) :=
  (ForceKept.of_same (by simp) (by simp) (by simp)).trans (State.flagOpen_forceKept (s.raise n .timeFault) n _)

theorem State.modFeed_forceKept (s : State) (n : Svc) (f : Feed → Feed) : ForceKept n s (s.modFeed n f) :=
  .of_same rfl rfl rfl

theorem State.judgeRate_forceKept (s : State) (n : Svc) (code : BitVec 16) : ForceKept n s (s.judgeRate n code) := by
  unfold State.judgeRate
  dsimp only
  split
  · exact s.modFeed_forceKept n _
  · split
    · exact (s.modFeed_forceKept n _).trans (State.raiseTimeFault_forceKept _ n)
    · exact s.modFeed_forceKept n _

theorem State.judgeFrame_forceKept (s : State) (n : Svc) : ForceKept n s (s.judgeFrame n) := by
  have judged : ForceKept n s ((s.modCaption n Caption.judge).judgeCaptions n) := by
    have sched : ((s.modCaption n Caption.judge).judgeCaptions n).sched = s.sched := by simp
    have caption : ((s.modCaption n Caption.judge).judgeCaptions n).caption[n] = s.caption[n].judge := by simp
    refine ⟨by simp [State.sheetOf], by rw [sched], by rw [sched], fun k => by rw [State.entry_of_sched sched], ?_, ?_⟩
    · rw [caption, s.caption[n].judge_fields.2.1]
    · rw [caption]
      unfold Caption.judge
      dsimp only
      repeat' split
      all_goals rfl
  exact judged.trans (State.modTallies_forceKept _ n _)

end Sys2Proof.Machine

namespace Sys2Proof.Machine

/-! ### The events that fire boundaries (R7 to R10, R13, R89) -/

/-- What an event makes of an entry besides its boundaries: an OPEN one keeps all but its tally and the flags PAUSED, TIME_FAULT and,
where the event is a flywheel advance, FLYWHEEL; another is as before. -/
def Entry.Retouched (fly : Bool) (e e' : Entry) : Prop :=
  (e.state ≠ .opened → e' = e) ∧
  (e.state = .opened → ∃ tally p tf,
    e' = { e with tally := tally
                  flags := { e.flags with paused := p, timeFault := tf, flywheel := e.flags.flywheel || fly } })

theorem Entry.Retouched.refl (e : Entry) : e.Retouched false e :=
  ⟨fun _ => rfl, fun _ => ⟨e.tally, e.flags.paused, e.flags.timeFault, by simp⟩⟩

theorem Entry.Retouched.state {fly : Bool} {e e' : Entry} (h : e.Retouched fly e') : e'.state = e.state := by
  by_cases ho : e.state = .opened
  · obtain ⟨tally, p, tf, rfl⟩ := h.2 ho
    rfl
  · rw [h.1 ho]

theorem Entry.Retouched.trans {f g : Bool} {e e' e'' : Entry} (h : e.Retouched f e') (h' : e'.Retouched g e'') :
    e.Retouched (f || g) e'' := by
  refine ⟨fun ho => ?_, fun ho => ?_⟩
  · rw [h'.1 (by rwa [h.state]), h.1 ho]
  · obtain ⟨tally', p', tf', later⟩ := h'.2 (h.state.trans ho)
    obtain ⟨tally, p, tf, rfl⟩ := h.2 ho
    exact ⟨tally', p', tf', by rw [later]; simp [Bool.or_assoc]⟩

theorem Entry.Adjusts.retouched {e e' : Entry} (h : e.Adjusts e') : e.Retouched false e' := by
  obtain rfl | ⟨ho, p, q, rfl⟩ := h
  · exact .refl _
  · exact ⟨fun other => absurd ho other, fun _ => ⟨_, q, e.flags.timeFault, by simp [Entry.adjusted]; rfl⟩⟩

/-- The entries of a service retouched. -/
def AllRetouched (n : Svc) (fly : Bool) (s t : State) : Prop := ∀ k : Slot, (s.entry n k).Retouched fly (t.entry n k)

theorem AllRetouched.of_sched {n : Svc} {s t : State} (h : t.sched = s.sched) : AllRetouched n false s t := fun k => by
  rw [State.entry_of_sched h]
  exact .refl _

theorem AllRetouched.trans {n : Svc} {f g : Bool} {s t u : State} (h : AllRetouched n f s t)
    (h' : AllRetouched n g t u) :
    AllRetouched n (f || g) s u := fun k => (h k).trans (h' k)

theorem State.flagOpen_retouched (s : State) (n : Svc) {f : VerdictFlags} (fly : Bool)
    (adds : ∀ g : VerdictFlags, g.union f = { g with timeFault := g.timeFault || f.timeFault, flywheel := g.flywheel || fly }) :
    AllRetouched n fly s (s.flagOpen n f) := fun k => by
  rw [State.flagOpen_entry]
  refine ⟨fun other => if_neg other, fun ho => ?_⟩
  rw [if_pos ho, adds]
  exact ⟨(s.entry n k).tally, (s.entry n k).flags.paused, _, rfl⟩

theorem ofTimeFault_adds (g : VerdictFlags) :
    g.union .ofTimeFault =
      { g with timeFault := g.timeFault || VerdictFlags.ofTimeFault.timeFault, flywheel := g.flywheel || false } := by
  simp [VerdictFlags.union, VerdictFlags.ofTimeFault, VerdictFlags.none]

theorem ofFlywheel_adds (g : VerdictFlags) :
    g.union .ofFlywheel =
      { g with timeFault := g.timeFault || VerdictFlags.ofFlywheel.timeFault, flywheel := g.flywheel || true } := by
  simp [VerdictFlags.union, VerdictFlags.ofFlywheel, VerdictFlags.none]

theorem State.modTallies_retouched (s : State) (n : Svc) (f : Tally → Tally) :
    AllRetouched n false s (s.modTallies n f) := fun k => by
  rw [State.modTallies_entry]
  split
  · next counting =>
    have ho := (Entry.counting_iff _).mp counting
    exact ⟨fun other => absurd ho.1 other, fun _ =>
      ⟨f (s.entry n k).tally, (s.entry n k).flags.paused, (s.entry n k).flags.timeFault, by simp⟩⟩
  · exact .refl _

theorem State.raiseTimeFault_retouched (s : State) (n : Svc) : AllRetouched n false s (s.raiseTimeFault n) :=
  (AllRetouched.of_sched (t := s.raise n .timeFault) (by simp)).trans (State.flagOpen_retouched _ n false ofTimeFault_adds)

theorem State.judgeRate_retouched (s : State) (n : Svc) (code : BitVec 16) :
    AllRetouched n false s (s.judgeRate n code) := by
  unfold State.judgeRate
  dsimp only
  split
  · exact .of_sched rfl
  · split
    · exact (AllRetouched.of_sched (s := s) rfl).trans (State.raiseTimeFault_retouched (s.modFeed n _) n)
    · exact .of_sched rfl

theorem State.judgeFrame_retouched (s : State) (n : Svc) : AllRetouched n false s (s.judgeFrame n) :=
  (AllRetouched.of_sched (t := (s.modCaption n Caption.judge).judgeCaptions n) (by simp)).trans
    (State.modTallies_retouched _ n _)

/-- From s to u an event has done what comes before its boundaries. -/
structure Prepares (n : Svc) (s u : State) : Prop where
  entries : AllRetouched n false s u
  pool : ∀ x : CtxId, u.pool[x] = s.pool[x] ∨ u.pool[x] = s.pool[x].breakRun
  integ : u.integ = s.integ
  recorder : u.recorder = s.recorder
  sheet : u.sheet = s.sheet
  ctl : u.ctl = s.ctl

/-- From v to t an event has done what comes after its boundaries. -/
structure Settles (n : Svc) (fly : Bool) (v t : State) : Prop where
  entries : AllRetouched n fly v t
  pool : t.pool = v.pool
  integ : t.integ = v.integ
  recorder : t.recorder = v.recorder
  force : ForceKept n v t

theorem Prepares.of_same {n : Svc} {s u : State} (sched : u.sched = s.sched) (pool : u.pool = s.pool)
    (integ : u.integ = s.integ)
    (recorder : u.recorder = s.recorder) (sheet : u.sheet = s.sheet) (ctl : u.ctl = s.ctl) : Prepares n s u :=
  ⟨.of_sched sched, fun x => .inl (by rw [pool]), integ, recorder, sheet, ctl⟩

theorem Prepares.then {n : Svc} {s t u : State} (h : Prepares n s t) (entries : AllRetouched n false t u)
    (pool : u.pool = t.pool) (integ : u.integ = t.integ) (recorder : u.recorder = t.recorder) (sheet : u.sheet = t.sheet)
    (ctl : u.ctl = t.ctl) : Prepares n s u :=
  ⟨h.entries.trans entries, fun x => by rw [pool]; exact h.pool x, integ.trans h.integ, recorder.trans h.recorder,
    sheet.trans h.sheet, ctl.trans h.ctl⟩

theorem Prepares.modFeed {n : Svc} {s t : State} (h : Prepares n s t) (f : Feed → Feed) :
    Prepares n s (t.modFeed n f) :=
  h.then (.of_sched rfl) rfl rfl rfl rfl rfl

theorem Settles.trans {n : Svc} {f g : Bool} {s t u : State} (h : Settles n f s t) (h' : Settles n g t u) :
    Settles n (f || g) s u :=
  ⟨h.entries.trans h'.entries, h'.pool.trans h.pool, h'.integ.trans h.integ, h'.recorder.trans h.recorder,
    h.force.trans h'.force⟩

theorem State.modFeed_settles (s : State) (n : Svc) (f : Feed → Feed) : Settles n false s (s.modFeed n f) :=
  ⟨.of_sched rfl, rfl, rfl, rfl, s.modFeed_forceKept n f⟩

theorem State.judgeRate_settles (s : State) (n : Svc) (code : BitVec 16) : Settles n false s (s.judgeRate n code) :=
  ⟨s.judgeRate_retouched n code, by simp, by simp, by simp, s.judgeRate_forceKept n code⟩

theorem State.judgeFrame_settles (s : State) (n : Svc) : Settles n false s (s.judgeFrame n) :=
  ⟨s.judgeFrame_retouched n, by simp, by simp, by simp, s.judgeFrame_forceKept n⟩

/-- From s to t an event fires the boundaries of the slots ks with a stamp for which p holds, with the flags f, at the service time
now; u is the state in which it fires them. -/
structure FiresFrom (n : Svc) (f : Firing) (now : Nat) (ks : List Slot) (p : Nat → Bool) (s u t : State) : Prop where
  prepares : Prepares n s u
  now : u.feed[n].time = now
  settles : Settles n f.flywheel ((State.fired n f (u.boundariesOf n ks p) u).refreshRequirement n) t

theorem FiresFrom.settle {n : Svc} {f : Firing} {now : Nat} {ks : List Slot} {p : Nat → Bool} {s u t t' : State}
    (h : FiresFrom n f now ks p s u t) (g : Settles n false t t') : FiresFrom n f now ks p s u t' :=
  ⟨h.prepares, h.now, by simpa using h.settles.trans g⟩

theorem Settles.refl (n : Svc) (s : State) : Settles n false s s := ⟨.of_sched rfl, rfl, rfl, rfl, .of_same rfl rfl rfl⟩

/-- The stamps that an advance from t0 to t1 makes due. -/
def passes (t0 t1 : Nat) (u : Nat) : Bool := decide (t0 < u) && decide (u ≤ t1)

theorem Prepares.advanceTo {n : Svc} {s u : State} (h : Prepares n s u) (c : FireCause)
    (fly : c.firing.flywheel = false) (t : Nat) :
    FiresFrom n c.firing t allSlots (passes u.feed[n].time t) s (u.modFeed n fun f => { f with time := t }) (u.advanceTo n c t) := by
  refine ⟨h.modFeed _, by simp, ?_⟩
  rw [fly]
  exact .refl n _

theorem State.leaveFlywheel_prepares (s : State) (n : Svc) : Prepares n s (s.leaveFlywheel n) := by
  refine ⟨.of_sched (by simp), fun x => ?_, by simp, by simp, by simp, by simp⟩
  by_cases fly : s.feed[n].lock = .flywheel
  · rw [State.leaveFlywheel_pool s n fly]
    split
    · exact .inr rfl
    · exact .inl rfl
  · rw [State.leaveFlywheel, if_neg fly]
    exact .inl rfl

theorem State.leaveFlywheel_time (s : State) (n : Svc) : (s.leaveFlywheel n).feed[n].time = s.feed[n].time := by
  have left : (s.leaveFlywheel n).feed[n] = _ := s.leaveFlywheel_feed_own n
  rw [left]
  split <;> rfl

theorem Prepares.raiseTimeFault {n : Svc} {s u : State} (h : Prepares n s u) : Prepares n s (u.raiseTimeFault n) :=
  h.then (u.raiseTimeFault_retouched n) (by simp) (by simp) (by simp) (by simp) (by simp)

/-- R8, R9: a stamp later than the service time fires the boundaries that it passes. -/
theorem Prepares.judgeStamp {n : Svc} {s u : State} (h : Prepares n s u) {t : Nat} (later : u.feed[n].time < t) :
    ∃ v, FiresFrom n ⟨decide (t ≠ u.feed[n].time + 1), false, false⟩ t allSlots (passes u.feed[n].time t) s v (u.judgeStamp n t) := by
  unfold State.judgeStamp
  dsimp only
  by_cases step : t = u.feed[n].time + 1
  · have time : (u.modFeed n fun f => { f with lock := .locked }).feed[n].time = u.feed[n].time := by simp
    have fires := (h.modFeed fun f => { f with lock := .locked }).advanceTo .step rfl t
    rw [time] at fires
    rw [if_pos step, show decide (t ≠ u.feed[n].time + 1) = false from decide_eq_false fun ne => ne step]
    exact ⟨_, fires⟩
  · have time : ((u.modFeed n fun f => { f with lock := .locked }).raiseTimeFault n).feed[n].time = u.feed[n].time := by simp
    have fires := (h.modFeed fun f => { f with lock := .locked }).raiseTimeFault.advanceTo .jump rfl t
    rw [time] at fires
    rw [if_neg step, if_pos (by omega), show decide (t ≠ u.feed[n].time + 1) = true from decide_eq_true step]
    exact ⟨_, fires⟩

theorem State.lineUp_prepares (s : State) (n : Svc) : Prepares n s (s.lineUp n) := .of_same rfl rfl rfl rfl rfl rfl

/-- What a FRAME does after its stamp. -/
theorem FiresFrom.frame {n : Svc} {f : Firing} {now t : Nat} {ks : List Slot} {p : Nat → Bool} {s u : State}
    {code : BitVec 16}
    (h : FiresFrom n f now ks p s u ((s.lineUp n).applyStamp n t)) : FiresFrom n f now ks p s u (s.takeFrame n t code) := by
  rw [State.takeFrame_eq]
  exact ((h.settle (State.judgeRate_settles _ n code)).settle (State.modFeed_settles _ n _)).settle (State.judgeFrame_settles _ n)

/-- R8, R9, R13: a FRAME with a later stamp outside SEEKING. -/
theorem State.takeFrame_fires {s : State} {n : Svc} (timed : s.feed[n].lock ≠ .seeking) {t : Nat}
    (later : s.feed[n].time < t)
    (code : BitVec 16) :
    ∃ v, FiresFrom n ⟨decide (t ≠ s.feed[n].time + 1), false, false⟩ t allSlots (passes s.feed[n].time t) s v
      (s.takeFrame n t code) := by
  have lined : (s.lineUp n).feed[n] = { s.feed[n] with lineDown := false } := by simp [State.lineUp]
  have judged : ∀ u, Prepares n s u → u.feed[n].time = s.feed[n].time →
      (s.lineUp n).applyStamp n t = (u.judgeStamp n t).reloadLoss n →
      ∃ v, FiresFrom n ⟨decide (t ≠ s.feed[n].time + 1), false, false⟩ t allSlots (passes s.feed[n].time t) s v
        (s.takeFrame n t code) := fun u prepares time stamped => by
    obtain ⟨v, fires⟩ := prepares.judgeStamp (t := t) (by rw [time]; exact later)
    rw [time] at fires
    refine ⟨v, FiresFrom.frame ?_⟩
    rw [stamped]
    exact fires.settle (State.modFeed_settles _ n _)
  cases lock : s.feed[n].lock with
  | seeking => exact absurd lock timed
  | locked | held =>
    refine judged (s.lineUp n) (s.lineUp_prepares n) (by rw [lined]) ?_
    unfold State.applyStamp
    rw [lined, lock]
  | flywheel =>
    have left : ((s.lineUp n).leaveFlywheel n).feed[n].time = (s.lineUp n).feed[n].time :=
      (s.lineUp n).leaveFlywheel_time n
    obtain ⟨entries, pool, integ, recorder, sheet, ctl⟩ := (s.lineUp n).leaveFlywheel_prepares n
    exact judged _ ⟨entries, pool, integ, recorder, sheet, ctl⟩ (by rw [left, lined]) (State.applyStamp_flywheel lock t)

/-- The slots whose dockets wait for their start. -/
def State.waitingSlots (s : State) (n : Svc) : List Slot :=
  allSlots.filter fun k => decide ((s.entry n k).state = .pending) || decide ((s.entry n k).state = .armed)

/-- R7, R89: a FRAME that seeds the service time. -/
theorem State.takeFrame_seeds {s : State} {n : Svc} (seeking : s.feed[n].lock = .seeking)
    (enabled : (s.sheetOf n).enable = true)
    (t : Nat) (code : BitVec 16) :
    ∃ v, FiresFrom n ⟨true, false, false⟩ t (s.waitingSlots n) (fun u => decide (u ≤ t)) s v (s.takeFrame n t code) := by
  have lined : (s.lineUp n).feed[n].lock = .seeking := by simpa [State.lineUp] using seeking
  have seeded : (s.lineUp n).applyStamp n t = ((s.lineUp n).seedTime n t).reloadLoss n := by
    unfold State.applyStamp
    rw [lined]
    exact if_pos enabled
  refine ⟨(s.lineUp n).modFeed n fun f => { f with lock := .locked, time := t }, FiresFrom.frame ?_⟩
  rw [seeded]
  refine FiresFrom.settle ⟨(s.lineUp_prepares n).modFeed _, by simp, .refl n _⟩ (State.modFeed_settles _ n _)

/-- R13: a flywheel advance. -/
theorem State.flyAdvance_fires {s : State} {n : Svc} (room : s.feed[n].time < Config.timeMax) :
    ∃ v, FiresFrom n ⟨false, false, true⟩ (s.feed[n].time + 1) allSlots (passes s.feed[n].time (s.feed[n].time + 1)) s v
      (s.flyAdvance n) := by
  have prepares : Prepares n s (s.modFeed n fun f => { f with advances := f.advances + 1 }) :=
    .of_same rfl rfl rfl rfl rfl rfl
  have time : (s.modFeed n fun f => { f with advances := f.advances + 1 }).feed[n].time = s.feed[n].time := by simp
  unfold State.flyAdvance
  rw [if_pos room]
  dsimp only
  rw [time]
  refine ⟨_, prepares.modFeed fun f => { f with time := s.feed[n].time + 1 }, by simp, ?_⟩
  have flagged : ∀ u : State, Settles n true u ((u.flagOpen n .ofFlywheel).modTallies n Tally.advanced) := fun u =>
    ⟨(u.flagOpen_retouched n true ofFlywheel_adds).trans (State.modTallies_retouched _ n _), by simp, by simp, by simp,
      (u.flagOpen_forceKept n _).trans (State.modTallies_forceKept _ n _)⟩
  have advanced :=
    flagged ((s.modFeed n fun f => { f with advances := f.advances + 1 }).advanceTo n .flywheel (s.feed[n].time + 1))
  have fired : (s.modFeed n fun f => { f with advances := f.advances + 1 }).advanceTo n .flywheel (s.feed[n].time + 1) =
      (State.fired n ⟨false, false, true⟩ ((((s.modFeed n fun f => { f with advances := f.advances + 1 }).modFeed n
        fun f => { f with time := s.feed[n].time + 1 })).boundariesOf n allSlots (passes s.feed[n].time (s.feed[n].time + 1)))
        ((s.modFeed n fun f => { f with advances := f.advances + 1 }).modFeed n
          fun f => { f with time := s.feed[n].time + 1 })).refreshRequirement n := by
    unfold State.advanceTo State.advanceBoundaries
    dsimp only
    rw [time]
    rfl
  rw [← fired]
  exact advanced

end Sys2Proof.Machine

namespace Sys2Proof.Machine

/-! ### What an event leaves of a docket (R77, R87, R91, R96) -/

theorem Body.startsOnCue_iff (b : Body) : b.startsOnCue = true ↔ ∃ id first last, b.start = .onCue id first last := by
  unfold Body.startsOnCue
  cases b.start <;> simp

theorem Body.endsOnCue_iff (b : Body) : b.endsOnCue = true ↔ ∃ id cap, b.finish = .onCue id cap := by
  unfold Body.endsOnCue
  cases b.finish <;> simp

/-- The writes of an arming, where there is one. -/
def Entry.armWrites (b : Body) (e : Entry) : List SlotContent :=
  if e.state = .pending ∧ b.startsOnCue = true then [.standing .armed e.posting] else []

theorem Entry.arming_hands (carries : Bool) (e : Entry) :
    e.Hands carries [.standing .armed e.posting] (e.arming carries) :=
  .trans (vs := []) (e' := { e with state := .armed }) (.of_same carries rfl rfl rfl) (Entry.hand_hands ..)

theorem Entry.readied_fields (carries : Bool) (b : Body) (e : Entry) :
    (e.readied carries b).flags = e.flags ∧ (e.readied carries b).posting = e.posting ∧
      e.Hands carries (e.armWrites b) (e.readied carries b) := by
  unfold Entry.readied Entry.armWrites
  split
  · exact ⟨by simp [Entry.arming], by simp [Entry.arming], e.arming_hands carries⟩
  · exact ⟨rfl, rfl, .of_same carries rfl rfl rfl⟩

/-- What a docket holds once it has opened. -/
structure Entry.Began (carries : Bool) (now : Nat) (b : Body) (f : Firing) (e o : Entry) : Prop where
  state : o.state = .opened
  openStamp : o.openStamp = some now
  late : o.flags.late = true ↔ e.flags.late = true ∨ f.late = true
  flywheel : o.flags.flywheel = true ↔ e.flags.flywheel = true ∨ f.flywheel = true
  cueMissed : o.flags.cueMissed = true ↔ e.flags.cueMissed = true ∨ b.startsOnCue = true
  hands : e.Hands carries [.standing .opened e.posting] o

theorem Entry.OpensWith.began {carries : Bool} {now : Nat} {b : Body} {f : Firing} {e o : Entry}
    (h : e.OpensWith carries now b f o) : e.Began carries now b f o := by
  obtain ⟨sn, ctx, paused, rfl⟩ := h
  have flags : ((e.opening sn ctx paused (f.opening b) now).flags.late = (e.flags.late || f.late)) ∧
      ((e.opening sn ctx paused (f.opening b) now).flags.flywheel = (e.flags.flywheel || f.flywheel)) ∧
      ((e.opening sn ctx paused (f.opening b) now).flags.cueMissed = (e.flags.cueMissed || b.startsOnCue)) := by
    cases ctx <;> cases paused <;>
      simp [Entry.opening, Firing.opening, Firing.flags, VerdictFlags.union, VerdictFlags.ofNoMeter, VerdictFlags.ofPaused,
        VerdictFlags.none]
  obtain ⟨late, flywheel, cueMissed⟩ := flags
  refine ⟨by simp [Entry.opening], by simp [Entry.opening], ?_, ?_, ?_, ?_⟩
  · rw [Entry.hand_flags, late, Bool.or_eq_true]
  · rw [Entry.hand_flags, flywheel, Bool.or_eq_true]
  · rw [Entry.hand_flags, cueMissed, Bool.or_eq_true]
  · exact .trans (vs := []) (e' := e.opening sn ctx paused (f.opening b) now) (.of_same carries rfl rfl rfl) (Entry.hand_hands ..)

/-- What a docket that stays OPEN holds. -/
structure Entry.Stayed (carries : Bool) (f : Firing) (e e' : Entry) : Prop where
  state : e'.state = .opened
  openStamp : e'.openStamp = e.openStamp
  late : e'.flags.late = e.flags.late
  cueMissed : e'.flags.cueMissed = e.flags.cueMissed
  flywheel : e'.flags.flywheel = true ↔ e.flags.flywheel = true ∨ f.flywheel = true
  hands : e.Hands carries [] e'

theorem Entry.Retouched.stayed {f : Firing} {e e' : Entry} (h : e.Retouched f.flywheel e') (ho : e.state = .opened)
    (carries : Bool) : e.Stayed carries f e' := by
  obtain ⟨tally, p, tf, rfl⟩ := h.2 ho
  exact ⟨ho, rfl, rfl, rfl, by simp, .of_same carries rfl rfl rfl⟩

/-- What a docket holds that has closed. -/
structure Entry.Ended (carries : Bool) (now : Nat) (b : Body) (f : Firing) (e e' : Entry) : Prop where
  state : e'.state = .closing ∨ e'.state = .closed
  closeStamp : e'.closeStamp = some now
  openStamp : e'.openStamp = e.openStamp
  context : e'.context = e.context
  late : e'.flags.late = true ↔ e.flags.late = true ∨ f.late = true
  flywheel : e'.flags.flywheel = true ↔ e.flags.flywheel = true ∨ f.flywheel = true
  cueMissed : e'.flags.cueMissed = true ↔ e.flags.cueMissed = true ∨ b.endsOnCue = true
  hands : e.Hands carries e'.closeWrites e'

theorem Entry.Retouched.ended {e a : Entry} (h : e.Retouched false a) (ho : e.state = .opened) (carries : Bool)
    (now : Nat)
    (b : Body) (f : Firing) : e.Ended carries now b f (a.closedAt carries now (f.closing b).flags) := by
  obtain ⟨tally, p, tf, touched⟩ := h.2 ho
  obtain ⟨-, -, -, context, openStamp, closeStamp, flags⟩ := a.closedAt_fields carries now (f.closing b).flags
  have kept : e.Hands carries [] a := by
    rw [touched]
    exact .of_same carries rfl rfl rfl
  refine ⟨a.closedAt_state .., closeStamp, ?_, ?_, ?_, ?_, ?_, kept.trans (a.closedAt_hands carries now _)⟩
  · rw [openStamp, touched]
  · rw [context, touched]
  all_goals rw [flags, touched]; simp [VerdictFlags.union, Firing.flags, Firing.closing]

/-! ### An event, docket by docket -/

section
variable {n : Svc} {f : Firing} {now : Nat} {ks : List Slot} {p : Nat → Bool} {s u t : State} {k : Slot} {b : Body}

/-- The state in which an event has fired its boundaries. -/
def State.afterBoundaries (n : Svc) (f : Firing) (ks : List Slot) (p : Nat → Bool) (u : State) : State :=
  State.fired n f (u.boundariesOf n ks p) u

theorem FiresFrom.carries (h : FiresFrom n f now ks p s u t) : u.carries = s.carries := by
  unfold State.carries
  rw [h.prepares.ctl]

theorem FiresFrom.start (h : FiresFrom n f now ks p s u t) (ho : (s.entry n k).state ≠ .opened) :
    u.entry n k = s.entry n k :=
  (h.prepares.entries k).1 ho

theorem Entry.Retouched.body {fly : Bool} {e e' : Entry} (h : e.Retouched fly e') : e'.body = e.body := by
  by_cases ho : e.state = .opened
  · obtain ⟨tally, q, tf, rfl⟩ := h.2 ho
    rfl
  · rw [h.1 ho]

theorem FiresFrom.body (h : FiresFrom n f now ks p s u t) (k : Slot) : (u.entry n k).body = (s.entry n k).body :=
  (h.prepares.entries k).body

theorem FiresFrom.finish (h : FiresFrom n f now ks p s u t) (k : Slot) :
    ((State.afterBoundaries n f ks p u).entry n k).Retouched f.flywheel (t.entry n k) := by
  have refreshed : ∀ v : State, (v.refreshRequirement n).entry n k = v.entry n k :=
    fun v => State.entry_of_sched (by simp) n k
  have settled := h.settles.entries k
  rwa [refreshed] at settled

theorem FiresFrom.closed (h : FiresFrom n f now ks p s u t) {v : State}
    (closes : ClosesWith n k b f v (State.afterBoundaries n f ks p u))
    (carries : v.carries = s.carries) (time : v.feed[n].time = now) (ho : (v.entry n k).state = .opened) :
    (v.entry n k).Ended s.carries now b f (t.entry n k) := by
  obtain ⟨a, adjusts, ha⟩ := closes.entry
  rw [carries, time] at ha
  rw [(h.finish k).1 (by rcases closes.state with same | same <;> rw [same] <;> decide), ha]
  exact adjusts.retouched.ended ho _ _ _ _

theorem FiresFrom.stays (h : FiresFrom n f now ks p s u t) {e : Entry} (ho : e.state = .opened)
    (adjusts : e.Retouched false ((State.afterBoundaries n f ks p u).entry n k)) : e.Stayed s.carries f (t.entry n k) := by
  have touched := adjusts.trans (h.finish k)
  rw [Bool.false_or] at touched
  exact touched.stayed ho _

theorem FiresFrom.logs (h : FiresFrom n f now ks p s u t) :
    t.integ = (State.afterBoundaries n f ks p u).integ ∧ t.recorder = (State.afterBoundaries n f ks p u).recorder ∧
      t.pool = (State.afterBoundaries n f ks p u).pool := by
  refine ⟨h.settles.integ.trans ?_, h.settles.recorder.trans ?_, h.settles.pool.trans ?_⟩
  · simp [State.afterBoundaries]
  · simp [State.afterBoundaries]
  · simp [State.afterBoundaries]

theorem Prepares.context (h : Prepares n s u) (x : CtxId) :
    u.pool[x].state = s.pool[x].state ∧ u.pool[x].owner = s.pool[x].owner ∧ u.pool[x].histogram = s.pool[x].histogram ∧
      u.pool[x].momentary = s.pool[x].momentary := by
  rcases h.pool x with same | broken
  · rw [same]
    exact ⟨rfl, rfl, rfl, rfl⟩
  · rw [broken]
    unfold Context.breakRun
    split <;> exact ⟨rfl, rfl, rfl, rfl⟩

theorem Entry.Retouched.docket {fly : Bool} {e e' : Entry} (h : e.Retouched fly e') :
    e'.context = e.context ∧ e'.posting = e.posting ∧ e'.units = e.units := by
  by_cases ho : e.state = .opened
  · obtain ⟨tally, q, tf, rfl⟩ := h.2 ho
    exact ⟨rfl, rfl, rfl⟩
  · rw [h.1 ho]
    exact ⟨rfl, rfl, rfl⟩

theorem Prepares.openOwn (h : Prepares n s u) (own : OpenOwn n s) : OpenOwn n u := by
  intro k x ho hx
  obtain ⟨context, posting, -⟩ := (h.entries k).docket
  rw [(h.entries k).state] at ho
  rw [context] at hx
  obtain ⟨state, owner, -, -⟩ := h.context x
  unfold Context.running
  rw [state, owner, posting]
  exact own k x ho hx

theorem Context.Moves.counts {x y : Context} (h : x.Moves y) (taken : x.state ≠ .free) :
    y.histogram = x.histogram ∧ y.momentary = x.momentary := by
  rcases h taken with rfl | ⟨-, st, fig, -, rfl⟩ <;> exact ⟨rfl, rfl⟩

/-- R53, R150: the segment of an OPEN docket that an event closes has ended. -/
theorem FiresFrom.segmentEnds (h : FiresFrom n f now ks p s u t)
    (ended : SegmentEnded n k b u (State.afterBoundaries n f ks p u)) : SegmentEnds n k b (s.sheetOf n) s t := by
  obtain ⟨integ, recorder, pool⟩ := h.logs
  obtain ⟨context, -, units⟩ := (h.prepares.entries k).docket
  have sheet : u.sheetOf n = s.sheetOf n := by
    unfold State.sheetOf
    rw [h.prepares.sheet]
  refine ⟨fun x hx running => ?_, fun last hl => ?_⟩
  · obtain ⟨closing, figures, q, joined⟩ := ended.context x (context.trans hx)
    obtain ⟨r, hr⟩ := joined
    obtain ⟨state, -, histogram, momentary⟩ := h.prepares.context x
    have moves : u.pool[x].Moves (State.afterBoundaries n f ks p u).pool[x] := (State.fired_onward n f _ u).moves x
    obtain ⟨histogram', momentary'⟩ := moves.counts (by rw [state]; rcases running with h | h <;> rw [h] <;> decide)
    have queue : t.integ.queue = s.integ.queue ++ (q ++ x :: r) := by
      rw [integ, ← hr, h.prepares.integ]
      simp
    rw [pool, queue]
    exact ⟨closing, by simp, by simp, by rw [figures, sheet], histogram'.trans histogram, momentary'.trans momentary⟩
  · have taken := ended.mark last (by rw [units]; exact hl)
    unfold MarkTaken at taken
    rwa [h.prepares.recorder, ← recorder] at taken

end

end Sys2Proof.Machine

namespace Sys2Proof.Machine

/-- What a docket holds whose last start was due in an event: it has opened, and ended where e' is not OPEN. -/
structure Entry.Opened (carries : Bool) (now : Nat) (b : Body) (f : Firing) (due : Prop) (e e' : Entry) : Prop where
  openStamp : e'.openStamp = some now
  late : e'.flags.late = true ↔ e.flags.late = true ∨ f.late = true
  flywheel : e'.flags.flywheel = true ↔ e.flags.flywheel = true ∨ f.flywheel = true
  cueMissed : e'.flags.cueMissed = true ↔ e.flags.cueMissed = true ∨ b.startsOnCue = true ∨ due ∧ b.endsOnCue = true
  hands : e.Hands carries
    (e.armWrites b ++ [.standing .opened e.posting] ++ if e'.state = .opened then [] else e'.closeWrites) e'

section
variable {carries : Bool} {now : Nat} {b : Body} {f : Firing} {due : Prop} {e o e' : Entry}

theorem Entry.OpensWith.thenEnded (h : (e.readied carries b).OpensWith carries now b f o)
    (g : o.Ended carries now b f e')
    (ends : due ∨ b.isOnNext = true) : e.Opened carries now b f due e' := by
  obtain ⟨flags, posting, armed⟩ := e.readied_fields carries b
  have began := h.began
  have closed : e'.state ≠ .opened := by rcases g.state with same | same <;> rw [same] <;> decide
  have cued : due ∧ b.endsOnCue = true ↔ b.endsOnCue = true :=
    and_iff_right_of_imp fun cue => ends.resolve_right fun next => by
      rw [Body.endsOnCue_of_isOnNext next] at cue
      exact nomatch cue
  have opened := began.hands
  rw [posting] at opened
  refine ⟨g.openStamp.trans began.openStamp, ?_, ?_, ?_, ?_⟩
  · rw [g.late, began.late, flags, or_assoc, or_self]
  · rw [g.flywheel, began.flywheel, flags, or_assoc, or_self]
  · rw [g.cueMissed, began.cueMissed, flags, cued, or_assoc]
  · rw [if_neg closed]
    exact (armed.trans opened).trans g.hands

theorem Entry.OpensWith.thenStayed (h : (e.readied carries b).OpensWith carries now b f o) (g : o.Stayed carries f e')
    (notDue : ¬ due) : e.Opened carries now b f due e' := by
  obtain ⟨flags, posting, armed⟩ := e.readied_fields carries b
  have began := h.began
  have opened := began.hands
  rw [posting] at opened
  refine ⟨g.openStamp.trans began.openStamp, ?_, ?_, ?_, ?_⟩
  · rw [g.late, began.late, flags]
  · rw [g.flywheel, began.flywheel, flags, or_assoc, or_self]
  · rw [g.cueMissed, began.cueMissed, flags]
    simp [notDue]
  · rw [if_pos g.state]
    exact (armed.trans opened).trans g.hands

end

section
variable {n : Svc} {f : Firing} {now : Nat} {ks : List Slot} {p : Nat → Bool} {s u t : State} {k : Slot} {b : Body}

theorem FiresFrom.waits (h : FiresFrom n f now ks p s u t) (hb : (s.entry n k).body = some b)
    (waits : (s.entry n k).state = .pending ∧ ¬ p b.firstStart = true ∨ (s.entry n k).state = .armed ∧ ¬ p b.lastStart = true) :
    t.entry n k = s.entry n k := by
  have ho : (s.entry n k).state ≠ .opened := by rcases waits with ⟨state, -⟩ | ⟨state, -⟩ <;> rw [state] <;> decide
  have fired : (State.afterBoundaries n f ks p u).entry n k = s.entry n k := by
    rw [← h.start ho] at waits
    exact (State.event_waits ((h.body k).trans hb) waits (List.Subset.refl _)).trans (h.start ho)
  rw [(h.finish k).1 (by rw [fired]; exact ho), fired]

theorem FiresFrom.arms (h : FiresFrom n f now ks p s u t) (hb : (s.entry n k).body = some b) (hk : k ∈ ks)
    (distinct : ks.Nodup)
    (pending : (s.entry n k).state = .pending) (first : p b.firstStart = true) (last : ¬ p b.lastStart = true) :
    t.entry n k = (s.entry n k).arming s.carries := by
  have start := h.start (k := k) (by rw [pending]; decide)
  have fired : (State.afterBoundaries n f ks p u).entry n k = (s.entry n k).arming s.carries := by
    have arms := State.event_arms (f := f) ((h.body k).trans hb) hk distinct (by rw [start]; exact pending) first last
    rwa [start, h.carries] at arms
  rw [(h.finish k).1 (by rw [fired]; simp [Entry.arming]), fired]

theorem DueToOpen.of_state {e e' : Entry} (h : DueToOpen b p e) (same : e'.state = e.state) : DueToOpen b p e' :=
  ⟨by rw [same]; exact h.waits, h.last, h.starts⟩

/-- R87, R91: what an event leaves of a docket whose last start is due. -/
theorem FiresFrom.opens (h : FiresFrom n f now ks p s u t) (hb : (s.entry n k).body = some b) (hk : k ∈ ks)
    (distinct : ks.Nodup)
    (due : DueToOpen b p (s.entry n k)) (plain : f.cueMissed = false) (ends : b.lastStart < b.endStamp) :
    (s.entry n k).Opened s.carries now b f (p b.endStamp = true) (t.entry n k) ∧
      (p b.endStamp = true →
        ((t.entry n k).state = .closing ∨ (t.entry n k).state = .closed) ∧ (t.entry n k).closeStamp = some now ∧
        (OpenOwn n s → ∀ x : CtxId, (t.entry n k).context = some x →
          t.pool[x].state = .closing ∧ x ∈ t.integ.queue ∧ t.pool[x].figures = some ((s.sheetOf n).closeFigures b.cls))) ∧
      (¬ p b.endStamp = true → b.isOnNext = false → (t.entry n k).state = .opened) := by
  have start := h.start (k := k) (by rcases due.waits with ⟨state, -⟩ | ⟨state, -⟩ <;> rw [state] <;> decide)
  obtain ⟨v, onward, opened, closes, stays⟩ := State.event_opens (f := f) ((h.body k).trans hb) hk distinct
    (due.of_state (by rw [start])) plain ends
  rw [start, h.carries, h.now] at opened
  have state : (v.entry n k).state = .opened := opened.opened.1
  have ended := fun closed : ClosesWith n k b f v (State.afterBoundaries n f ks p u) =>
    h.closed closed (onward.carries.trans h.carries) (by rw [onward.feed]; exact h.now) state
  by_cases dueEnd : p b.endStamp = true
  · have last := ended (closes dueEnd)
    refine ⟨opened.thenEnded last (.inl dueEnd), fun _ => ⟨last.state, last.closeStamp, fun own x hx => ?_⟩, fun notDue => absurd dueEnd notDue⟩
    obtain ⟨integ, -, pool⟩ := h.logs
    have sheet : v.sheetOf n = s.sheetOf n := by
      rw [onward.sheetOf, State.sheetOf, h.prepares.sheet]
      rfl
    rw [last.context] at hx
    obtain ⟨closing, figures, q, joined⟩ := ((closes dueEnd).ended (onward.own (h.prepares.openOwn own))).context x hx
    rw [sheet] at figures
    rw [pool, integ]
    exact ⟨closing, joined.subset (by simp), figures⟩
  · have outcome := stays dueEnd
    refine ⟨?_, fun due => absurd due dueEnd, fun _ notNext => ?_⟩
    · rcases outcome with ⟨next, closed⟩ | adjusts
      · exact opened.thenEnded (ended closed) (.inr next)
      · exact opened.thenStayed (h.stays state adjusts.retouched) dueEnd
    · have adjusts := outcome.resolve_left fun closed => by rw [notNext] at closed; exact nomatch closed.1
      exact (h.stays state adjusts.retouched).state

theorem Entry.Retouched.thenEnded {carries : Bool} {e o e' : Entry} (h : e.Retouched false o) (ho : e.state = .opened)
    (g : o.Ended carries now b f e') : e.Ended carries now b f e' := by
  obtain ⟨tally, q, tf, rfl⟩ := h.2 ho
  have kept : e.Hands carries [] { e with
      tally := tally, flags := { e.flags with paused := q, timeFault := tf, flywheel := e.flags.flywheel || false } } :=
    .of_same carries rfl rfl rfl
  refine ⟨g.state, g.closeStamp, g.openStamp, g.context, g.late, ?_, g.cueMissed, kept.trans g.hands⟩
  rw [g.flywheel, Bool.or_false]

/-- R96: what an event leaves of an OPEN docket that it closes. -/
theorem FiresFrom.ends (h : FiresFrom n f now ks p s u t) (ho : (s.entry n k).state = .opened)
    (closes : ClosesWith n k b f u (State.afterBoundaries n f ks p u)) :
    (s.entry n k).Ended s.carries now b f (t.entry n k) ∧ (OpenOwn n s → SegmentEnds n k b (s.sheetOf n) s t) :=
  ⟨(h.prepares.entries k).thenEnded ho
      (h.closed closes h.carries h.now ((h.prepares.entries k).state.trans ho)),
    fun own => h.segmentEnds (closes.ended (h.prepares.openOwn own))⟩

/-- R97: in an event that fires the stamps of p, some docket of a layer opens. -/
def OpensSome (n : Svc) (l : Layer) (p : Nat → Bool) (s : State) : Prop :=
  ∃ (j : Slot) (o : Body), (s.entry n j).body = some o ∧ o.cls.layer = l ∧ DueToOpen o p (s.entry n j)

theorem FiresFrom.openDue (h : FiresFrom n f now ks p s u t) (hb : (s.entry n k).body = some b) (hk : k ∈ ks)
    (distinct : ks.Nodup)
    (plain : f.cueMissed = false) (ho : (s.entry n k).state = .opened) (due : p b.endStamp = true) :
    (s.entry n k).Ended s.carries now b f (t.entry n k) ∧ (OpenOwn n s → SegmentEnds n k b (s.sheetOf n) s t) :=
  h.ends ho (State.event_ends ((h.body k).trans hb) hk distinct ((h.prepares.entries k).state.trans ho) plain due)

/-- R97: an OPEN docket that ends ON_NEXT and whose cap is not due ends where one of its layer opens. -/
theorem FiresFrom.openNext (h : FiresFrom n f now ks p s u t) (hb : (s.entry n k).body = some b) (distinct : ks.Nodup)
    (waiting : ∀ j : Slot, (s.entry n j).state.waiting → j ∈ ks) (ho : (s.entry n k).state = .opened)
    (notDue : ¬ p b.endStamp = true) (next : b.isOnNext = true) (opens : OpensSome n b.cls.layer p s) :
    (s.entry n k).Ended s.carries now b f (t.entry n k) ∧ (OpenOwn n s → SegmentEnds n k b (s.sheetOf n) s t) := by
  obtain ⟨j, o, hj, layer, due⟩ := opens
  have some :=
    State.someOpens_of_due (f := f) ((h.body j).trans hj) (waiting j (due.waits.imp And.left And.left)) distinct
    (due.of_state (h.prepares.entries j).state)
  rw [layer] at some
  exact h.ends ho ((State.event_open ((h.body k).trans hb) ((h.prepares.entries k).state.trans ho) notDue).1 ⟨next, some⟩)

/-- An OPEN docket stays so whose end is not due, unless it ends ON_NEXT and one of its layer opens. -/
theorem FiresFrom.openStays (h : FiresFrom n f now ks p s u t) (hb : (s.entry n k).body = some b)
    (ho : (s.entry n k).state = .opened) (notDue : ¬ p b.endStamp = true)
    (never : b.isOnNext = true → (∀ (j : Slot) (o : Body), (s.entry n j).body = some o → o.firstStart ≤ o.lastStart) ∧
      ¬ OpensSome n b.cls.layer p s) :
    (s.entry n k).Stayed s.carries f (t.entry n k) := by
  have state := (h.prepares.entries k).state.trans ho
  have bodies : ∀ (j : Slot) (o : Body), (u.entry n j).body = some o → (s.entry n j).body = some o :=
    fun j o hj => (h.body j).symm.trans hj
  have adjusts := (State.event_open (f := f) (ks := ks) ((h.body k).trans hb) state notDue).2 fun both => by
    obtain ⟨starts, none⟩ := never both.1
    obtain ⟨j, o, hj, layer, due⟩ := State.due_of_someOpens both.2 fun j o hj => starts j o (bodies j o hj)
    exact none ⟨j, o, bodies j o hj, layer, due.of_state (h.prepares.entries j).state.symm⟩
  exact h.stays ho ((h.prepares.entries k).trans adjusts.retouched)

end

end Sys2Proof.Machine

namespace Sys2Proof.Machine

/-! ### O13 -/

/-- The event of a command on a service's time fires the boundaries that are due for it. -/
structure EventFires (n : Svc) (due : Nat → Prop) (now : Nat) (f : Firing) (ks : List Slot) (p : Nat → Bool) (s u t : State) :
    Prop where
  fires : FiresFrom n f now ks p s u t
  stamps : ∀ x, p x = true ↔ due x
  distinct : ks.Nodup
  waiting : ∀ k : Slot, (s.entry n k).state.waiting → k ∈ ks
  every : s.feed[n].lock ≠ .seeking → ∀ k : Slot, k ∈ ks
  plain : f.cueMissed = false
  time : t.feed[n].time = now

theorem passes_iff (t0 t1 u : Nat) : passes t0 t1 u = true ↔ t0 < u ∧ u ≤ t1 := by
  simp [passes]

theorem State.takeFrame_time {s : State} {n : Svc} (timed : s.feed[n].lock ≠ .seeking) {t : Nat}
    (later : s.feed[n].time < t)
    (code : BitVec 16) : (s.takeFrame n t code).feed[n].time = t := by
  have feed : (s.takeFrame n t code).feed[n] = _ := s.takeFrame_feed_own n t code
  exact (congrArg Feed.time feed).trans ((Feed.framed_timed timed ..).2.1.trans (if_pos later))

theorem FiresFrom.of_modFeed {n : Svc} {f : Firing} {now : Nat} {ks : List Slot} {p : Nat → Bool} {s u t : State}
    {g : Feed → Feed} (h : FiresFrom n f now ks p (s.modFeed n g) u t) : FiresFrom n f now ks p s u t := by
  obtain ⟨⟨entries, pool, integ, recorder, sheet, ctl⟩, time, settles⟩ := h
  exact ⟨⟨entries, pool, integ, recorder, sheet, ctl⟩, time, settles⟩

theorem State.frameTimerDue_running {s : State} {n : Svc} (running : s.feed[n].frameTimer.isSome = true) :
    s.frameTimerDue n = (s.modFeed n fun f => { f with frameTimer := some (s.sheetOf n).rate }).flyAdvance n :=
  if_pos running

theorem TimeEvent.fires {s : State} {n : Svc} {c : Instr} {due : Nat → Prop} {now : Nat} {f : Firing}
    (h : TimeEvent s n c due now f) : ∃ u ks p, EventFires n due now f ks p s u (effectOf c s) := by
  cases h with
  | step stamp rate locked next =>
    obtain ⟨u, fires⟩ := State.takeFrame_fires locked (by omega : s.feed[n].time < stamp.toNat) rate
    rw [show decide (stamp.toNat ≠ s.feed[n].time + 1) = false from decide_eq_false fun ne => ne next] at fires
    exact ⟨u, _, _, fires, fun x => by rw [passes_iff]; omega, allSlots_nodup, fun k _ => mem_allSlots k, fun _ k => mem_allSlots k,
      rfl, State.takeFrame_time locked (by omega) rate⟩
  | jump stamp rate locked beyond =>
    obtain ⟨u, fires⟩ := State.takeFrame_fires locked (by omega : s.feed[n].time < stamp.toNat) rate
    rw [show decide (stamp.toNat ≠ s.feed[n].time + 1) = true from decide_eq_true (by omega)] at fires
    exact ⟨u, _, _, fires, passes_iff _ _, allSlots_nodup, fun k _ => mem_allSlots k, fun _ k => mem_allSlots k,
      rfl, State.takeFrame_time locked (by omega) rate⟩
  | flywheel running room =>
    have reloaded : (s.modFeed n fun f => { f with frameTimer := some (s.sheetOf n).rate }).feed[n].time = s.feed[n].time := by simp
    obtain ⟨u, fires⟩ := State.flyAdvance_fires (s := s.modFeed n fun f => { f with frameTimer := some (s.sheetOf n).rate })
      (n := n) (by rw [reloaded]; exact room)
    rw [reloaded] at fires
    have time : ((s.modFeed n fun f => { f with frameTimer := some (s.sheetOf n).rate }).flyAdvance n).feed[n].time =
        s.feed[n].time + 1 := by
      have feed : ((s.modFeed n fun f => { f with frameTimer := some (s.sheetOf n).rate }).flyAdvance n).feed[n] = _ :=
        State.flyAdvance_feed_own _ n
      rw [feed]
      unfold Feed.flown
      rw [if_pos (by rw [← Fin.getElem_fin, reloaded]; exact room)]
      exact congrArg (· + 1) reloaded
    have effect : effectOf (.flywheelAdvance n) s = _ := State.frameTimerDue_running running
    rw [effect]
    exact ⟨u, _, _, fires.of_modFeed, fun x => by rw [passes_iff]; omega, allSlots_nodup, fun k _ => mem_allSlots k,
      fun _ k => mem_allSlots k, rfl, time⟩
  | seed stamp rate seeking enabled =>
    obtain ⟨u, fires⟩ := State.takeFrame_seeds seeking enabled stamp.toNat rate
    have time : (s.takeFrame n stamp.toNat rate).feed[n].time = stamp.toNat := by
      have feed : (s.takeFrame n stamp.toNat rate).feed[n] = _ := s.takeFrame_feed_own n stamp.toNat rate
      exact (congrArg Feed.time feed).trans ((Feed.framed_seeking seeking ..).2.1.trans (if_pos enabled))
    refine ⟨u, _, _, fires, fun x => decide_eq_true_iff, allSlots_nodup.filter _, fun k waits => ?_, fun locked => absurd seeking locked,
      rfl, time⟩
    exact List.mem_filter.mpr ⟨mem_allSlots k, by
      rw [Bool.or_eq_true, decide_eq_true_iff, decide_eq_true_iff]
      exact waits⟩

end Sys2Proof.Machine

namespace Sys2Proof.Machine

/-! #### FLYWHEEL_ADVANCE (R13, R15, R71) -/

theorem State.flyAdvance_full {s : State} {n : Svc} (full : 2 ^ 48 - 1 ≤ s.feed[n].time) : s.flyAdvance n = s :=
  if_neg (Nat.not_lt.mpr full)

/-- R13: the state in which a flywheel advance flags and counts. -/
def State.flyAdvanced (s : State) (n : Svc) : State :=
  (s.modFeed n fun f => { f with advances := f.advances + 1 }).advanceTo n .flywheel (s.feed[n].time + 1)

theorem State.flyAdvance_room {s : State} {n : Svc} (room : s.feed[n].time < 2 ^ 48 - 1) :
    s.flyAdvance n = ((s.flyAdvanced n).flagOpen n .ofFlywheel).modTallies n Tally.advanced := by
  have time : (s.modFeed n fun f => { f with advances := f.advances + 1 }).feed[n].time = s.feed[n].time := by simp
  unfold State.flyAdvance State.flyAdvanced
  rw [if_pos (show s.feed[n].time < Config.timeMax from room)]
  dsimp only
  rw [time]

theorem State.flyAdvance_caption (s : State) (n : Svc) :
    (s.flyAdvance n).caption[n] =
      { s.caption[n] with required := (s.flyAdvance n).caption[n].required, source := (s.flyAdvance n).caption[n].source } := by
  by_cases room : s.feed[n].time < 2 ^ 48 - 1
  · have caption : (s.flyAdvance n).caption = (s.flyAdvanced n).caption := by
      rw [State.flyAdvance_room room]
      simp
    rw [caption]
    exact (State.advanceTo_moved (s.modFeed n _) n _ _).caption
  · rw [State.flyAdvance_full (by omega)]

theorem State.flyAdvance_follow {s : State} {n : Svc} (room : s.feed[n].time < 2 ^ 48 - 1) :
    CaptionCondsFollow n s (s.flyAdvance n) := by
  have advanced : CaptionCondsFollow n s (s.flyAdvanced n) :=
    (State.advanceTo_follow (s.modFeed n _) n _ _).of_kept (C := []) (by simp) (by decide)
  rw [State.flyAdvance_room room]
  exact advanced.to_kept (C := []) (by simp) (by decide) (by simp)

theorem State.flyAdvanced_progress (s : State) (n : Svc) (k : Slot) :
    (s.entry n k).Progress ((s.flyAdvanced n).entry n k) :=
  State.advanceTo_progress (s.modFeed n _) n _ _ k

/-- R71, R108: an OPEN entry after a flywheel advance. -/
theorem State.flyAdvance_entry {s : State} {n : Svc} (room : s.feed[n].time < 2 ^ 48 - 1) (k : Slot) :
    (s.flyAdvance n).entry n k =
      if ((s.flyAdvanced n).entry n k).state = .opened then
        { (s.flyAdvanced n).entry n k with
          flags := ((s.flyAdvanced n).entry n k).flags.union .ofFlywheel
          tally := if ((s.flyAdvanced n).entry n k).tally.paused then ((s.flyAdvanced n).entry n k).tally
            else ((s.flyAdvanced n).entry n k).tally.advanced }
      else (s.flyAdvanced n).entry n k := by
  rw [State.flyAdvance_room room, State.modTallies_entry, State.flagOpen_entry]
  unfold Entry.counting
  by_cases opened : ((s.flyAdvanced n).entry n k).state = .opened
  · cases paused : ((s.flyAdvanced n).entry n k).tally.paused <;> simp [opened, paused]
  · simp [opened]

/-- R71: what a flywheel advance leaves in the tallies. -/
theorem State.flyAdvance_counts {s : State} {n : Svc} (room : s.feed[n].time < 2 ^ 48 - 1) (k : Slot)
    (opened : ((s.flyAdvance n).entry n k).state = .opened) :
    ((s.flyAdvance n).entry n k).flags.flywheel = true ∧
      let was := if (s.entry n k).state = .opened then (s.entry n k).tally else Tally.zero
      let now := ((s.flyAdvance n).entry n k).tally
      now.feedLoss = (if now.paused then was.feedLoss else sat32 was.feedLoss) ∧ now.counted = was.counted ∧
      now.covered = was.covered ∧ now.idle = was.idle ∧ now.discontinuities = was.discontinuities ∧
      now.mismatches = was.mismatches := by
  have entry := State.flyAdvance_entry room k
  by_cases stood : ((s.flyAdvanced n).entry n k).state = .opened
  · rw [if_pos stood] at entry
    obtain ⟨counted, covered, idle, feedLoss, discontinuities, mismatches⟩ := (s.flyAdvanced_progress n k).runs.counts stood
    rw [entry]
    refine ⟨by simp [VerdictFlags.union, VerdictFlags.ofFlywheel, VerdictFlags.none], ?_⟩
    dsimp only
    rw [← counted, ← covered, ← idle, ← feedLoss, ← discontinuities, ← mismatches]
    cases paused : ((s.flyAdvanced n).entry n k).tally.paused <;> simp [Tally.advanced, paused]
  · rw [if_neg stood] at entry
    exact absurd (entry ▸ opened) stood

theorem State.flyAdvance_ended {s : State} {n : Svc} (room : s.feed[n].time < 2 ^ 48 - 1) (k : Slot)
    (stood : (s.entry n k).state = .opened) (ended : ((s.flyAdvance n).entry n k).state ≠ .opened) :
    ((s.flyAdvance n).entry n k).tally =
      { (s.entry n k).tally with paused := ((s.flyAdvance n).entry n k).tally.paused } := by
  have entry := State.flyAdvance_entry room k
  by_cases opened : ((s.flyAdvanced n).entry n k).state = .opened
  · rw [if_pos opened] at entry
    exact absurd (by rw [entry]; exact opened) ended
  · rw [if_neg opened] at entry
    rw [entry]
    exact ((s.flyAdvanced_progress n k).ofOpen stood).2

end Sys2Proof.Machine

namespace Sys2Proof.Machine

section
variable {n : Svc} {due : Nat → Prop} {f : Firing} {now : Nat} {ks : List Slot} {p : Nat → Bool} {s u t : State} {k : Slot} {b : Body}

theorem EventFires.inForce (h : EventFires n due now f ks p s u t) : InForce n t :=
  (State.refreshRequirement_inForce _ n).of_kept h.fires.settles.force

theorem Entry.armWrites_pending {b : Body} {e : Entry} :
    e.armWrites b = if e.state = .pending then (if b.startsOnCue = true then [.standing .armed e.posting] else []) else [] := by
  unfold Entry.armWrites
  by_cases pending : e.state = .pending <;> simp [pending]

/-- R97: whether a docket of a layer opens, by the stamps that are due. -/
theorem EventFires.opensSome_iff (h : EventFires n due now f ks p s u t) (l : Layer) :
    OpensSome n l p s ↔ ∃ (j : Slot) (o : Body),
      (s.entry n j).body = some o ∧ o.firstStart ≤ o.lastStart ∧ o.cls.layer = l ∧ due o.lastStart ∧
      ((s.entry n j).state = .pending ∧ due o.firstStart ∨
        (s.entry n j).state = .armed ∧ ∃ id first last, o.start = .onCue id first last) := by
  unfold OpensSome
  refine exists_congr fun j => exists_congr fun o => ?_
  rw [← h.stamps, ← h.stamps, ← o.startsOnCue_iff]
  constructor
  · rintro ⟨body, layer, waits, last, starts⟩
    exact ⟨body, starts, layer, last, waits⟩
  · rintro ⟨body, starts, layer, last, waits⟩
    exact ⟨body, layer, waits, last, starts⟩

theorem EventFires.opens (h : EventFires n due now f ks p s u t) (hb : (s.entry n k).body = some b)
    (starts : b.firstStart ≤ b.lastStart)
    (ends : b.lastStart < b.endStamp)
    (waits : (s.entry n k).state = .pending ∧ due b.firstStart ∨ (s.entry n k).state = .armed ∧ b.startsOnCue = true)
    (last : due b.lastStart) :
    (s.entry n k).Opened s.carries now b f (due b.endStamp) (t.entry n k) ∧
      (due b.endStamp →
        ((t.entry n k).state = .closing ∨ (t.entry n k).state = .closed) ∧ (t.entry n k).closeStamp = some now ∧
        (OpenOwn n s → ∀ x : CtxId, (t.entry n k).context = some x →
          t.pool[x].state = .closing ∧ x ∈ t.integ.queue ∧ t.pool[x].figures = some ((s.sheetOf n).closeFigures b.cls))) ∧
      (¬ due b.endStamp → b.isOnNext = false → (t.entry n k).state = .opened) := by
  simp only [← h.stamps] at waits last ⊢
  exact h.fires.opens hb (h.waiting k (waits.imp And.left And.left)) h.distinct ⟨waits, last, starts⟩ h.plain ends

end

/-- R13, R71: a flywheel advance while the frame timer runs. -/
theorem State.flywheelAdvance_runs {s : State} {n : Svc} (running : s.feed[n].frameTimer.isSome = true) :
    let t := effectOf (.flywheelAdvance n) s
    t.feed[n] = Feed.flown { s.feed[n] with frameTimer := some (s.sheetOf n).rate } ∧
      t.caption[n] = { s.caption[n] with required := t.caption[n].required, source := t.caption[n].source } := by
  have effect : effectOf (.flywheelAdvance n) s = _ := State.frameTimerDue_running running
  have reloaded : (s.modFeed n fun f => { f with frameTimer := some (s.sheetOf n).rate }).feed[n] =
      { s.feed[n] with frameTimer := some (s.sheetOf n).rate } := by simp
  have feed : ((s.modFeed n fun f => { f with frameTimer := some (s.sheetOf n).rate }).flyAdvance n).feed[n] =
      Feed.flown (s.modFeed n fun f => { f with frameTimer := some (s.sheetOf n).rate }).feed[n] := State.flyAdvance_feed_own _ n
  dsimp only
  rw [effect, feed, reloaded]
  exact ⟨rfl, State.flyAdvance_caption _ n⟩

/-- R13, R15, R71: what FLYWHEEL_ADVANCE leaves below the highest service time. -/
theorem State.flywheelAdvance_room {s : State} {n : Svc} (running : s.feed[n].frameTimer.isSome = true)
    (room : s.feed[n].time < 2 ^ 48 - 1) :
    let t := effectOf (.flywheelAdvance n) s
    InForce n t ∧ CaptionCondsFollow n s t ∧
      (∀ k : Slot, (t.entry n k).state = .opened →
        (t.entry n k).flags.flywheel = true ∧
        let was := if (s.entry n k).state = .opened then (s.entry n k).tally else Tally.zero
        let now := (t.entry n k).tally
        now.feedLoss = (if now.paused then was.feedLoss else sat32 was.feedLoss) ∧ now.counted = was.counted ∧
        now.covered = was.covered ∧ now.idle = was.idle ∧ now.discontinuities = was.discontinuities ∧
        now.mismatches = was.mismatches) ∧
      ∀ k : Slot, (s.entry n k).state = .opened → (t.entry n k).state ≠ .opened →
        (t.entry n k).tally = { (s.entry n k).tally with paused := (t.entry n k).tally.paused } := by
  have effect : effectOf (.flywheelAdvance n) s = _ := State.frameTimerDue_running running
  have reloaded : (s.modFeed n fun f => { f with frameTimer := some (s.sheetOf n).rate }).feed[n].time = s.feed[n].time := by simp
  have room' : (s.modFeed n fun f => { f with frameTimer := some (s.sheetOf n).rate }).feed[n].time < 2 ^ 48 - 1 := by
    rw [reloaded]
    exact room
  obtain ⟨u, ks, p, fires⟩ := (TimeEvent.flywheel (s := s) running room).fires
  dsimp only
  refine ⟨fires.inForce, ?_⟩
  rw [effect]
  exact ⟨(State.flyAdvance_follow room').of_kept (C := []) (by simp) (by decide), State.flyAdvance_counts room',
    State.flyAdvance_ended room'⟩

section
variable {n : Svc} {f : Firing} {now : Nat} {s t : State} {k : Slot} {b : Body}

theorem Entry.Ended.slotHands (h : (s.entry n k).Ended s.carries now b f (t.entry n k)) :
    SlotHands n k (Machine.closeWrites n k t) s t := by
  rw [closeWrites_eq]
  exact h.hands.slotHands

theorem Entry.Stayed.slotHands (h : (s.entry n k).Stayed s.carries f (t.entry n k)) : SlotHands n k [] s t :=
  h.hands.slotHands

end

/-- Settles O13: the advance itself is `State.flyAdvance_room`; what time fires is read docket by docket from the sorted boundaries
of the event (`TimeEvent.fires`, `State.event_waits`, `State.event_arms`, `State.event_opens`, `State.event_ends`,
`State.event_open`). -/
theorem flywheelAdvance : Obligations.FlywheelAdvance := by
  refine ⟨fun s n hp running => ?_, fun s n hp stopped => ?_, fun s n c due now f hp _ event => ?_,
    fun b k x => b.mem_boundaries k x, fun s n ks p distinct => ⟨s.boundariesOf_pairwise n p distinct, s.mem_boundariesOf n ks p⟩,
    fun s n f x => s.fireBoundary_idle n f x⟩
  · obtain ⟨feed, caption⟩ := State.flywheelAdvance_runs running
    have kept : (Feed.flown { s.feed[n] with frameTimer := some (s.sheetOf n).rate }).frameTimer = some (s.sheetOf n).rate ∧
        (Feed.flown { s.feed[n] with frameTimer := some (s.sheetOf n).rate }).lock = s.feed[n].lock ∧
        (Feed.flown { s.feed[n] with frameTimer := some (s.sheetOf n).rate }).received = s.feed[n].received := by
      unfold Feed.flown
      split <;> exact ⟨rfl, rfl, rfl⟩
    obtain ⟨timer, lock, received⟩ := kept
    refine ⟨_, exec_effectOf (.flywheelAdvance n) hp nofun, by rw [feed, timer], by rw [feed, lock], by rw [feed, received],
      by rw [caption], by rw [caption], by rw [caption], fun room => ?_, fun full => ?_⟩
    · have flown : Feed.flown { s.feed[n] with frameTimer := some (s.sheetOf n).rate } =
          { s.feed[n] with frameTimer := some (s.sheetOf n).rate, time := s.feed[n].time + 1, advances := s.feed[n].advances + 1 } :=
        if_pos room
      rw [feed, flown]
      exact ⟨rfl, rfl, State.flywheelAdvance_room running room⟩
    · have effect : effectOf (.flywheelAdvance n) s = _ := State.frameTimerDue_running running
      rw [effect]
      exact State.flyAdvance_full (by simpa using full)
  · refine (exec_effectOf (.flywheelAdvance n) hp nofun).trans (congrArg Host.Outcome.next ?_)
    exact if_neg (by rw [stopped]; decide)
  · obtain ⟨u, ks, p, fires⟩ := event.fires
    have next : exec c s = .next (effectOf c s) := exec_effectOf c hp (by cases event <;> nofun)
    refine ⟨_, next, fires.time, fires.inForce, fun k b hb starts ends => ?_⟩
    have due := fires.stamps
    dsimp only
    refine ⟨fun pending first => ?_, fun pending first last => ?_, fun armed last => ?_, fun waits last => ?_,
      fun opened locked dueEnd => ?_, fun opened notDue next => ?_, fun opened notDue notNext => ?_⟩
    · exact fires.fires.waits hb (.inl ⟨pending, by rwa [due]⟩)
    · have armed := fires.fires.arms hb (fires.waiting k (.inl pending)) fires.distinct pending (by rwa [due]) (by rwa [due])
      have hands := (s.entry n k).arming_hands s.carries
      rw [← armed] at hands
      refine ⟨?_, ?_, hands.slotHands⟩ <;> rw [armed] <;> simp [Entry.arming]
    · exact fires.fires.waits hb (.inr ⟨armed, by rwa [due]⟩)
    · rw [← b.startsOnCue_iff] at waits ⊢
      rw [← b.endsOnCue_iff]
      obtain ⟨opened, dueEnds, stays⟩ := fires.opens hb starts ends waits last
      have hands := opened.hands.slotHands
      rw [Entry.armWrites_pending] at hands
      refine ⟨opened.openStamp, opened.late, opened.flywheel, opened.cueMissed, ?_, fun dueEnd => ?_, stays⟩
      · cases start : b.start <;> simpa [Body.startsOnCue, start, closeWrites_eq] using hands
      · obtain ⟨state, stamp, context⟩ := dueEnds dueEnd
        exact ⟨state, stamp, fun sound => context (sound.openOwn n)⟩
    · obtain ⟨ended, segment⟩ := fires.fires.openDue hb (fires.every locked k) fires.distinct fires.plain opened (by rwa [due])
      exact ⟨ended.state, ended.closeStamp, ended.openStamp, ended.late, ended.flywheel, by rw [← b.endsOnCue_iff]; exact ended.cueMissed,
        ended.slotHands, fun sound => segment (sound.openOwn n)⟩
    · refine ⟨fun wellFormed none => ?_, fun some => ?_⟩
      · have stayed := fires.fires.openStays hb opened (by rwa [due]) fun _ => ⟨wellFormed, fun opens => by
          obtain ⟨j, o, opens⟩ := (fires.opensSome_iff _).mp opens
          exact none j o opens⟩
        exact ⟨stayed.state, stayed.openStamp, stayed.late, stayed.cueMissed, stayed.slotHands, stayed.flywheel⟩
      · obtain ⟨ended, segment⟩ := fires.fires.openNext hb fires.distinct fires.waiting opened (by rwa [due]) next
          ((fires.opensSome_iff _).mpr some)
        have cueMissed := ended.cueMissed
        rw [Body.endsOnCue_of_isOnNext next] at cueMissed
        exact ⟨ended.state, ended.closeStamp, ended.openStamp, ended.late, ended.flywheel,
          Bool.eq_iff_iff.mpr (by simpa using cueMissed), ended.slotHands, fun sound => segment (sound.openOwn n)⟩
    · have stayed := fires.fires.openStays hb opened (by rwa [due]) fun next => by
        rw [notNext] at next
        exact nomatch next
      exact ⟨stayed.state, stayed.openStamp, stayed.late, stayed.cueMissed, stayed.slotHands, stayed.flywheel⟩

end Sys2Proof.Machine

namespace Sys2Proof.Machine

/-! ### The rounding of a filter stage (R22) -/

/-- R22: the rounded result lies within half a step of the exact one, and at half a step it is the one further from 0. -/
theorem roundAway_nearest (e : Int) :
    2 * |e - 16384 * roundAway e| ≤ 16384 ∧
      (2 * |e - 16384 * roundAway e| = 16384 → |e| < |16384 * roundAway e|) := by
  unfold roundAway
  split
  · have up : 0 ≤ 16384 * ((e + 8192) / 16384) := by omega
    rw [abs_of_nonneg up, abs_of_nonneg ‹0 ≤ e›]
    constructor
    · rw [← Int.natCast_natAbs]; omega
    · rw [← Int.natCast_natAbs]; omega
  · have down : 16384 * -((-e + 8192) / 16384) ≤ 0 := by omega
    rw [abs_of_nonpos down, abs_of_nonpos (show e ≤ 0 by omega)]
    constructor
    · rw [← Int.natCast_natAbs]; omega
    · rw [← Int.natCast_natAbs]; omega

/-- A value held between two bounds in their order is the nearest value between them. -/
theorem clampInt_eq_max_min {lo hi : Int} (order : lo ≤ hi) (x : Int) : clampInt lo hi x = max lo (min hi x) := by
  unfold clampInt
  split
  · omega
  · split <;> omega

/-- Settles O27: the stage's output is by definition the clamped rounding, and a step keeps nothing of a result but it. -/
theorem filterRounding : Obligations.FilterRounding :=
  ⟨roundAway_nearest, fun y => clampInt_eq_max_min (by norm_num) y, fun _ _ _ _ _ _ _ _ _ _ => rfl, fun _ _ => rfl⟩

end Sys2Proof.Machine

namespace Sys2Proof.Machine

/-! ### Levels (R29) -/

/-- An integral bound on a rounded logarithm, cleared of its fractions and of the logarithm (R29). -/
theorem le_level_log_iff {x : ℝ} (pos : 0 < x) (n : Int) :
    (n : ℝ) ≤ 1000 * Real.logb 10 x + 1 / 2 ↔ (10 : ℝ) ^ (2 * n - 1) ≤ x ^ 2000 := by
  have power : Real.logb 10 (x ^ 2000) = 2000 * Real.logb 10 x := by rw [Real.logb_pow]; norm_num
  have log : ((2 * n - 1 : Int) : ℝ) ≤ Real.logb 10 (x ^ 2000) ↔ (10 : ℝ) ^ (2 * n - 1) ≤ x ^ 2000 := by
    rw [Real.le_logb_iff_rpow_le (by norm_num) (pow_pos pos _), Real.rpow_intCast]
  rw [← log, power]
  push_cast
  constructor <;> intro h <;> linarith

/-- A power of ten against a power of a quotient, in whole numbers. -/
theorem ten_zpow_le_div_pow_iff {num den : Nat} (hd : 0 < den) (k : Nat) (e : Int) :
    (10 : ℝ) ^ e ≤ ((num : ℝ) / den) ^ k ↔
      if 0 ≤ e then 10 ^ e.toNat * den ^ k ≤ num ^ k else den ^ k ≤ num ^ k * 10 ^ (-e).toNat := by
  have pos : (0 : ℝ) < (den : ℝ) ^ k := pow_pos (by exact_mod_cast hd) k
  rw [div_pow, le_div_iff₀ pos]
  split
  · obtain ⟨m, rfl⟩ := Int.eq_ofNat_of_zero_le ‹0 ≤ e›
    simp only [Int.toNat_natCast, zpow_natCast]
    exact_mod_cast Iff.rfl
  · obtain ⟨m, hm⟩ := Int.eq_ofNat_of_zero_le (show 0 ≤ -e by omega)
    obtain rfl : e = -(m : Int) := by omega
    simp only [neg_neg, Int.toNat_natCast, zpow_neg, zpow_natCast]
    rw [inv_mul_le_iff₀ (by positivity), mul_comm]
    exact_mod_cast Iff.rfl

/-- R29: `levelAtLeast` decides an integral lower bound on the rounded logarithm. -/
theorem levelAtLeast_iff {num den : Nat} (hn : 0 < num) (hd : 0 < den) (n : Int) :
    levelAtLeast num den n = true ↔
      n ≤ ⌊1000 * Real.logb 10 ((num : ℝ) / ((den : ℝ) * 2 ^ 40)) + 1 / 2⌋ := by
  have pos : 0 < (num : ℝ) / ((den : ℝ) * 2 ^ 40) := by positivity
  have scale : ((den : ℝ) * 2 ^ 40) = ((den * 2 ^ 40 : Nat) : ℝ) := by norm_num
  rw [Int.le_floor, le_level_log_iff pos, scale, ten_zpow_le_div_pow_iff (by positivity)]
  unfold levelAtLeast
  dsimp only
  split <;> exact decide_eq_true_iff

/-- A search by halving finds the last place of a range up to `top`, its lower end where `top` lies below. -/
theorem levelSearch_eq {num den : Nat} {top : Int} (h : ∀ n, levelAtLeast num den n = true ↔ n ≤ top) :
    ∀ (fuel : Nat) (lo hi : Int), lo < hi → hi - lo ≤ 2 ^ fuel →
      levelSearch num den fuel lo hi = max lo (min (hi - 1) top)
  | 0, lo, hi, order, room => by simp only [levelSearch]; omega
  | fuel + 1, lo, hi, order, room => by
    have half : hi - lo ≤ 2 * 2 ^ fuel := by rw [← pow_succ']; exact room
    unfold levelSearch
    split
    · omega
    · dsimp only
      split
      · have := (h _).mp ‹_›
        rw [levelSearch_eq h fuel _ _ (by omega) (by omega)]
        omega
      · have : ¬ (lo + hi) / 2 ≤ top := fun le => ‹¬ _› ((h _).mpr le)
        rw [levelSearch_eq h fuel _ _ (by omega) (by omega)]
        omega

/-- Settles O28: the search finds the rounded logarithm between -10300 and 4299, beyond which the clamp holds for every C. -/
theorem levelIsLog : Obligations.LevelIsLog := by
  refine ⟨fun c num den hn hd low high => ?_, fun _ _ => rfl⟩
  unfold level
  rw [if_neg hn.ne', levelSearch_eq (levelAtLeast_iff hn hd) 14 _ _ (by omega) (by norm_num),
    clampInt_eq_max_min (by decide)]
  simp only [Config.levelMin, Config.levelMax]
  omega

end Sys2Proof.Machine

namespace Sys2Proof.Machine

/-! ### Records laid out field by field (R203) -/

@[simp] theorem le_length : ∀ w v : Nat, (le w v).length = w
  | 0, _ => rfl
  | w + 1, v => by rw [le, List.length_cons, le_length]

/-- The little-endian bytes of a value hold it modulo their width. -/
theorem ofLe_le : ∀ w v : Nat, ofLe (le w v) = v % 256 ^ w
  | 0, v => by rw [le, ofLe, pow_zero, Nat.mod_one]
  | w + 1, v => by
    rw [le, ofLe, ofLe_le w, BitVec.toNat_ofNat, pow_succ' 256 w, Nat.mod_mul]

theorem zeroBytes_eq_le : ∀ w : Nat, zeroBytes w = le w 0
  | 0 => rfl
  | w + 1 => by rw [zeroBytes, List.replicate_succ, le, Nat.zero_div, ← zeroBytes_eq_le w]; rfl

theorem boolByte_eq_le (b : Bool) : [boolByte b] = le 1 (markField b) := by cases b <;> rfl

theorem shortBytes_eq_le (v : Option Nat) : shortBytes v = le 2 (shortField v) := rfl

theorem stampBytes_eq_le (v : Option Nat) : stampBytes v = le 8 (wideField v) := rfl

theorem levelBytes_eq_le (v : Option Int) : levelBytes v = le 2 (levelField v) := rfl

/-- A record field by field: each field's width and its value, none for bytes that no field takes. -/
abbrev RecordLayout := List (Nat × Option Nat)

/-- The bytes of a record, 0 where no field takes them. -/
def RecordLayout.bytes (fs : RecordLayout) : List Byte := fs.flatMap fun f => le f.1 (f.2.getD 0)

/-- The fields of a record that begins at an offset, each with its own offset. -/
def RecordLayout.places : Nat → RecordLayout → List (Nat × Nat × Nat)
  | _, [] => []
  | o, (w, none) :: fs => RecordLayout.places (o + w) fs
  | o, (w, some v) :: fs => (o, w, v) :: RecordLayout.places (o + w) fs

theorem RecordLayout.bytes_cons (f : Nat × Option Nat) (fs : RecordLayout) :
    RecordLayout.bytes (f :: fs) = le f.1 (f.2.getD 0) ++ RecordLayout.bytes fs := rfl

/-- A piece that holds the bytes of a value at its place puts the value. -/
theorem Puts.of_mem {ps : List Piece} {a o w v : Nat} {front back : List Byte}
    (h : ⟨a + o, front ++ (le w v ++ back)⟩ ∈ ps) : Puts ps a (o + front.length) w v := by
  refine ⟨_, h, ?_, ?_, ?_⟩
  · dsimp only; omega
  · simp only [List.length_append, le_length]; omega
  · have place : a + (o + front.length) - (a + o) = front.length := by omega
    rw [field, place, List.drop_left, List.take_left' (le_length w v), ofLe_le]

/-- The fields of a part of a piece, between other bytes of it. -/
theorem PutsAll.of_part {ps : List Piece} {a o : Nat} {back : List Byte} : ∀ {front : List Byte} {fs : RecordLayout},
    ⟨a + o, front ++ (fs.bytes ++ back)⟩ ∈ ps → PutsAll ps a (RecordLayout.places (o + front.length) fs)
  | front, [], _ => by simp [PutsAll, RecordLayout.places]
  | front, (w, v) :: fs, h => by
    rw [RecordLayout.bytes_cons, List.append_assoc] at h
    have rest : PutsAll ps a (RecordLayout.places (o + front.length + w) fs) := by
      have := PutsAll.of_part (front := front ++ le w (v.getD 0)) (fs := fs) (by rw [List.append_assoc]; exact h)
      rwa [List.length_append, le_length, ← Nat.add_assoc] at this
    cases v with
    | none => exact rest
    | some v => exact List.forall_mem_cons.mpr ⟨Puts.of_mem h, rest⟩

/-- A piece that holds a record's bytes puts all its fields. -/
theorem PutsAll.of_mem {ps : List Piece} {a o : Nat} {fs : RecordLayout} (h : ⟨a + o, fs.bytes⟩ ∈ ps) :
    PutsAll ps a (RecordLayout.places o fs) :=
  PutsAll.of_part (front := []) (back := []) (by rwa [List.append_nil])

theorem PutsAll.append {ps : List Piece} {a : Nat} {fs gs : List (Nat × Nat × Nat)} (hf : PutsAll ps a fs)
    (hg : PutsAll ps a gs) : PutsAll ps a (fs ++ gs) := fun f hm => (List.mem_append.mp hm).elim (hf f) (hg f)

theorem PutsAll.mono {ps : List Piece} {a : Nat} {fs gs : List (Nat × Nat × Nat)} (hg : PutsAll ps a gs) (sub : fs ⊆ gs) :
    PutsAll ps a fs := fun f hm => hg f (sub hm)

end Sys2Proof.Machine

namespace Sys2Proof.Machine

/-! ### The fields of the live block at their places (R203) -/

section
variable (s : State) (n : Svc)

/-- How many contexts of a service stand in a state. -/
def State.ownedIn (st : CtxState) : Nat :=
  allContexts.countP fun c => s.pool[c].ownedBy n && decide (s.pool[c].state = st)

theorem State.contextsIn_eq (st : CtxState) : s.contextsIn n (fun c => decide (c = st)) = s.ownedIn n st :=
  List.countP_eq_length_filter.symm

/-- A context stands in one state, so those of two states are counted one by one. -/
theorem State.contextsIn_closed :
    s.contextsIn n (fun c => decide (c = .closing) || decide (c = .integrating)) =
      s.ownedIn n .closing + s.ownedIn n .integrating := by
  unfold State.contextsIn State.ownedIn
  rw [← List.countP_eq_length_filter]
  induction allContexts with
  | nil => rfl
  | cons c cs ih =>
    rw [List.countP_cons, List.countP_cons, List.countP_cons, ih]
    cases s.pool[c].ownedBy n <;> cases s.pool[c].state <;> simp <;> omega

/-- How many dockets of a service stand in a state. -/
def State.standingIn (st : Standing) : Nat := allSlots.countP fun k => decide ((s.entry n k).state = st)

theorem State.entriesIn_eq (st : Standing) : s.entriesIn n st = s.standingIn n st := List.countP_eq_length_filter.symm

theorem lowestPinned_eq (ps : List Pin) : lowestPinned ps = (ps.map Pin.first).min? := by
  induction ps with
  | nil => rfl
  | cons p ps ih =>
    rw [lowestPinned, ih, List.map_cons, List.min?_cons]
    cases (ps.map Pin.first).min? <;> rfl

def State.feedLayout : RecordLayout :=
  let f := s.feed[n]
  [(1, some f.lock.code), (1, some (markField f.lineDown)), (2, some (shortField (f.lastRate.map BitVec.toNat))),
   (2, some (shortField (f.lastSeq.map BitVec.toNat))), (2, none), (8, some f.time), (4, some f.received.toNat),
   (4, some f.advances.toNat), (4, some f.discarded.toNat), (4, none)]

def State.meterLayout : RecordLayout :=
  let m := s.meter[n]
  [(1, some (s.sheetOf n).mix.length), (1, none), (2, some (levelField m.curMomentary)),
   (2, some (levelField m.curShort)), (2, some m.silence), (4, some m.rolling.run), (4, none)]

/-- R33: the peaks, 0 at positions outside the mix. -/
def State.peakLayout : RecordLayout :=
  (List.range 8).map fun i => (4, some (if i < (s.sheetOf n).mix.length then s.meter[n].peaks.getD i 0 else 0))

def State.poolLayout : RecordLayout :=
  [(1, some (s.ownedIn n .accumulating)), (1, some (s.ownedIn n .paused)),
   (1, some (s.ownedIn n .closing + s.ownedIn n .integrating)), (1, some s.freeCount),
   (1, some (s.integ.queue.length + if s.integ.busy.isSome then 1 else 0)), (3, none)]

def State.captionLayout : RecordLayout :=
  let p := s.caption[n]
  [(1, some p.state.code), (1, some (markField p.required)), (1, some p.source.code), (1, none), (2, some p.liveness),
   (2, some p.content), (2, some (shortField (p.lastSeq.map BitVec.toNat))), (2, none), (4, some p.accepted.toNat),
   (4, some p.mismatches.toNat), (4, some p.discontinuities.toNat)]

def State.schedLayout : RecordLayout :=
  let d := s.sched[n]
  [(2, some (shortField (d.openOuter.map Fin.val))), (2, some (shortField (d.openInner.map Fin.val))),
   (4, some ((s.segIdOf n d.openOuter).getD 0).toNat), (4, some ((s.segIdOf n d.openInner).getD 0).toNat),
   (1, some (s.standingIn n .pending)), (1, some (s.standingIn n .armed)), (1, some (s.standingIn n .opened)),
   (1, some (s.standingIn n .closing)), (1, some d.pins.length), (3, none), (4, some d.unmatched.toNat),
   (8, some (wideField (d.pins.map Pin.first).min?))]

def State.proxyLayout : RecordLayout :=
  let x := s.proxy[n]
  [(8, some x.seq), (8, some x.archived), (8, some x.dropped), (8, some x.spoolFull), (4, some x.truncated.toNat),
   (4, some x.discardedChunks.toNat), (4, some x.queue.length), (4, some (s.sheetOf n).quota), (4, some s.spoolFree),
   (1, some (markField x.overflow)), (3, none), (8, some (wideField (x.queue.head?.map fun v => v.header.seq)))]

def State.moverLayout : RecordLayout :=
  let r := s.recorder[n]
  [(1, some r.state.code), (1, some r.marks.length), (2, some (shortField (r.current.map Fin.val))),
   (2, some (shortField (r.cursor.map Fin.val))), (2, some ((r.current.map fun y => s.extents[y].units).getD 0)),
   (4, some ((r.current.map fun y => s.extents[y].generation.toNat).getD 0)), (4, some r.lostMarks),
   (4, some r.stalls.toNat), (4, some r.opened.toNat), (2, some r.captureNo.toNat), (2, some r.since),
   (1, some (markField r.acked)), (1, some ((r.capture.map fun v => v.kind.code).getD 0)),
   (2, some (shortField ((r.capture.bind Capture.extent).map Fin.val))),
   (2, some (shortField ((r.capture.bind Capture.other).map Fin.val))), (2, none),
   (4, some ((r.capture.map fun v => v.generation.toNat).getD 0)), (8, some (wideField (r.capture.bind Capture.time))),
   (8, some (wideField (r.capture.bind Capture.firstLeft)))]

/-- R186: what the Sheet Unit reports between the two revisions. -/
def State.sheetLayout : RecordLayout :=
  let u := s.sheet[n]
  [(1, some u.source.code), (1, some (markField u.clamped)), (1, some ((u.cause.map SheetCause.code).getD 0))]

theorem State.feedBytes_eq : s.feedBytes n = (s.feedLayout n).bytes := by
  simp [State.feedBytes, State.feedLayout, RecordLayout.bytes, boolByte_eq_le, zeroBytes_eq_le, shortBytes_eq_le]

theorem State.meterBytes_eq : s.meterBytes n = (s.meterLayout n).bytes ++ (s.peakLayout n).bytes := by
  simp [State.meterBytes, State.meterLayout, State.peakLayout, State.handedPeaks, RecordLayout.bytes, zeroBytes_eq_le,
    levelBytes_eq_le, List.flatMap_map]

theorem State.poolBytes_eq : s.poolBytes n = (s.poolLayout n).bytes := by
  simp [State.poolBytes, State.poolLayout, State.contextsIn_eq, State.contextsIn_closed, State.queueDepth,
    RecordLayout.bytes, zeroBytes_eq_le]

theorem State.captionBytes_eq : s.captionBytes n = (s.captionLayout n).bytes := by
  simp [State.captionBytes, State.captionLayout, RecordLayout.bytes, boolByte_eq_le, zeroBytes_eq_le, shortBytes_eq_le]

theorem State.schedBytes_eq : s.schedBytes n = (s.schedLayout n).bytes := by
  simp [State.schedBytes, State.schedLayout, State.entriesIn_eq, lowestPinned_eq, RecordLayout.bytes, zeroBytes_eq_le,
    shortBytes_eq_le, stampBytes_eq_le]

theorem State.proxyBytes_eq : s.proxyBytes n = (s.proxyLayout n).bytes := by
  simp [State.proxyBytes, State.proxyLayout, RecordLayout.bytes, boolByte_eq_le, zeroBytes_eq_le, stampBytes_eq_le]

theorem State.moverBytes_eq : s.moverBytes n = (s.moverLayout n).bytes := by
  simp [State.moverBytes, State.moverLayout, captureBytes, RecordLayout.bytes, boolByte_eq_le, zeroBytes_eq_le,
    shortBytes_eq_le, stampBytes_eq_le]

theorem State.sheetBytes_eq :
    s.sheetBytes n = le 4 (s.adoptedRevision n).toNat ++
      ((s.sheetLayout n).bytes ++ (le 1 0 ++ (le 4 (s.refusedRevision n).toNat ++ []))) := by
  simp [State.sheetBytes, State.sheetLayout, RecordLayout.bytes, boolByte_eq_le, zeroBytes_eq_le]

/-- R203: every field of the live block but the two revisions, at its place. -/
theorem State.livePieces_puts :
    PutsAll (s.livePieces n) (s.area (liveOffset n))
      ((s.feedLayout n).places 32 ++ (s.meterLayout n).places 64 ++ (s.poolLayout n).places 112 ++
        (s.captionLayout n).places 120 ++ (s.schedLayout n).places 144 ++ (s.proxyLayout n).places 176 ++
        (s.moverLayout n).places 240 ++ (s.sheetLayout n).places 304 ++ (s.peakLayout n).places 80) := by
  let base := s.area (liveOffset n)
  have whole (o : Nat) (fs : RecordLayout) (h : ⟨base + o, fs.bytes⟩ ∈ s.livePieces n) :
      PutsAll (s.livePieces n) base (fs.places o) := PutsAll.of_mem h
  have part (o : Nat) (front : List Byte) (fs : RecordLayout) (back : List Byte)
      (h : ⟨base + o, front ++ (fs.bytes ++ back)⟩ ∈ s.livePieces n) :
      PutsAll (s.livePieces n) base (fs.places (o + front.length)) := PutsAll.of_part h
  have feed := whole 32 (s.feedLayout n) (by simp [base, State.livePieces, State.feedBytes_eq])
  have meter := part 64 [] (s.meterLayout n) (s.peakLayout n).bytes (by simp [base, State.livePieces, State.meterBytes_eq])
  have peaks := part 64 (s.meterLayout n).bytes (s.peakLayout n) [] (by simp [base, State.livePieces, State.meterBytes_eq])
  have pool := whole 112 (s.poolLayout n) (by simp [base, State.livePieces, State.poolBytes_eq])
  have caption := whole 120 (s.captionLayout n) (by simp [base, State.livePieces, State.captionBytes_eq])
  have sched := whole 144 (s.schedLayout n) (by simp [base, State.livePieces, State.schedBytes_eq])
  have proxy := whole 176 (s.proxyLayout n) (by simp [base, State.livePieces, State.proxyBytes_eq])
  have mover := whole 240 (s.moverLayout n) (by simp [base, State.livePieces, State.moverBytes_eq])
  have sheet := part 300 (le 4 (s.adoptedRevision n).toNat) (s.sheetLayout n)
    (le 1 0 ++ (le 4 (s.refusedRevision n).toNat ++ [])) (by simp [base, State.livePieces, State.sheetBytes_eq])
  rw [le_length] at sheet
  exact (((((((feed.append meter).append pool).append caption).append sched).append proxy).append mover).append
    sheet).append peaks

/-- R186: the revisions at their places of the live block. -/
theorem State.livePieces_revisions :
    Puts (s.livePieces n) (s.area (liveOffset n)) 300 4 (s.adoptedRevision n).toNat ∧
    Puts (s.livePieces n) (s.area (liveOffset n)) 308 4 (s.refusedRevision n).toNat := by
  constructor
  · exact Puts.of_mem (o := 300) (front := []) (by simp [State.livePieces, State.sheetBytes_eq]; rfl)
  · refine Puts.of_mem (o := 300) (front := le 4 (s.adoptedRevision n).toNat ++ (s.sheetLayout n).bytes ++ le 1 0) (back := [])
      (by simp [State.livePieces, State.sheetBytes_eq])

end

/-! ### The due write (R33, R171, R204) -/

/-- A fold over the conditions of a service's panel that changes each by f. -/
theorem State.modConds_svcCond (s : State) (n : Svc) (f : CondEntry → CondEntry) (c : SvcCond) :
    (allSvcConds.foldl (fun s c => s.modCond (.service n c) f) s).svcCond n c = f (s.svcCond n c) := by
  have fold := foldl_at (fun u d => State.svcCond u n d) f (fun u d => u.modCond (.service n d) f)
    (fun u d => u.modCond_cond _ f)
    (fun u d e h => u.modCond_cond_ne f fun same => h (CondRef.service.inj same).2) c allSvcConds s (by decide)
  rwa [if_pos (mem_allSvcConds c)] at fold

theorem State.handLive_unlinked {s : State} (h : s.isLinked = false) (n : Svc) : s.handLive n = s := by
  simp [State.handLive, h]

theorem State.handLive_svcCond {s : State} (h : s.isLinked = true) (n : Svc) (c : SvcCond) :
    (s.handLive n).svcCond n c = { s.svcCond n c with owed := false } := by
  rw [State.handLive, if_pos h]
  exact State.modConds_svcCond _ n _ c

theorem State.handLive_live {s : State} (h : s.isLinked = true) (n : Svc) :
    (s.handLive n).live[n] = { s.live[n] with queue := s.live[n].queue ++ s.periodicItems n } := by
  simp [State.handLive, h]

@[simp] theorem State.dueWrite_meter_own (s : State) (n : Svc) :
    (s.dueWrite n).meter[n] = { s.meter[n] with countdown := 10, writeTimer := true, peaks := zeros8 } := by
  simp [State.dueWrite, Config.writeReload]

@[simp] theorem State.dueWrite_live_eq (s : State) (n : Svc) : (s.dueWrite n).live = (s.handLive n).live := rfl

@[simp] theorem State.dueWrite_svcCond (s : State) (n m : Svc) (c : SvcCond) :
    (s.dueWrite n).svcCond m c = (s.handLive n).svcCond m c := rfl

/-- Settles O31: the write is `State.dueWrite`; the fields lie where the layouts of the blocks place them. -/
theorem periodicWrite : Obligations.PeriodicWrite := by
  refine ⟨fun s n c hp due => ⟨s.dueWrite n, ?_, s.dueWrite_meter_own n, fun linked => ⟨?_, fun k => ?_⟩, fun unlinked => ?_⟩,
    fun s n hp => ⟨fun stopped => ?_, fun running => ?_⟩, fun s n => ⟨?_, ?_, fun host => ?_, fun v refused => ?_⟩⟩
  · obtain ⟨rfl, running⟩ | ⟨rfl, out⟩ := due
    · exact (exec_effectOf (.writeTimerExpiry n) hp nofun).trans (congrArg _ (if_pos running))
    · exact (exec_effectOf (.writeCountdownExpiry n) hp nofun).trans (congrArg _ (if_pos out))
  · rw [State.dueWrite_live_eq, State.handLive_live linked, State.periodicItems, List.append_assoc, List.append_assoc,
      List.append_assoc]
  · rw [State.dueWrite_svcCond, State.handLive_svcCond linked]
  · rw [State.dueWrite, State.handLive_unlinked unlinked]; exact ⟨rfl, rfl⟩
  · exact (exec_effectOf (.writeTimerExpiry n) hp nofun).trans (congrArg _ (if_neg (by rw [stopped]; nofun)))
  · exact (exec_effectOf (.writeCountdownExpiry n) hp nofun).trans (congrArg _ (if_neg (by omega)))
  · simp only [List.forall_mem_cons]
    exact ⟨List.mem_of_getElem? (i := 0) rfl, List.mem_of_getElem? (i := 8) rfl, List.mem_of_getElem? (i := 10) rfl,
      List.mem_of_getElem? (i := 11) rfl, nofun⟩
  · exact s.livePieces_puts n
  · have := (s.livePieces_revisions n).1
    rwa [State.adoptedRevision, if_pos host] at this
  · have := (s.livePieces_revisions n).2
    rwa [State.refusedRevision, refused] at this

end Sys2Proof.Machine

namespace Sys2Proof.Machine

/-! ### The arithmetic of a sample set (R24, R26, R35, R38, R44 to R47) -/

theorem fullScale_iff (x : BitVec 24) : fullScale x = true ↔ x = 0x7FFFFF#24 ∨ x = 0x800000#24 := by
  simp [fullScale]

/-- R35: a full-scale sample lengthens the run, which raises once it reaches the hold; any other sample ends it. -/
theorem Clip.take_some (hold : Nat) (x : BitVec 24) (c : Clip) :
    Clip.take hold (some x) c =
      if x = 0x7FFFFF#24 ∨ x = 0x800000#24 then
        let run := satInc 65535 c.run
        (⟨run, c.raised || decide (hold ≤ run)⟩, decide (hold ≤ run) && !c.raised)
      else (⟨0, false⟩, false) := by
  simp only [Clip.take, fullScale_iff]
  by_cases full : x = 0x7FFFFF#24 ∨ x = 0x800000#24
  · rw [if_pos full, if_pos full]
    cases c.raised <;> by_cases reached : hold ≤ satInc 65535 c.run <;> simp [reached]
  · rw [if_neg full, if_neg full]

theorem sampleSquare_eq (z : Int) : (sampleSquare z : Int) = z * z / 2 ^ 24 := by
  rw [sampleSquare, Int.natCast_ediv, Int.toNat_of_nonneg (mul_self_nonneg z)]
  rfl

/-- R26: the block energy channel by channel. -/
theorem blockEnergy_eq {mix : List MixChannel} {sums : List Nat} (fits : mix.length ≤ sums.length) :
    blockEnergy mix sums =
      ((List.range mix.length).map fun i =>
        sums.getD i 0 / 4800 * ((mix[i]?).map MixChannel.weight).getD 0 / 256).sum := by
  unfold blockEnergy
  congr 1
  refine List.ext_getElem (by simp [fits]) fun i inZip inMap => ?_
  have inMix : i < mix.length := by simpa using inMap
  have inSums : i < sums.length := by omega
  simp [inMix, inSums, Config.blockSets]

/-- R26: the window keeps the newest 30 block energies. -/
theorem pushWindow_eq {window : List Nat} (fits : window.length ≤ 30) (b : Nat) :
    pushWindow window b = (window ++ [b]).drop (window.length + 1 - 30) := by
  unfold pushWindow
  split
  · rw [show window.length + 1 - 30 = 0 by omega, List.drop_zero]
  · rw [show window.length + 1 - 30 = 1 by omega, List.drop_append_of_le_length (by omega)]

theorem maxLevel_eq (m : Option Int) (v : Int) : maxLevel m v = some (max (m.getD v) v) := by
  cases m with
  | none => simp [maxLevel]
  | some w => simp only [maxLevel, Option.getD_some]; split <;> congr 1 <;> omega

/-! #### A context's values of a block (R38, R39, R44 to R46) -/

/-- R44, R45: what a momentary value changes. -/
theorem Context.takeMomentary_eq (c : Context) (m : Nat) (lv : Int) :
    c.takeMomentary m lv =
      { c with
        momentary := c.momentary + 1, maxMomentary := some (max (c.maxMomentary.getD lv) lv)
        silent := c.silent + (if lv < -7000 then 1 else 0)
        histogram :=
          if lv < -7000 then c.histogram else binAdd c.histogram (min 749 ((lv + 7000) / 10).toNat) m } := by
  simp only [Context.takeMomentary, Config.absoluteGate, maxLevel_eq]
  split <;> rfl

/-- R39, R46: what a short-term value changes. -/
theorem Context.takeShort_eq (c : Context) (lv : Int) :
    c.takeShort lv =
      { c with
        maxShort := some (max (c.maxShort.getD lv) lv)
        excess := c.excess + (if c.ceiling.any (fun top => decide (top < lv)) then 1 else 0)
        above := (c.ceiling.map fun top => decide (top < lv)).getD c.above } := by
  unfold Context.takeShort
  cases ceiling : c.ceiling with
  | none => simp [maxLevel_eq]
  | some top => by_cases above : top < lv <;> simp [maxLevel_eq, above]

/-- R39: an excess raises unless the value before it was one. -/
theorem Context.excessRaises_eq (c : Context) (lv : Int) :
    c.excessRaises lv = (c.ceiling.any (fun top => decide (top < lv)) && !c.above) := by
  unfold Context.excessRaises
  cases c.ceiling <;> rfl

/-- R27: the energy of a momentary value, of the newest 4 blocks. -/
def momentaryEnergy (window : List Nat) : Nat := (window.drop (window.length - 4)).sum / 4

/-- R38, R44: the momentary value of a completed block, where its run has one. -/
def Context.withMomentary (cal : Int) (c : Context) : Context :=
  if 4 ≤ c.acc.run then c.takeMomentary (momentaryEnergy c.acc.window) (level cal (momentaryEnergy c.acc.window) 1) else c

/-- R38: the values of a completed block, the momentary one first. -/
theorem Context.takeValues_eq (cal : Int) (c : Context) :
    c.takeValues cal =
      if 30 ≤ c.acc.run then
        ((c.withMomentary cal).takeShort (level cal (c.acc.window.sum / 30) 1),
          (c.withMomentary cal).excessRaises (level cal (c.acc.window.sum / 30) 1))
      else (c.withMomentary cal, false) := by
  have acc (m : Nat) (lv : Int) : (c.takeMomentary m lv).acc = c.acc := by rw [Context.takeMomentary_eq]
  unfold Context.takeValues Context.withMomentary Accumulator.momentary Accumulator.shortTerm momentaryEnergy
  by_cases long : 30 ≤ c.acc.run
  · have short : 4 ≤ c.acc.run := by omega
    simp [long, short, acc]
  · by_cases short : 4 ≤ c.acc.run <;> simp [long, short, acc]

/-- R37, R47: a sample set as a context has added it, before any completion of its block. -/
def Context.added (squares mags : List Nat) (c : Context) : Context :=
  { c with acc := c.acc.take squares, maxima := List.zipWith max c.maxima mags }

theorem Context.takeSet_within {c : Context} (within : c.acc.phase + 1 < 4800) (mix : List MixChannel) (cal : Int)
    (squares mags : List Nat) : c.takeSet mix cal squares mags = (c.added squares mags, false) := by
  simp [Context.takeSet, Context.added, Accumulator.blockFull, Accumulator.take, Config.blockSets]
  omega

theorem Context.takeSet_full {c : Context} (full : 4800 ≤ c.acc.phase + 1) (mix : List MixChannel) (cal : Int)
    (squares mags : List Nat) :
    c.takeSet mix cal squares mags =
      ({ c.added squares mags with acc := (c.acc.take squares).completeBlock mix }).takeValues cal := by
  simp [Context.takeSet, Context.added, Accumulator.blockFull, Accumulator.take, Config.blockSets, full]

theorem satInc_run_le {k run : Nat} (hk : k < 4294967295) : k + 1 ≤ satInc 4294967295 run ↔ k ≤ run := by
  unfold satInc; split <;> omega

/-- R37 to R47: all that a context keeps of a sample set. -/
theorem Context.takeSet_fields (mix : List MixChannel) (cal : Int) (squares mags : List Nat) (c : Context) :
    let r := c.takeSet mix cal squares mags
    let sums := List.zipWith (· + ·) c.acc.sums squares
    let window := pushWindow c.acc.window (blockEnergy mix sums)
    let energy := (window.drop (window.length - 4)).sum / 4
    let lv := level cal energy 1
    let st := level cal (window.sum / 30) 1
    r.1.maxima = List.zipWith max c.maxima mags ∧ r.1.owner = c.owner ∧ r.1.state = c.state ∧ r.1.target = c.target ∧
    r.1.tolerance = c.tolerance ∧ r.1.ceiling = c.ceiling ∧ r.1.figures = c.figures ∧
    (c.acc.phase + 1 < 4800 →
      r.1.acc = { c.acc with phase := c.acc.phase + 1, sums := sums } ∧ r.2 = false ∧ r.1.momentary = c.momentary) ∧
    (4800 ≤ c.acc.phase + 1 → r.1.acc = ⟨0, zeros8, window, satInc 4294967295 c.acc.run⟩) ∧
    (c.acc.phase + 1 < 4800 ∨ c.acc.run < 3 →
      r.1.momentary = c.momentary ∧ r.1.silent = c.silent ∧ r.1.maxMomentary = c.maxMomentary ∧
      r.1.histogram = c.histogram) ∧
    (4800 ≤ c.acc.phase + 1 → 3 ≤ c.acc.run →
      r.1.momentary = c.momentary + 1 ∧ r.1.maxMomentary = some (max (c.maxMomentary.getD lv) lv) ∧
      r.1.silent = c.silent + (if lv < -7000 then 1 else 0) ∧
      r.1.histogram =
        (if lv < -7000 then c.histogram else binAdd c.histogram (min 749 ((lv + 7000) / 10).toNat) energy)) ∧
    (c.acc.phase + 1 < 4800 ∨ c.acc.run < 29 →
      r.1.maxShort = c.maxShort ∧ r.1.excess = c.excess ∧ r.1.above = c.above ∧ r.2 = false) ∧
    (4800 ≤ c.acc.phase + 1 → 29 ≤ c.acc.run →
      r.1.maxShort = some (max (c.maxShort.getD st) st) ∧
      (c.ceiling = none → r.1.excess = c.excess ∧ r.1.above = c.above ∧ r.2 = false) ∧
      ∀ top, c.ceiling = some top →
        r.1.above = decide (top < st) ∧ r.1.excess = c.excess + (if top < st then 1 else 0) ∧
        (r.2 = true ↔ top < st ∧ c.above = false)) := by
  intro r sums window energy lv st
  by_cases full : 4800 ≤ c.acc.phase + 1
  · have taken : r = _ := Context.takeSet_full full mix cal squares mags
    rw [Context.takeValues_eq] at taken
    have run4 : 4 ≤ satInc 4294967295 c.acc.run ↔ 3 ≤ c.acc.run := satInc_run_le (by norm_num)
    have run30 : 30 ≤ satInc 4294967295 c.acc.run ↔ 29 ≤ c.acc.run := satInc_run_le (by norm_num)
    simp only [Context.added, Accumulator.take, Accumulator.completeBlock, Context.withMomentary, run4, run30,
      Context.takeMomentary_eq, Context.takeShort_eq, Context.excessRaises_eq] at taken
    by_cases long : 29 ≤ c.acc.run
    · have short : 3 ≤ c.acc.run := by omega
      rw [if_pos long, if_pos short] at taken
      rw [taken]
      refine ⟨rfl, rfl, rfl, rfl, rfl, rfl, rfl, by omega, fun _ => rfl, by omega, fun _ _ => ⟨rfl, rfl, rfl, rfl⟩, by omega,
        fun _ _ => ⟨rfl, fun none => ?_, fun top some => ?_⟩⟩
      · simp [none]
      · simp [some, st, window, sums]
    · rw [if_neg long] at taken
      by_cases short : 3 ≤ c.acc.run
      · rw [if_pos short] at taken
        rw [taken]
        exact ⟨rfl, rfl, rfl, rfl, rfl, rfl, rfl, by omega, fun _ => rfl, by omega, fun _ _ => ⟨rfl, rfl, rfl, rfl⟩,
          fun _ => ⟨rfl, rfl, rfl, rfl⟩, fun _ h => absurd h long⟩
      · rw [if_neg short] at taken
        rw [taken]
        exact ⟨rfl, rfl, rfl, rfl, rfl, rfl, rfl, by omega, fun _ => rfl, fun _ => ⟨rfl, rfl, rfl, rfl⟩,
          fun _ h => absurd h short, fun _ => ⟨rfl, rfl, rfl, rfl⟩, fun _ h => absurd h long⟩
  · have within : c.acc.phase + 1 < 4800 := by omega
    have taken : r = _ := Context.takeSet_within within mix cal squares mags
    rw [taken]
    simp [Context.added, Accumulator.take, within, full, sums]

/-! #### The bins (R45) -/

/-- What holds of the bins of index k after a value has been added to bin k. -/
theorem binAdd_own {h : List Bin} (order : (h.map Bin.index).Pairwise (· < ·)) (k m : Nat) :
    (binAdd h k m).filter (fun b => b.index = k) =
      [⟨k, binCounts (h.filter fun b => b.index = k) + 1, binEnergies (h.filter fun b => b.index = k) + m⟩] := by
  induction h with
  | nil => simp [binAdd, binCounts, binEnergies]
  | cons b bs ih =>
    rw [List.map_cons, List.pairwise_cons] at order
    obtain ⟨least, order⟩ := order
    have behind (low : k ≤ b.index) : bs.filter (fun d => d.index = k) = [] :=
      List.filter_eq_nil_iff.mpr fun d hd => by
        have := least d.index (List.mem_map_of_mem hd)
        simp only [decide_eq_true_eq]; omega
    unfold binAdd
    split
    · have other : b.index ≠ k := by omega
      simp [other, behind (by omega), binCounts, binEnergies]
    · split
      · subst k
        simp [behind le_rfl, binCounts, binEnergies]
      · have other : b.index ≠ k := by omega
        simp [other, ih order]

/-- A value added to bin k leaves the other bins. -/
theorem binAdd_other {k j : Nat} (ne : j ≠ k) (h : List Bin) (m : Nat) :
    (binAdd h k m).filter (fun b => b.index = j) = h.filter fun b => b.index = j := by
  induction h with
  | nil => simp [binAdd, ne.symm]
  | cons b bs ih =>
    unfold binAdd
    split
    · simp [ne.symm]
    · split
      · subst k; simp [ne.symm]
      · simp [List.filter_cons, ih]

end Sys2Proof.Machine

namespace Sys2Proof.Machine

/-! ### What the raises of a lane's event do to the queues of the live blocks (R171, R196) -/

/-- A change of an entry leaves the writes queued for a live block that are no entry's. -/
theorem dueFirst_fields (c : SvcCond) (q : List LiveItem) :
    (dueFirst c q).filter (fun i => !i.isCond) = q.filter fun i => !i.isCond := by
  induction q with
  | nil => rfl
  | cons i q ih =>
    have kept {i : LiveItem} (other : i.isCond = false) :
        (i :: dueFirst c q).filter (fun i => !i.isCond) = (i :: q).filter fun i => !i.isCond := by
      rw [List.filter_cons_of_pos (by simp [other]), List.filter_cons_of_pos (by simp [other]), ih]
    cases i with
    | entry d part due =>
      unfold dueFirst
      rw [List.filter_cons_of_neg (by simp [LiveItem.isCond])]
      split
      · exact List.filter_cons_of_neg (by simp [LiveItem.isCond])
      · rw [List.filter_cons_of_neg (by simp [LiveItem.isCond]), ih]
    | fields p => exact kept rfl
    | mark w => exact kept rfl
    | count v => exact kept rfl
    | late d ps => exact kept rfl

/-- From s to t no write but entries' has been queued for a live block, and none at all outside LINKED. -/
structure QueueKept (n : Svc) (s t : State) : Prop where
  ctl : t.ctl = s.ctl
  count : t.live[n].count = s.live[n].count
  others : t.live[n].queue.filter (fun i => !i.isCond) = s.live[n].queue.filter fun i => !i.isCond
  unlinked : s.isLinked = false → t.live = s.live

theorem QueueKept.of_same {n : Svc} {s t : State} (ctl : t.ctl = s.ctl) (live : t.live = s.live) : QueueKept n s t :=
  ⟨ctl, by rw [live], by rw [live], fun _ => live⟩

theorem QueueKept.refl (n : Svc) (s : State) : QueueKept n s s := .of_same rfl rfl

theorem QueueKept.trans {n : Svc} {s u t : State} (h : QueueKept n s u) (g : QueueKept n u t) : QueueKept n s t where
  ctl := g.ctl.trans h.ctl
  count := g.count.trans h.count
  others := g.others.trans h.others
  unlinked off := (g.unlinked ((State.isLinked_of_ctl h.ctl).trans off)).trans (h.unlinked off)

theorem QueueKept.foldl {α : Type} {n : Svc} (f : State → α → State) (hf : ∀ u a, QueueKept n u (f u a)) (l : List α)
    (s : State) : QueueKept n s (l.foldl f s) :=
  foldl_keeps (QueueKept n s) f (fun u a h => h.trans (hf u a)) l s (.refl n s)

theorem State.changeCond_queueKept (s : State) (n : Svc) (c : SvcCond) (f : CondEntry → CondEntry) :
    QueueKept n s (s.changeCond (.service n c) f) := by
  cases linked : s.isLinked with
  | false =>
    rw [State.changeCond_unlinked linked]
    exact .of_same (by simp) (by simp)
  | true =>
    have handed : (s.changeCond (.service n c) f).live[n] = { s.live[n] with queue := dueFirst c s.live[n].queue } := by
      have on : (s.modCond (.service n c) fun e => (f e).touched s.isLinked).isLinked = true := linked
      rw [State.changeCond, State.queueEntry, if_pos on]
      simp
    exact ⟨by simp, by rw [handed], by rw [handed]; exact dueFirst_fields c _, fun off => by simp [linked] at off⟩

theorem State.raise_queueKept (s : State) (n : Svc) (c : SvcCond) : QueueKept n s (s.raise n c) :=
  (s.changeCond_queueKept n c _).trans 
    (.of_same (State.evaluate_touches _ .ctl (by decide)) (State.evaluate_touches _ .live (by decide)))

theorem State.setLive_queueKept (s : State) (n : Svc) (c : SvcCond) (live : Bool) : QueueKept n s (s.setLive n c live) := by
  unfold State.setLive
  split
  · exact .refl n s
  · dsimp only
    split
    · exact (s.changeCond_queueKept n c _).trans (State.raise_queueKept _ n c)
    · exact s.changeCond_queueKept n c _

theorem State.modMeter_queueKept (s : State) (n m : Svc) (f : Meter → Meter) : QueueKept n s (s.modMeter m f) :=
  .of_same rfl rfl

theorem State.modPool_queueKept (s : State) (n : Svc) (c : CtxId) (f : Context → Context) : QueueKept n s (s.modPool c f) :=
  .of_same rfl rfl

/-! ### Filters, peaks and clips of a set (R19, R21, R32, R35) -/

theorem State.raise_raises_own (s : State) (n : Svc) (c : SvcCond) : (s.raise n c).raises n c = s.raises n c + 1 :=
  (s.raise_raises n c (.service n c)).trans (if_pos rfl)

/-- One raise for each place that asks for it. -/
theorem State.raiseEach_raises {α : Type} (n : Svc) (c : SvcCond) (asks : α → Bool) : ∀ (l : List α) (s : State),
    (l.foldl (fun s r => if asks r then s.raise n c else s) s).raises n c = s.raises n c + BitVec.ofNat 16 (l.countP asks)
  | [], s => by simp
  | r :: l, s => by
    rw [List.foldl_cons, State.raiseEach_raises n c asks l, List.countP_cons]
    cases asks r with
    | false => simp
    | true => simp [State.raise_raises_own, BitVec.ofNat_add, BitVec.add_assoc, BitVec.add_comm]

/-- R19, R21: a filter inside the mix moves on by its channel's sample, one outside it stays. -/
theorem stepFilters_get (mix : List MixChannel) (samples : Vector (BitVec 24) 16) (fs : List Filter) {i : Nat} {f : Filter}
    (place : i < 8) (h : fs[i]? = some f) :
    (stepFilters (mixSamples mix samples) fs)[i]? = some (((mix[i]?).map fun c => f.step samples[c.feed]).getD f) := by
  have sample : (mixSamples mix samples)[i]? = some ((mix[i]?).map fun c => samples[c.feed]) := by
    simp [mixSamples, place]
  rw [stepFilters, List.getElem?_zipWith, sample, h]
  cases mix[i]? <;> rfl

section
variable (s : State) (n : Svc)

/-- R21, R32, R35: the filters, peaks and clip runs of a service after a set. -/
def State.rawTaken (raw : List (Option (BitVec 24))) : State := (s.modMeter n (Meter.takeRaw raw)).takeClips n raw

variable (raw : List (Option (BitVec 24)))

theorem State.takeClips_meter :
    (s.takeClips n raw).meter[n] =
      { s.meter[n] with clips := (List.zipWith (Clip.take (s.sheetOf n).clipRun) raw s.meter[n].clips).map Prod.fst } := by
  unfold State.takeClips
  rw [foldl_meter _ _ _ fun u a => by split <;> simp]
  simp

theorem State.rawTaken_meter :
    (s.rawTaken n raw).meter[n] =
      { s.meter[n] with
        filters := stepFilters raw s.meter[n].filters, peaks := List.zipWith max s.meter[n].peaks (setMagnitudes raw)
        clips := (List.zipWith (Clip.take (s.sheetOf n).clipRun) raw s.meter[n].clips).map Prod.fst } := by
  rw [State.rawTaken, State.takeClips_meter]
  simp [Meter.takeRaw, State.sheetOf]

theorem State.rawTaken_conds : CondsKept [.audioClip] s.panel (s.rawTaken n raw).panel := by
  simp [State.rawTaken, State.takeClips]

theorem State.rawTaken_raises :
    (s.rawTaken n raw).raises n .audioClip =
      s.raises n .audioClip +
        BitVec.ofNat 16 ((List.zipWith (Clip.take (s.sheetOf n).clipRun) raw s.meter[n].clips).countP fun r => r.2) := by
  have meter : (s.modMeter n (Meter.takeRaw raw)).meter[n].clips = s.meter[n].clips := by simp [Meter.takeRaw]
  rw [State.rawTaken, State.takeClips]
  rw [State.raiseEach_raises n .audioClip fun r : Clip × Bool => r.2, meter]
  rfl

theorem State.rawTaken_queueKept : QueueKept n s (s.rawTaken n raw) :=
  ((s.modMeter_queueKept n n _).trans (State.modMeter_queueKept _ n n _)).trans
    (QueueKept.foldl _ (fun u a => by split <;> [exact u.raise_queueKept n _; exact .refl n u]) _ _)

/-! ### The rolling accumulator (R25 to R27, R30, R31, R34) -/

variable (lv : Int)

/-- R34: at or above the threshold the count is 0 and the condition ends. -/
theorem State.judgeSilence_above (h : (s.sheetOf n).silenceThreshold ≤ lv) :
    (s.judgeSilence n lv).meter[n] = { s.meter[n] with silence := 0 } ∧
    ((s.judgeSilence n lv).svcCond n .audioSilence).live = false ∧
    (s.judgeSilence n lv).raises n .audioSilence = s.raises n .audioSilence := by
  have notBelow : ¬ lv < (s.sheetOf n).silenceThreshold := by omega
  unfold State.judgeSilence
  dsimp only
  cases live : (s.svcCond n .audioSilence).live with
  | false => rw [if_neg nofun, if_neg notBelow]; exact ⟨by simp, live, rfl⟩
  | true =>
    rw [if_pos rfl, if_neg notBelow]
    obtain ⟨ended, raises⟩ := s.setLive_own_cond n .audioSilence false
    exact ⟨by simp, ended, raises.trans (by simp)⟩

/-- R34: below the threshold a live condition stays live. -/
theorem State.judgeSilence_live (h : lv < (s.sheetOf n).silenceThreshold)
    (live : (s.svcCond n .audioSilence).live = true) : s.judgeSilence n lv = s := by
  unfold State.judgeSilence
  rw [if_pos live, if_pos h]

/-- R34: below the threshold a condition that is not live is counted, and at the hold it goes live with one raise. -/
theorem State.judgeSilence_counted (h : lv < (s.sheetOf n).silenceThreshold)
    (dead : (s.svcCond n .audioSilence).live = false) :
    (s.judgeSilence n lv).meter[n] = { s.meter[n] with silence := satInc 6000 s.meter[n].silence } ∧
    (((s.judgeSilence n lv).svcCond n .audioSilence).live = true ↔
      (s.sheetOf n).silenceHold ≤ satInc 6000 s.meter[n].silence) ∧
    (s.judgeSilence n lv).raises n .audioSilence =
      s.raises n .audioSilence + if (s.sheetOf n).silenceHold ≤ satInc 6000 s.meter[n].silence then 1 else 0 := by
  let u := s.modMeter n fun m => { m with silence := satInc 6000 m.silence }
  have meter : u.meter[n] = { s.meter[n] with silence := satInc 6000 s.meter[n].silence } := by simp [u]
  have judged : s.judgeSilence n lv =
      if (s.sheetOf n).silenceHold ≤ u.meter[n].silence then u.setLive n .audioSilence true else u := by
    unfold State.judgeSilence
    rw [if_neg (by rw [dead]; nofun), if_pos h]
  rw [meter] at judged
  rw [judged]
  have deadStill : (u.svcCond n .audioSilence).live = false := dead
  by_cases reached : (s.sheetOf n).silenceHold ≤ satInc 6000 s.meter[n].silence
  · obtain ⟨live, raises⟩ := u.setLive_own_cond n .audioSilence true
    rw [if_pos ⟨rfl, deadStill⟩] at raises
    rw [if_pos reached, if_pos reached]
    exact ⟨by simpa using meter, iff_of_true live reached, raises⟩
  · rw [if_neg reached, if_neg reached]
    exact ⟨meter, iff_of_false (by rw [deadStill]; nofun) reached, (BitVec.add_zero _).symm⟩

/-- R34: of the meter's record the judgement changes the count alone. -/
theorem State.judgeSilence_meter :
    (s.judgeSilence n lv).meter[n] = { s.meter[n] with silence := (s.judgeSilence n lv).meter[n].silence } := by
  by_cases above : (s.sheetOf n).silenceThreshold ≤ lv
  · rw [(s.judgeSilence_above n lv above).1]
  · cases live : (s.svcCond n .audioSilence).live with
    | true => rw [s.judgeSilence_live n lv (by omega) live]
    | false => rw [(s.judgeSilence_counted n lv (by omega) live).1]

theorem State.judgeSilence_conds : CondsKept [.audioSilence] s.panel (s.judgeSilence n lv).panel := by
  unfold State.judgeSilence
  (repeat' split) <;> simp

theorem State.judgeSilence_queueKept : QueueKept n s (s.judgeSilence n lv) := by
  unfold State.judgeSilence
  dsimp only
  split
  · split
    · exact .refl n s
    · exact (s.setLive_queueKept n _ _).trans (State.modMeter_queueKept _ n n _)
  · split
    · split
      · exact (s.modMeter_queueKept n n _).trans (State.setLive_queueKept _ n _ _)
      · exact s.modMeter_queueKept n n _
    · exact s.modMeter_queueKept n n _

end

end Sys2Proof.Machine

namespace Sys2Proof.Machine

section
variable (s : State) (n : Svc)

/-! ### A completed block of the rolling accumulator (R25 to R27, R31) -/

theorem State.rollingMomentary_meter :
    (s.rollingMomentary n).meter[n] =
      if 4 ≤ s.meter[n].rolling.run then
        let lv := level (s.sheetOf n).calibration (momentaryEnergy s.meter[n].rolling.window) 1
        { s.meter[n] with curMomentary := some lv, lastMomentary := some lv }
      else s.meter[n] := by
  unfold State.rollingMomentary Accumulator.momentary momentaryEnergy
  by_cases long : 4 ≤ s.meter[n].rolling.run
  · rw [if_pos long, if_pos long]; simp
  · rw [if_neg long, if_neg long]

/-- The level of the rolling short-term value of a state (R27, R29). -/
def State.shortLevel : Int := level (s.sheetOf n).calibration (s.meter[n].rolling.window.sum / 30) 1

/-- The short-term level shown, before the judgement of AUDIO_SILENCE (R31). -/
def State.shortShown : State := s.modMeter n fun m => { m with curShort := some (s.shortLevel n) }

theorem State.rollingShort_eq :
    s.rollingShort n =
      if 30 ≤ s.meter[n].rolling.run then (s.shortShown n).judgeSilence n (s.shortLevel n) else s := by
  unfold State.rollingShort Accumulator.shortTerm
  by_cases long : 30 ≤ s.meter[n].rolling.run
  · rw [if_pos long, if_pos long]; rfl
  · rw [if_neg long, if_neg long]

theorem State.rollingShort_meter :
    (s.rollingShort n).meter[n] =
      { s.meter[n] with
        curShort := if 30 ≤ s.meter[n].rolling.run then some (s.shortLevel n) else s.meter[n].curShort
        silence := (s.rollingShort n).meter[n].silence } := by
  rw [State.rollingShort_eq]
  by_cases long : 30 ≤ s.meter[n].rolling.run
  · rw [if_pos long, if_pos long, State.judgeSilence_meter]
    simp [State.shortShown]
  · rw [if_neg long, if_neg long]

theorem State.rollingShort_conds : CondsKept [.audioSilence] s.panel (s.rollingShort n).panel := by
  rw [State.rollingShort_eq]
  split
  · exact State.judgeSilence_conds _ n _
  · exact (CondsKept.self _).mpr trivial

theorem State.rollingShort_queueKept : QueueKept n s (s.rollingShort n) := by
  rw [State.rollingShort_eq]
  split
  · exact (s.modMeter_queueKept n n _).trans (State.judgeSilence_queueKept _ n _)
  · exact .refl n s

theorem State.rollingMomentary_same : (s.rollingMomentary n).ctl = s.ctl ∧ (s.rollingMomentary n).panel = s.panel ∧
    (s.rollingMomentary n).live = s.live ∧ (s.rollingMomentary n).sheet = s.sheet := by
  unfold State.rollingMomentary
  split <;> exact ⟨rfl, rfl, rfl, rfl⟩

variable (squares : List Nat)

/-- The block of the rolling accumulator completed by a set, before its values (R25, R26). -/
def State.blockDone : State :=
  s.modMeter n fun m => { m with rolling := (s.meter[n].rolling.take squares).completeBlock (s.sheetOf n).mix }

theorem State.rollingTake_full (full : 4800 ≤ s.meter[n].rolling.phase + 1) :
    s.rollingTake n squares = (((s.blockDone n squares).rollingMomentary n).rollingShort n, true) := if_pos (decide_eq_true full)

theorem State.rollingTake_within (within : s.meter[n].rolling.phase + 1 < 4800) :
    s.rollingTake n squares =
      (s.modMeter n fun m => { m with rolling := s.meter[n].rolling.take squares }, false) :=
  if_neg fun full => absurd (show 4800 ≤ s.meter[n].rolling.phase + 1 from of_decide_eq_true full) (by omega)

theorem State.rollingTake_conds : CondsKept [.audioSilence] s.panel (s.rollingTake n squares).1.panel := by
  by_cases full : 4800 ≤ s.meter[n].rolling.phase + 1
  · rw [State.rollingTake_full _ _ _ full]
    have kept := ((s.blockDone n squares).rollingMomentary n).rollingShort_conds n
    obtain ⟨-, panel, -⟩ := (s.blockDone n squares).rollingMomentary_same n
    rwa [panel] at kept
  · rw [State.rollingTake_within _ _ _ (by omega)]
    exact (CondsKept.self _).mpr trivial

theorem State.rollingTake_queueKept : QueueKept n s (s.rollingTake n squares).1 := by
  by_cases full : 4800 ≤ s.meter[n].rolling.phase + 1
  · rw [State.rollingTake_full _ _ _ full]
    obtain ⟨ctl, -, live, -⟩ := (s.blockDone n squares).rollingMomentary_same n
    exact QueueKept.trans (.of_same ctl live) (State.rollingShort_queueKept _ n)
  · rw [State.rollingTake_within _ _ _ (by omega)]
    exact s.modMeter_queueKept n n _

/-- R25 to R27, R31: the meter's record at a completed block, but for the count of AUDIO_SILENCE. -/
theorem State.rollingTake_meter_full (full : 4800 ≤ s.meter[n].rolling.phase + 1) :
    let m := s.meter[n]
    let cal := (s.sheetOf n).calibration
    let window := pushWindow m.rolling.window (blockEnergy (s.sheetOf n).mix (List.zipWith (· + ·) m.rolling.sums squares))
    let lv := level cal (momentaryEnergy window) 1
    (s.rollingTake n squares).1.meter[n] =
      { m with
        rolling := ⟨0, zeros8, window, satInc 4294967295 m.rolling.run⟩
        curMomentary := if 3 ≤ m.rolling.run then some lv else m.curMomentary
        lastMomentary := if 3 ≤ m.rolling.run then some lv else m.lastMomentary
        curShort := if 29 ≤ m.rolling.run then some (level cal (window.sum / 30) 1) else m.curShort
        silence := (s.rollingTake n squares).1.meter[n].silence } := by
  intro m cal window lv
  have run4 : 4 ≤ satInc 4294967295 m.rolling.run ↔ 3 ≤ m.rolling.run := satInc_run_le (by norm_num)
  have run30 : 30 ≤ satInc 4294967295 m.rolling.run ↔ 29 ≤ m.rolling.run := satInc_run_le (by norm_num)
  have done : (s.blockDone n squares).meter[n] = { m with rolling := ⟨0, zeros8, window, satInc 4294967295 m.rolling.run⟩ } := by
    simp [State.blockDone, m, window, Accumulator.take, Accumulator.completeBlock]
  have valued := (s.blockDone n squares).rollingMomentary_meter n
  rw [done] at valued
  simp only [run4] at valued
  have shown := ((s.blockDone n squares).rollingMomentary n).rollingShort_meter n
  have sheet : ((s.blockDone n squares).rollingMomentary n).sheetOf n = s.sheetOf n := by
    obtain ⟨-, -, -, sheet⟩ := (s.blockDone n squares).rollingMomentary_same n
    rw [State.sheetOf, sheet]
    rfl
  rw [State.rollingTake_full _ _ _ full, shown, State.shortLevel, sheet, valued]
  by_cases long : 3 ≤ m.rolling.run
  · simp only [if_pos long, run30]
    rfl
  · simp only [if_neg long, run30]
    rfl

/-! ### A set handed to the contexts (R37, R39, R49) -/

variable (mags : List Nat)

/-- R37, R49: a context of the service takes a set unless it has reached the count limit; whether SHORT_TERM_EXCESS is raised. -/
def Context.offered (sh : Sheet) (x : Context) : Context × Bool :=
  if x.ownedBy n = true ∧ x.state = .accumulating ∧ x.momentary < 1048575 then
    x.takeSet sh.mix sh.calibration squares mags
  else (x, false)

theorem Context.takes_iff (x : Context) :
    (x.ownedBy n && decide (x.state = .accumulating) && decide (x.momentary < 1048575)) = true ↔
      x.ownedBy n = true ∧ x.state = .accumulating ∧ x.momentary < 1048575 := by
  rw [Bool.and_eq_true, Bool.and_eq_true, decide_eq_true_iff, decide_eq_true_iff, and_assoc]

theorem State.contextTake_eq (c : CtxId) :
    s.contextTake n squares mags c =
      if s.pool[c].ownedBy n = true ∧ s.pool[c].state = .accumulating ∧ s.pool[c].momentary < 1048575 then
        let u := s.modPool c fun _ => (s.pool[c].offered n squares mags (s.sheetOf n)).1
        if (s.pool[c].offered n squares mags (s.sheetOf n)).2 then u.raise n .shortTermExcess else u
      else s := by
  unfold State.contextTake
  by_cases takes : s.pool[c].ownedBy n = true ∧ s.pool[c].state = .accumulating ∧ s.pool[c].momentary < 1048575
  · rw [if_pos takes, Context.offered, if_pos takes]
    exact if_pos ((Context.takes_iff n _).mpr takes)
  · rw [if_neg takes]
    exact if_neg (mt (Context.takes_iff n _).mp takes)

theorem State.contextTake_pool (c d : CtxId) :
    (s.contextTake n squares mags c).pool[d] =
      if d = c then (s.pool[d].offered n squares mags (s.sheetOf n)).1 else s.pool[d] := by
  rw [State.contextTake_eq]
  by_cases takes : s.pool[c].ownedBy n = true ∧ s.pool[c].state = .accumulating ∧ s.pool[c].momentary < 1048575
  · rw [if_pos takes]
    by_cases same : d = c
    · subst d
      rw [if_pos rfl]
      dsimp only
      split <;> simp
    · rw [if_neg same]
      dsimp only
      split <;> simp [same]
  · rw [if_neg takes]
    by_cases same : d = c
    · subst d
      rw [if_pos rfl, Context.offered, if_neg takes]
    · rw [if_neg same]

theorem State.contextTake_raises (c : CtxId) :
    (s.contextTake n squares mags c).raises n .shortTermExcess =
      s.raises n .shortTermExcess +
        if (s.pool[c].offered n squares mags (s.sheetOf n)).2 then 1 else 0 := by
  rw [State.contextTake_eq]
  by_cases takes : s.pool[c].ownedBy n = true ∧ s.pool[c].state = .accumulating ∧ s.pool[c].momentary < 1048575
  · rw [if_pos takes]
    dsimp only
    split
    · exact State.raise_raises_own _ n _
    · exact (BitVec.add_zero _).symm
  · rw [if_neg takes, Context.offered, if_neg takes]
    exact (BitVec.add_zero _).symm

theorem State.contextTake_conds (c : CtxId) :
    CondsKept [.shortTermExcess] s.panel (s.contextTake n squares mags c).panel := by
  rw [State.contextTake_eq]
  dsimp only
  (repeat' split) <;> simp

theorem State.contextTake_queueKept (c : CtxId) : QueueKept n s (s.contextTake n squares mags c) := by
  rw [State.contextTake_eq]
  dsimp only
  split
  · split
    · exact (s.modPool_queueKept n c _).trans (State.raise_queueKept _ n _)
    · exact s.modPool_queueKept n c _
  · exact .refl n s

/-- R37: the contexts of a list take a set. -/
def State.contextsTake (l : List CtxId) : State := l.foldl (fun s c => s.contextTake n squares mags c) s

/-- Every context of a list takes the set as it stood before the set; each excess makes its own raise. -/
theorem State.contextsTake_offered : ∀ (l : List CtxId) (s : State), l.Nodup →
    (∀ c : CtxId,
      (s.contextsTake n squares mags l).pool[c] =
        if c ∈ l then (s.pool[c].offered n squares mags (s.sheetOf n)).1 else s.pool[c]) ∧
    (s.contextsTake n squares mags l).raises n .shortTermExcess =
      s.raises n .shortTermExcess +
        BitVec.ofNat 16 (l.countP fun c => (s.pool[c].offered n squares mags (s.sheetOf n)).2)
  | [], s, _ => ⟨fun c => rfl, (BitVec.add_zero _).symm⟩
  | d :: l, s, nodup => by
    obtain ⟨fresh, nodup⟩ := List.nodup_cons.mp nodup
    obtain ⟨pool, raises⟩ := State.contextsTake_offered l (s.contextTake n squares mags d) nodup
    have sheet : (s.contextTake n squares mags d).sheetOf n = s.sheetOf n := by simp [State.sheetOf]
    have step := s.contextTake_pool n squares mags d
    rw [sheet] at pool raises
    have first : s.contextsTake n squares mags (d :: l) = (s.contextTake n squares mags d).contextsTake n squares mags l := rfl
    rw [first]
    constructor
    · intro c
      rw [pool, step]
      by_cases same : c = d
      · subst c; simp [fresh]
      · simp [same]
    · have later : l.countP (fun c => ((s.contextTake n squares mags d).pool[c].offered n squares mags (s.sheetOf n)).2) =
          l.countP fun c => (s.pool[c].offered n squares mags (s.sheetOf n)).2 :=
        List.countP_congr fun c hc => by
          have other : c ≠ d := fun same => fresh (same ▸ hc)
          rw [step, if_neg other]
      rw [raises, later, State.contextTake_raises, List.countP_cons]
      split
      · rw [BitVec.ofNat_add]; ac_rfl
      · exact congrArg (· + _) (BitVec.add_zero _)

theorem State.contextsTake_meter (l : List CtxId) : (s.contextsTake n squares mags l).meter = s.meter :=
  foldl_meter _ l s fun u a => by simp

theorem State.contextsTake_conds (l : List CtxId) :
    CondsKept [.shortTermExcess] s.panel (s.contextsTake n squares mags l).panel :=
  (CondsKept.foldl _ l s fun u a => u.contextTake_conds n squares mags a).mpr ((CondsKept.self _).mpr trivial)

theorem State.contextsTake_queueKept (l : List CtxId) : QueueKept n s (s.contextsTake n squares mags l) :=
  QueueKept.foldl _ (fun u a => u.contextTake_queueKept n squares mags a) l s

/-! ### The countdown (R33) -/

theorem State.countBlock_eq :
    s.countBlock n =
      if s.meter[n].countdown ≤ 1 then (s.modMeter n fun m => { m with countdown := m.countdown - 1 }).dueWrite n
      else s.modMeter n fun m => { m with countdown := m.countdown - 1 } := by
  have counted : (s.modMeter n fun m => { m with countdown := m.countdown - 1 }).meter[n].countdown =
      s.meter[n].countdown - 1 := by simp
  unfold State.countBlock
  dsimp only
  rw [counted]
  by_cases out : s.meter[n].countdown ≤ 1
  · rw [if_pos out, if_pos (by omega)]
  · rw [if_neg out, if_neg (by omega)]

theorem State.countBlock_meter :
    (s.countBlock n).meter[n] =
      if s.meter[n].countdown ≤ 1 then { s.meter[n] with countdown := 10, writeTimer := true, peaks := zeros8 }
      else { s.meter[n] with countdown := s.meter[n].countdown - 1 } := by
  rw [State.countBlock_eq]
  split
  · rw [State.dueWrite_meter_own]; simp
  · simp

/-- A due write changes of an entry only that no write of it is owed. -/
theorem State.handLive_cond (c : SvcCond) :
    (s.handLive n).svcCond n c = { s.svcCond n c with owed := (s.svcCond n c).owed && !s.isLinked } := by
  cases linked : s.isLinked with
  | true => rw [State.handLive_svcCond linked]; simp
  | false => rw [State.handLive_unlinked linked]; simp

theorem State.countBlock_cond (c : SvcCond) :
    ((s.countBlock n).svcCond n c).live = (s.svcCond n c).live ∧ (s.countBlock n).raises n c = s.raises n c := by
  rw [State.countBlock_eq]
  split
  · rw [State.raises, State.dueWrite_svcCond, State.handLive_cond]
    exact ⟨rfl, rfl⟩
  · exact ⟨rfl, rfl⟩

/-- The fields of a live block read neither the panels nor the queues nor the write's countdown and timer. -/
theorem State.livePieces_same {s t : State} (same : Touches [.meter, .panel, .live] s t)
    (count : t.live[n].count = s.live[n].count)
    (meter : ∃ countdown timer, t.meter[n] = { s.meter[n] with countdown := countdown, writeTimer := timer }) :
    t.livePieces n = s.livePieces n := by
  obtain ⟨countdown, timer, meter⟩ := meter
  obtain ⟨powered, ctl, feed, meters, caption, sched, pool, integ, proxy, recorder, extents, mover, panel, devPanel,
    devPriority, alert, sheet, store, live, header, host, pending⟩ := t
  obtain rfl : ctl = s.ctl := same .ctl (by decide)
  obtain rfl : feed = s.feed := same .feed (by decide)
  obtain rfl : caption = s.caption := same .caption (by decide)
  obtain rfl : sched = s.sched := same .sched (by decide)
  obtain rfl : pool = s.pool := same .pool (by decide)
  obtain rfl : integ = s.integ := same .integ (by decide)
  obtain rfl : proxy = s.proxy := same .proxy (by decide)
  obtain rfl : recorder = s.recorder := same .recorder (by decide)
  obtain rfl : extents = s.extents := same .extents (by decide)
  obtain rfl : sheet = s.sheet := same .sheet (by decide)
  dsimp only at count meter
  simp only [State.livePieces, State.meterBytes, State.handedPeaks, State.sheetBytes, State.adoptedRevision,
    State.refusedRevision, count, meter]
  rfl

theorem State.livePieces_dueWrite {peaks : List Nat} (h : s.meter[n].peaks = peaks) :
    ((s.dueWrite n).modMeter n fun u => { u with peaks := peaks }).livePieces n = s.livePieces n := by
  subst h
  refine State.livePieces_same n (((s.dueWrite_touches n).within rfl).trans ((State.modMeter_touches _ n _).within rfl)) ?_
    ⟨10, true, ?_⟩
  · rw [State.modMeter_live, State.dueWrite_live_eq]
    cases linked : s.isLinked with
    | true => rw [State.handLive_live linked]
    | false => rw [State.handLive_unlinked linked]
  · rw [State.modMeter_meter, upd_get, if_pos rfl, State.dueWrite_meter_own]

theorem State.countBlock_raw :
    (s.countBlock n).meter[n].filters = s.meter[n].filters ∧ (s.countBlock n).meter[n].clips = s.meter[n].clips := by
  rw [State.countBlock_meter]
  split <;> exact ⟨rfl, rfl⟩

theorem State.countBlock_writeTimer :
    (s.countBlock n).meter[n].writeTimer = (s.meter[n].writeTimer || decide (s.meter[n].countdown ≤ 1)) := by
  rw [State.countBlock_meter]
  split
  · rw [decide_eq_true ‹_›, Bool.or_true]
  · rw [decide_eq_false ‹_›, Bool.or_false]

theorem State.countBlock_live :
    (s.countBlock n).live[n].count = s.live[n].count ∧
    (s.isLinked = false → (s.countBlock n).live = s.live) ∧
    (1 < s.meter[n].countdown → (s.countBlock n).live = s.live) := by
  rw [State.countBlock_eq]
  by_cases due : s.meter[n].countdown ≤ 1
  · rw [if_pos due, State.dueWrite_live_eq]
    refine ⟨?_, fun off => ?_, fun early => absurd due (by omega)⟩
    · cases linked : (s.modMeter n fun m => { m with countdown := m.countdown - 1 }).isLinked with
      | true => rw [State.handLive_live linked]; rfl
      | false => rw [State.handLive_unlinked linked]; rfl
    · rw [State.handLive_unlinked (s := s.modMeter n _) off]; rfl
  · rw [if_neg due]
    exact ⟨rfl, fun _ => rfl, fun _ => rfl⟩

/-- R33, R171, R204: what the block that brings the countdown to 0 hands, behind what the live block's queue holds. -/
theorem State.countBlock_hands (due : s.meter[n].countdown ≤ 1) (linked : s.isLinked = true) :
    (∀ c : SvcCond, ((s.countBlock n).svcCond n c).owed = false) ∧
    (s.countBlock n).live[n].queue =
      s.live[n].queue ++
        (((s.countBlock n).modMeter n fun u => { u with peaks := s.meter[n].peaks }).livePieces n).map LiveItem.fields ++
        allSvcConds.map (fun c => LiveItem.entry c true (s.svcCond n c).owed) ++ [.mark true] := by
  let u := s.modMeter n fun m => { m with countdown := m.countdown - 1 }
  have on : u.isLinked = true := linked
  have counted : s.countBlock n = u.dueWrite n := by rw [State.countBlock_eq, if_pos due]
  have peaks : u.meter[n].peaks = s.meter[n].peaks := by simp [u]
  rw [counted, State.livePieces_dueWrite u n peaks]
  refine ⟨fun c => by rw [State.dueWrite_svcCond, State.handLive_svcCond on], ?_⟩
  rw [State.dueWrite_live_eq, State.handLive_live on, State.periodicItems, ← List.append_assoc, ← List.append_assoc]
  rfl

end

end Sys2Proof.Machine

namespace Sys2Proof.Machine

section
variable (s : State) (n : Svc) (samples : Vector (BitVec 24) 16)

/-! ### A sample set (R3, R19, R25, R37) -/

/-- The raw samples of the mix of a service. -/
def State.rawOf : List (Option (BitVec 24)) := mixSamples (s.sheetOf n).mix samples

/-- R24: the sample squares of a set. -/
def State.squaresOf : List Nat := setSquares (s.rawOf n samples) (stepFilters (s.rawOf n samples) s.meter[n].filters)

/-- A set taken by the filters, the rolling accumulator and the contexts, before the countdown. -/
def State.audioTaken : State :=
  ((s.rawTaken n (s.rawOf n samples)).rollingTake n (s.squaresOf n samples)).1.contextsTake n (s.squaresOf n samples)
    (setMagnitudes (s.rawOf n samples)) allContexts

theorem State.rawTaken_rolling (raw : List (Option (BitVec 24))) :
    (s.rawTaken n raw).meter[n].rolling = s.meter[n].rolling := by
  rw [State.rawTaken_meter]

theorem State.rawTaken_sheetOf (raw : List (Option (BitVec 24))) : (s.rawTaken n raw).sheetOf n = s.sheetOf n := by
  simp [State.rawTaken, State.sheetOf]

theorem State.takeAudio_eq :
    s.takeAudio n samples =
      if ((s.rawTaken n (s.rawOf n samples)).rollingTake n (s.squaresOf n samples)).2 then
        (s.audioTaken n samples).countBlock n
      else s.audioTaken n samples := by
  have filters : (s.rawTaken n (s.rawOf n samples)).meter[n].filters = stepFilters (s.rawOf n samples) s.meter[n].filters := by
    rw [State.rawTaken_meter]
  have squares : setSquares (s.rawOf n samples) (s.rawTaken n (s.rawOf n samples)).meter[n].filters = s.squaresOf n samples := by
    rw [filters]; rfl
  unfold State.audioTaken
  rw [← squares]
  rfl

theorem State.takeAudio_within (within : s.meter[n].rolling.phase + 1 < 4800) :
    s.takeAudio n samples = s.audioTaken n samples := by
  rw [State.takeAudio_eq, State.rollingTake_within _ n _ (by rwa [State.rawTaken_rolling])]
  exact if_neg nofun

/-- R25, R33: the set that completes a block takes 1 from the countdown. -/
theorem State.takeAudio_full (full : 4800 ≤ s.meter[n].rolling.phase + 1) :
    s.takeAudio n samples = (s.audioTaken n samples).countBlock n := by
  rw [State.takeAudio_eq, State.rollingTake_full _ n _ (by rwa [State.rawTaken_rolling])]
  exact if_pos rfl

theorem State.takeAudio_cases :
    s.takeAudio n samples = s.audioTaken n samples ∨ s.takeAudio n samples = (s.audioTaken n samples).countBlock n := by
  by_cases full : 4800 ≤ s.meter[n].rolling.phase + 1
  · exact .inr (s.takeAudio_full n samples full)
  · exact .inl (s.takeAudio_within n samples (by omega))

theorem State.audioTaken_queueKept : QueueKept n s (s.audioTaken n samples) :=
  ((s.rawTaken_queueKept n _).trans (State.rollingTake_queueKept _ n _)).trans (State.contextsTake_queueKept _ n _ _ _)

theorem CondsKept.mono {C D : List SvcCond} {p q : Vector (Vector CondEntry 16) 16} (h : CondsKept C p q) (sub : C ⊆ D) :
    CondsKept D p q := fun n c hc => h n c fun hm => hc (sub hm)

/-- The conditions that a set can raise or end. -/
def audioConds : List SvcCond := [.audioClip, .audioSilence, .shortTermExcess]

theorem State.audioTaken_conds : CondsKept audioConds s.panel (s.audioTaken n samples).panel :=
  (((s.rawTaken_conds n _).mono (by simp [audioConds])).trans ((State.rollingTake_conds _ n _).mono (by simp [audioConds]))).trans
    ((State.contextsTake_conds _ n _ _ _).mono (by simp [audioConds]))

theorem State.raises_of_svcCond {s t : State} {n : Svc} {c : SvcCond} (h : t.svcCond n c = s.svcCond n c) :
    t.raises n c = s.raises n c := congrArg CondEntry.raises h

theorem State.audioTaken_clip :
    (s.audioTaken n samples).raises n .audioClip =
      s.raises n .audioClip +
        BitVec.ofNat 16
          ((List.zipWith (Clip.take (s.sheetOf n).clipRun) (s.rawOf n samples) s.meter[n].clips).countP fun r => r.2) := by
  rw [← State.rawTaken_raises]
  exact (State.raises_of_svcCond ((State.contextsTake_conds _ n _ _ _).svcCond n (by decide))).trans
    (State.raises_of_svcCond ((State.rollingTake_conds _ n _).svcCond n (by decide)))

theorem State.audioTaken_offered :
    (∀ c : CtxId,
      (s.audioTaken n samples).pool[c] =
        (s.pool[c].offered n (s.squaresOf n samples) (setMagnitudes (s.rawOf n samples)) (s.sheetOf n)).1) ∧
    (s.audioTaken n samples).raises n .shortTermExcess =
      s.raises n .shortTermExcess +
        BitVec.ofNat 16 (allContexts.countP fun c =>
          (s.pool[c].offered n (s.squaresOf n samples) (setMagnitudes (s.rawOf n samples)) (s.sheetOf n)).2) := by
  let u := ((s.rawTaken n (s.rawOf n samples)).rollingTake n (s.squaresOf n samples)).1
  obtain ⟨taken, raised⟩ := u.contextsTake_offered n (s.squaresOf n samples) (setMagnitudes (s.rawOf n samples))
    allContexts allContexts_nodup
  have pool : u.pool = s.pool := by simp [u, State.rawTaken]
  have sheet : u.sheetOf n = s.sheetOf n := by simp [u, State.rawTaken, State.sheetOf]
  have before : u.raises n .shortTermExcess = s.raises n .shortTermExcess :=
    (State.raises_of_svcCond ((State.rollingTake_conds _ n _).svcCond n (by decide))).trans
      (State.raises_of_svcCond ((s.rawTaken_conds n _).svcCond n (by decide)))
  rw [pool, sheet, before] at raised
  refine ⟨fun c => ?_, raised⟩
  have own := taken c
  rwa [pool, sheet, if_pos (mem_allContexts c)] at own

theorem State.audioTaken_meter_within (within : s.meter[n].rolling.phase + 1 < 4800) :
    (s.audioTaken n samples).meter[n] =
      { (s.rawTaken n (s.rawOf n samples)).meter[n] with rolling := s.meter[n].rolling.take (s.squaresOf n samples) } := by
  rw [State.audioTaken, State.contextsTake_meter, State.rollingTake_within _ n _ (by rwa [State.rawTaken_rolling]),
    State.rawTaken_rolling]
  simp

theorem State.audioTaken_meter_full (full : 4800 ≤ s.meter[n].rolling.phase + 1) :
    let m := s.meter[n]
    let cal := (s.sheetOf n).calibration
    let window := pushWindow m.rolling.window
      (blockEnergy (s.sheetOf n).mix (List.zipWith (· + ·) m.rolling.sums (s.squaresOf n samples)))
    let lv := level cal (momentaryEnergy window) 1
    (s.audioTaken n samples).meter[n] =
      { (s.rawTaken n (s.rawOf n samples)).meter[n] with
        rolling := ⟨0, zeros8, window, satInc 4294967295 m.rolling.run⟩
        curMomentary := if 3 ≤ m.rolling.run then some lv else m.curMomentary
        lastMomentary := if 3 ≤ m.rolling.run then some lv else m.lastMomentary
        curShort := if 29 ≤ m.rolling.run then some (level cal (window.sum / 30) 1) else m.curShort
        silence := (s.audioTaken n samples).meter[n].silence } := by
  intro m cal window lv
  have taken := (s.rawTaken n (s.rawOf n samples)).rollingTake_meter_full n (s.squaresOf n samples)
    (by rwa [State.rawTaken_rolling])
  dsimp only at taken
  rw [State.rawTaken_sheetOf, State.rawTaken_rolling] at taken
  have meter : (s.audioTaken n samples).meter[n] =
      ((s.rawTaken n (s.rawOf n samples)).rollingTake n (s.squaresOf n samples)).1.meter[n] := by
    rw [State.audioTaken, State.contextsTake_meter]
  rw [meter, taken, State.rawTaken_meter]

/-- What a set leaves of the filters and clip runs, in either place of a block. -/
theorem State.audioTaken_raw :
    (s.audioTaken n samples).meter[n].filters = stepFilters (s.rawOf n samples) s.meter[n].filters ∧
    (s.audioTaken n samples).meter[n].clips =
      (List.zipWith (Clip.take (s.sheetOf n).clipRun) (s.rawOf n samples) s.meter[n].clips).map Prod.fst ∧
    (s.audioTaken n samples).meter[n].peaks = List.zipWith max s.meter[n].peaks (setMagnitudes (s.rawOf n samples)) ∧
    (s.audioTaken n samples).meter[n].countdown = s.meter[n].countdown ∧
    (s.audioTaken n samples).meter[n].writeTimer = s.meter[n].writeTimer := by
  have raw := s.rawTaken_meter n (s.rawOf n samples)
  by_cases full : 4800 ≤ s.meter[n].rolling.phase + 1
  · rw [s.audioTaken_meter_full n samples full, raw]; exact ⟨rfl, rfl, rfl, rfl, rfl⟩
  · rw [s.audioTaken_meter_within n samples (by omega), raw]; exact ⟨rfl, rfl, rfl, rfl, rfl⟩

theorem State.takeAudio_raw :
    (s.takeAudio n samples).meter[n].filters = stepFilters (s.rawOf n samples) s.meter[n].filters ∧
    (s.takeAudio n samples).meter[n].clips =
      (List.zipWith (Clip.take (s.sheetOf n).clipRun) (s.rawOf n samples) s.meter[n].clips).map Prod.fst := by
  obtain ⟨filters, clips, -⟩ := s.audioTaken_raw n samples
  obtain taken | counted := s.takeAudio_cases n samples
  · rw [taken]; exact ⟨filters, clips⟩
  · obtain ⟨sameFilters, sameClips⟩ := (s.audioTaken n samples).countBlock_raw n
    rw [counted]; exact ⟨sameFilters.trans filters, sameClips.trans clips⟩

theorem State.takeAudio_cond (c : SvcCond) :
    ((s.takeAudio n samples).svcCond n c).live = ((s.audioTaken n samples).svcCond n c).live ∧
    (s.takeAudio n samples).raises n c = (s.audioTaken n samples).raises n c := by
  obtain taken | counted := s.takeAudio_cases n samples
  · rw [taken]; exact ⟨rfl, rfl⟩
  · rw [counted]; exact (s.audioTaken n samples).countBlock_cond n c

theorem State.takeAudio_pool (c : CtxId) : (s.takeAudio n samples).pool[c] = (s.audioTaken n samples).pool[c] := by
  obtain taken | counted := s.takeAudio_cases n samples
  · rw [taken]
  · rw [counted]; simp

/-- R25 to R27, R31, R33: what the set that completes a block leaves of the accumulator, the levels and the countdown. -/
theorem State.takeAudio_values (full : 4800 ≤ s.meter[n].rolling.phase + 1) :
    let m := s.meter[n]
    let cal := (s.sheetOf n).calibration
    let window := pushWindow m.rolling.window
      (blockEnergy (s.sheetOf n).mix (List.zipWith (· + ·) m.rolling.sums (s.squaresOf n samples)))
    let lv := level cal (momentaryEnergy window) 1
    let t := (s.takeAudio n samples).meter[n]
    t.rolling = ⟨0, zeros8, window, satInc 4294967295 m.rolling.run⟩ ∧
    t.curMomentary = (if 3 ≤ m.rolling.run then some lv else m.curMomentary) ∧
    t.lastMomentary = (if 3 ≤ m.rolling.run then some lv else m.lastMomentary) ∧
    t.curShort = (if 29 ≤ m.rolling.run then some (level cal (window.sum / 30) 1) else m.curShort) ∧
    t.countdown = (if m.countdown ≤ 1 then 10 else m.countdown - 1) ∧
    t.peaks =
      (if m.countdown ≤ 1 then zeros8 else List.zipWith max m.peaks (setMagnitudes (s.rawOf n samples))) := by
  intro m cal window lv t
  have counted : t = _ := (congrArg (fun u : State => u.meter[n]) (s.takeAudio_full n samples full)).trans
    ((s.audioTaken n samples).countBlock_meter n)
  rw [s.audioTaken_meter_full n samples full, s.rawTaken_meter] at counted
  dsimp only at counted
  by_cases due : s.meter[n].countdown ≤ 1
  · rw [if_pos due] at counted
    rw [counted]
    exact ⟨rfl, rfl, rfl, rfl, (if_pos due).symm, (if_pos due).symm⟩
  · rw [if_neg due] at counted
    rw [counted]
    exact ⟨rfl, rfl, rfl, rfl, (if_neg due).symm, (if_neg due).symm⟩

/-- R25, R33: a set within a block leaves the levels and the countdown. -/
theorem State.takeAudio_sums (within : s.meter[n].rolling.phase + 1 < 4800) :
    let m := s.meter[n]
    let t := (s.takeAudio n samples).meter[n]
    t.rolling =
      { m.rolling with
        phase := m.rolling.phase + 1, sums := List.zipWith (· + ·) m.rolling.sums (s.squaresOf n samples) } ∧
    t.curMomentary = m.curMomentary ∧ t.curShort = m.curShort ∧ t.lastMomentary = m.lastMomentary ∧
    t.countdown = m.countdown ∧ t.peaks = List.zipWith max m.peaks (setMagnitudes (s.rawOf n samples)) ∧
    t.silence = m.silence := by
  intro m t
  have taken : t = _ := (congrArg (fun u : State => u.meter[n]) (s.takeAudio_within n samples within)).trans
    (s.audioTaken_meter_within n samples within)
  rw [s.rawTaken_meter] at taken
  rw [taken]
  exact ⟨rfl, rfl, rfl, rfl, rfl, rfl, rfl⟩

theorem mem_audioConds {c : SvcCond} (clip : c ≠ .audioClip) (silence : c ≠ .audioSilence) (excess : c ≠ .shortTermExcess) :
    c ∉ audioConds := by simp [audioConds, clip, silence, excess]

theorem State.takeAudio_writeTimer :
    (s.takeAudio n samples).meter[n].writeTimer =
      (s.meter[n].writeTimer || decide (4800 ≤ s.meter[n].rolling.phase + 1 ∧ s.meter[n].countdown ≤ 1)) := by
  obtain ⟨-, -, -, countdown, timer⟩ := s.audioTaken_raw n samples
  by_cases full : 4800 ≤ s.meter[n].rolling.phase + 1
  · rw [s.takeAudio_full n samples full, State.countBlock_writeTimer, countdown, timer]
    simp only [full, true_and]
  · rw [s.takeAudio_within n samples (by omega), timer, decide_eq_false (fun due => full due.1), Bool.or_false]

theorem State.takeAudio_live :
    (s.takeAudio n samples).live[n].count = s.live[n].count ∧
    (s.isLinked = false → (s.takeAudio n samples).live = s.live) ∧
    (s.meter[n].rolling.phase + 1 < 4800 ∨ 1 < s.meter[n].countdown →
      (s.takeAudio n samples).live[n].queue.filter (fun i => !i.isCond) = s.live[n].queue.filter fun i => !i.isCond) := by
  have kept := s.audioTaken_queueKept n samples
  obtain ⟨-, -, -, countdown, -⟩ := s.audioTaken_raw n samples
  obtain ⟨count, unlinked, undue⟩ := (s.audioTaken n samples).countBlock_live n
  by_cases full : 4800 ≤ s.meter[n].rolling.phase + 1
  · rw [s.takeAudio_full n samples full]
    refine ⟨count.trans kept.count,
      fun off => (unlinked ((State.isLinked_of_ctl kept.ctl).trans off)).trans (kept.unlinked off), fun early => ?_⟩
    rw [undue (by omega)]
    exact kept.others
  · rw [s.takeAudio_within n samples (by omega)]
    exact ⟨kept.count, kept.unlinked, fun _ => kept.others⟩

/-- R33, R171, R204: what a set that makes the write due hands, behind what the live block's queue then holds. -/
theorem State.takeAudio_hands (full : 4800 ≤ s.meter[n].rolling.phase + 1) (due : s.meter[n].countdown ≤ 1)
    (linked : s.isLinked = true) :
    (∀ c : SvcCond, ((s.takeAudio n samples).svcCond n c).owed = false) ∧
    (s.takeAudio n samples).live[n].queue =
      (s.audioTaken n samples).live[n].queue ++
        (((s.takeAudio n samples).modMeter n fun u =>
          { u with peaks := List.zipWith max s.meter[n].peaks (setMagnitudes (s.rawOf n samples)) }).livePieces
          n).map LiveItem.fields ++
        allSvcConds.map (fun c => LiveItem.entry c true ((s.audioTaken n samples).svcCond n c).owed) ++ [.mark true] := by
  obtain ⟨-, -, peaks, countdown, -⟩ := s.audioTaken_raw n samples
  rw [s.takeAudio_full n samples full, ← peaks]
  exact (s.audioTaken n samples).countBlock_hands n (by rwa [countdown])
    ((State.isLinked_of_ctl (s.audioTaken_queueKept n samples).ctl).trans linked)

theorem Context.offered_fst (squares mags : List Nat) (sh : Sheet) (x : Context) :
    (x.offered n squares mags sh).1 =
      if x.ownedBy n = true ∧ x.state = .accumulating ∧ x.momentary < 1048575 then
        (x.takeSet sh.mix sh.calibration squares mags).1
      else x := apply_ite Prod.fst _ _ _

theorem Context.offered_snd (squares mags : List Nat) (sh : Sheet) (x : Context) :
    (x.offered n squares mags sh).2 =
      (x.ownedBy n && decide (x.state = .accumulating) && decide (x.momentary < 1048575) &&
        (x.takeSet sh.mix sh.calibration squares mags).2) := by
  rw [Context.offered, apply_ite Prod.snd]
  split
  · rw [(Context.takes_iff n x).mpr ‹_›, Bool.true_and]
  · rw [Bool.eq_false_of_not_eq_true (mt (Context.takes_iff n x).mp ‹_›), Bool.false_and]

end

/-- Settles O29: the set is `State.audioTaken`; at the end of a block `State.countBlock` takes 1 from the countdown. -/
theorem audioSet : Obligations.AudioSet := by
  refine ⟨fun s n samples hp => ⟨_, exec_effectOf (.audio n samples) hp nofun, ?_⟩, fun _ _ => rfl, Clip.take_some,
    sampleSquare_eq, fun _ _ => blockEnergy_eq, fun _ b fits => pushWindow_eq fits b, Context.takeSet_fields,
    fun h k m j order => ?_⟩
  · obtain ⟨filters, clips⟩ := s.takeAudio_raw n samples
    obtain ⟨count, unlinked, others⟩ := s.takeAudio_live n samples
    obtain ⟨offered, excess⟩ := s.audioTaken_offered n samples
    have squares : setSquares (mixSamples (s.sheetOf n).mix samples) (s.takeAudio n samples).meter[n].filters =
        s.squaresOf n samples := by rw [filters]; rfl
    have cond := s.takeAudio_cond n samples
    have kept := s.audioTaken_conds n samples
    simp only [effectOf, squares]
    refine ⟨fun i f place here => ?_, clips, ?_, s.takeAudio_writeTimer n samples, fun c clip silence excess => ?_,
      fun within => ?_, fun full => ?_, count, unlinked, others, fun c => ?_, ?_⟩
    · rw [filters]; exact stepFilters_get _ samples _ place here
    · exact (cond .audioClip).2.trans (s.audioTaken_clip n samples)
    · have same := kept.svcCond n (mem_audioConds clip silence excess)
      exact ⟨(cond c).1.trans (congrArg CondEntry.live same), (cond c).2.trans (State.raises_of_svcCond same)⟩
    · obtain ⟨rolling, momentary, short, last, countdown, peaks, -⟩ := s.takeAudio_sums n samples within
      exact ⟨rolling, momentary, short, last, countdown, peaks⟩
    · obtain ⟨rolling, momentary, last, short, countdown, peaks⟩ := s.takeAudio_values n samples full
      refine ⟨rolling, ?_, short, countdown, peaks, fun due linked => ?_⟩
      · split
        · rw [if_pos ‹_›] at momentary last
          exact ⟨momentary, last.trans momentary.symm⟩
        · rw [if_neg ‹_›] at momentary last
          exact ⟨momentary, last⟩
      · obtain ⟨settled, queue⟩ := s.takeAudio_hands n samples full due linked
        exact ⟨settled, _, _, queue, (s.audioTaken_queueKept n samples).others,
          fun c clip silence excess => congrArg CondEntry.owed (kept.svcCond n (mem_audioConds clip silence excess))⟩
    · exact (s.takeAudio_pool n samples c).trans ((offered c).trans (Context.offered_fst ..))
    · rw [(cond .shortTermExcess).2, excess]
      simp only [Context.offered_snd]
      rfl
  · split
    · subst j; exact binAdd_own order k m
    · exact binAdd_other ‹_› h m

end Sys2Proof.Machine

namespace Sys2Proof.Machine

section
variable (s : State) (n : Svc)

/-! ### Where AUDIO_SILENCE is judged (R34) -/

theorem State.blockDone_meter (squares : List Nat) :
    (s.blockDone n squares).meter[n].silence = s.meter[n].silence ∧
    (s.blockDone n squares).meter[n].rolling.run = satInc 4294967295 s.meter[n].rolling.run := by
  have done : (s.blockDone n squares).meter[n] =
      { s.meter[n] with rolling := (s.meter[n].rolling.take squares).completeBlock (s.sheetOf n).mix } := by
    simp [State.blockDone]
  rw [done]
  exact ⟨rfl, rfl⟩

/-- A block whose values have been taken but for the short-term one. -/
def State.blockValued (squares : List Nat) : State := (s.blockDone n squares).rollingMomentary n

theorem State.blockValued_same (squares : List Nat) :
    (s.blockValued n squares).panel = s.panel ∧ (s.blockValued n squares).sheet = s.sheet ∧
    (s.blockValued n squares).meter[n].silence = s.meter[n].silence ∧
    (s.blockValued n squares).meter[n].rolling.run = satInc 4294967295 s.meter[n].rolling.run := by
  obtain ⟨silence, run⟩ := s.blockDone_meter n squares
  obtain ⟨-, panel, -, sheet⟩ := (s.blockDone n squares).rollingMomentary_same n
  refine ⟨panel, sheet, ?_, ?_⟩
  · rw [State.blockValued, State.rollingMomentary_meter]
    split <;> exact silence
  · rw [State.blockValued, State.rollingMomentary_meter]
    split <;> exact run

/-- R34: without a short-term value nothing is judged. -/
theorem State.rollingTake_unjudged (squares : List Nat)
    (none : s.meter[n].rolling.phase + 1 < 4800 ∨ s.meter[n].rolling.run < 29) :
    (s.rollingTake n squares).1.panel = s.panel ∧
    (s.rollingTake n squares).1.meter[n].silence = s.meter[n].silence := by
  by_cases full : 4800 ≤ s.meter[n].rolling.phase + 1
  · obtain ⟨panel, -, silence, run⟩ := s.blockValued_same n squares
    have short : ¬ 30 ≤ (s.blockValued n squares).meter[n].rolling.run := by
      rw [run, satInc_run_le (by norm_num)]; omega
    rw [State.rollingTake_full s n squares full]
    change ((s.blockValued n squares).rollingShort n).panel = _ ∧ ((s.blockValued n squares).rollingShort n).meter[n].silence = _
    rw [State.rollingShort_eq, if_neg short]
    exact ⟨panel, silence⟩
  · rw [State.rollingTake_within s n squares (by omega)]
    exact ⟨rfl, by simp⟩

/-- R31, R34: a short-term value is judged at its level, with the count and the condition as the set found them. -/
theorem State.rollingTake_judged (squares : List Nat) (full : 4800 ≤ s.meter[n].rolling.phase + 1)
    (long : 29 ≤ s.meter[n].rolling.run) :
    ∃ (v : State) (lv : Int), (s.rollingTake n squares).1 = v.judgeSilence n lv ∧ (s.rollingTake n squares).1.meter[n].curShort = some lv ∧
      v.panel = s.panel ∧ v.sheet = s.sheet ∧ v.meter[n].silence = s.meter[n].silence := by
  obtain ⟨panel, sheet, silence, run⟩ := s.blockValued_same n squares
  have enough : 30 ≤ (s.blockValued n squares).meter[n].rolling.run := by rwa [run, satInc_run_le (by norm_num)]
  have taken : (s.rollingTake n squares).1 =
      ((s.blockValued n squares).shortShown n).judgeSilence n ((s.blockValued n squares).shortLevel n) := by
    rw [State.rollingTake_full s n squares full]
    exact (State.rollingShort_eq _ n).trans (if_pos enough)
  refine ⟨_, _, taken, ?_, panel, sheet, ?_⟩
  · rw [taken, State.judgeSilence_meter]
    simp [State.shortShown]
  · rw [← silence]
    simp [State.shortShown]

variable (samples : Vector (BitVec 24) 16)

/-- The rolling accumulator's part of a set. -/
def State.audioRolled : State := ((s.rawTaken n (s.rawOf n samples)).rollingTake n (s.squaresOf n samples)).1

theorem State.countBlock_values :
    (s.countBlock n).meter[n].silence = s.meter[n].silence ∧ (s.countBlock n).meter[n].curShort = s.meter[n].curShort := by
  rw [State.countBlock_meter]
  split <;> exact ⟨rfl, rfl⟩

/-- R34: what follows the judgement in a set leaves its count, its level and its condition. -/
theorem State.takeAudio_rolled :
    (s.takeAudio n samples).meter[n].silence = (s.audioRolled n samples).meter[n].silence ∧
    (s.takeAudio n samples).meter[n].curShort = (s.audioRolled n samples).meter[n].curShort ∧
    ((s.takeAudio n samples).svcCond n .audioSilence).live = ((s.audioRolled n samples).svcCond n .audioSilence).live ∧
    (s.takeAudio n samples).raises n .audioSilence = (s.audioRolled n samples).raises n .audioSilence := by
  obtain ⟨live, raises⟩ := s.takeAudio_cond n samples .audioSilence
  have meter : (s.audioTaken n samples).meter[n] = (s.audioRolled n samples).meter[n] := by
    rw [State.audioTaken, State.contextsTake_meter]; rfl
  have cond : (s.audioTaken n samples).svcCond n .audioSilence = (s.audioRolled n samples).svcCond n .audioSilence :=
    (State.contextsTake_conds _ n _ _ _).svcCond n (by decide)
  obtain ⟨silence, short⟩ := (s.audioTaken n samples).countBlock_values n
  refine ⟨?_, ?_, live.trans (congrArg CondEntry.live cond), raises.trans (State.raises_of_svcCond cond)⟩
  · rw [← meter]
    obtain taken | counted := s.takeAudio_cases n samples
    · rw [taken]
    · rw [counted, silence]
  · rw [← meter]
    obtain taken | counted := s.takeAudio_cases n samples
    · rw [taken]
    · rw [counted, short]

theorem State.rawTaken_silence (raw : List (Option (BitVec 24))) :
    (s.rawTaken n raw).meter[n].silence = s.meter[n].silence ∧
    (s.rawTaken n raw).svcCond n .audioSilence = s.svcCond n .audioSilence := by
  rw [State.rawTaken_meter]
  exact ⟨rfl, (s.rawTaken_conds n raw).svcCond n (by decide)⟩

end

/-- Settles O30: the only judgement of a set is `State.judgeSilence` at its short-term level. -/
theorem audioSilence : Obligations.AudioSilence := by
  refine fun s n samples hp => ⟨_, exec_effectOf (.audio n samples) hp nofun, ?_⟩
  let u := s.rawTaken n (s.rawOf n samples)
  obtain ⟨silence, short, live, raises⟩ := s.takeAudio_rolled n samples
  obtain ⟨startSilence, startCond⟩ := s.rawTaken_silence n (s.rawOf n samples)
  have rolling : u.meter[n].rolling = s.meter[n].rolling := s.rawTaken_rolling n _
  simp only [effectOf, silence, short, live, raises]
  refine ⟨fun none => ?_, fun lv full long shown => ?_⟩
  · obtain ⟨panel, kept⟩ := u.rollingTake_unjudged n (s.squaresOf n samples) (by rwa [rolling])
    have cond := (State.svcCond_of_panel panel n .audioSilence).trans startCond
    exact ⟨kept.trans startSilence, congrArg CondEntry.live cond, State.raises_of_svcCond cond⟩
  · obtain ⟨v, level, judged, level_shown, panel, sheets, count⟩ :=
      u.rollingTake_judged n (s.squaresOf n samples) (by rwa [rolling]) (by rwa [rolling])
    obtain rfl : level = lv := Option.some.inj (level_shown.symm.trans shown)
    have cond : v.svcCond n .audioSilence = s.svcCond n .audioSilence :=
      (State.svcCond_of_panel panel n .audioSilence).trans startCond
    have sheet : v.sheetOf n = s.sheetOf n :=
      (congrArg (fun p : Vector SheetUnit 16 => p[n].adopted) sheets).trans (s.rawTaken_sheetOf n _)
    have start : v.meter[n].silence = s.meter[n].silence := count.trans startSilence
    have rolled : s.audioRolled n samples = v.judgeSilence n level := judged
    rw [rolled]
    refine ⟨fun above => ?_, fun below liveBefore => ?_, fun below dead => ?_⟩
    · obtain ⟨meter, ended, same⟩ := v.judgeSilence_above n level (by rwa [sheet])
      exact ⟨congrArg Meter.silence meter, ended, same.trans (State.raises_of_svcCond cond)⟩
    · rw [v.judgeSilence_live n level (by rwa [sheet]) (by rwa [cond])]
      exact ⟨start, by rwa [cond], State.raises_of_svcCond cond⟩
    · obtain ⟨meter, goes, raised⟩ := v.judgeSilence_counted n level (by rwa [sheet]) (by rwa [cond])
      rw [start, sheet] at goes raised
      have counted : (v.judgeSilence n level).meter[n].silence = satInc 6000 s.meter[n].silence := by rw [meter, start]
      rw [counted]
      exact ⟨rfl, goes, raised.trans (congrArg (· + _) (State.raises_of_svcCond cond))⟩

end Sys2Proof.Machine

namespace Sys2Proof.Machine

/-! ### Closing what is open of a service (R96, R99) -/

/-- From s to t the docket of slot j has closed and its segment ended, or its entry is adjusted or as before. -/
structure Closing (n : Svc) (j : Slot) (add : VerdictFlags) (s t : State) : Prop where
  onward : Onward n s t
  entry : (s.entry n j).Adjusts (t.entry n j) ∨
    ∃ a b, (s.entry n j).state = .opened ∧ (s.entry n j).body = some b ∧ (s.entry n j).Adjusts a ∧
      t.entry n j = a.closedAt s.carries s.feed[n].time add ∧ (OpenOwn n s → SegmentEnded n j b s t)

theorem Closing.refl (n : Svc) (j : Slot) (add : VerdictFlags) (s : State) : Closing n j add s s :=
  ⟨.refl n s, .inl (.refl _)⟩

/-- A further close keeps what the closes before it have made of a docket. -/
theorem Closing.closeSegment {n : Svc} {j : Slot} {add : VerdictFlags} {s u : State} (h : Closing n j add s u) (k : Slot) :
    Closing n j add s (u.closeSegment n k add) := by
  refine ⟨h.onward.trans (u.closeSegment_onward n k add), ?_⟩
  rcases h.entry with adjusted | ⟨a, b, ho, hb, ha, closed, ended⟩
  · by_cases hk : j = k
    · subst hk
      by_cases ho : (u.entry n j).state = .opened
      · cases hb : (u.entry n j).body with
        | none => rw [State.closeSegment_idle (.inr hb)]; exact .inl adjusted
        | some b =>
          obtain ⟨context, -, units⟩ := adjusted.docket
          refine .inr ⟨u.entry n j, b, adjusted.state.symm.trans ho, adjusted.body.symm.trans hb, adjusted, ?_, fun own => ?_⟩
          · rw [State.closeSegment_entry_own ho hb, h.onward.carries, h.onward.feed]
          · exact (State.closeSegment_ended ho hb (h.onward.own own) add).before h.onward context units
      · rw [State.closeSegment_idle (.inl ho)]; exact .inl adjusted
    · exact .inl (adjusted.trans (u.closeSegment_entry_other n hk add))
  · refine .inr ⟨a, b, ho, hb, ha, ?_, fun own => (ended own).after (u.closeSegment_onward n k add)⟩
    have shut : (u.entry n j).state ≠ .opened := by rw [closed]; exact a.closedAt_not_open _ _ _
    rw [← closed]
    by_cases hk : j = k
    · subst hk
      rw [State.closeSegment_idle (.inl shut)]
    · exact (u.closeSegment_entry_other n hk add).eq_of_not_open shut

/-- One slot of the closes of a layer. -/
def State.closeStanding (n : Svc) (l : Layer) (add : VerdictFlags) (s : State) (k : Slot) : State :=
  if s.standsOpen n l k then s.closeSegment n k add else s

theorem State.closeLayer_eq (s : State) (n : Svc) (l : Layer) (add : VerdictFlags) :
    s.closeLayer n l add = allSlots.foldl (State.closeStanding n l add) s := rfl

theorem State.closeStanding_keeps {P : State → Prop} {n : Svc} {add : VerdictFlags}
    (keeps : ∀ u k, P u → P (u.closeSegment n k add)) (l : Layer) (u : State) (k : Slot) (h : P u) :
    P (State.closeStanding n l add u k) := by
  unfold State.closeStanding
  split
  · exact keeps u k h
  · exact h

theorem State.closeLayer_keeps {P : State → Prop} {n : Svc} {add : VerdictFlags}
    (keeps : ∀ u k, P u → P (u.closeSegment n k add)) (l : Layer) {s : State} (h : P s) : P (s.closeLayer n l add) :=
  foldl_keeps P _ (State.closeStanding_keeps keeps l) allSlots s h

/-! #### What no longer stands open -/

/-- No close puts a docket back into a layer. -/
theorem State.closeSegment_standsOpen (s : State) (n : Svc) (l : Layer) (k j : Slot) (add : VerdictFlags)
    (stands : (s.closeSegment n k add).standsOpen n l j = true) : s.standsOpen n l j = true := by
  have body := s.closeSegment_body n k j add
  have closing := (Closing.refl n j add s).closeSegment k
  unfold State.standsOpen at *
  rw [body] at stands
  simp only [Bool.and_eq_true, decide_eq_true_eq] at stands ⊢
  refine ⟨?_, stands.2⟩
  rcases closing.entry with adjusted | ⟨-, -, ho, -⟩
  · exact adjusted.state.symm.trans stands.1
  · exact ho

/-- A close of a slot takes its docket out of its layer. -/
theorem State.closeStanding_own (n : Svc) (l : Layer) (add : VerdictFlags) (s : State) (k : Slot) :
    (State.closeStanding n l add s k).standsOpen n l k = false := by
  unfold State.closeStanding
  split
  · next stands =>
    simp only [State.standsOpen, Bool.and_eq_true, decide_eq_true_eq] at stands
    obtain ⟨ho, layer⟩ := stands
    obtain ⟨b, hb, -⟩ := Option.map_eq_some_iff.mp layer
    unfold State.standsOpen
    rw [State.closeSegment_entry_own ho hb, decide_eq_false (Entry.closedAt_not_open _ _ _ _), Bool.false_and]
  · next stands => simpa using stands

theorem State.closeSegment_standsNot {n : Svc} {l : Layer} {j : Slot} {add : VerdictFlags} (u : State) (k : Slot)
    (h : u.standsOpen n l j = false) : (u.closeSegment n k add).standsOpen n l j = false := by
  rw [Bool.eq_false_iff] at h ⊢
  exact fun stands => h (u.closeSegment_standsOpen n l k j add stands)

/-- R99: once a layer's dockets have closed none stands open in it. -/
theorem State.closeLayer_standsNot (s : State) (n : Svc) (l : Layer) (add : VerdictFlags) (j : Slot) :
    (s.closeLayer n l add).standsOpen n l j = false := by
  obtain ⟨before, after, split⟩ := List.append_of_mem (mem_allSlots j)
  rw [State.closeLayer_eq, split, List.foldl_append, List.foldl_cons]
  exact foldl_keeps (fun u : State => u.standsOpen n l j = false) _
    (State.closeStanding_keeps State.closeSegment_standsNot l) after _ (State.closeStanding_own n l add _ j)

/-! #### The open slots of a service -/

/-- The open slot of every layer of a service stands open in it. -/
def OpenSlotsStand (n : Svc) (s : State) : Prop :=
  ∀ (l : Layer) (k : Slot), s.sched[n].openSlot l = some k → s.standsOpen n l k = true

theorem DocketsSound.openSlotsStand {s : State} (sound : DocketsSound s) (n : Svc) : OpenSlotsStand n s := fun l k hk => by
  obtain ⟨ho, layer⟩ := (sound n).1 l k hk
  simp [State.standsOpen, ho, layer]

theorem State.modEntry_openSlot (s : State) (n : Svc) (k : Slot) (f : Entry → Entry) (l : Layer) :
    (s.modEntry n k f).sched[n].openSlot l = s.sched[n].openSlot l := by
  unfold State.modEntry
  rw [State.modSched_sched, upd_get, if_pos rfl]
  cases l <;> rfl

theorem State.openSlot_of_sched {s t : State} (h : t.sched = s.sched) (n : Svc) (l : Layer) :
    t.sched[n].openSlot l = s.sched[n].openSlot l := by rw [h]

theorem State.resumeOuter_openSlot (s : State) (n : Svc) (l : Layer) :
    (s.resumeOuter n).sched[n].openSlot l = s.sched[n].openSlot l := by
  unfold State.resumeOuter State.forOpen
  split
  · rfl
  · refine foldl_keeps (fun u : State => u.sched[n].openSlot l = s.sched[n].openSlot l) _ (fun u k h => ?_) allSlots s rfl
    split
    · unfold State.resumeSegment
      rw [State.modEntry_openSlot, State.openSlot_of_sched (u.modContextOf_sched _ _), h]
    · exact h

theorem State.writeStanding_openSlot (s : State) (n : Svc) (k : Slot) (l : Layer) :
    (s.writeStanding n k).sched[n].openSlot l = s.sched[n].openSlot l := by
  unfold State.writeStanding State.pushWrite
  split
  · exact s.modEntry_openSlot n k _ l
  · rfl

theorem State.deliverVerdict_openSlot (s : State) (n : Svc) (k : Slot) (v : Verdict) (l : Layer) :
    (s.deliverVerdict n k v).sched[n].openSlot l = s.sched[n].openSlot l := by
  have pushed : (s.pushWrite n k (.verdict v)).sched[n].openSlot l = s.sched[n].openSlot l := by
    unfold State.pushWrite
    split
    · exact s.modEntry_openSlot n k _ l
    · rfl
  have pinned : ∀ (u : State) (ps : List Pin),
      (u.modSched n fun c => { c with pins := c.pins ++ ps }).sched[n].openSlot l = u.sched[n].openSlot l := fun u ps => by
    rw [State.modSched_sched, upd_get, if_pos rfl]
    cases l <;> rfl
  unfold State.deliverVerdict
  dsimp only
  refine (pinned _ _).trans ?_
  rw [State.openSlot_of_sched (State.raiseVerdict_sched _ n v), State.writeStanding_openSlot, State.modEntry_openSlot,
    pushed]

theorem State.announceClose_openSlot (s : State) (n : Svc) (k : Slot) (metered : Bool) (l : Layer) :
    (s.announceClose n k metered).sched[n].openSlot l = s.sched[n].openSlot l := by
  unfold State.announceClose State.finishVerdict
  split
  · exact s.writeStanding_openSlot n k l
  split
  · split
    · exact s.deliverVerdict_openSlot n k _ l
    · rfl
  · rfl

theorem State.leaveLayer_openSlot (s : State) (n : Svc) (l m : Layer) (k : Slot) :
    (s.leaveLayer n l k).sched[n].openSlot m =
      if m = l ∧ s.sched[n].openSlot l = some k then allSlots.find? (s.standsOpen n l) else s.sched[n].openSlot m := by
  by_cases hk : s.sched[n].openSlot l = some k
  · have left : s.leaveLayer n l k = s.modSched n fun c => c.setOpen l (allSlots.find? (s.standsOpen n l)) := if_pos hk
    have own : (s.leaveLayer n l k).sched[n] = s.sched[n].setOpen l (allSlots.find? (s.standsOpen n l)) := by
      rw [left, State.modSched_sched, upd_get, if_pos rfl]
    rw [own]
    cases l <;> cases m <;> simp [Sched.setOpen, Sched.openSlot] at hk ⊢ <;> simp [hk]
  · have left : s.leaveLayer n l k = s := if_neg hk
    rw [left, if_neg fun h => hk h.2]

theorem State.standsOpen_of_adjusts {s t : State} {n : Svc} {j : Slot} (h : (s.entry n j).Adjusts (t.entry n j)) (l : Layer) :
    t.standsOpen n l j = s.standsOpen n l j := by
  unfold State.standsOpen
  rw [h.state, h.body]

/-- R96 steps 1 to 3: when a segment has left its layer the open slots still stand open. -/
theorem State.afterLeaving_openSlots {s : State} {n : Svc} {k : Slot} {b : Body} (add : VerdictFlags)
    (hb : (s.entry n k).body = some b) (sound : OpenSlotsStand n s) :
    OpenSlotsStand n (s.afterLeaving n k b (s.entry n k) add) := by
  intro l j hj
  obtain ⟨v, hv⟩ : ∃ v, v = s.modEntry n k (Entry.leaving s.feed[n].time add) := ⟨_, rfl⟩
  have adjusts := s.afterLeaving_adjusts n k j b (s.entry n k) add
  rw [← hv] at adjusts
  rw [State.standsOpen_of_adjusts adjusts]
  have sched : (v.closeContextOf n (s.entry n k) b.cls).sched = v.sched := v.closeContextOf_sched n _ _
  have resumed : (s.afterLeaving n k b (s.entry n k) add).sched[n].openSlot l =
      ((v.closeContextOf n (s.entry n k) b.cls).leaveLayer n b.cls.layer k).sched[n].openSlot l := by
    rw [hv]
    unfold State.afterLeaving
    dsimp only
    split
    · exact State.resumeOuter_openSlot _ n l
    · rfl
  rw [resumed, State.leaveLayer_openSlot, sched] at hj
  split at hj
  · next left =>
    obtain ⟨rfl, -⟩ := left
    rw [← State.standsOpen_of_adjusts (.inl (State.entry_of_sched sched n j))]
    exact List.find?_some hj
  · next stays =>
    rw [hv, State.modEntry_openSlot] at hj
    have stands := sound l j hj
    have ne : j ≠ k := by
      rintro rfl
      simp only [State.standsOpen, hb, Option.map_some, Option.some.injEq, Bool.and_eq_true, decide_eq_true_eq] at stands
      rw [hv, State.modEntry_openSlot, stands.2] at stays
      exact stays ⟨rfl, hj⟩
    have same : v.entry n j = s.entry n j := by rw [hv, State.modEntry_get, if_neg ne]
    rwa [State.standsOpen_of_adjusts (.inl same)]

theorem OpenSlotsStand.closeSegment {n : Svc} {s : State} (sound : OpenSlotsStand n s) (k : Slot) (add : VerdictFlags) :
    OpenSlotsStand n (s.closeSegment n k add) := by
  by_cases ho : (s.entry n k).state = .opened
  · cases hb : (s.entry n k).body with
    | none => rw [State.closeSegment_idle (.inr hb)]; exact sound
    | some b =>
      intro l j hj
      have left := State.afterLeaving_openSlots add hb sound
      obtain ⟨v, hv⟩ : ∃ v, v = (s.afterLeaving n k b (s.entry n k) add).markEnd n k b := ⟨_, rfl⟩
      have sched : v.sched = (s.afterLeaving n k b (s.entry n k) add).sched := by
        rw [hv]
        exact State.markEnd_sched _ n k b
      have context : (v.entry n k).context = (s.entry n k).context := by
        rw [State.entry_of_sched sched, State.afterLeaving_own]
        rfl
      have closed : s.closeSegment n k add = v.announceClose n k (v.entry n k).context.isSome := by
        rw [State.closeSegment_open ho hb, ← hv, context]
      rw [closed, State.announceClose_openSlot, State.openSlot_of_sched sched] at hj
      have stands := left l j hj
      have ne : j ≠ k := by
        rintro rfl
        simp [State.standsOpen, State.afterLeaving_own, Entry.leaving] at stands
      have announced := v.announceClose_entry n k j
      rw [if_neg ne] at announced
      rw [closed, State.standsOpen_of_adjusts (.inl announced),
        State.standsOpen_of_adjusts (.inl (State.entry_of_sched sched n j))]
      exact stands
  · rw [State.closeSegment_idle (.inl ho)]; exact sound

/-! #### All layers (R99) -/

/-- The closes of R99 before the requirement is taken afresh: the outer layer, then the inner. -/
def State.closeLayers (s : State) (n : Svc) (add : VerdictFlags) : State :=
  (s.closeLayer n .outer add).closeLayer n .inner add

theorem State.closeLayers_keeps {P : State → Prop} {n : Svc} {add : VerdictFlags}
    (keeps : ∀ u k, P u → P (u.closeSegment n k add)) {s : State} (h : P s) : P (s.closeLayers n add) :=
  State.closeLayer_keeps keeps .inner (State.closeLayer_keeps keeps .outer h)

theorem State.closeLayers_closing (s : State) (n : Svc) (add : VerdictFlags) (j : Slot) :
    Closing n j add s (s.closeLayers n add) :=
  State.closeLayers_keeps (fun _ k h => h.closeSegment k) (.refl n j add s)

theorem State.closeLayers_standsNot (s : State) (n : Svc) (add : VerdictFlags) (l : Layer) (j : Slot) :
    (s.closeLayers n add).standsOpen n l j = false := by
  cases l with
  | outer =>
    exact State.closeLayer_keeps State.closeSegment_standsNot .inner (s.closeLayer_standsNot n .outer add j)
  | inner => exact State.closeLayer_standsNot _ n .inner add j

/-- R99: no slot is the open one of a layer once all have closed. -/
theorem State.closeLayers_openSlot {s : State} {n : Svc} (add : VerdictFlags) (sound : OpenSlotsStand n s) (l : Layer) :
    (s.closeLayers n add).sched[n].openSlot l = none := by
  have after : OpenSlotsStand n (s.closeLayers n add) :=
    State.closeLayers_keeps (fun _ k h => h.closeSegment k add) sound
  cases hk : (s.closeLayers n add).sched[n].openSlot l with
  | none => rfl
  | some k => exact absurd (after l k hk) (by rw [s.closeLayers_standsNot n add l k]; decide)

/-- R99: every OPEN docket with a body closes, its segment ended. -/
theorem State.closeLayers_closes {s : State} {n : Svc} {j : Slot} {b : Body} (add : VerdictFlags)
    (ho : (s.entry n j).state = .opened) (hb : (s.entry n j).body = some b) :
    ∃ a, (s.entry n j).Adjusts a ∧ (s.closeLayers n add).entry n j = a.closedAt s.carries s.feed[n].time add ∧
      (OpenOwn n s → SegmentEnded n j b s (s.closeLayers n add)) := by
  have closing := s.closeLayers_closing n add j
  rcases closing.entry with adjusted | ⟨a, b', -, hb', ha, closed, ended⟩
  · have stands : s.standsOpen n b.cls.layer j = true := by simp [State.standsOpen, ho, hb]
    rw [← State.standsOpen_of_adjusts adjusted, s.closeLayers_standsNot n add] at stands
    exact nomatch stands
  · obtain rfl := Option.some.inj (hb.symm.trans hb')
    exact ⟨a, ha, closed, ended⟩

end Sys2Proof.Machine

namespace Sys2Proof.Machine

/-! ### Timers and marks that an adoption leaves alone (R165, R166) -/

/-- Between two panels every reminder timer and every mark is the same. -/
def RemindersKept (p q : Vector (Vector CondEntry 16) 16) : Prop :=
  ∀ (n : Svc) (c : SvcCond),
    q[n][svcIndex c].timer = p[n][svcIndex c].timer ∧ q[n][svcIndex c].mark = p[n][svcIndex c].mark

/-- A change of an entry that touches neither timer nor mark. -/
def SparesReminder (f : CondEntry → CondEntry) : Prop := ∀ e : CondEntry, (f e).timer = e.timer ∧ (f e).mark = e.mark

section
variable {p : Vector (Vector CondEntry 16) 16}

theorem RemindersKept.svcCond {s t : State} (h : RemindersKept s.panel t.panel) (n : Svc) (c : SvcCond) :
    (t.svcCond n c).timer = (s.svcCond n c).timer ∧ (t.svcCond n c).mark = (s.svcCond n c).mark := h n c

@[simp] theorem RemindersKept.self (p : Vector (Vector CondEntry 16) 16) : RemindersKept p p ↔ True :=
  iff_true_intro fun _ _ => ⟨rfl, rfl⟩

theorem RemindersKept.trans {q r : Vector (Vector CondEntry 16) 16} (h : RemindersKept p q) (g : RemindersKept q r) :
    RemindersKept p r := fun n c =>
  ⟨(g n c).1.trans (h n c).1, (g n c).2.trans (h n c).2⟩

theorem RemindersKept.iff {q r : Vector (Vector CondEntry 16) 16} (h : RemindersKept q r) :
    RemindersKept p r ↔ RemindersKept p q :=
  ⟨fun g => g.trans fun n c => ⟨(h n c).1.symm, (h n c).2.symm⟩, fun g => g.trans h⟩

theorem CondEntry.touched_spares (linked : Bool) : SparesReminder (CondEntry.touched linked) := fun e => by
  unfold CondEntry.touched
  split <;> exact ⟨rfl, rfl⟩

theorem CondEntry.raised_spares (t : Option Nat) : SparesReminder (CondEntry.raised t) := fun _ => ⟨rfl, rfl⟩

theorem State.changeCond_reminders (s : State) (n : Svc) (c : SvcCond) {f : CondEntry → CondEntry} (hf : SparesReminder f) :
    RemindersKept p (s.changeCond (.service n c) f).panel ↔ RemindersKept p s.panel := by
  refine RemindersKept.iff fun m d => ?_
  have changed := s.changeCond_get (.service n c) (.service m d) f
  change (s.changeCond (.service n c) f).svcCond m d = _ at changed
  change ((s.changeCond (.service n c) f).svcCond m d).timer = (s.svcCond m d).timer ∧
    ((s.changeCond (.service n c) f).svcCond m d).mark = (s.svcCond m d).mark
  rw [changed]
  split
  · obtain ⟨timer, mark⟩ := CondEntry.touched_spares s.isLinked (f (s.svcCond m d))
    obtain ⟨timer', mark'⟩ := hf (s.svcCond m d)
    exact ⟨timer.trans timer', mark.trans mark'⟩
  · exact ⟨rfl, rfl⟩

@[simp] theorem State.raise_reminders (s : State) (n : Svc) (c : SvcCond) :
    RemindersKept p (s.raise n c).panel ↔ RemindersKept p s.panel := by
  simp [State.raise, State.changeCond_reminders s n c (CondEntry.raised_spares _)]

@[simp] theorem State.setLive_reminders (s : State) (n : Svc) (c : SvcCond) (live : Bool) :
    RemindersKept p (s.setLive n c live).panel ↔ RemindersKept p s.panel := by
  have spares : SparesReminder fun e => { e with live := live } := fun _ => ⟨rfl, rfl⟩
  unfold State.setLive
  split
  · rfl
  · split <;> simp [State.changeCond_reminders s n c spares]

@[simp] theorem State.raiseVerdict_reminders (s : State) (n : Svc) (v : Verdict) :
    RemindersKept p (s.raiseVerdict n v).panel ↔ RemindersKept p s.panel := by
  unfold State.raiseVerdict
  (repeat' split) <;> simp

@[simp] theorem State.announceClose_reminders (s : State) (n : Svc) (k : Slot) (metered : Bool) :
    RemindersKept p (s.announceClose n k metered).panel ↔ RemindersKept p s.panel := by
  unfold State.announceClose State.finishVerdict State.deliverVerdict
  (repeat' split) <;> simp

@[simp] theorem State.closeSegment_reminders (s : State) (n : Svc) (k : Slot) (add : VerdictFlags) :
    RemindersKept p (s.closeSegment n k add).panel ↔ RemindersKept p s.panel := by
  unfold State.closeSegment
  dsimp only
  split
  · split <;> simp
  · rfl

@[simp] theorem State.refreshRequirement_reminders (s : State) (n : Svc) :
    RemindersKept p (s.refreshRequirement n).panel ↔ RemindersKept p s.panel := by
  unfold State.refreshRequirement State.judgeCaptions
  dsimp only
  (repeat' split) <;> simp

@[simp] theorem State.leaveFlywheel_reminders (s : State) (n : Svc) :
    RemindersKept p (s.leaveFlywheel n).panel ↔ RemindersKept p s.panel := by
  unfold State.leaveFlywheel
  split <;> simp

end

theorem State.closeLayers_reminders (s : State) (n : Svc) (add : VerdictFlags) :
    RemindersKept s.panel (s.closeLayers n add).panel :=
  State.closeLayers_keeps (P := fun u : State => RemindersKept s.panel u.panel)
    (fun u k h => (u.closeSegment_reminders n k add).mpr h) (by simp)

theorem State.closeLayers_conds (s : State) (n : Svc) (add : VerdictFlags) :
    CondsKept segmentConds s.panel (s.closeLayers n add).panel :=
  State.closeLayers_keeps (P := fun u : State => CondsKept segmentConds s.panel u.panel)
    (fun u k h => (State.closeSegment_conds (List.Subset.refl _) u n k add).mpr h) (by simp)

/-! ### The enable group switched off (R16, R99, R181) -/

/-- R16, R74: the Feed Receiver and the Caption Watch of a service switched off. -/
def State.seeking (s : State) (n : Svc) : State :=
  ((s.leaveFlywheel n).modFeed n fun f => { f with lock := .seeking, lossTimer := none, frameTimer := none }).loseStream n

theorem State.disable_eq (s : State) (n : Svc) :
    s.disable n = ((s.seeking n).closeLayers n .ofEarlyClose).refreshRequirement n := rfl

/-! R16: what the exit from FLYWHEEL and the switch to SEEKING leave of the lane's blocks. -/

theorem State.seeking_sched (s : State) (n : Svc) : (s.seeking n).sched = s.sched := by
  simp [State.seeking, State.loseStream]

theorem State.seeking_logs (s : State) (n : Svc) :
    (s.seeking n).integ = s.integ ∧ (s.seeking n).recorder = s.recorder := by
  simp [State.seeking, State.loseStream]

theorem State.seeking_sheet (s : State) (n : Svc) : (s.seeking n).sheet = s.sheet := by
  simp [State.seeking, State.loseStream]

theorem State.seeking_carries (s : State) (n : Svc) : (s.seeking n).carries = s.carries := by
  simp [State.seeking, State.loseStream, State.carries]

theorem State.seeking_conds (s : State) (n : Svc) : CondsKept [.feedLoss] s.panel (s.seeking n).panel := by
  unfold State.seeking State.loseStream State.leaveFlywheel
  split <;> simp

theorem State.seeking_feed (s : State) (n : Svc) :
    (s.seeking n).feed[n] = { s.feed[n] with lock := .seeking, lossTimer := none, frameTimer := none } := by
  have left : (s.leaveFlywheel n).feed[n] = _ := s.leaveFlywheel_feed_own n
  have switched : (s.seeking n).feed[n] =
      { (s.leaveFlywheel n).feed[n] with lock := .seeking, lossTimer := none, frameTimer := none } := by
    simp [State.seeking, State.loseStream]
  rw [switched, left]
  split <;> rfl

theorem State.closeLayers_sheet (s : State) (n : Svc) (add : VerdictFlags) : (s.closeLayers n add).sheet = s.sheet := by
  simp [State.closeLayers]

theorem State.disable_feed (s : State) (n : Svc) :
    (s.disable n).feed[n] = { s.feed[n] with lock := .seeking, lossTimer := none, frameTimer := none } := by
  have closed : (s.disable n).feed = (s.seeking n).feed := by simp [State.disable_eq, State.closeLayers]
  rw [closed]
  exact s.seeking_feed n

theorem State.disable_conds (s : State) (n : Svc) :
    CondsKept (.feedLoss :: (segmentConds ++ captionConds)) s.panel (s.disable n).panel := by
  have seeking := (s.seeking_conds n).mono (D := .feedLoss :: (segmentConds ++ captionConds)) (by decide)
  have closed := ((s.seeking n).closeLayers_conds n .ofEarlyClose).mono
    (D := .feedLoss :: (segmentConds ++ captionConds)) (by decide)
  rw [State.disable_eq]
  exact (State.refreshRequirement_conds (by decide) _ n).mpr (seeking.trans closed)

theorem State.disable_reminders (s : State) (n : Svc) : RemindersKept s.panel (s.disable n).panel := by
  have seeking : RemindersKept s.panel (s.seeking n).panel := by simp [State.seeking, State.loseStream]
  rw [State.disable_eq]
  exact (State.refreshRequirement_reminders _ n).mpr (seeking.trans (State.closeLayers_reminders _ n _))

/-- R13, R16: FEED_LOSS is not live after a service has been switched off in FLYWHEEL. -/
theorem State.disable_feedLoss {s : State} {n : Svc} (fly : s.feed[n].lock = .flywheel) :
    ((s.disable n).svcCond n .feedLoss).live = false := by
  have kept : CondsKept (segmentConds ++ captionConds) (s.leaveFlywheel n).panel (s.disable n).panel := by
    rw [State.disable_eq]
    exact (State.refreshRequirement_conds (by decide) _ n).mpr
      (((s.seeking n).closeLayers_conds n .ofEarlyClose).mono (by decide))
  rw [kept.svcCond n (by decide)]
  exact (State.leaveFlywheel_feedLoss fly).1

theorem State.disable_meter (s : State) (n : Svc) :
    (s.disable n).meter[n] = if s.feed[n].lock = .flywheel then s.brokenMeter n else s.meter[n] := by
  have closed : (s.disable n).meter = (s.leaveFlywheel n).meter := by
    simp [State.disable_eq, State.closeLayers, State.seeking, State.loseStream]
  rw [closed]
  split
  · next fly => exact s.leaveFlywheel_meter n fly
  · next fly =>
    have same : s.leaveFlywheel n = s := if_neg fly
    rw [same]

/-- R74: the caption stream of a service that has been switched off is lost. -/
theorem State.disable_caption (s : State) (n : Svc) :
    (s.disable n).caption[n] =
      { s.caption[n] with
        state := .lost, liveness := 0, content := 0, lastSeq := none
        required := (s.disable n).caption[n].required, source := (s.disable n).caption[n].source } := by
  simp [State.disable_eq, State.closeLayers, State.seeking, State.loseStream, State.refreshRequirement]

/-- R28, R96: a switch off moves every context on, and breaks the runs where it leaves FLYWHEEL. -/
theorem State.disable_moves (s : State) (n : Svc) :
    PoolMoves (s.leaveFlywheel n).pool (s.disable n).pool := by
  have refreshed : (s.disable n).pool = ((s.seeking n).closeLayers n .ofEarlyClose).pool := by simp [State.disable_eq]
  rw [refreshed]
  exact State.closeLayers_keeps (P := fun u : State => PoolMoves (s.leaveFlywheel n).pool u.pool)
    (fun u k h => h.trans (u.closeSegment_pool n k _)) (.refl _)

end Sys2Proof.Machine

namespace Sys2Proof.Machine

/-! ### The evaluation (R167, R168 step 1) -/

/-- The conditions stand in the order that decides an alert's cause. -/
theorem allConds_ranks : allConds.map causeRank = List.range 259 := by decide +kernel

theorem allConds_ordered : allConds.Pairwise fun r q => causeRank r < causeRank q := by
  have ranks : (allConds.map causeRank).Pairwise (· < ·) := by
    rw [allConds_ranks]
    exact List.pairwise_lt_range
  exact List.pairwise_map.mp ranks

section
variable (s : State)

/-- R167: no pending condition has a priority above the highest, and the highest is one's own unless none is pending. -/
theorem State.topPending_spec :
    (∀ r, s.isPending r = true → s.priority r ≤ s.topPending) ∧
      (s.topPending = 0 ∨ ∃ r, s.isPending r = true ∧ s.priority r = s.topPending) := by
  have spec : ∀ (l : List CondRef) (p : Nat),
      let top := l.foldl (fun p r => if s.isPending r then max p (s.priority r) else p) p
      p ≤ top ∧ (∀ r ∈ l, s.isPending r = true → s.priority r ≤ top) ∧
        (top = p ∨ ∃ r, s.isPending r = true ∧ s.priority r = top) := fun l => by
    induction l with
    | nil => intro p; exact ⟨Nat.le_refl p, nofun, .inl rfl⟩
    | cons r l ih =>
      intro p
      obtain ⟨grows, covers, attained⟩ := ih (if s.isPending r then max p (s.priority r) else p)
      rw [List.foldl_cons]
      have step : p ≤ if s.isPending r then max p (s.priority r) else p := by split <;> omega
      refine ⟨step.trans grows, fun q hq hp => ?_, ?_⟩
      · rcases List.mem_cons.mp hq with rfl | hq
        · rw [if_pos hp] at grows ⊢
          exact (Nat.le_max_right _ _).trans grows
        · exact covers q hq hp
      · rcases attained with same | other
        · by_cases hp : s.isPending r = true
          · rw [if_pos hp] at same ⊢
            rcases Nat.le_total p (s.priority r) with le | le
            · exact .inr ⟨r, hp, by rw [same, Nat.max_eq_right le]⟩
            · exact .inl (by rw [same, Nat.max_eq_left le])
          · rw [if_neg hp] at same ⊢
            exact .inl same
        · exact .inr other
  obtain ⟨-, covers, attained⟩ := spec allConds 0
  exact ⟨fun r => covers r (mem_allConds r), attained⟩

theorem State.mem_pendingAt (p : Nat) (r : CondRef) :
    r ∈ s.pendingAt p ↔ s.isPending r = true ∧ s.priority r = p := by
  simp [State.pendingAt]

/-! An evaluation changes nothing that decides one. -/

theorem State.evaluate_level : s.evaluate.alert.level = s.alert.level := by
  unfold State.evaluate
  dsimp only
  (repeat' split) <;> rfl

theorem State.evaluate_isLinked : s.evaluate.isLinked = s.isLinked := by simp [State.isLinked]

theorem State.evaluate_priority (r : CondRef) : s.evaluate.priority r = s.priority r := by
  cases r <;> simp [State.priority, State.sheetOf]

theorem State.evaluate_isPending (r : CondRef) : s.evaluate.isPending r = s.isPending r := by
  unfold State.isPending
  rw [State.evaluate_cond, State.evaluate_priority]

theorem State.evaluate_entryOwes (r : CondRef) : s.evaluate.entryOwes r = s.entryOwes r := by
  unfold State.entryOwes
  rw [State.evaluate_cond]
  cases r <;> simp

/-- R168 step 1: the alert that an evaluation begins at the highest pending priority p, of which r is the first condition. -/
def State.begunAt (p : Nat) (r : CondRef) : AlertRun :=
  ⟨p, r, (s.pendingAt p).map fun q => (q, (s.cond q).raises), allConds.filter s.entryOwes⟩

theorem State.begunAt_level (p : Nat) (r : CondRef) : (s.begunAt p r).level = p := rfl

variable {s} (linked : s.isLinked = true) (free : s.alert.progress = none)
include linked free

/-- R168 step 1: what an evaluation does to an Alert Unit that may begin an alert. -/
theorem State.evaluate_progress :
    s.evaluate.alert.progress =
      if s.alert.level.toNat < s.topPending then (s.pendingAt s.topPending).head?.map (s.begunAt s.topPending) else none := by
  have open' : (s.isLinked && s.alert.progress.isNone) = true := by simp [linked, free]
  unfold State.evaluate
  rw [if_pos open']
  dsimp only
  split
  · cases pending : s.pendingAt s.topPending with
    | nil => simp [free]
    | cons r rs => simp [State.begunAt, pending]
  · exact free

/-- R167, R168: an evaluation leaves the Alert Unit as it is to be. -/
theorem State.evaluate_evaluated : s.evaluate.Evaluated := by
  obtain ⟨covers, attained⟩ := s.topPending_spec
  have progress := State.evaluate_progress linked free
  have pending := s.evaluate_isPending
  have priority := s.evaluate_priority
  have level := s.evaluate_level
  refine ⟨fun below => ?_, fun r hp above most => ?_⟩
  · rw [progress]
    rcases attained with none | ⟨r, hp, top⟩
    · rw [if_neg (by omega)]
    · have le := below r (by rw [pending, hp])
      rw [priority, level, top] at le
      rw [if_neg (by omega)]
  · rw [pending] at hp
    rw [priority, level] at above
    simp only [pending, priority] at most
    have top : s.priority r = s.topPending := by
      have le := covers r hp
      rcases attained with none | ⟨q, hq, eq⟩
      · omega
      · rcases most q hq with lt | ⟨same, -⟩ <;> omega
    have mem : r ∈ s.pendingAt s.topPending := (s.mem_pendingAt _ r).mpr ⟨hp, top⟩
    have first : (s.pendingAt s.topPending).head? = some r := by
      have ordered : (s.pendingAt s.topPending).Pairwise fun r q => causeRank r < causeRank q := allConds_ordered.filter _
      cases list : s.pendingAt s.topPending with
      | nil => rw [list] at mem; exact absurd mem List.not_mem_nil
      | cons q qs =>
        rw [list] at mem ordered
        rcases List.mem_cons.mp mem with rfl | later
        · rfl
        · have before := (List.pairwise_cons.mp ordered).1 r later
          obtain ⟨hq, hpq⟩ := (s.mem_pendingAt _ q).mp (by rw [list]; exact List.mem_cons_self)
          rcases most q hq with lt | ⟨-, after⟩ <;> omega
    refine ⟨s.begunAt s.topPending r, ?_, (s.begunAt_level _ r).trans (top.symm.trans (priority r).symm), rfl, fun q noted => ?_, fun q => ?_⟩
    · have above' : s.alert.level.toNat < s.topPending := by omega
      exact progress.trans ((if_pos above').trans (congrArg (Option.map (s.begunAt s.topPending)) first))
    · rw [pending, priority, priority, s.evaluate_cond q, top, ← and_assoc, ← s.mem_pendingAt]
      simp only [State.begunAt, List.mem_map, Prod.mk.injEq]
      constructor
      · rintro ⟨q', hq', rfl, rfl⟩
        exact ⟨hq', rfl⟩
      · rintro ⟨hq', rfl⟩
        exact ⟨q, hq', rfl, rfl⟩
    · rw [s.evaluate_entryOwes q]
      simp [State.begunAt]

end

/-- R167: an evaluation, seen from any earlier state with the same alert in progress. -/
theorem State.evaluate_evaluates {s u : State} (progress : u.alert.progress = s.alert.progress) : Evaluates s u.evaluate := by
  have linked : u.evaluate.isLinked = u.isLinked := u.evaluate_isLinked
  constructor
  · intro off
    rw [linked] at off
    have idle : u.evaluate = u := by
      unfold State.evaluate
      rw [if_neg ?_]
      rcases off with unlinked | busy
      · simp [unlinked]
      · rw [← progress] at busy
        simp [Option.isNone_eq_false_iff.mpr busy]
    rw [idle, progress]
  · intro on free
    exact State.evaluate_evaluated (linked.symm.trans on) (progress.trans free)

/-- R166, R167: after an evaluation an alert is in progress or nothing is pending above the level. -/
theorem State.evaluate_settles {u : State} (linked : u.isLinked = true) :
    u.evaluate.alert.progress.isSome = true ∨
      ∀ q, u.evaluate.isPending q = true → u.evaluate.priority q ≤ u.evaluate.alert.level.toNat := by
  cases free : u.alert.progress with
  | some a =>
    have evaluates := State.evaluate_evaluates (s := u) (u := u) rfl
    rw [evaluates.1 (.inr (by rw [free]; rfl)), free]
    exact .inl rfl
  | none =>
    obtain ⟨covers, attained⟩ := u.topPending_spec
    have progress := State.evaluate_progress linked free
    by_cases above : u.alert.level.toNat < u.topPending
    · obtain none | ⟨r, hr⟩ := attained
      · omega
      · have mem := (u.mem_pendingAt _ r).mpr hr
        rw [progress, if_pos above]
        cases list : u.pendingAt u.topPending with
        | nil => rw [list] at mem; exact absurd mem List.not_mem_nil
        | cons q qs => exact .inl rfl
    · refine .inr fun q hq => ?_
      have le := covers q ((u.evaluate_isPending q).symm.trans hq)
      rw [u.evaluate_priority, u.evaluate_level]
      omega

end Sys2Proof.Machine

namespace Sys2Proof.Machine

/-! ### The groups of an adoption, one after the other (R180 to R183) -/

/-- The enable group is switched off. -/
abbrev Sheet.switchesOff (old new : Sheet) : Prop := old.enable = true ∧ new.enable = false

/-- The mix group differs (R20). -/
abbrev Sheet.remixes (old new : Sheet) : Prop := old.mix ≠ new.mix ∨ old.calibration ≠ new.calibration

/-- The caption stream differs (R74). -/
abbrev Sheet.restreams (old new : Sheet) : Prop := old.page ≠ new.page ∨ old.lang ≠ new.lang

theorem Sheet.remixes_iff (old new : Sheet) : old.mixGroup ≠ new.mixGroup ↔ old.remixes new := by
  simp only [Sheet.mixGroup, Sheet.remixes, ne_eq, Prod.mk.injEq]
  tauto

theorem Sheet.switchesOff_iff (old new : Sheet) : (old.enable && !new.enable) = true ↔ old.switchesOff new := by
  simp [Sheet.switchesOff]

section
variable (s : State) (n : Svc) (old new : Sheet)

def State.handEnable : State := if old.enable && !new.enable then s.disable n else s
def State.handMix : State := if old.mixGroup ≠ new.mixGroup then s.mixChange n else s
def State.handRate : State := if old.rate ≠ new.rate then s.modFeed n fun f => { f with mismatch := false } else s
def State.handStream : State := if old.page ≠ new.page ∨ old.lang ≠ new.lang then s.loseStream n else s

/-- R180: the groups before the requirement in force is taken afresh. -/
def State.handBlocks : State := (((s.handEnable n old new).handMix n old new).handRate n old new).handStream n old new

/-- R179: the sheet of a service replaced but for its alerting group. -/
def State.taken (rev : BitVec 32) (body : List Byte) : State :=
  s.modSheet n fun u =>
    { u with adopted := (parseSheet rev body).withAlerting (s.sheetOf n), source := .host, lastTaken := some rev
             clamped := sheetClamps body }

theorem State.taken_sheetOf (rev : BitVec 32) (body : List Byte) :
    (s.taken n rev body).sheetOf n = (parseSheet rev body).withAlerting (s.sheetOf n) := by
  simp [State.taken, State.sheetOf]

/-- R180: an adoption is its groups handed in turn, the alerting group last. -/
theorem State.adoptSheet_eq (rev : BitVec 32) (body : List Byte) :
    s.adoptSheet n rev body =
      (((s.taken n rev body).handBlocks n (s.sheetOf n) (parseSheet rev body)).refreshRequirement n).adoptAlerting n
        (s.sheetOf n) (parseSheet rev body) := by
  have handed : (s.taken n rev body).handGroups n (s.sheetOf n) =
      ((s.taken n rev body).handBlocks n (s.sheetOf n) ((s.taken n rev body).sheetOf n)).refreshRequirement n := rfl
  rw [State.taken_sheetOf] at handed
  unfold State.adoptSheet
  exact congrArg (State.adoptAlerting · n (s.sheetOf n) (parseSheet rev body)) handed

/-! #### What each group leaves of the blocks -/

theorem State.handEnable_off (off : old.switchesOff new) : s.handEnable n old new = s.disable n :=
  if_pos ((Sheet.switchesOff_iff old new).mpr off)

theorem State.handEnable_on (on : ¬old.switchesOff new) : s.handEnable n old new = s :=
  if_neg (mt (Sheet.switchesOff_iff old new).mp on)

theorem State.handMix_frame :
    (s.handMix n old new).feed = s.feed ∧ (s.handMix n old new).caption = s.caption ∧
      (s.handMix n old new).integ = s.integ ∧ (s.handMix n old new).recorder = s.recorder ∧
      (s.handMix n old new).panel = s.panel ∧ (s.handMix n old new).sheet = s.sheet ∧
      (s.handMix n old new).ctl = s.ctl := by
  unfold State.handMix
  split <;> simp

theorem State.handRate_frame :
    (s.handRate n old new).meter = s.meter ∧ (s.handRate n old new).caption = s.caption ∧
      (s.handRate n old new).sched = s.sched ∧ (s.handRate n old new).pool = s.pool ∧
      (s.handRate n old new).integ = s.integ ∧ (s.handRate n old new).recorder = s.recorder ∧
      (s.handRate n old new).panel = s.panel ∧ (s.handRate n old new).sheet = s.sheet ∧
      (s.handRate n old new).ctl = s.ctl := by
  unfold State.handRate
  split <;> simp

theorem State.handStream_frame :
    (s.handStream n old new).feed = s.feed ∧ (s.handStream n old new).meter = s.meter ∧
      (s.handStream n old new).sched = s.sched ∧ (s.handStream n old new).pool = s.pool ∧
      (s.handStream n old new).integ = s.integ ∧ (s.handStream n old new).recorder = s.recorder ∧
      (s.handStream n old new).panel = s.panel ∧ (s.handStream n old new).sheet = s.sheet ∧
      (s.handStream n old new).ctl = s.ctl := by
  unfold State.handStream State.loseStream
  split <;> simp

theorem State.mixChange_meter :
    (s.mixChange n).meter[n] = { s.brokenMeter n with filters := List.replicate 8 Filter.zero, peaks := zeros8 } := by
  simp [State.mixChange, State.runBreak, State.brokenMeter, Meter.breakRun]

theorem State.mixChange_pool (c : CtxId) :
    (s.mixChange n).pool[c] = if s.pool[c].ownedBy n then s.pool[c].breakRun else s.pool[c] := by
  have broken := (s.modMeter n (Meter.breakRun (s.svcCond n .audioSilence).live)).breakContextRuns_pool n c
  have same : (s.mixChange n).pool =
      ((s.modMeter n (Meter.breakRun (s.svcCond n .audioSilence).live)).breakContextRuns n).pool := by
    simp [State.mixChange, State.runBreak]
  rw [same]
  exact broken

/-- The state in which a mix change flags the open dockets. -/
def State.remixed : State :=
  (s.runBreak n).modMeter n fun m => { m with filters := List.replicate 8 Filter.zero, peaks := zeros8 }

theorem State.mixChange_eq : s.mixChange n = (s.remixed n).flagOpen n .ofMixChanged := rfl

theorem State.remixed_sched : (s.remixed n).sched = s.sched := by simp [State.remixed]

theorem State.mixChange_entry (k : Slot) :
    (s.mixChange n).entry n k =
      if (s.entry n k).state = .opened then { s.entry n k with flags := (s.entry n k).flags.union .ofMixChanged }
      else s.entry n k := by
  rw [State.mixChange_eq, State.flagOpen_entry, State.entry_of_sched (s.remixed_sched n)]

theorem State.mixChange_openSlot (l : Layer) : (s.mixChange n).sched[n].openSlot l = s.sched[n].openSlot l := by
  obtain ⟨inner, outer⟩ := (s.remixed n).modEntriesWhere_open n (fun e => e.state = .opened)
    fun e => { e with flags := e.flags.union .ofMixChanged }
  rw [s.remixed_sched n] at inner outer
  cases l with
  | outer => exact outer
  | inner => exact inner

/-! #### What all of them leave -/

theorem State.handRate_feed :
    (s.handRate n old new).feed[n] =
      { s.feed[n] with mismatch := s.feed[n].mismatch && decide (old.rate = new.rate) } := by
  unfold State.handRate
  by_cases same : old.rate = new.rate
  · rw [if_neg (not_not.mpr same)]
    simp [same]
  · rw [if_pos same]
    simp [same]

theorem State.handStream_caption :
    (s.handStream n old new).caption[n] =
      if old.restreams new then { s.caption[n] with state := .lost, liveness := 0, content := 0, lastSeq := none }
      else s.caption[n] := by
  unfold State.handStream State.loseStream
  split <;> simp

theorem State.handRate_caption : (s.handRate n old new).caption = s.caption := by
  obtain ⟨-, caption, -⟩ := s.handRate_frame n old new
  exact caption

theorem State.handMix_caption : (s.handMix n old new).caption = s.caption := by
  obtain ⟨-, caption, -⟩ := s.handMix_frame n old new
  exact caption

theorem State.handBlocks_feed :
    (s.handBlocks n old new).feed[n] =
      { (s.handEnable n old new).feed[n] with
        mismatch := (s.handEnable n old new).feed[n].mismatch && decide (old.rate = new.rate) } := by
  unfold State.handBlocks
  rw [(State.handStream_frame _ n old new).1, State.handRate_feed, (State.handMix_frame _ n old new).1]

/-- What the Sheet Unit leaves when it has handed the groups after the enable group. -/
theorem State.handBlocks_frame :
    (s.handBlocks n old new).meter = ((s.handEnable n old new).handMix n old new).meter ∧
      (s.handBlocks n old new).pool = ((s.handEnable n old new).handMix n old new).pool ∧
      (s.handBlocks n old new).sched = ((s.handEnable n old new).handMix n old new).sched ∧
      (s.handBlocks n old new).integ = (s.handEnable n old new).integ ∧
      (s.handBlocks n old new).recorder = (s.handEnable n old new).recorder ∧
      (s.handBlocks n old new).panel = (s.handEnable n old new).panel ∧
      (s.handBlocks n old new).sheet = (s.handEnable n old new).sheet := by
  obtain ⟨e, he⟩ : ∃ e, e = s.handEnable n old new := ⟨_, rfl⟩
  obtain ⟨m, hm⟩ : ∃ m, m = e.handMix n old new := ⟨_, rfl⟩
  obtain ⟨-, -, integ, recorder, panel, sheet, -⟩ := e.handMix_frame n old new
  obtain ⟨meter', -, sched', pool', integ', recorder', panel', sheet', -⟩ := m.handRate_frame n old new
  obtain ⟨-, meter'', sched'', pool'', integ'', recorder'', panel'', sheet'', -⟩ :=
    (m.handRate n old new).handStream_frame n old new
  have all : s.handBlocks n old new = (m.handRate n old new).handStream n old new := by
    rw [hm, he]
    rfl
  rw [← hm] at integ recorder panel sheet
  rw [all, ← he, ← hm]
  exact ⟨meter''.trans meter', pool''.trans pool', sched''.trans sched', integ''.trans (integ'.trans integ),
    recorder''.trans (recorder'.trans recorder), panel''.trans (panel'.trans panel), sheet''.trans (sheet'.trans sheet)⟩

theorem State.handBlocks_pool : (s.handBlocks n old new).pool = ((s.handEnable n old new).handMix n old new).pool := by
  obtain ⟨-, pool, -⟩ := s.handBlocks_frame n old new
  exact pool

theorem State.handBlocks_sched : (s.handBlocks n old new).sched = ((s.handEnable n old new).handMix n old new).sched := by
  obtain ⟨-, -, sched, -⟩ := s.handBlocks_frame n old new
  exact sched

theorem State.handBlocks_panel : (s.handBlocks n old new).panel = (s.handEnable n old new).panel := by
  obtain ⟨-, -, -, -, -, panel, -⟩ := s.handBlocks_frame n old new
  exact panel

theorem State.handBlocks_sheet : (s.handBlocks n old new).sheet = (s.handEnable n old new).sheet := by
  obtain ⟨-, -, -, -, -, -, sheet⟩ := s.handBlocks_frame n old new
  exact sheet

theorem State.handMix_entry (k : Slot) :
    (s.handMix n old new).entry n k =
      if old.remixes new ∧ (s.entry n k).state = .opened then
        { s.entry n k with flags := (s.entry n k).flags.union .ofMixChanged }
      else s.entry n k := by
  by_cases mixed : old.remixes new
  · have changed : s.handMix n old new = s.mixChange n := if_pos ((Sheet.remixes_iff old new).mpr mixed)
    rw [changed, State.mixChange_entry]
    exact (if_congr (and_iff_right mixed) rfl rfl).symm
  · have same : s.handMix n old new = s := if_neg (mt (Sheet.remixes_iff old new).mp mixed)
    rw [same, if_neg fun h => mixed h.1]

theorem State.handMix_openSlot (l : Layer) : (s.handMix n old new).sched[n].openSlot l = s.sched[n].openSlot l := by
  unfold State.handMix
  split
  · exact s.mixChange_openSlot n l
  · rfl

/-- R20, R28: the meter once the enable group and the mix group have been handed. -/
theorem State.handBlocks_meter :
    (s.handBlocks n old new).meter[n] =
      if old.remixes new then { s.brokenMeter n with filters := List.replicate 8 Filter.zero, peaks := zeros8 }
      else if old.switchesOff new ∧ s.feed[n].lock = .flywheel then s.brokenMeter n else s.meter[n] := by
  obtain ⟨e, he⟩ : ∃ e, e = s.handEnable n old new := ⟨_, rfl⟩
  have silence : e.svcCond n .audioSilence = s.svcCond n .audioSilence := by
    by_cases off : old.switchesOff new
    · rw [he, s.handEnable_off n old new off]
      exact (s.disable_conds n).svcCond n (by decide)
    · rw [he, s.handEnable_on n old new off]
  have meter : e.meter[n] =
      if old.switchesOff new ∧ s.feed[n].lock = .flywheel then s.brokenMeter n else s.meter[n] := by
    by_cases off : old.switchesOff new
    · rw [he, s.handEnable_off n old new off, State.disable_meter]
      exact (if_congr (and_iff_right off) rfl rfl).symm
    · rw [he, s.handEnable_on n old new off, if_neg fun h => off h.1]
  have frame : (s.handBlocks n old new).meter = (e.handMix n old new).meter := by
    rw [he]
    exact (s.handBlocks_frame n old new).1
  rw [frame]
  by_cases mixed : old.remixes new
  · have changed : e.handMix n old new = e.mixChange n := if_pos ((Sheet.remixes_iff old new).mpr mixed)
    rw [changed, State.mixChange_meter, if_pos mixed]
    unfold State.brokenMeter
    rw [silence, meter]
    unfold State.brokenMeter
    split <;> cases (s.svcCond n .audioSilence).live <;> rfl
  · have same : e.handMix n old new = e := if_neg (mt (Sheet.remixes_iff old new).mp mixed)
    rw [same, if_neg mixed, meter]

end

end Sys2Proof.Machine

namespace Sys2Proof.Machine

/-! ### The contexts under an adoption (R20, R28, R53) -/

theorem Context.breakRun_moves (x : Context) : x.Moves x.breakRun := fun taken => by
  unfold Context.breakRun
  split
  · next acc => exact .inr ⟨by simp [acc], x.state, x.figures, taken, rfl⟩
  · exact .inl rfl

theorem Context.breakRun_runsOn (x : Context) : x.RunsOn x.breakRun := fun running => by
  unfold Context.breakRun
  split
  · exact ⟨running, rfl⟩
  · exact ⟨running, rfl⟩

/-- The runs of a service's contexts, and nothing else of the pool, have been broken. -/
def RunsCut (n : Svc) (s t : State) : Prop :=
  ∀ c : CtxId, t.pool[c] = if s.pool[c].ownedBy n then s.pool[c].breakRun else s.pool[c]

theorem RunsCut.moves {n : Svc} {s t : State} (h : RunsCut n s t) : PoolMoves s.pool t.pool := fun c => by
  rw [h c]
  split
  · exact Context.breakRun_moves _
  · exact .refl _

theorem RunsCut.runsOn {n : Svc} {s t : State} (h : RunsCut n s t) (c : CtxId) : s.pool[c].RunsOn t.pool[c] := by
  rw [h c]
  split
  · exact Context.breakRun_runsOn _
  · exact .refl _

theorem State.mixChange_runsCut (s : State) (n : Svc) : RunsCut n s (s.mixChange n) := fun c => s.mixChange_pool n c

theorem State.leaveFlywheel_moves (s : State) (n : Svc) :
    PoolMoves s.pool (s.leaveFlywheel n).pool ∧ ∀ c : CtxId, s.pool[c].RunsOn (s.leaveFlywheel n).pool[c] := by
  by_cases fly : s.feed[n].lock = .flywheel
  · have cut : RunsCut n s (s.leaveFlywheel n) := fun c => s.leaveFlywheel_pool n fly c
    exact ⟨cut.moves, cut.runsOn⟩
  · have same : s.leaveFlywheel n = s := if_neg fly
    rw [same]
    exact ⟨.refl _, fun _ => .refl _⟩

/-- R28: runs broken between other moves of the pool. -/
theorem ContextRunsBroken.of_cut {n : Svc} {s u v t : State} (before : PoolMoves s.pool u.pool) (cut : RunsCut n u v)
    (after : PoolMoves v.pool t.pool) : ContextRunsBroken n s t := by
  intro c own acc
  have taken : s.pool[c].state ≠ .free := fun h => nomatch acc.symm.trans h
  have broken : ∃ st fig, st ≠ .free ∧ v.pool[c] = { s.pool[c] with state := st, acc := Accumulator.fresh, figures := fig } := by
    rw [cut c]
    rcases before c taken with same | ⟨-, st, fig, hst, moved⟩
    · rw [same, if_pos own]
      exact ⟨s.pool[c].state, s.pool[c].figures, taken, if_pos acc⟩
    · rw [moved]
      refine ⟨st, fig, hst, ?_⟩
      unfold Context.breakRun
      (repeat' split) <;> rfl
  obtain ⟨st, fig, hst, hv⟩ := broken
  rcases after c (by rw [hv]; exact hst) with same | ⟨-, st', fig', -, moved⟩
  · exact ⟨st, fig, same.trans hv⟩
  · exact ⟨st', fig', by rw [moved, hv]⟩

section
variable (s : State) (n : Svc) (old new : Sheet)

theorem State.disable_poolMoves : PoolMoves s.pool (s.disable n).pool :=
  (s.leaveFlywheel_moves n).1.trans (s.disable_moves n)

theorem State.handEnable_moves : PoolMoves s.pool (s.handEnable n old new).pool := by
  unfold State.handEnable
  split
  · exact s.disable_poolMoves n
  · exact .refl _

theorem State.handMix_moves : PoolMoves s.pool (s.handMix n old new).pool := by
  unfold State.handMix
  split
  · exact (s.mixChange_runsCut n).moves
  · exact .refl _

theorem State.handBlocks_moves : PoolMoves s.pool (s.handBlocks n old new).pool := by
  rw [State.handBlocks_pool]
  exact (s.handEnable_moves n old new).trans (State.handMix_moves _ n old new)

variable {s n old new}

/-- R20, R28: a mix change, and a switch off in FLYWHEEL, break the runs of the service's contexts. -/
theorem State.handBlocks_runs {r t : State} (before : PoolMoves r.pool s.pool)
    (breaks : old.remixes new ∨ old.switchesOff new ∧ s.feed[n].lock = .flywheel)
    (after : PoolMoves (s.handBlocks n old new).pool t.pool) : ContextRunsBroken n r t := by
  rw [State.handBlocks_pool] at after
  by_cases mixed : old.remixes new
  · have changed : (s.handEnable n old new).handMix n old new = (s.handEnable n old new).mixChange n :=
      if_pos ((Sheet.remixes_iff old new).mpr mixed)
    rw [changed] at after
    exact .of_cut (before.trans (s.handEnable_moves n old new)) (State.mixChange_runsCut _ n) after
  · obtain ⟨off, fly⟩ := breaks.resolve_left mixed
    have cut : RunsCut n s (s.leaveFlywheel n) := fun c => s.leaveFlywheel_pool n fly c
    have later := (State.handMix_moves (s.handEnable n old new) n old new).trans after
    rw [s.handEnable_off n old new off] at later
    exact .of_cut before cut ((s.disable_moves n).trans later)

/-- R20, R28: an adoption that does not switch off changes the pool only by the run break of a mix change. -/
theorem State.handBlocks_pool_on (on : ¬old.switchesOff new) (x : CtxId) :
    (s.handBlocks n old new).pool[x] =
      if old.remixes new ∧ s.pool[x].ownedBy n = true ∧ s.pool[x].state = .accumulating then
        { s.pool[x] with acc := Accumulator.fresh }
      else s.pool[x] := by
  have pool : (s.handBlocks n old new).pool = (s.handMix n old new).pool := by
    rw [State.handBlocks_pool, s.handEnable_on n old new on]
  rw [pool]
  by_cases mixed : old.remixes new
  · have changed : s.handMix n old new = s.mixChange n := if_pos ((Sheet.remixes_iff old new).mpr mixed)
    rw [changed, s.mixChange_pool n x, if_congr (and_iff_right mixed) rfl rfl]
    unfold Context.breakRun
    by_cases own : s.pool[x].ownedBy n = true
    · rw [if_pos own, if_congr (and_iff_right own) rfl rfl]
    · rw [if_neg own, if_neg fun h => own h.1]
  · have same : s.handMix n old new = s := if_neg (mt (Sheet.remixes_iff old new).mp mixed)
    rw [same, if_neg fun h => mixed h.1]

end

/-! ### The dockets under an adoption (R96, R99, R181) -/

theorem OpenOwn.of_runsOn {n : Svc} {s t : State} (own : OpenOwn n s) (sched : t.sched[n] = s.sched[n])
    (runs : ∀ (k : Slot) (c : CtxId), (s.entry n k).state = .opened → (s.entry n k).context = some c →
      s.pool[c].RunsOn t.pool[c]) : OpenOwn n t := by
  have entry : ∀ k, t.entry n k = s.entry n k := fun k => by
    unfold State.entry
    rw [sched]
  intro k x ho hx
  rw [entry] at ho hx ⊢
  obtain ⟨running, owner⟩ := own k x ho hx
  obtain ⟨running', owner'⟩ := runs k x ho hx running
  exact ⟨running', owner'.trans owner⟩

/-- R53: the closes of one service leave every service's OPEN dockets their contexts. -/
theorem OpenOwn.closeSegment_all {s : State} (own : ∀ m, OpenOwn m s) (n : Svc) (k : Slot) (add : VerdictFlags) (m : Svc) :
    OpenOwn m (s.closeSegment n k add) := by
  by_cases hm : m = n
  · subst hm
    exact (own m).closeSegment k add
  · by_cases ho : (s.entry n k).state = .opened
    · obtain ⟨-, -, -, sched, -⟩ := s.closeSegment_others n k add m hm
      refine (own m).of_runsOn sched fun j c hj hc => s.closeSegment_runsOn n add fun same => ?_
      have owners := (own n k c ho same).2.symm.trans (own m j c hj hc).2
      simp only [Option.some.injEq, Owner.mk.injEq] at owners
      exact hm owners.1.symm
    · rw [State.closeSegment_idle (.inl ho)]
      exact own m

section
variable {s : State} {n : Svc}

theorem State.seeking_pool (s : State) (n : Svc) : (s.seeking n).pool = (s.leaveFlywheel n).pool := rfl

theorem State.seeking_openOwn {m : Svc} (own : OpenOwn m s) : OpenOwn m (s.seeking n) :=
  own.of_runsOn (by rw [State.seeking_sched]) fun _ c _ _ => by
    rw [State.seeking_pool]
    exact (s.leaveFlywheel_moves n).2 c

theorem State.disable_openOwn (own : ∀ m, OpenOwn m s) (m : Svc) : OpenOwn m (s.disable n) := by
  have closed : ∀ m, OpenOwn m ((s.seeking n).closeLayers n .ofEarlyClose) :=
    State.closeLayers_keeps (P := fun u : State => ∀ m, OpenOwn m u)
      (fun _ k h => OpenOwn.closeSegment_all h n k _) fun m => State.seeking_openOwn (own m)
  have same : ((((s.seeking n).closeLayers n .ofEarlyClose).refreshRequirement n).sched =
      ((s.seeking n).closeLayers n .ofEarlyClose).sched) ∧
      ((((s.seeking n).closeLayers n .ofEarlyClose).refreshRequirement n).pool =
      ((s.seeking n).closeLayers n .ofEarlyClose).pool) := by simp
  rw [State.disable_eq]
  refine (closed m).of_runsOn (by rw [same.1]) fun _ c _ _ => ?_
  rw [same.2]
  exact .refl _

/-- R99: a switch off closes every OPEN docket with a body, and its segment ends. -/
theorem State.disable_closes {k : Slot} {b : Body} (ho : (s.entry n k).state = .opened)
    (hb : (s.entry n k).body = some b) :
    ∃ a, (s.entry n k).Adjusts a ∧
      (s.disable n).entry n k = a.closedAt s.carries s.feed[n].time .ofEarlyClose ∧
      (OpenOwn n s → SegmentEnded n k b (s.seeking n) (s.disable n)) := by
  have entry : (s.seeking n).entry n k = s.entry n k := State.entry_of_sched (s.seeking_sched n) n k
  obtain ⟨a, ha, closed, ended⟩ := State.closeLayers_closes (s := s.seeking n) (n := n) (j := k) .ofEarlyClose
    (by rw [entry]; exact ho) (by rw [entry]; exact hb)
  obtain ⟨c, hc⟩ : ∃ c, c = (s.seeking n).closeLayers n .ofEarlyClose := ⟨_, rfl⟩
  have disabled : s.disable n = c.refreshRequirement n := by rw [hc]; exact s.disable_eq n
  have time : (s.seeking n).feed[n].time = s.feed[n].time := by rw [State.seeking_feed]
  have carries : (s.seeking n).carries = s.carries := s.seeking_carries n
  rw [← hc] at closed ended
  rw [entry] at ha
  refine ⟨a, ha, ?_, fun own => ?_⟩
  · rw [disabled, State.entry_of_sched (by simp : (c.refreshRequirement n).sched = c.sched), closed, carries, time]
  · obtain ⟨context, mark, logs⟩ := ended (State.seeking_openOwn own)
    have same : (c.refreshRequirement n).pool = c.pool ∧ (c.refreshRequirement n).integ = c.integ ∧
        (c.refreshRequirement n).recorder = c.recorder := by simp
    obtain ⟨pool, integ, recorder⟩ := same
    rw [disabled]
    refine ⟨fun x hx => ?_, fun last hl => ?_, logs.trans (.of_same integ recorder)⟩
    · rw [pool, integ]
      exact context x hx
    · exact (mark last hl).after (.of_same integ recorder)

/-- A switch off leaves the other entries of the service adjusted or as before. -/
theorem State.disable_entry (s : State) (n : Svc) (k : Slot) :
    (s.entry n k).Adjusts ((s.disable n).entry n k) ∨ ((s.disable n).entry n k).state ≠ .opened := by
  have closing := (s.seeking n).closeLayers_closing n .ofEarlyClose k
  have entry : (s.disable n).entry n k = ((s.seeking n).closeLayers n .ofEarlyClose).entry n k :=
    State.entry_of_sched (by simp [State.disable_eq]) n k
  rw [entry]
  rcases closing.entry with adjusted | ⟨a, b, -, -, -, closed, -⟩
  · rw [State.entry_of_sched (s.seeking_sched n)] at adjusted
    exact .inl adjusted
  · rw [closed]
    exact .inr (a.closedAt_not_open _ _ _)

theorem State.disable_openSlot (sound : OpenSlotsStand n s) (l : Layer) : (s.disable n).sched[n].openSlot l = none := by
  have before : OpenSlotsStand n (s.seeking n) := fun l k hk => by
    rw [State.openSlot_of_sched (s.seeking_sched n)] at hk
    rw [State.standsOpen_of_adjusts (.inl (State.entry_of_sched (s.seeking_sched n) n k))]
    exact sound l k hk
  have sched : (s.disable n).sched = ((s.seeking n).closeLayers n .ofEarlyClose).sched := by simp [State.disable_eq]
  rw [State.openSlot_of_sched sched]
  exact State.closeLayers_openSlot _ before l

end

end Sys2Proof.Machine

namespace Sys2Proof.Machine

/-! ### The alerting group (R166) -/

/-- From s to t no live field and no raise count has changed. -/
def SignalsKept (s t : State) : Prop :=
  ∀ r : CondRef, (t.cond r).live = (s.cond r).live ∧ (t.cond r).raises = (s.cond r).raises

/-- A change of an entry that touches neither its live field nor its raise count. -/
def SparesSignal (f : CondEntry → CondEntry) : Prop := ∀ e : CondEntry, (f e).live = e.live ∧ (f e).raises = e.raises

theorem SignalsKept.refl (s : State) : SignalsKept s s := fun _ => ⟨rfl, rfl⟩

theorem SignalsKept.trans {s t u : State} (h : SignalsKept s t) (g : SignalsKept t u) : SignalsKept s u := fun r =>
  ⟨(g r).1.trans (h r).1, (g r).2.trans (h r).2⟩

theorem SignalsKept.svcCond {s t : State} (h : SignalsKept s t) (n : Svc) (c : SvcCond) :
    (t.svcCond n c).live = (s.svcCond n c).live ∧ t.raises n c = s.raises n c := h (.service n c)

theorem SparesSignal.touched {f : CondEntry → CondEntry} (hf : SparesSignal f) (linked : Bool) :
    SparesSignal fun e => (f e).touched linked := fun e => by
  unfold CondEntry.touched
  split
  · exact hf e
  · exact hf e

theorem State.modCond_signals (s : State) (r : CondRef) {f : CondEntry → CondEntry} (hf : SparesSignal f) :
    SignalsKept s (s.modCond r f) := fun q => by
  rw [State.modCond_get]
  split
  · exact hf _
  · exact ⟨rfl, rfl⟩

theorem State.changeCond_signals (s : State) (r : CondRef) {f : CondEntry → CondEntry} (hf : SparesSignal f) :
    SignalsKept s (s.changeCond r f) := fun q => by
  rw [State.changeCond_get]
  split
  · exact hf.touched s.isLinked _
  · exact ⟨rfl, rfl⟩

/-- One condition of R166: its timer stops and its mark is cleared. -/
def State.stopReminder (n : Svc) (s : State) (c : SvcCond) : State :=
  let s := s.modCond (.service n c) fun e => { e with timer := none }
  if (s.svcCond n c).mark then s.changeCond (.service n c) fun e => { e with mark := false } else s

theorem State.stopServiceReminders_eq (s : State) (n : Svc) :
    s.stopServiceReminders n = allSvcConds.foldl (State.stopReminder n) s := rfl

theorem State.stopReminder_signals (n : Svc) (s : State) (c : SvcCond) : SignalsKept s (State.stopReminder n s c) := by
  have stopped := s.modCond_signals (.service n c) (f := fun e => { e with timer := none }) fun _ => ⟨rfl, rfl⟩
  unfold State.stopReminder
  dsimp only
  split
  · exact stopped.trans (State.changeCond_signals _ _ fun _ => ⟨rfl, rfl⟩)
  · exact stopped

theorem State.stopReminder_own (n : Svc) (s : State) (c : SvcCond) :
    ((State.stopReminder n s c).svcCond n c).timer = none ∧ ((State.stopReminder n s c).svcCond n c).mark = false := by
  have stopped : (s.modCond (.service n c) fun e => { e with timer := none }).svcCond n c =
      { s.svcCond n c with timer := none } := by
    have get := s.modCond_get (.service n c) (.service n c) fun e => { e with timer := none }
    rwa [if_pos rfl] at get
  unfold State.stopReminder
  dsimp only
  split
  · have changed := (s.modCond (.service n c) fun e => { e with timer := none }).changeCond_get (.service n c)
      (.service n c) fun e => { e with mark := false }
    rw [if_pos rfl] at changed
    change State.svcCond _ n c = CondEntry.touched _ { State.svcCond _ n c with mark := false } at changed
    rw [changed, stopped]
    unfold CondEntry.touched
    split <;> exact ⟨rfl, rfl⟩
  · next unmarked =>
    refine ⟨by rw [stopped], ?_⟩
    simpa using unmarked

theorem State.stopReminder_other (n : Svc) (s : State) {c d : SvcCond} (h : d ≠ c) :
    (State.stopReminder n s c).svcCond n d = s.svcCond n d := by
  have ne := CondRef.service_ne h n
  have stopped := s.modCond_get (.service n c) (.service n d) fun e => { e with timer := none }
  rw [if_neg ne] at stopped
  unfold State.stopReminder
  dsimp only
  split
  · have changed := (s.modCond (.service n c) fun e => { e with timer := none }).changeCond_get (.service n c)
      (.service n d) fun e => { e with mark := false }
    rw [if_neg ne] at changed
    exact changed.trans stopped
  · exact stopped

/-- R166: an interval changed to 0 stops every timer of the service and clears every mark. -/
theorem State.stopServiceReminders_cleared (s : State) (n : Svc) (c : SvcCond) :
    ((s.stopServiceReminders n).svcCond n c).timer = none ∧ ((s.stopServiceReminders n).svcCond n c).mark = false := by
  have fold := foldl_at (fun (u : State) (d : SvcCond) => ((u.svcCond n d).timer, (u.svcCond n d).mark))
    (fun _ => (none, false)) (State.stopReminder n)
    (fun u d => Prod.ext (State.stopReminder_own n u d).1 (State.stopReminder_own n u d).2)
    (fun u d e h => by rw [State.stopReminder_other n u h]) c allSvcConds s (by decide)
  rw [if_pos (mem_allSvcConds c), ← State.stopServiceReminders_eq] at fold
  exact Prod.mk.inj fold

theorem State.touchPriorities_reminders (s : State) (n : Svc) (old : Sheet) :
    RemindersKept s.panel (s.touchPriorities n old).panel :=
  foldl_keeps (fun u : State => RemindersKept s.panel u.panel) _ (fun u c h => by
    split
    · exact h
    · exact (u.changeCond_reminders n c fun _ => ⟨rfl, rfl⟩).mpr h) allSvcConds s (by simp)

theorem State.touchPriorities_signals (s : State) (n : Svc) (old : Sheet) : SignalsKept s (s.touchPriorities n old) :=
  foldl_keeps (SignalsKept s) _ (fun u c h => by
    split
    · exact h
    · exact h.trans (u.changeCond_signals _ fun _ => ⟨rfl, rfl⟩)) allSvcConds s (.refl s)

theorem dueFirst_any (c d : SvcCond) (q : List LiveItem) (h : q.any (LiveItem.isEntry d) = true) :
    (dueFirst c q).any (LiveItem.isEntry d) = true := by
  induction q with
  | nil => exact nomatch h
  | cons i q ih =>
    have later : i.isEntry d = true ∨ q.any (LiveItem.isEntry d) = true := by simpa using h
    have kept {i : LiveItem} (h : i.isEntry d = true ∨ q.any (LiveItem.isEntry d) = true) :
        (i :: dueFirst c q).any (LiveItem.isEntry d) = true := by
      rcases h with h | h
      · simp [h]
      · simp [ih h]
    cases i with
    | entry e part due =>
      unfold dueFirst
      split
      · simpa [LiveItem.isEntry] using later
      · exact kept later
    | fields p => exact kept later
    | mark w => exact kept later
    | count v => exact kept later
    | late e ps => exact kept later

theorem State.changeCond_live {s : State} (linked : s.isLinked = true) (n : Svc) (c : SvcCond) (f : CondEntry → CondEntry) :
    (s.changeCond (.service n c) f).live[n].queue = dueFirst c s.live[n].queue := by
  have on : (s.modCond (.service n c) fun e => (f e).touched s.isLinked).isLinked = true := linked
  rw [State.changeCond, State.queueEntry, if_pos on]
  simp

/-- R166, R171: every entry whose priority an adoption changed is queued. -/
theorem State.touchPriorities_queued {s : State} (linked : s.isLinked = true) (n : Svc) (old : Sheet) (c : SvcCond)
    (changed : old.priorities[svcIndex c] ≠ (s.sheetOf n).priorities[svcIndex c]) :
    (s.touchPriorities n old).entryQueued (.service n c) = true := by
  obtain ⟨before, after, split⟩ := List.append_of_mem (mem_allSvcConds c)
  have step : ∀ (u : State) (d : SvcCond), u.isLinked = true ∧ u.sheetOf n = s.sheetOf n →
      (if old.priorities[svcIndex d] = (u.sheetOf n).priorities[svcIndex d] then u
        else u.changeCond (.service n d) id).isLinked = true ∧
      (if old.priorities[svcIndex d] = (u.sheetOf n).priorities[svcIndex d] then u
        else u.changeCond (.service n d) id).sheetOf n = s.sheetOf n := fun u d h => by
    split
    · exact h
    · exact ⟨(State.isLinked_of_ctl (by simp)).trans h.1, by simpa [State.sheetOf] using h.2⟩
  unfold State.touchPriorities State.entryQueued
  rw [split, List.foldl_append, List.foldl_cons]
  obtain ⟨u, hu⟩ : ∃ u : State, u = before.foldl (fun s c =>
    if old.priorities[svcIndex c] = (s.sheetOf n).priorities[svcIndex c] then s else s.changeCond (.service n c) id) s := ⟨_, rfl⟩
  have kept : u.isLinked = true ∧ u.sheetOf n = s.sheetOf n := by
    rw [hu]
    exact foldl_keeps (fun u : State => u.isLinked = true ∧ u.sheetOf n = s.sheetOf n) _ step before s ⟨linked, rfl⟩
  rw [← hu, kept.2, if_neg changed]
  have queued : (u.changeCond (.service n c) id).isLinked = true ∧
      (u.changeCond (.service n c) id).live[n].queue.any (LiveItem.isEntry c) = true := by
    refine ⟨(State.isLinked_of_ctl (by simp)).trans kept.1, ?_⟩
    rw [State.changeCond_live kept.1]
    obtain ⟨part, mem⟩ := dueFirst_due c u.live[n].queue
    exact List.any_eq_true.mpr ⟨_, mem, by simp [LiveItem.isEntry]⟩
  refine (foldl_keeps (fun u : State => u.isLinked = true ∧ u.live[n].queue.any (LiveItem.isEntry c) = true) _
    (fun u d h => ?_) after _ queued).2
  split
  · exact h
  · refine ⟨(State.isLinked_of_ctl (by simp)).trans h.1, ?_⟩
    rw [State.changeCond_live h.1]
    exact dueFirst_any d c _ h.2

section
variable (s : State) (n : Svc) (old new : Sheet)

/-- R166: the reminder interval taken. -/
def State.handReminder : State :=
  if old.reminder ≠ new.reminder ∧ new.reminder = 0 then s.stopServiceReminders n else s

/-- R166: the priorities taken, and the evaluation that follows. -/
def State.handPriorities : State :=
  if old.priorities ≠ new.priorities then (s.touchPriorities n old).evaluate else s

theorem State.adoptAlerting_eq :
    s.adoptAlerting n old new =
      ((s.modSheet n fun u => { u with adopted := new }).handReminder n old new).handPriorities n old new := rfl

theorem State.handReminder_signals : SignalsKept s (s.handReminder n old new) := by
  unfold State.handReminder
  split
  · exact foldl_keeps (SignalsKept s) _ (fun u c h => h.trans (State.stopReminder_signals n u c)) allSvcConds s (.refl s)
  · exact .refl s

theorem State.handPriorities_signals : SignalsKept s (s.handPriorities n old new) := by
  unfold State.handPriorities
  split
  · refine (s.touchPriorities_signals n old).trans fun r => ?_
    rw [State.evaluate_cond]
    exact ⟨rfl, rfl⟩
  · exact .refl s

theorem State.handPriorities_reminders : RemindersKept s.panel (s.handPriorities n old new).panel := by
  unfold State.handPriorities
  split
  · simpa using s.touchPriorities_reminders n old
  · simp

theorem State.adoptAlerting_signals : SignalsKept s (s.adoptAlerting n old new) := by
  rw [State.adoptAlerting_eq]
  have replaced : SignalsKept s (s.modSheet n fun u => { u with adopted := new }) := fun r => by cases r <;> exact ⟨rfl, rfl⟩
  exact (replaced.trans (State.handReminder_signals _ n old new)).trans (State.handPriorities_signals _ n old new)

/-- R166: an interval changed to 0 clears the service's timers and marks, and every other adoption leaves them. -/
theorem State.adoptAlerting_reminders (c : SvcCond) :
    (new.reminder = 0 → old.reminder ≠ 0 →
      ((s.adoptAlerting n old new).svcCond n c).timer = none ∧ ((s.adoptAlerting n old new).svcCond n c).mark = false) ∧
    (new.reminder ≠ 0 ∨ old.reminder = 0 →
      ((s.adoptAlerting n old new).svcCond n c).timer = (s.svcCond n c).timer ∧
        ((s.adoptAlerting n old new).svcCond n c).mark = (s.svcCond n c).mark) := by
  obtain ⟨u, hu⟩ : ∃ u, u = s.modSheet n fun u => { u with adopted := new } := ⟨_, rfl⟩
  have later := (State.handPriorities_reminders (u.handReminder n old new) n old new).svcCond n c
  rw [State.adoptAlerting_eq, ← hu, later.1, later.2]
  unfold State.handReminder
  constructor
  · intro none some
    rw [if_pos ⟨fun same => some (same.trans none), none⟩]
    exact u.stopServiceReminders_cleared n c
  · intro stays
    rw [if_neg fun h => stays.elim (· h.2) fun none => h.1 (none.trans h.2.symm), hu]
    exact ⟨rfl, rfl⟩

theorem State.adoptAlerting_sheet :
    (s.adoptAlerting n old new).sheet[n] = { s.sheet[n] with adopted := new } := by
  rw [State.adoptAlerting_eq]
  have sheet : ∀ u : State, ((u.handReminder n old new).handPriorities n old new).sheet = u.sheet := fun u => by
    unfold State.handReminder State.handPriorities
    (repeat' split) <;> simp
  rw [sheet]
  simp

variable {s n old new}

theorem State.adoptAlerting_queued (linked : s.isLinked = true) (c : SvcCond)
    (changed : old.priorities[svcIndex c] ≠ new.priorities[svcIndex c]) :
    (s.adoptAlerting n old new).entryQueued (.service n c) = true := by
  obtain ⟨u, hu⟩ : ∃ u, u = (s.modSheet n fun u => { u with adopted := new }).handReminder n old new := ⟨_, rfl⟩
  have ctl : u.ctl = s.ctl := by
    rw [hu]
    unfold State.handReminder
    split <;> simp
  have sheet : u.sheetOf n = new := by
    rw [hu]
    unfold State.handReminder State.sheetOf
    split <;> simp
  have priorities : old.priorities ≠ new.priorities := fun same => changed (by rw [same])
  have queued := State.touchPriorities_queued ((State.isLinked_of_ctl ctl).trans linked) n old c (by rw [sheet]; exact changed)
  rw [State.adoptAlerting_eq, ← hu, State.handPriorities, if_pos priorities]
  unfold State.entryQueued at *
  simpa using queued

theorem State.adoptAlerting_settles (linked : s.isLinked = true) (changed : old.priorities ≠ new.priorities) :
    (s.adoptAlerting n old new).alert.progress.isSome = true ∨
      ∀ q, (s.adoptAlerting n old new).isPending q = true →
        (s.adoptAlerting n old new).priority q ≤ (s.adoptAlerting n old new).alert.level.toNat := by
  rw [State.adoptAlerting_eq, State.handPriorities, if_pos changed]
  refine State.evaluate_settles ((State.isLinked_of_ctl ?_).trans linked)
  unfold State.handReminder
  split <;> simp

end

end Sys2Proof.Machine

namespace Sys2Proof.Machine

/-! ### The Caption Watch under an adoption (R68, R69, R74) -/

/-- Where captions are not required at the end of either stretch, their conditions follow over both. -/
theorem CaptionCondsFollow.trans_off {n : Svc} {s u t : State} (h : CaptionCondsFollow n s u)
    (off : u.caption[n].required = false) (g : CaptionCondsFollow n u t) (off' : t.caption[n].required = false) :
    CaptionCondsFollow n s t := by
  obtain ⟨loss, idle, raises⟩ := h
  obtain ⟨loss', idle', raises'⟩ := g
  have dead : ∀ {v : State}, v.caption[n].required = false →
      ((v.svcCond n .captionLoss).live = true ↔ v.caption[n].required = true ∧ v.caption[n].state = .lost) →
      ((v.svcCond n .captionIdle).live = true ↔ v.caption[n].required = true ∧ v.caption[n].state = .idle) →
      ∀ c ∈ [SvcCond.captionLoss, .captionIdle], ¬(v.svcCond n c).live = true := fun off loss idle c hc live => by
    simp only [List.mem_cons, List.not_mem_nil, or_false] at hc
    rcases hc with rfl | rfl
    · exact absurd ((loss.mp live).1.symm.trans off) (by decide)
    · exact absurd ((idle.mp live).1.symm.trans off) (by decide)
  refine ⟨loss', idle', fun c hc => ?_⟩
  have now := raises' c hc
  have first := raises c hc
  simp only [dead off loss idle c hc, dead off' loss' idle' c hc] at now first ⊢
  rw [now, first]
  simp

/-- The caption conditions followed to a state with the same signals and the same captions. -/
theorem CaptionCondsFollow.to_signals {n : Svc} {s u t : State} (h : CaptionCondsFollow n s u) (kept : SignalsKept u t)
    (captions : t.caption[n] = u.caption[n]) : CaptionCondsFollow n s t := by
  have loss := kept.svcCond n .captionLoss
  have idle := kept.svcCond n .captionIdle
  unfold CaptionCondsFollow at h ⊢
  simp only [List.mem_cons, List.not_mem_nil, or_false, forall_eq_or_imp, forall_eq] at h ⊢
  rwa [loss.1, loss.2, idle.1, idle.2, captions]

/-- The requirement in force rests on the enable flag and the unscheduled requirement of the sheet only. -/
theorem InForce.of_lane {n : Svc} {s t : State} (h : InForce n s) (enable : (t.sheetOf n).enable = (s.sheetOf n).enable)
    (unscheduled : (t.sheetOf n).unscheduled = (s.sheetOf n).unscheduled) (sched : t.sched[n] = s.sched[n])
    (caption : t.caption[n] = s.caption[n]) : InForce n t := by
  unfold InForce State.entry at *
  rwa [enable, unscheduled, sched, caption]

section
variable (s : State) (n : Svc) (old new : Sheet)

theorem State.handBlocks_caption :
    (s.handBlocks n old new).caption[n] =
      { s.caption[n] with
        state := if old.switchesOff new ∨ old.restreams new then .lost else s.caption[n].state
        liveness := if old.switchesOff new ∨ old.restreams new then 0 else s.caption[n].liveness
        content := if old.switchesOff new ∨ old.restreams new then 0 else s.caption[n].content
        lastSeq := if old.switchesOff new ∨ old.restreams new then none else s.caption[n].lastSeq
        required := (s.handBlocks n old new).caption[n].required
        source := (s.handBlocks n old new).caption[n].source } := by
  obtain ⟨e, he⟩ : ∃ e, e = s.handEnable n old new := ⟨_, rfl⟩
  have caption : ((e.handMix n old new).handRate n old new).caption[n] = e.caption[n] := by
    rw [State.handRate_caption, State.handMix_caption]
  have streamed : (s.handBlocks n old new).caption[n] = if old.restreams new then
      { e.caption[n] with state := .lost, liveness := 0, content := 0, lastSeq := none } else e.caption[n] := by
    rw [he] at caption ⊢
    rw [← caption]
    exact State.handStream_caption _ n old new
  rw [streamed]
  by_cases off : old.switchesOff new
  · have own := s.disable_caption n
    rw [← s.handEnable_off n old new off, ← he] at own
    have lost : old.switchesOff new ∨ old.restreams new := .inl off
    simp only [if_pos lost]
    split <;> rw [own]
  · rw [he, s.handEnable_on n old new off]
    by_cases stream : old.restreams new
    · have lost : old.switchesOff new ∨ old.restreams new := .inr stream
      simp only [if_pos lost, if_pos stream]
    · have kept : ¬(old.switchesOff new ∨ old.restreams new) := fun h => h.elim off stream
      simp only [if_neg kept, if_neg stream]

variable {s n old new}

/-- R69: before the requirement is taken afresh an adoption moves the caption conditions only to what a switch off makes them. -/
theorem State.handBlocks_follow (sheet : (s.sheetOf n).enable = new.enable) :
    CaptionCondsFollow n s ((s.handBlocks n old new).refreshRequirement n) := by
  have last := (s.handBlocks n old new).refreshRequirement_follow n
  have panel := s.handBlocks_panel n old new
  have sheets := s.handBlocks_sheet n old new
  have required : ∀ u : State, (u.sheetOf n).enable = false → (u.refreshRequirement n).caption[n].required = false :=
    fun u off => by
      have same : (u.refreshRequirement n).sheetOf n = u.sheetOf n := by simp [State.sheetOf]
      exact ((u.refreshRequirement_inForce n).1 (by rw [same]; exact off)).1
  by_cases off : old.switchesOff new
  · rw [s.handEnable_off n old new off] at panel sheets
    have disabled : CaptionCondsFollow n s (s.disable n) := by
      rw [State.disable_eq]
      exact (State.refreshRequirement_follow _ n).of_kept (C := .feedLoss :: segmentConds)
        (((s.seeking_conds n).mono (by decide)).trans (((s.seeking n).closeLayers_conds n _).mono (by decide))) (by decide)
    have enable : (s.sheetOf n).enable = false := sheet.trans off.2
    have first : (s.disable n).caption[n].required = false := by
      rw [State.disable_eq]
      refine required _ ?_
      have same : ((s.seeking n).closeLayers n .ofEarlyClose).sheet = s.sheet :=
        (State.closeLayers_sheet _ n _).trans (s.seeking_sheet n)
      unfold State.sheetOf
      rw [same]
      exact enable
    have again : CaptionCondsFollow n (s.disable n) ((s.handBlocks n old new).refreshRequirement n) :=
      last.of_kept (C := []) (by rw [panel]; simp) (by decide)
    refine disabled.trans_off first again (required _ ?_)
    have same : (s.disable n).sheet = s.sheet := by simp
    unfold State.sheetOf
    rw [sheets, same]
    exact enable
  · rw [s.handEnable_on n old new off] at panel
    exact last.of_kept (C := []) (by rw [panel]; simp) (by decide)

end

/-! ### What a lane keeps while another's sheet is decided -/

/-- From s to t a service's own blocks are as they were, the contexts of the pool have moved on, contexts have only joined the
integration queue, and OPEN dockets have kept their contexts. -/
structure Aside (n : Svc) (s t : State) : Prop where
  carries : t.carries = s.carries
  feed : t.feed[n] = s.feed[n]
  meter : t.meter[n] = s.meter[n]
  caption : t.caption[n] = s.caption[n]
  sched : t.sched[n] = s.sched[n]
  recorder : t.recorder[n] = s.recorder[n]
  panel : t.panel[n] = s.panel[n]
  sheet : t.sheet[n] = s.sheet[n]
  moves : PoolMoves s.pool t.pool
  queue : s.integ.queue <+: t.integ.queue
  own : (∀ m, OpenOwn m s) → ∀ m, OpenOwn m t

section
variable {n : Svc} {s t u : State}

theorem Aside.refl (n : Svc) (s : State) : Aside n s s :=
  ⟨rfl, rfl, rfl, rfl, rfl, rfl, rfl, rfl, .refl _, List.prefix_rfl, id⟩

theorem Aside.trans (h : Aside n s t) (g : Aside n t u) : Aside n s u where
  carries := g.carries.trans h.carries
  feed := g.feed.trans h.feed
  meter := g.meter.trans h.meter
  caption := g.caption.trans h.caption
  sched := g.sched.trans h.sched
  recorder := g.recorder.trans h.recorder
  panel := g.panel.trans h.panel
  sheet := g.sheet.trans h.sheet
  moves := h.moves.trans g.moves
  queue := h.queue.trans g.queue
  own own := g.own (h.own own)

theorem Aside.svcCond (h : Aside n s t) (c : SvcCond) : t.svcCond n c = s.svcCond n c :=
  congrArg (fun p : Vector CondEntry 16 => p[svcIndex c]) h.panel

theorem Aside.entry (h : Aside n s t) (k : Slot) : t.entry n k = s.entry n k := by
  unfold State.entry
  rw [h.sched]

theorem Aside.sheetOf (h : Aside n s t) : t.sheetOf n = s.sheetOf n := by
  unfold State.sheetOf
  rw [h.sheet]

theorem Aside.brokenMeter (h : Aside n s t) : t.brokenMeter n = s.brokenMeter n := by
  unfold State.brokenMeter
  rw [h.meter, h.svcCond]

end

/-! ### An adoption (R180) -/

section
variable (u : State) (n : Svc) (rev : BitVec 32) (body : List Byte)

/-- The blocks that the last two steps of an adoption leave alone. -/
theorem State.adoptSheet_blocks :
    let b := (u.taken n rev body).handBlocks n (u.sheetOf n) (parseSheet rev body)
    (u.adoptSheet n rev body).feed = b.feed ∧ (u.adoptSheet n rev body).meter = b.meter ∧
      (u.adoptSheet n rev body).sched = b.sched ∧ (u.adoptSheet n rev body).pool = b.pool ∧
      (u.adoptSheet n rev body).integ = b.integ ∧ (u.adoptSheet n rev body).recorder = b.recorder ∧
      (u.adoptSheet n rev body).caption = (b.refreshRequirement n).caption := by
  intro b
  rw [State.adoptSheet_eq]
  simp [b]

/-- R179, R180: the Sheet Unit after an adoption. -/
theorem State.adoptSheet_sheet :
    (u.adoptSheet n rev body).sheet[n] =
      { u.sheet[n] with
        adopted := parseSheet rev body, source := .host, lastTaken := some rev, clamped := sheetClamps body } := by
  have blocks : (((u.taken n rev body).handBlocks n (u.sheetOf n) (parseSheet rev body)).refreshRequirement n).sheet =
      (u.taken n rev body).sheet := by
    have handed : ((u.taken n rev body).handEnable n (u.sheetOf n) (parseSheet rev body)).sheet =
        (u.taken n rev body).sheet := by
      unfold State.handEnable
      split <;> simp
    have refreshed : ∀ v : State, (v.refreshRequirement n).sheet = v.sheet := fun v => by simp
    rw [refreshed, State.handBlocks_sheet, handed]
  rw [State.adoptSheet_eq, State.adoptAlerting_sheet, blocks]
  simp [State.taken]

end

end Sys2Proof.Machine

namespace Sys2Proof.Machine

/-! ### What an adoption hands to each block of its service (R180) -/

section
variable (u : State) (n : Svc) (rev : BitVec 32) (body : List Byte)

/-- The state of an adoption once the enable group has been handed. -/
def State.enabled : State := (u.taken n rev body).handEnable n (u.sheetOf n) (parseSheet rev body)

/-- The state of an adoption once the requirement in force has been taken afresh. -/
def State.handed : State :=
  ((u.taken n rev body).handBlocks n (u.sheetOf n) (parseSheet rev body)).refreshRequirement n

theorem State.adoptSheet_handed :
    u.adoptSheet n rev body = (u.handed n rev body).adoptAlerting n (u.sheetOf n) (parseSheet rev body) :=
  u.adoptSheet_eq n rev body

theorem State.enabled_off (off : (u.sheetOf n).switchesOff (parseSheet rev body)) :
    u.enabled n rev body = (u.taken n rev body).disable n := State.handEnable_off _ n _ _ off

theorem State.enabled_on (on : ¬(u.sheetOf n).switchesOff (parseSheet rev body)) :
    u.enabled n rev body = u.taken n rev body := State.handEnable_on _ n _ _ on

theorem State.taken_entry (k : Slot) : (u.taken n rev body).entry n k = u.entry n k := rfl

theorem State.adoptSheet_feed :
    (u.adoptSheet n rev body).feed[n] =
      { (u.enabled n rev body).feed[n] with
        mismatch := (u.enabled n rev body).feed[n].mismatch && decide ((u.sheetOf n).rate = (parseSheet rev body).rate) } := by
  obtain ⟨feed, -⟩ := u.adoptSheet_blocks n rev body
  rw [feed]
  exact State.handBlocks_feed _ n _ _

theorem State.adoptSheet_feed_off (off : (u.sheetOf n).switchesOff (parseSheet rev body)) :
    (u.adoptSheet n rev body).feed[n] =
      { u.feed[n] with
        lock := .seeking, lossTimer := none, frameTimer := none
        mismatch := u.feed[n].mismatch && decide ((u.sheetOf n).rate = (parseSheet rev body).rate) } := by
  have feed := State.disable_feed (u.taken n rev body) n
  rw [← u.enabled_off n rev body off] at feed
  rw [State.adoptSheet_feed, feed]
  rfl

theorem State.adoptSheet_feed_on (on : ¬(u.sheetOf n).switchesOff (parseSheet rev body)) :
    (u.adoptSheet n rev body).feed[n] =
      { u.feed[n] with
        mismatch := u.feed[n].mismatch && decide ((u.sheetOf n).rate = (parseSheet rev body).rate) } := by
  rw [State.adoptSheet_feed, u.enabled_on n rev body on]
  rfl

theorem State.adoptSheet_meter :
    (u.adoptSheet n rev body).meter[n] =
      if (u.sheetOf n).remixes (parseSheet rev body) then
        { u.brokenMeter n with filters := List.replicate 8 Filter.zero, peaks := zeros8 }
      else if (u.sheetOf n).switchesOff (parseSheet rev body) ∧ u.feed[n].lock = .flywheel then u.brokenMeter n
      else u.meter[n] := by
  obtain ⟨-, meter, -⟩ := u.adoptSheet_blocks n rev body
  rw [meter]
  exact State.handBlocks_meter _ n _ _

theorem State.adoptSheet_moves : PoolMoves u.pool (u.adoptSheet n rev body).pool := by
  obtain ⟨-, -, -, pool, -⟩ := u.adoptSheet_blocks n rev body
  rw [pool]
  exact State.handBlocks_moves (u.taken n rev body) n _ _

theorem State.adoptSheet_entry (k : Slot) :
    (u.adoptSheet n rev body).entry n k =
      if (u.sheetOf n).remixes (parseSheet rev body) ∧ ((u.enabled n rev body).entry n k).state = .opened then
        { (u.enabled n rev body).entry n k with
          flags := ((u.enabled n rev body).entry n k).flags.union .ofMixChanged }
      else (u.enabled n rev body).entry n k := by
  obtain ⟨-, -, sched, -⟩ := u.adoptSheet_blocks n rev body
  rw [State.entry_of_sched (sched.trans (State.handBlocks_sched _ n _ _))]
  exact State.handMix_entry _ n _ _ k

theorem State.adoptSheet_openSlot (l : Layer) :
    (u.adoptSheet n rev body).sched[n].openSlot l = (u.enabled n rev body).sched[n].openSlot l := by
  obtain ⟨-, -, sched, -⟩ := u.adoptSheet_blocks n rev body
  rw [State.openSlot_of_sched (sched.trans (State.handBlocks_sched _ n _ _))]
  exact State.handMix_openSlot _ n _ _ l

theorem State.adoptSheet_logs :
    (u.adoptSheet n rev body).integ = (u.enabled n rev body).integ ∧
      (u.adoptSheet n rev body).recorder = (u.enabled n rev body).recorder := by
  obtain ⟨-, -, -, -, integ, recorder, -⟩ := u.adoptSheet_blocks n rev body
  obtain ⟨-, -, -, integ', recorder', -⟩ := State.handBlocks_frame (u.taken n rev body) n (u.sheetOf n) (parseSheet rev body)
  exact ⟨integ.trans integ', recorder.trans recorder'⟩

theorem State.handed_sheetOf :
    (u.handed n rev body).sheetOf n = (parseSheet rev body).withAlerting (u.sheetOf n) := by
  have enabled : ((u.taken n rev body).handEnable n (u.sheetOf n) (parseSheet rev body)).sheet =
      (u.taken n rev body).sheet := by
    unfold State.handEnable
    split <;> simp
  have same : (u.handed n rev body).sheet = (u.taken n rev body).sheet := by
    have refreshed : ∀ v : State, (v.refreshRequirement n).sheet = v.sheet := fun v => by simp
    unfold State.handed
    rw [refreshed, State.handBlocks_sheet, enabled]
  rw [← State.taken_sheetOf]
  unfold State.sheetOf
  rw [same]

theorem State.adoptSheet_sheetOf : (u.adoptSheet n rev body).sheetOf n = parseSheet rev body := by
  unfold State.sheetOf
  rw [State.adoptSheet_sheet]

theorem State.handed_eq :
    u.handed n rev body =
      ((u.taken n rev body).handBlocks n (u.sheetOf n) (parseSheet rev body)).refreshRequirement n := rfl

theorem State.enabled_panel :
    ((u.taken n rev body).handBlocks n (u.sheetOf n) (parseSheet rev body)).panel = (u.enabled n rev body).panel :=
  State.handBlocks_panel _ n _ _

/-- R68: the requirement in force after an adoption. -/
theorem State.adoptSheet_inForce : InForce n (u.adoptSheet n rev body) := by
  have handed : InForce n (u.handed n rev body) := State.refreshRequirement_inForce _ n
  refine handed.of_lane ?_ ?_ ?_ ?_
  · rw [State.adoptSheet_sheetOf, State.handed_sheetOf]
    rfl
  · rw [State.adoptSheet_sheetOf, State.handed_sheetOf]
    rfl
  · rw [State.adoptSheet_handed]
    simp
  · rw [State.adoptSheet_handed]
    simp

theorem State.adoptSheet_caption :
    (u.adoptSheet n rev body).caption[n] =
      { u.caption[n] with
        state :=
          if (u.sheetOf n).switchesOff (parseSheet rev body) ∨ (u.sheetOf n).restreams (parseSheet rev body) then .lost
          else u.caption[n].state
        liveness :=
          if (u.sheetOf n).switchesOff (parseSheet rev body) ∨ (u.sheetOf n).restreams (parseSheet rev body) then 0
          else u.caption[n].liveness
        content :=
          if (u.sheetOf n).switchesOff (parseSheet rev body) ∨ (u.sheetOf n).restreams (parseSheet rev body) then 0
          else u.caption[n].content
        lastSeq :=
          if (u.sheetOf n).switchesOff (parseSheet rev body) ∨ (u.sheetOf n).restreams (parseSheet rev body) then none
          else u.caption[n].lastSeq
        required := (u.adoptSheet n rev body).caption[n].required
        source := (u.adoptSheet n rev body).caption[n].source } := by
  obtain ⟨b, hb⟩ : ∃ b, b = (u.taken n rev body).handBlocks n (u.sheetOf n) (parseSheet rev body) := ⟨_, rfl⟩
  have caption : (u.adoptSheet n rev body).caption[n] = { b.caption[n] with
      required := (u.adoptSheet n rev body).caption[n].required
      source := (u.adoptSheet n rev body).caption[n].source } := by
    obtain ⟨-, -, -, -, -, -, same⟩ := u.adoptSheet_blocks n rev body
    rw [same, ← hb]
    simp [State.refreshRequirement]
  have blocks := State.handBlocks_caption (u.taken n rev body) n (u.sheetOf n) (parseSheet rev body)
  rw [← hb] at blocks
  refine caption.trans ?_
  rw [blocks]
  rfl

/-- R69: the caption conditions after an adoption. -/
theorem State.adoptSheet_follow : CaptionCondsFollow n u (u.adoptSheet n rev body) := by
  have enable : ((u.taken n rev body).sheetOf n).enable = (parseSheet rev body).enable := by
    rw [State.taken_sheetOf]
    rfl
  have handed : CaptionCondsFollow n (u.taken n rev body) (u.handed n rev body) := State.handBlocks_follow enable
  have taken : CaptionCondsFollow n u (u.handed n rev body) := handed.of_kept (C := []) (by simp [State.taken]) (by decide)
  rw [State.adoptSheet_handed]
  exact taken.to_signals (State.adoptAlerting_signals _ n _ _) (by simp)

/-- R166: the timers and marks of the service after an adoption. -/
theorem State.adoptSheet_reminders (c : SvcCond) :
    ((parseSheet rev body).reminder = 0 → (u.sheetOf n).reminder ≠ 0 →
      ((u.adoptSheet n rev body).svcCond n c).timer = none ∧ ((u.adoptSheet n rev body).svcCond n c).mark = false) ∧
    ((parseSheet rev body).reminder ≠ 0 ∨ (u.sheetOf n).reminder = 0 →
      ((u.adoptSheet n rev body).svcCond n c).timer = (u.svcCond n c).timer ∧
        ((u.adoptSheet n rev body).svcCond n c).mark = (u.svcCond n c).mark) := by
  have handed := u.handed_eq n rev body
  have blocks := u.enabled_panel n rev body
  have enabled : RemindersKept u.panel (u.enabled n rev body).panel := by
    by_cases off : (u.sheetOf n).switchesOff (parseSheet rev body)
    · rw [u.enabled_off n rev body off]
      exact State.disable_reminders (u.taken n rev body) n
    · rw [u.enabled_on n rev body off]
      simp [State.taken]
  have before : RemindersKept u.panel (u.handed n rev body).panel := by
    rw [handed]
    exact (State.refreshRequirement_reminders _ n).mpr (by rw [blocks]; exact enabled)
  have kept := before.svcCond n c
  rw [State.adoptSheet_handed, ← kept.1, ← kept.2]
  exact State.adoptAlerting_reminders _ n _ _ c

/-- The conditions other than FEED_LOSS, the verdicts' and the captions' keep their live fields and raise counts at an adoption. -/
theorem State.adoptSheet_conds {c : SvcCond} (other : c ∉ .feedLoss :: (segmentConds ++ captionConds)) :
    ((u.adoptSheet n rev body).svcCond n c).live = (u.svcCond n c).live ∧
      (u.adoptSheet n rev body).raises n c = u.raises n c := by
  have handed := u.handed_eq n rev body
  have blocks := u.enabled_panel n rev body
  have enabled : CondsKept (.feedLoss :: (segmentConds ++ captionConds)) u.panel (u.enabled n rev body).panel := by
    by_cases off : (u.sheetOf n).switchesOff (parseSheet rev body)
    · rw [u.enabled_off n rev body off]
      exact State.disable_conds (u.taken n rev body) n
    · rw [u.enabled_on n rev body off]
      simp [State.taken]
  have before : CondsKept (.feedLoss :: (segmentConds ++ captionConds)) u.panel (u.handed n rev body).panel := by
    rw [handed]
    exact (State.refreshRequirement_conds (by decide) _ n).mpr (by rw [blocks]; exact enabled)
  obtain ⟨live, raises⟩ := (State.adoptAlerting_signals (u.handed n rev body) n (u.sheetOf n) (parseSheet rev body)).svcCond n c
  have same := before.svcCond n other
  rw [State.adoptSheet_handed]
  unfold State.raises at raises ⊢
  rw [live, raises, same]
  exact ⟨rfl, rfl⟩

/-- R16: FEED_LOSS after an adoption. -/
theorem State.adoptSheet_feedLoss :
    ((u.sheetOf n).switchesOff (parseSheet rev body) → u.feed[n].lock = .flywheel →
      ((u.adoptSheet n rev body).svcCond n .feedLoss).live = false) ∧
    (¬(u.sheetOf n).switchesOff (parseSheet rev body) →
      ((u.adoptSheet n rev body).svcCond n .feedLoss).live = (u.svcCond n .feedLoss).live) := by
  have handed := u.handed_eq n rev body
  have blocks := u.enabled_panel n rev body
  obtain ⟨live, -⟩ :=
    (State.adoptAlerting_signals (u.handed n rev body) n (u.sheetOf n) (parseSheet rev body)).svcCond n .feedLoss
  have before : CondsKept captionConds (u.enabled n rev body).panel (u.handed n rev body).panel := by
    rw [handed]
    exact (State.refreshRequirement_conds (by decide) _ n).mpr (by rw [blocks]; simp)
  rw [State.adoptSheet_handed, live, before.svcCond n (by decide)]
  refine ⟨fun off fly => ?_, fun on => ?_⟩
  · rw [u.enabled_off n rev body off]
    exact State.disable_feedLoss (s := u.taken n rev body) fly
  · rw [u.enabled_on n rev body on]
    rfl

end

end Sys2Proof.Machine

namespace Sys2Proof.Machine

/-! ### The groups handed, read through the decisions of other services (R180, R185) -/

theorem CaptionCondsFollow.aside {n : Svc} {s u v t : State} (before : Aside n s u) (h : CaptionCondsFollow n u v)
    (after : Aside n v t) : CaptionCondsFollow n s t := by
  unfold CaptionCondsFollow State.raises at h ⊢
  simp only [before.svcCond] at h
  simp only [after.svcCond, after.caption]
  exact h

theorem OpenSlotsStand.aside {n : Svc} {s u : State} (before : Aside n s u) (h : OpenSlotsStand n s) : OpenSlotsStand n u := by
  unfold OpenSlotsStand State.standsOpen at *
  simp only [before.entry, before.sched]
  exact h

section
variable {n : Svc} {s u t : State} {rev : BitVec 32} {body : List Byte}
variable (before : Aside n s u) (after : Aside n (u.adoptSheet n rev body) t)
include before after

variable (off : (s.sheetOf n).switchesOff (parseSheet rev body))
include off

/-- R99, R181: an adoption that switches off closes every OPEN docket with a body. -/
theorem Aside.adopt_closes {k : Slot} {b : Body} (ho : (s.entry n k).state = .opened) (hb : (s.entry n k).body = some b) :
    ∃ a, (s.entry n k).Adjusts a ∧ t.entry n k = a.closedAt s.carries s.feed[n].time .ofEarlyClose ∧
      (OpenOwn n u → SegmentEnded n k b ((u.taken n rev body).seeking n) (u.enabled n rev body)) := by
  rw [← before.sheetOf] at off
  rw [← before.entry] at ho hb
  obtain ⟨a, ha, closed, ended⟩ := State.disable_closes (s := u.taken n rev body) (n := n) (k := k) ho hb
  rw [← u.enabled_off n rev body off] at closed ended
  have taken : (u.taken n rev body).entry n k = s.entry n k := before.entry k
  have time : (u.taken n rev body).feed[n].time = s.feed[n].time := congrArg Feed.time before.feed
  rw [taken] at ha
  refine ⟨a, ha, ?_, ended⟩
  have shut : ((u.enabled n rev body).entry n k).state ≠ .opened := by
    rw [closed]
    exact a.closedAt_not_open _ _ _
  rw [after.entry, State.adoptSheet_entry, if_neg fun h => shut h.2, closed, time]
  exact congrArg (a.closedAt · s.feed[n].time .ofEarlyClose) before.carries

/-- R53, R150: the segment of a docket that an adoption closes ends under the new sheet. -/
theorem Aside.adopt_segmentEnds (own : ∀ m, OpenOwn m s) {k : Slot} {b : Body} (ho : (s.entry n k).state = .opened)
    (hb : (s.entry n k).body = some b) : SegmentEnds n k b (parseSheet rev body) s t := by
  obtain ⟨-, -, -, ended⟩ := before.adopt_closes after off ho hb
  obtain ⟨context, mark, -⟩ := ended (before.own own n)
  obtain ⟨integ, recorder⟩ := u.adoptSheet_logs n rev body
  obtain ⟨integ', recorder'⟩ := (u.taken n rev body).seeking_logs n
  have entry : ((u.taken n rev body).seeking n).entry n k = s.entry n k :=
    (State.entry_of_sched ((u.taken n rev body).seeking_sched n) n k).trans (before.entry k)
  have sheet : ((u.taken n rev body).seeking n).sheetOf n = (parseSheet rev body).withAlerting (u.sheetOf n) := by
    rw [← State.taken_sheetOf]
    unfold State.sheetOf
    rw [State.seeking_sheet]
  rw [entry] at context mark
  refine ⟨fun x hx running => ?_, fun last hl => ?_⟩
  · obtain ⟨closing, figures, q, joined⟩ := context x hx
    have moves : PoolMoves s.pool t.pool := (before.moves.trans (u.adoptSheet_moves n rev body)).trans after.moves
    obtain ⟨histogram, momentary⟩ := (moves x).counts (by rcases running with h | h <;> rw [h] <;> decide)
    have later : PoolMoves (u.enabled n rev body).pool t.pool := by
      obtain ⟨-, -, -, pool, -⟩ := u.adoptSheet_blocks n rev body
      refine .trans ?_ after.moves
      rw [pool, State.handBlocks_pool]
      exact State.handMix_moves _ n _ _
    have stays : t.pool[x] = (u.enabled n rev body).pool[x] :=
      (later x (by rw [closing]; decide)).resolve_right fun other => other.1 closing
    obtain ⟨q₀, hq₀⟩ := before.queue
    obtain ⟨q₁, hq₁⟩ := joined
    obtain ⟨q₂, hq₂⟩ := after.queue
    have queue : t.integ.queue = s.integ.queue ++ (q₀ ++ q ++ x :: (q₁ ++ q₂)) := by
      rw [← hq₂, integ, ← hq₁, integ', show (u.taken n rev body).integ = u.integ from rfl, ← hq₀]
      simp
    rw [queue, stays]
    rw [sheet] at figures
    exact ⟨closing, by simp, by simp, figures, by rw [← stays]; exact histogram, by rw [← stays]; exact momentary⟩
  · have taken := mark last hl
    unfold MarkTaken at taken
    rw [recorder', show (u.taken n rev body).recorder = u.recorder from rfl, before.recorder, ← recorder,
      ← after.recorder] at taken
    exact taken

/-- R96, R99: what the close that a switch off makes leaves of a docket. -/
theorem Aside.adopt_docket {k : Slot} (ho : (s.entry n k).state = .opened) (hb : (s.entry n k).body.isSome = true) :
    ((t.entry n k).state = .closing ∨ (t.entry n k).state = .closed) ∧ (t.entry n k).flags.earlyClose = true ∧
      (t.entry n k).closeStamp = some s.feed[n].time ∧ SlotHands n k (closeWrites n k t) s t ∧
      (QueueSound s → ∀ b, (s.entry n k).body = some b → SegmentEnds n k b (parseSheet rev body) s t) := by
  obtain ⟨b, hb⟩ := Option.isSome_iff_exists.mp hb
  obtain ⟨a, ha, closed, -⟩ := before.adopt_closes after off ho hb
  obtain ⟨-, -, -, -, -, stamp, flags⟩ :=
    Entry.closedAt_fields s.carries s.feed[n].time .ofEarlyClose a
  have hands := (ha.hands s.carries).trans (a.closedAt_hands s.carries s.feed[n].time .ofEarlyClose)
  refine ⟨?_, ?_, ?_, ?_, fun sound b hb => ?_⟩
  · rw [closed]
    exact a.closedAt_state _ _ _
  · rw [closed, flags]
    simp [VerdictFlags.union, VerdictFlags.ofEarlyClose]
  · rw [closed, stamp]
  · rw [closeWrites_eq, closed]
    refine Entry.Hands.slotHands ?_
    rw [closed]
    exact hands
  · exact before.adopt_segmentEnds after off (fun m => sound.openOwn m) ho hb

end

section
variable {n : Svc} {s u t : State} {rev : BitVec 32} {body : List Byte}
variable (before : Aside n s u) (after : Aside n (u.adoptSheet n rev body) t)
include before after

/-- R99: no slot is open once an adoption has switched the service off. -/
theorem Aside.adopt_openSlot_off (off : (s.sheetOf n).switchesOff (parseSheet rev body)) (sound : DocketsSound s) (l : Layer) :
    t.sched[n].openSlot l = none := by
  rw [← before.sheetOf] at off
  have stands : OpenSlotsStand n u := (sound.openSlotsStand n).aside before
  rw [after.sched, State.adoptSheet_openSlot, u.enabled_off n rev body off]
  exact State.disable_openSlot (s := u.taken n rev body) stands l

/-- An adoption that does not switch off leaves the open slots, and of the dockets all but a flag. -/
theorem Aside.adopt_sched_on (on : ¬(s.sheetOf n).switchesOff (parseSheet rev body)) :
    (∀ l, t.sched[n].openSlot l = s.sched[n].openSlot l) ∧
      ∀ k, (t.entry n k).state = (s.entry n k).state ∧ (t.entry n k).tally = (s.entry n k).tally := by
  rw [← before.sheetOf] at on
  refine ⟨fun l => ?_, fun k => ?_⟩
  · rw [after.sched, State.adoptSheet_openSlot, u.enabled_on n rev body on]
    exact congrArg (Sched.openSlot · l) before.sched
  · rw [after.entry, State.adoptSheet_entry, u.enabled_on n rev body on, u.taken_entry n rev body, before.entry]
    split <;> exact ⟨rfl, rfl⟩

/-- R20: an adoption flags the dockets that stay OPEN exactly at a mix change. -/
theorem Aside.adopt_mixChanged {k : Slot} (opened : (t.entry n k).state = .opened) :
    (t.entry n k).flags.mixChanged = true ↔
      (s.entry n k).flags.mixChanged = true ∨ (s.sheetOf n).remixes (parseSheet rev body) := by
  have enabled : (s.entry n k).Adjusts ((u.enabled n rev body).entry n k) ∨
      ((u.enabled n rev body).entry n k).state ≠ .opened := by
    rw [← before.entry]
    by_cases off : (u.sheetOf n).switchesOff (parseSheet rev body)
    · rw [u.enabled_off n rev body off]
      exact (u.taken n rev body).disable_entry n k
    · rw [u.enabled_on n rev body off]
      exact .inl (.refl _)
  have flags : ∀ {e e' : Entry}, e.Adjusts e' → e'.flags.mixChanged = e.flags.mixChanged := fun h => by
    obtain rfl | ⟨-, p, q, rfl⟩ := h <;> rfl
  rw [after.entry, State.adoptSheet_entry, before.sheetOf] at opened ⊢
  by_cases mixed : (s.sheetOf n).remixes (parseSheet rev body)
  · by_cases stands : ((u.enabled n rev body).entry n k).state = .opened
    · rw [if_pos ⟨mixed, stands⟩]
      simp [VerdictFlags.union, VerdictFlags.ofMixChanged, mixed]
    · rw [if_neg fun h => stands h.2] at opened
      exact absurd opened stands
  · rw [if_neg fun h => mixed h.1] at opened ⊢
    rw [flags (enabled.resolve_right fun shut => shut opened), or_iff_left mixed]

/-- R15, R183: service time stands still at an adoption, and a new rate clears the mismatch latch. -/
theorem Aside.adopt_feed :
    t.feed[n].time = s.feed[n].time ∧
      t.feed[n].mismatch = (s.feed[n].mismatch && decide ((s.sheetOf n).rate = (parseSheet rev body).rate)) := by
  rw [after.feed, ← before.feed, ← before.sheetOf]
  by_cases off : (u.sheetOf n).switchesOff (parseSheet rev body)
  · rw [u.adoptSheet_feed_off n rev body off]
    exact ⟨rfl, rfl⟩
  · rw [u.adoptSheet_feed_on n rev body off]
    exact ⟨rfl, rfl⟩

/-- R20, R28: a mix change, and a switch off in FLYWHEEL, break the runs of the service's contexts. -/
theorem Aside.adopt_runs (breaks : (s.sheetOf n).remixes (parseSheet rev body) ∨
    (s.sheetOf n).switchesOff (parseSheet rev body) ∧ s.feed[n].lock = .flywheel) : ContextRunsBroken n s t := by
  rw [← before.sheetOf, ← before.feed] at breaks
  obtain ⟨-, -, -, pool, -⟩ := u.adoptSheet_blocks n rev body
  have later := after.moves
  rw [pool] at later
  exact State.handBlocks_runs (s := u.taken n rev body) before.moves breaks later

/-- R180 to R182: an adoption hands every changed group to its block, and what other services' sheets do before and after it does not
matter to that. -/
theorem Aside.adopt_groupsHanded : GroupsHanded n (s.sheetOf n) (parseSheet rev body) s t := by
  have sheet := before.sheetOf
  have conds : ∀ c, t.svcCond n c = (u.adoptSheet n rev body).svcCond n c := after.svcCond
  have feedLoss := u.adoptSheet_feedLoss n rev body
  rw [sheet, before.feed, before.svcCond] at feedLoss
  have follow := (u.adoptSheet_follow n rev body).aside before after
  have inForce : InForce n t := (u.adoptSheet_inForce n rev body).of_lane (by rw [after.sheetOf]) (by rw [after.sheetOf])
    after.sched after.caption
  have reminders := u.adoptSheet_reminders n rev body
  simp only [sheet, before.svcCond] at reminders
  have meter := u.adoptSheet_meter n rev body
  rw [sheet, before.brokenMeter, before.feed, before.meter] at meter
  have caption := u.adoptSheet_caption n rev body
  rw [sheet, before.caption, ← after.caption] at caption
  obtain ⟨time, mismatch⟩ := before.adopt_feed after
  refine ⟨fun off => ?_, fun on => ?_, ?_, ?_, ?_, fun breaks => ?_, fun k opened => ?_, caption, inForce, follow, fun c => ?_⟩
  · have feed := u.adoptSheet_feed_off n rev body (by rw [sheet]; exact off)
    rw [after.feed, feed]
    exact ⟨rfl, rfl, rfl, fun fly => (congrArg CondEntry.live (conds _)).trans (feedLoss.1 off fly),
      fun sound => ⟨before.adopt_openSlot_off after off sound .outer, before.adopt_openSlot_off after off sound .inner⟩,
      fun k ho hb => before.adopt_docket after off ho hb⟩
  · have feed := u.adoptSheet_feed_on n rev body (by rw [sheet]; exact on)
    obtain ⟨slots, entries⟩ := before.adopt_sched_on after on
    rw [after.feed, feed, before.feed]
    exact ⟨rfl, rfl, rfl, (congrArg CondEntry.live (conds _)).trans (feedLoss.2 on), slots .outer, slots .inner, entries⟩
  · exact time
  · exact mismatch
  · rw [after.meter]
    exact meter
  · exact before.adopt_runs after breaks
  · exact before.adopt_mixChanged after opened
  · rw [conds]
    exact reminders c

end

end Sys2Proof.Machine

namespace Sys2Proof.Machine

/-! ### SHEET_STAGING (R176 to R178) -/

section
variable (s : State) (n : Svc)

/-- R177: a refusal, in the Sheet Unit and in the panel. -/
theorem State.refuseSheet_refuses (rev : BitVec 32) (cause : SheetCause) :
    (s.refuseSheet n rev cause).sheet[n] =
        { s.sheet[n] with lastTaken := some rev, refused := some rev, cause := some cause } ∧
      (s.refuseSheet n rev cause).raises n .sheetFault = s.raises n .sheetFault + 1 ∧
      OtherCondsSame n [.sheetFault] s (s.refuseSheet n rev cause) := by
  obtain ⟨u, hu⟩ : ∃ u, u = s.modSheet n fun u =>
    { u with lastTaken := some rev, refused := some rev, cause := some cause } := ⟨_, rfl⟩
  have refused : s.refuseSheet n rev cause = u.raise n .sheetFault := by
    rw [hu]
    rfl
  have sheet : (u.raise n .sheetFault).sheet = u.sheet := by simp
  have conds : ∀ c, u.svcCond n c = s.svcCond n c := fun c => by
    rw [hu]
    rfl
  rw [refused]
  refine ⟨?_, ?_, fun c hc => ?_⟩
  · rw [sheet, hu]
    simp
  · rw [State.raise_raises_own]
    unfold State.raises
    rw [conds]
  · have kept : CondsKept [.sheetFault] u.panel (u.raise n .sheetFault).panel := by simp
    rw [kept.svcCond n hc, conds]

variable (r : SheetRead)

/-- R176: what a staging does by its reads: nothing, a refusal or an adoption. -/
theorem State.stage_idle (idle : some r.before = s.sheet[n].lastTaken ∨ r.before ≠ r.after) : s.stage n r = s := by
  unfold State.stage
  split
  · rfl
  · next differs => exact if_pos (idle.resolve_left differs)

variable {s n r} (differs : some r.before ≠ s.sheet[n].lastTaken) (whole : r.before = r.after)
include differs whole

theorem State.stage_refused {cause : SheetCause}
    (unsound : sheetStructure r.body = some cause ∨
      sheetStructure r.body = none ∧ s.quotaFits n (rawQuota r.body) = false ∧ cause = .quotaSum) :
    s.stage n r = s.refuseSheet n r.before cause := by
  unfold State.stage
  rw [if_neg differs, if_neg (not_not.mpr whole)]
  rcases unsound with unsound | ⟨sound, fits, rfl⟩
  · rw [unsound]
  · rw [sound]
    dsimp only
    rw [fits]
    rfl

theorem State.stage_adopted (sound : sheetStructure r.body = none) (fits : s.quotaFits n (rawQuota r.body) = true) :
    s.stage n r = s.adoptSheet n r.before r.body := by
  unfold State.stage
  rw [if_neg differs, if_neg (not_not.mpr whole), sound]
  dsimp only
  rw [fits]
  rfl

end

theorem State.quotaFits_iff (s : State) (n : Svc) (quota : Nat) :
    s.quotaFits n quota = true ↔ quota ≤ (s.sheetOf n).quota ∨ quota + s.quotaOthers n ≤ 1048576 := by
  unfold State.quotaFits Config.spoolSlots
  rw [Bool.or_eq_true, decide_eq_true_eq, decide_eq_true_eq]

/-- A completed access leaves every lane as it was. -/
theorem State.accessDone_aside (s : State) (n : Svc) : Aside n s s.accessDone :=
  ⟨rfl, rfl, rfl, rfl, rfl, rfl, rfl, rfl, .refl _, List.prefix_rfl, id⟩

theorem effectOf_sheetStaging {s : State} (linked : s.isLinked = true) (n : Svc) (r : SheetRead) :
    effectOf (.sheetStaging n r) s = s.accessDone.stage n r := if_pos linked

/-- R180: an adoption in the pool, where it does not switch the service off. -/
theorem State.adoptSheet_pool_on (u : State) (n : Svc) (rev : BitVec 32) (body : List Byte)
    (on : (u.sheetOf n).enable = false ∨ (parseSheet rev body).enable = true) (x : CtxId) :
    (u.adoptSheet n rev body).pool[x] =
      if ((u.sheetOf n).mix ≠ (parseSheet rev body).mix ∨ (u.sheetOf n).calibration ≠ (parseSheet rev body).calibration) ∧
          u.pool[x].ownedBy n = true ∧ u.pool[x].state = .accumulating then
        { u.pool[x] with acc := Accumulator.fresh }
      else u.pool[x] := by
  obtain ⟨-, -, -, pool, -⟩ := u.adoptSheet_blocks n rev body
  rw [pool]
  exact State.handBlocks_pool_on (s := u.taken n rev body) (fun off => by
    rcases on with h | h
    · exact nomatch h.symm.trans off.1
    · exact nomatch h.symm.trans off.2) x

/-- R166: the alerting group of an adoption made while LINKED. -/
theorem State.adoptSheet_alerting {u : State} (linked : u.isLinked = true) (n : Svc) (rev : BitVec 32) (body : List Byte) :
    (∀ c, (u.sheetOf n).priorities[svcIndex c] ≠ (parseSheet rev body).priorities[svcIndex c] →
      (u.adoptSheet n rev body).entryQueued (.service n c) = true) ∧
    ((u.sheetOf n).priorities ≠ (parseSheet rev body).priorities →
      (u.adoptSheet n rev body).alert.progress.isSome = true ∨
        ∀ q, (u.adoptSheet n rev body).isPending q = true →
          (u.adoptSheet n rev body).priority q ≤ (u.adoptSheet n rev body).alert.level.toNat) := by
  have handed : (u.handed n rev body).isLinked = true := by
    refine (State.isLinked_of_ctl ?_).trans linked
    unfold State.handed State.handBlocks State.handStream State.handRate State.handMix State.handEnable State.loseStream
      State.taken
    (repeat' split) <;> simp
  rw [State.adoptSheet_handed]
  exact ⟨fun c changed => State.adoptAlerting_queued handed c changed, State.adoptAlerting_settles handed⟩

/-- Settles O45: the three outcomes of a staging, and for an adoption the hand-over group by group (`Aside.adopt_groupsHanded`). -/
theorem sheetStaging : Obligations.SheetStaging := by
  unfold Obligations.SheetStaging
  refine ⟨fun s n r hp linked => ?_, fun s n r hp unlinked => ?_⟩
  · dsimp only
    obtain ⟨d, hd⟩ : ∃ d, d = s.accessDone := ⟨_, rfl⟩
    have aside : Aside n s d := by rw [hd]; exact s.accessDone_aside n
    have fits : d.quotaFits n (rawQuota r.body) = true ↔
        rawQuota r.body ≤ (s.sheetOf n).quota ∨ rawQuota r.body + s.quotaOthers n ≤ 1048576 := by
      rw [hd]
      exact State.quotaFits_iff s.accessDone n _
    have taken : d.sheet[n].lastTaken = s.sheet[n].lastTaken := congrArg SheetUnit.lastTaken aside.sheet
    have effect : exec (.sheetStaging n r) s = .next (d.stage n r) := by
      rw [hd, ← effectOf_sheetStaging linked]
      exact exec_effectOf (.sheetStaging n r) hp nofun
    refine ⟨d.stage n r, effect, fun idle => ?_, fun differs whole cause unsound => ?_, fun differs whole sound room => ?_⟩
    · rw [State.stage_idle d n r (by rw [taken]; exact idle), hd]
      rfl
    · have refused := State.stage_refused (s := d) (n := n) (r := r) (by rw [taken]; exact differs) whole (cause := cause)
        (unsound.imp_right fun ⟨sound, room, quota⟩ => ⟨sound, Bool.eq_false_iff.mpr (mt fits.mp room), quota⟩)
      obtain ⟨sheet, raises, others⟩ := d.refuseSheet_refuses n r.before cause
      rw [refused]
      refine ⟨sheet.trans (by rw [aside.sheet]), raises.trans ?_, fun c hc => (others c hc).trans (aside.svcCond c), ?_⟩
      · unfold State.raises
        rw [aside.svcCond]
      · rw [hd]
        simp [State.accessDone]
    · have adopted := State.stage_adopted (s := d) (n := n) (r := r) (by rw [taken]; exact differs) whole sound
        (fits.mpr room)
      have on : d.isLinked = true := by rw [hd]; exact linked
      have raises := (d.adoptSheet_conds n r.before r.body (c := .sheetFault) (by decide)).2
      obtain ⟨queued, settles⟩ := State.adoptSheet_alerting on n r.before r.body
      have pool := d.adoptSheet_pool_on n r.before r.body
      rw [aside.sheetOf] at queued settles pool
      rw [adopted]
      refine ⟨(d.adoptSheet_sheet n r.before r.body).trans (by rw [aside.sheet]), raises.trans ?_,
        aside.adopt_groupsHanded (.refl n _), fun enable x => ?_, queued, settles⟩
      · unfold State.raises
        rw [aside.svcCond]
      · have same : d.pool = s.pool := by rw [hd]; rfl
        rw [pool enable x, same]
  · have effect : effectOf (.sheetStaging n r) s = if s.carries then s.accessDone else s :=
      if_neg (by rw [unlinked]; decide)
    rw [exec_effectOf (.sheetStaging n r) hp nofun, effect]
    rfl

end Sys2Proof.Machine

namespace Sys2Proof.Machine

/-! ### Pieces that do not overwrite one another (R196, R203) -/

/-- Two pieces share no address. -/
def Piece.apart (p q : Piece) : Prop := p.addr + p.bytes.length ≤ q.addr ∨ q.addr + q.bytes.length ≤ p.addr

/-- Pieces that share no address are all held when they have been written. -/
theorem Memory.read_writePieces_apart : ∀ (ps : List Piece) (m : Memory), ps.Pairwise Piece.apart →
    ∀ p ∈ ps, ∀ i (h : i < p.bytes.length), (m.writePieces ps).read (p.addr + i) = some p.bytes[i]
  | [], _, _ => nofun
  | q :: ps, m, apart => by
    obtain ⟨first, rest⟩ := List.pairwise_cons.mp apart
    intro p hp i hi
    rw [Memory.writePieces]
    rcases List.mem_cons.mp hp with rfl | later
    · rw [Memory.read_writePieces_outside ps _ _ fun r hr covers => ?_]
      · exact Memory.read_writeBytes p.bytes m p.addr i hi
      · obtain ⟨lower, upper⟩ := covers
        rcases first r hr with h | h <;> omega
    · exact Memory.read_writePieces_apart ps _ rest p later i hi

/-- Pieces that share no address have landed. -/
structure Landed (ps : List Piece) (s t : State) : Prop where
  host : t.host = s.host.writePieces ps
  outside : SameOutside ps s t
  holds : ∀ p ∈ ps, t.holds p

theorem Landed.of_host {ps : List Piece} {s t : State} (host : t.host = s.host.writePieces ps)
    (apart : ps.Pairwise Piece.apart) : Landed ps s t where
  host := host
  outside a ha := by
    unfold State.byte
    rw [host, Memory.read_writePieces_outside ps s.host a ha]
  holds p hp i hi := by
    unfold State.byte
    rw [host]
    exact Memory.read_writePieces_apart ps s.host apart p hp i hi

/-! #### Records that lie side by side -/

/-- The bytes of a piece lie in the w bytes from an address on. -/
def Piece.within (p : Piece) (a w : Nat) : Prop := a ≤ p.addr ∧ p.addr + p.bytes.length ≤ a + w

theorem Piece.apart_of_within {p q : Piece} {a b v w : Nat} (hp : p.within a v) (hq : q.within b w)
    (apart : a + v ≤ b ∨ b + w ≤ a) : p.apart q := by
  unfold Piece.within at hp hq
  unfold Piece.apart
  omega

/-- Records side by side, the pieces of each apart from one another, are apart altogether. -/
theorem pairwise_apart_flatMap {ι : Type} {l : List ι} {f : ι → List Piece} {at_ : ι → Nat} {w : Nat}
    (side : l.Pairwise fun i j => at_ i + w ≤ at_ j ∨ at_ j + w ≤ at_ i)
    (within : ∀ i, ∀ p ∈ f i, p.within (at_ i) w) (inner : ∀ i, (f i).Pairwise Piece.apart) :
    (l.flatMap f).Pairwise Piece.apart :=
  List.pairwise_flatMap.mpr ⟨fun i _ => inner i,
    side.imp fun h p hp q hq => Piece.apart_of_within (within _ p hp) (within _ q hq) h⟩

/-! ### The writes of a link step (R195) -/

section
variable {s : State}

theorem State.stepLeft_linking (linking : s.ctl.link = .linking) : s.stepLeft = s.stepWrites.drop s.ctl.stepDone :=
  if_pos linking

theorem State.finishStep_host (s : State) : s.finishStep.host = s.host.writePieces s.stepLeft.flatten := by
  unfold State.finishStep
  split
  · next none => rw [List.isEmpty_iff.mp none]; rfl
  · simp [State.landStep]

/-- R195, R198: the writes of a step that complete end a row of failures. -/
theorem State.finishStep_ctl (s : State) : ∃ done, s.finishStep.ctl =
    { s.ctl with stepDone := done, consecutive := if s.stepLeft = [] then s.ctl.consecutive else 0 } := by
  unfold State.finishStep
  by_cases none : s.stepLeft = []
  · rw [if_pos (List.isEmpty_iff.mpr none), if_pos none]
    exact ⟨_, rfl⟩
  · rw [if_neg (mt List.isEmpty_iff.mp none), if_neg none]
    exact ⟨_, rfl⟩

theorem State.stepLeft_nil (linking : s.ctl.link = .linking) {α : Type} (a b : α) :
    (if s.stepLeft = [] then a else b) = if s.ctl.stepDone < s.stepWrites.length then b else a := by
  rw [State.stepLeft_linking linking]
  by_cases left : s.ctl.stepDone < s.stepWrites.length
  · rw [if_pos left, if_neg fun none => by have := List.drop_eq_nil_iff.mp none; omega]
  · rw [if_neg left, if_pos (List.drop_eq_nil_iff.mpr (by omega))]

theorem exec_linkStep {s : State} (hp : s.powered = true) (r : LinkReport) :
    exec (.linkStepComplete r) s = .next (s.linkStep r) := exec_effectOf (.linkStepComplete r) hp nofun

end

/-! #### The standings (R100, R195 step 3) -/

/-- The standing IDLE of a slot with posting 0. -/
def State.idlePiece (s : State) (n : Svc) (k : Slot) : Piece := ⟨s.area (slotOffset n k + 64), [0, 0, 0, 0]⟩

theorem State.idlePieces_eq (s : State) :
    s.idlePieces = allServices.flatMap fun n => allSlots.map fun k => s.idlePiece n k := rfl

theorem State.idlePieces_length (s : State) : s.idlePieces.length = 384 := by
  rw [State.idlePieces_eq]
  simp [allServices, allSlots, List.length_flatMap]

theorem State.idlePieces_apart (s : State) : s.idlePieces.Pairwise Piece.apart := by
  have slots : ∀ n : Svc, (allSlots.map fun k => s.idlePiece n k).Pairwise Piece.apart := fun n =>
    List.pairwise_map.mpr (allSlots_nodup.imp fun {k j} ne => by
      have differ : k.val ≠ j.val := fun same => ne (Fin.ext same)
      simp only [Piece.apart, State.idlePiece, State.area, slotOffset, List.length_cons, List.length_nil]
      omega)
  have board : ∀ n : Svc, ∀ p ∈ allSlots.map fun k => s.idlePiece n k,
      p.within (s.ctl.base.toNat + 0x11000 + n.val * 0x2000) 0x2000 := fun n p hp => by
    obtain ⟨k, -, rfl⟩ := List.mem_map.mp hp
    simp only [Piece.within, State.idlePiece, State.area, slotOffset, List.length_cons, List.length_nil]
    omega
  rw [State.idlePieces_eq]
  refine pairwise_apart_flatMap (allServices_nodup.imp fun {n m} ne => ?_) board slots
  have differ : n.val ≠ m.val := fun same => ne (Fin.ext same)
  omega

/-- R102, R116: what an emptied docket list leaves of a Scheduler. -/
def Sched.emptied (c : Sched) : Sched := { Sched.reset with unmatched := c.unmatched }

theorem State.emptyDockets_sched (s : State) (n m : Svc) :
    (s.emptyDockets n).sched[m] = if m = n then s.sched[m].emptied else s.sched[m] := by
  have refreshed : ∀ u : State, (u.refreshRequirement n).sched = u.sched := fun u => by simp
  unfold State.emptyDockets
  rw [refreshed, State.modSched_sched, upd_get]
  split
  · next same => subst same; rfl
  · rfl

/-- The Scheduler's part of step 3: every docket list is emptied. -/
def State.emptyAll (s : State) : State := allServices.foldl (fun s n => s.emptyDockets n) s

theorem State.emptyAll_sched (s : State) (n : Svc) : s.emptyAll.sched[n] = s.sched[n].emptied := by
  have fold := foldl_at (fun (u : State) (m : Svc) => u.sched[m]) Sched.emptied (fun u m => u.emptyDockets m)
    (fun u m => (u.emptyDockets_sched m m).trans (if_pos rfl))
    (fun u m k h => (u.emptyDockets_sched m k).trans (if_neg h)) n allServices s allServices_nodup
  rw [if_pos (mem_allServices n)] at fold
  exact fold

theorem State.emptyAll_kept (s : State) : s.emptyAll.host = s.host ∧ s.emptyAll.ctl = s.ctl :=
  foldl_keeps (fun u : State => u.host = s.host ∧ u.ctl = s.ctl) _
    (fun u n h => ⟨(by simp : (u.emptyDockets n).host = u.host).trans h.1, (by simp : (u.emptyDockets n).ctl = u.ctl).trans h.2⟩)
    allServices s ⟨rfl, rfl⟩

theorem State.linkStandings_eq (s : State) : s.linkStandings = s.finishStep.emptyAll.nextStep .descriptors := rfl

theorem State.nextStep_ctl (s : State) (step : LinkStep) :
    (s.nextStep step).ctl = { s.ctl with step := step, stepDone := 0 } := rfl

theorem State.nextStep_host (s : State) (step : LinkStep) : (s.nextStep step).host = s.host := rfl

theorem State.nextStep_sched (s : State) (step : LinkStep) : (s.nextStep step).sched = s.sched := rfl

theorem State.linkStep_standings {s : State} (linking : s.ctl.link = .linking) (step : s.ctl.step = .standings) :
    s.linkStep .written = s.linkStandings := by
  unfold State.linkStep
  rw [linking, step]

theorem flatten_singletons {α : Type} (l : List α) : (l.map fun p => [p]).flatten = l := by
  rw [← List.flatMap_def, List.flatMap_singleton']

/-- R100, R195: the third step of a link. -/
theorem linkStandings_step {s : State} (linking : s.ctl.link = .linking) (step : s.ctl.step = .standings) :
    Landed (s.idlePieces.drop s.ctl.stepDone) s (s.linkStep .written) ∧
      (s.linkStep .written).ctl =
        { s.ctl with
          step := .descriptors, stepDone := 0, consecutive := if s.ctl.stepDone < 384 then 0 else s.ctl.consecutive } ∧
      ∀ n : Svc, (s.linkStep .written).sched[n] = { Sched.reset with unmatched := s.sched[n].unmatched } := by
  have writes : s.stepWrites = s.idlePieces.map fun p => [p] := by simp only [State.stepWrites, step]
  have left : s.stepLeft.flatten = s.idlePieces.drop s.ctl.stepDone := by
    rw [State.stepLeft_linking linking, writes, ← List.map_drop, flatten_singletons]
  have effect : s.linkStep .written = s.finishStep.emptyAll.nextStep .descriptors :=
    (State.linkStep_standings linking step).trans s.linkStandings_eq
  obtain ⟨host, ctl⟩ := s.finishStep.emptyAll_kept
  obtain ⟨done, ended⟩ := s.finishStep_ctl
  rw [effect]
  refine ⟨.of_host ?_ (s.idlePieces_apart.sublist (List.drop_sublist _ _)), ?_, fun n => ?_⟩
  · rw [State.nextStep_host, host, State.finishStep_host, left]
  · rw [State.nextStep_ctl, ctl, ended, State.stepLeft_nil linking, writes, List.length_map, State.idlePieces_length]
  · have sched : s.finishStep.sched = s.sched := s.finishStep_touches .sched (by decide)
    rw [State.nextStep_sched, State.emptyAll_sched, sched]
    rfl

end Sys2Proof.Machine

namespace Sys2Proof.Machine

/-! ### The descriptors (R156, R195 steps 4 and 5) -/

theorem blankBody_length : Extent.blank.bodyBytes.length = 95 := by decide

theorem State.descPieces_within (s : State) (x : ExtId) :
    ∀ p ∈ s.descPieces x Extent.blank, p.within (s.ctl.base.toNat + 0x41000 + x.val * 0x80) 0x80 := by
  intro p hp
  simp only [State.descPieces, List.mem_cons, List.not_mem_nil, or_false] at hp
  rcases hp with rfl | rfl
  · simp only [Piece.within, State.area, descOffset, blankBody_length]
    omega
  · simp only [Piece.within, State.area, descOffset, le_length]
    omega

theorem State.descPieces_apart (s : State) (x : ExtId) : (s.descPieces x Extent.blank).Pairwise Piece.apart := by
  refine List.pairwise_cons.mpr ⟨fun q hq => ?_, List.pairwise_singleton ..⟩
  obtain rfl := List.mem_singleton.mp hq
  refine .inr ?_
  simp only [State.area, le_length]
  omega

/-- The descriptors of the extents from the first that has not been written. -/
def State.blankPieces (s : State) : List Piece :=
  (allExtents.drop s.ctl.stepDone).flatMap fun x => s.descPieces x Extent.blank

theorem State.blankPieces_apart (s : State) : s.blankPieces.Pairwise Piece.apart := by
  have side : allExtents.Pairwise fun x y : ExtId =>
      s.ctl.base.toNat + 0x41000 + x.val * 0x80 + 0x80 ≤ s.ctl.base.toNat + 0x41000 + y.val * 0x80 ∨
        s.ctl.base.toNat + 0x41000 + y.val * 0x80 + 0x80 ≤ s.ctl.base.toNat + 0x41000 + x.val * 0x80 :=
    (List.nodup_finRange 256).imp fun {x y} ne => by
      have differ : x.val ≠ y.val := fun same => ne (Fin.ext same)
      omega
  exact pairwise_apart_flatMap (side.sublist (List.drop_sublist _ _)) s.descPieces_within s.descPieces_apart

/-! #### The Mover at LINK (R156) -/

/-- R156: the extent records and the Mover's own state at LINK. -/
def State.extentsBlank (s : State) : State := { s with extents := Vector.replicate 256 Extent.blank, mover := Mover.reset }

theorem State.moverLink_eq (s : State) :
    s.moverLink = allServices.foldl (fun u m => u.modRecorder m Recorder.atLink) s.extentsBlank := rfl

theorem State.moverLink_steps (s : State) :
    s.moverLink.mover = Mover.reset ∧ s.moverLink.extents = Vector.replicate 256 Extent.blank ∧
      s.moverLink.host = s.host ∧ s.moverLink.ctl = s.ctl ∧ s.moverLink.devPanel = s.devPanel := by
  obtain ⟨u, hu⟩ : ∃ u, u = s.extentsBlank := ⟨_, rfl⟩
  obtain ⟨m, hm⟩ : ∃ m, m = s.moverLink := ⟨_, rfl⟩
  have touched : Touches [.recorder] u m := by
    rw [hm, State.moverLink_eq, ← hu]
    simp
  have mover : m.mover = u.mover := touched .mover (by decide)
  have extents : m.extents = u.extents := touched .extents (by decide)
  have host : m.host = u.host := touched .host (by decide)
  have ctl : m.ctl = u.ctl := touched .ctl (by decide)
  have devPanel : m.devPanel = u.devPanel := touched .devPanel (by decide)
  rw [← hm, mover, extents, host, ctl, devPanel, hu]
  exact ⟨rfl, rfl, rfl, rfl, rfl⟩

theorem State.moverLink_recorder (s : State) (n : Svc) : s.moverLink.recorder[n] = s.recorder[n].atLink := by
  have fold := foldl_at (fun (u : State) (m : Svc) => u.recorder[m]) Recorder.atLink
    (fun u m => u.modRecorder m Recorder.atLink)
    (fun u m => by rw [State.modRecorder_recorder, upd_get, if_pos rfl])
    (fun u m k h => by rw [State.modRecorder_recorder, upd_get, if_neg h]) n allServices s.extentsBlank allServices_nodup
  rw [if_pos (mem_allServices n), ← State.moverLink_eq] at fold
  exact fold

/-- R195 step 5: LINK_FAULT is raised where its mark is set, and the mark is cleared. -/
theorem State.linkFaultRaise_raises (s : State) :
    s.linkFaultRaise.ctl = { s.ctl with faultMark := false } ∧
      (s.linkFaultRaise.cond (.device .linkFault)).raises =
        (s.cond (.device .linkFault)).raises + (if s.ctl.faultMark then 1 else 0) := by
  unfold State.linkFaultRaise
  cases mark : s.ctl.faultMark with
  | false =>
    refine ⟨?_, ?_⟩
    · rw [if_neg nofun, ← mark]
    · simp
  | true =>
    obtain ⟨u, hu⟩ : ∃ u, u = s.modCtl fun c => { c with faultMark := false } := ⟨_, rfl⟩
    have cond : u.cond (.device .linkFault) = s.cond (.device .linkFault) := by rw [hu]; rfl
    have ctl : (u.raiseDevice .linkFault).ctl = u.ctl := by simp
    have raised : ((u.raiseDevice .linkFault).cond (.device .linkFault)).raises =
        (u.cond (.device .linkFault)).raises + 1 := by
      rw [State.raiseDevice_get, if_pos rfl]
      unfold CondEntry.touched
      split <;> rfl
    rw [if_pos rfl, if_pos rfl, ← hu]
    exact ⟨ctl.trans (by rw [hu]; rfl), raised.trans (by rw [cond])⟩

theorem State.linkStep_descriptors {s : State} (linking : s.ctl.link = .linking) (step : s.ctl.step = .descriptors) :
    s.linkStep .written = s.finishStep.moverLink.linkFaultRaise.nextStep .entries := by
  unfold State.linkStep
  rw [linking, step]
  rfl

/-- R156, R195: the fourth and fifth steps of a link. -/
theorem linkDescriptors_step {s : State} (linking : s.ctl.link = .linking) (step : s.ctl.step = .descriptors) :
    Landed s.blankPieces s (s.linkStep .written) ∧
      (s.linkStep .written).ctl =
        { s.ctl with
          step := .entries, stepDone := 0, faultMark := false
          consecutive := if s.ctl.stepDone < 256 then 0 else s.ctl.consecutive } ∧
      (s.linkStep .written).mover = Mover.reset ∧
      (∀ x : ExtId, (s.linkStep .written).extents[x] = Extent.blank) ∧
      (∀ n : Svc,
        (s.linkStep .written).recorder[n] =
          { s.recorder[n] with state := .ready, current := none, cursor := none, boundary := false, owed := none }) ∧
      ((s.linkStep .written).cond (.device .linkFault)).raises =
        (s.cond (.device .linkFault)).raises + (if s.ctl.faultMark then 1 else 0) := by
  have writes : s.stepWrites = allExtents.map fun x => s.descPieces x Extent.blank := by
    simp only [State.stepWrites, step]
  have count : s.stepWrites.length = 256 := by
    rw [writes, List.length_map]
    exact List.length_finRange
  have left : s.stepLeft.flatten = s.blankPieces := by
    rw [State.stepLeft_linking linking, writes, ← List.map_drop, ← List.flatMap_def]
    rfl
  obtain ⟨f, hf⟩ : ∃ f, f = s.finishStep := ⟨_, rfl⟩
  obtain ⟨m, hm⟩ : ∃ m, m = f.moverLink := ⟨_, rfl⟩
  obtain ⟨t, ht⟩ : ∃ t, t = m.linkFaultRaise := ⟨_, rfl⟩
  have effect : s.linkStep .written = t.nextStep .entries := by
    rw [State.linkStep_descriptors linking step, ht, hm, hf]
  obtain ⟨mover, extents, host, ctl, devPanel⟩ := f.moverLink_steps
  have recorder := f.moverLink_recorder
  obtain ⟨marked, raises⟩ := m.linkFaultRaise_raises
  have same := m.linkFaultRaise_touches
  rw [← ht] at marked raises same
  rw [← hm] at mover extents host ctl devPanel recorder
  obtain ⟨done, ended⟩ := s.finishStep_ctl
  have finished := s.finishStep_touches
  rw [← hf] at ended finished
  have host' : t.host = m.host := same .host (by decide)
  have mover' : t.mover = m.mover := same .mover (by decide)
  have extents' : t.extents = m.extents := same .extents (by decide)
  have recorder' : t.recorder = m.recorder := same .recorder (by decide)
  have recorder'' : f.recorder = s.recorder := finished .recorder (by decide)
  have devPanel' : f.devPanel = s.devPanel := finished .devPanel (by decide)
  have fault : m.cond (.device .linkFault) = s.cond (.device .linkFault) :=
    congrArg (fun p : Vector CondEntry 3 => p[devIndex .linkFault]) (devPanel.trans devPanel')
  have mark : f.ctl.faultMark = s.ctl.faultMark := by rw [ended]
  rw [effect]
  refine ⟨.of_host ?_ s.blankPieces_apart, ?_, mover'.trans mover, fun x => ?_, fun n => ?_, ?_⟩
  · rw [State.nextStep_host, host', host, hf, State.finishStep_host, left]
  · rw [State.nextStep_ctl, marked, ctl, ended, State.stepLeft_nil linking, count]
  · have blank : (t.nextStep .entries).extents = Vector.replicate 256 Extent.blank := extents'.trans extents
    rw [blank]
    simp
  · have at' : (t.nextStep .entries).recorder = m.recorder := recorder'
    rw [at', recorder, recorder'']
    rfl
  · rw [← fault, ← mark, ← ctl]
    exact raises

end Sys2Proof.Machine

namespace Sys2Proof.Machine

/-! ### The entries of the panels in host memory (R171, R203) -/

theorem condOffset_apart {r q : CondRef} (ne : r ≠ q) :
    condOffset r + 32 ≤ condOffset q ∨ condOffset q + 32 ≤ condOffset r := by
  cases r with
  | device c =>
    cases q with
    | device d =>
      have differ : (devIndex c).val ≠ (devIndex d).val := fun same => ne (by rw [devIndex_inj (Fin.ext same)])
      simp only [condOffset]
      omega
    | service m d =>
      simp only [condOffset]
      omega
  | service n c =>
    cases q with
    | device d =>
      simp only [condOffset]
      omega
    | service m d =>
      by_cases same : n = m
      · subst same
        have differ : (svcIndex c).val ≠ (svcIndex d).val := fun same => ne (by rw [svcIndex_inj (Fin.ext same)])
        simp only [condOffset]
        omega
      · have differ : n.val ≠ m.val := fun same' => same (Fin.ext same')
        simp only [condOffset]
        omega

theorem condOffset_behind (r : CondRef) : 128 ≤ condOffset r := by
  cases r with
  | device c =>
    simp only [condOffset]
    omega
  | service n c =>
    simp only [condOffset]
    omega

section
variable (s : State)

/-- The device-written fields of a condition entry at its begin, and its stamps from offset 10 on (R203). -/
def State.entryHead (r : CondRef) : RecordLayout :=
  [(1, some (markField (s.cond r).live)), (1, some (markField (s.cond r).mark)), (1, some (s.priority r)), (1, none)]
def State.entryStamps (r : CondRef) : RecordLayout :=
  [(6, none), (8, some (wideField (s.cond r).first)), (8, some (wideField (s.cond r).last))]
def State.entryAnnounced (r : CondRef) : RecordLayout := [(2, some (s.cond r).announced.toNat)]
def State.entryRaises (r : CondRef) : RecordLayout := [(2, some (s.cond r).raises.toNat)]

theorem State.entryPieces_layout (r : CondRef) :
    s.entryPieces r =
      [⟨s.area (condOffset r) + 0, (s.entryHead r).bytes⟩, ⟨s.area (condOffset r) + 10, (s.entryStamps r).bytes⟩,
       ⟨s.area (condOffset r) + 6, (s.entryAnnounced r).bytes⟩, ⟨s.area (condOffset r) + 4, (s.entryRaises r).bytes⟩] := by
  have head : [boolByte (s.cond r).live, boolByte (s.cond r).mark] ++ le 1 (s.priority r) ++ zeroBytes 1 =
      (s.entryHead r).bytes := by
    have two : [boolByte (s.cond r).live, boolByte (s.cond r).mark] = [boolByte (s.cond r).live] ++ [boolByte (s.cond r).mark] := rfl
    rw [two, boolByte_eq_le, boolByte_eq_le, zeroBytes_eq_le]
    simp only [State.entryHead, RecordLayout.bytes, List.flatMap_cons, List.flatMap_nil, Option.getD_some, Option.getD_none,
      List.append_assoc, List.append_nil]
  have stamps : zeroBytes 6 ++ stampBytes (s.cond r).first ++ stampBytes (s.cond r).last = (s.entryStamps r).bytes := by
    rw [zeroBytes_eq_le, stampBytes_eq_le, stampBytes_eq_le]
    simp only [State.entryStamps, RecordLayout.bytes, List.flatMap_cons, List.flatMap_nil, Option.getD_some, Option.getD_none,
      List.append_assoc, List.append_nil]
  unfold State.entryPieces
  dsimp only
  rw [head, stamps]
  simp only [State.entryAnnounced, State.entryRaises, RecordLayout.bytes, List.flatMap_cons, List.flatMap_nil, Option.getD_some,
    List.append_nil, Nat.add_zero]

/-- R171, R203: the fields of an entry at their places, the raise count last. -/
theorem State.entryPieces_fields (r : CondRef) :
    (s.entryPieces r).getLast? = some ⟨s.area (condOffset r) + 4, le 2 (s.cond r).raises.toNat⟩ ∧
    PutsAll (s.entryPieces r) (s.area (condOffset r))
      [(0, 1, markField (s.cond r).live), (1, 1, markField (s.cond r).mark), (2, 1, s.priority r),
       (4, 2, (s.cond r).raises.toNat), (6, 2, (s.cond r).announced.toNat), (16, 8, wideField (s.cond r).first),
       (24, 8, wideField (s.cond r).last)] := by
  refine ⟨rfl, ?_⟩
  have layout := s.entryPieces_layout r
  have head : PutsAll (s.entryPieces r) (s.area (condOffset r)) (RecordLayout.places 0 (s.entryHead r)) :=
    .of_mem (by rw [layout]; simp)
  have stamps : PutsAll (s.entryPieces r) (s.area (condOffset r)) (RecordLayout.places 10 (s.entryStamps r)) :=
    .of_mem (by rw [layout]; simp)
  have announced : PutsAll (s.entryPieces r) (s.area (condOffset r)) (RecordLayout.places 6 (s.entryAnnounced r)) :=
    .of_mem (by rw [layout]; simp)
  have raises : PutsAll (s.entryPieces r) (s.area (condOffset r)) (RecordLayout.places 4 (s.entryRaises r)) :=
    .of_mem (by rw [layout]; simp)
  refine (head.append (raises.append (announced.append stamps))).mono ?_
  simp [State.entryHead, State.entryStamps, State.entryAnnounced, State.entryRaises, RecordLayout.places]

theorem State.entryPieces_within (r : CondRef) :
    ∀ p ∈ s.entryPieces r, p.within (s.ctl.base.toNat + condOffset r) 32 := by
  intro p hp
  simp only [State.entryPieces, List.mem_cons, List.not_mem_nil, or_false] at hp
  rcases hp with rfl | rfl | rfl | rfl <;>
    simp only [Piece.within, State.area, zeroBytes_eq_le, stampBytes_eq_le, List.length_append, List.length_cons,
      List.length_nil, le_length] <;> omega

theorem State.entryPieces_apart (r : CondRef) : (s.entryPieces r).Pairwise Piece.apart := by
  simp only [State.entryPieces, List.pairwise_cons, List.mem_cons, List.not_mem_nil, or_false, forall_eq_or_imp, forall_eq,
    Piece.apart, zeroBytes_eq_le, stampBytes_eq_le, List.length_append, List.length_cons, List.length_nil, le_length,
    List.Pairwise.nil, and_true, false_imp_iff, implies_true]
  omega

/-- The pieces of the last writes of a link: the entries, the alert cause and the commit count. -/
def State.panelPieces : List Piece := allConds.flatMap s.entryPieces ++ [s.causePiece, s.commitPiece s.store.commits]

theorem State.panelPieces_apart : s.panelPieces.Pairwise Piece.apart := by
  have entries : (allConds.flatMap s.entryPieces).Pairwise Piece.apart := by
    refine pairwise_apart_flatMap (allConds_ordered.imp fun {r q} less => ?_) s.entryPieces_within s.entryPieces_apart
    have apart := condOffset_apart (r := r) (q := q) (by rintro rfl; exact Nat.lt_irrefl _ less)
    omega
  have header : ∀ p ∈ [s.causePiece, s.commitPiece s.store.commits], p.within (s.ctl.base.toNat + 64) 64 := fun p hp => by
    simp only [List.mem_cons, List.not_mem_nil, or_false] at hp
    rcases hp with rfl | rfl <;>
      simp only [Piece.within, State.causePiece, State.commitPiece, State.area, zeroBytes_eq_le, List.length_append,
        le_length] <;> omega
  refine List.pairwise_append.mpr ⟨entries, ?_, fun p hp q hq => ?_⟩
  · refine List.pairwise_cons.mpr ⟨fun q hq => ?_, List.pairwise_singleton ..⟩
    obtain rfl := List.mem_singleton.mp hq
    refine .inl ?_
    simp only [State.causePiece, State.commitPiece, State.area, zeroBytes_eq_le, List.length_append, le_length]
    omega
  · obtain ⟨r, -, hr⟩ := List.mem_flatMap.mp hp
    have behind := condOffset_behind r
    exact Piece.apart_of_within (s.entryPieces_within r p hr) (header q hq) (by omega)

end

/-! ### The entry to LINKED (R165, R167, R195 steps 6 and 7) -/

theorem allConds_nodup : allConds.Nodup :=
  allConds_ordered.imp fun less same => by
    rw [same] at less
    exact Nat.lt_irrefl _ less

theorem State.dropOwed_cond (s : State) (r : CondRef) : s.dropOwed.cond r = { s.cond r with owed := false } := by
  have fold := foldl_at (fun (u : State) (q : CondRef) => u.cond q) (fun e => { e with owed := false })
    (fun u q => u.modCond q fun e => { e with owed := false })
    (fun u q => (u.modCond_get q q _).trans (if_pos rfl))
    (fun u q p h => (u.modCond_get q p _).trans (if_neg h)) r allConds s allConds_nodup
  rw [if_pos (mem_allConds r)] at fold
  exact fold

/-- The reminder interval that a condition's timer is loaded with; none for a device condition. -/
def State.interval (s : State) : CondRef → Nat
  | .device _ => 0
  | .service n _ => (s.sheetOf n).reminder

/-- R165: an entry at the entry to LINKED, under its interval. -/
def CondEntry.reminded (x : CondEntry × Nat) : CondEntry × Nat :=
  (if x.1.outstanding = true ∧ x.2 ≠ 0 then { x.1 with timer := some x.2 } else x.1, x.2)

/-- R165: one timer of the entry to LINKED. -/
def State.startReminder (s : State) (r : CondRef) : State := if (s.cond r).outstanding then s.loadReminder r else s

theorem State.startReminders_eq (s : State) : s.startReminders = allConds.foldl State.startReminder s := rfl

theorem State.loadReminder_cond (s : State) (r q : CondRef) :
    (s.loadReminder r).cond q =
      if q = r ∧ s.interval r ≠ 0 then { s.cond q with timer := some (s.interval r) } else s.cond q := by
  cases r with
  | device c => exact (if_neg fun h => h.2 rfl).symm
  | service n c =>
    unfold State.loadReminder State.interval
    dsimp only
    by_cases none : (s.sheetOf n).reminder = 0
    · rw [if_pos none, if_neg fun h => h.2 none]
    · rw [if_neg none, State.modCond_get]
      by_cases same : q = .service n c
      · rw [if_pos same, if_pos ⟨same, none⟩]
      · rw [if_neg same, if_neg fun h => same h.1]

theorem State.startReminder_interval (s : State) (r q : CondRef) : (s.startReminder r).interval q = s.interval q := by
  have sheet : (s.startReminder r).sheet = s.sheet := by
    unfold State.startReminder
    split <;> simp
  cases q with
  | device c => rfl
  | service n c =>
    unfold State.interval State.sheetOf
    dsimp only
    rw [sheet]

theorem State.startReminder_own (s : State) (r : CondRef) :
    ((s.startReminder r).cond r, (s.startReminder r).interval r) = CondEntry.reminded (s.cond r, s.interval r) := by
  rw [State.startReminder_interval]
  unfold State.startReminder CondEntry.reminded
  by_cases out : (s.cond r).outstanding = true
  · rw [if_pos out, State.loadReminder_cond]
    simp only [out, true_and]
  · rw [if_neg out, if_neg fun h => out h.1]

theorem State.startReminder_other (s : State) {r q : CondRef} (h : q ≠ r) :
    ((s.startReminder r).cond q, (s.startReminder r).interval q) = (s.cond q, s.interval q) := by
  rw [State.startReminder_interval]
  unfold State.startReminder
  split
  · rw [State.loadReminder_cond, if_neg fun both => h both.1]
  · rfl

/-- R165: the timers of outstanding service conditions are loaded, and nothing else of an entry changes. -/
theorem State.startReminders_cond (s : State) (r : CondRef) :
    s.startReminders.cond r =
      if (s.cond r).outstanding = true ∧ s.interval r ≠ 0 then { s.cond r with timer := some (s.interval r) }
      else s.cond r := by
  have fold := foldl_at (fun (u : State) (q : CondRef) => (u.cond q, u.interval q)) CondEntry.reminded State.startReminder
    State.startReminder_own (fun u q p h => u.startReminder_other h) r allConds s allConds_nodup
  rw [if_pos (mem_allConds r), ← State.startReminders_eq] at fold
  exact congrArg Prod.fst fold

theorem State.evaluate_alert (s : State) : s.evaluate.alert = { s.alert with progress := s.evaluate.alert.progress } := by
  unfold State.evaluate
  dsimp only
  (repeat' split) <;> rfl

end Sys2Proof.Machine

namespace Sys2Proof.Machine

theorem allConds_length : allConds.length = 259 := by
  have ranks := congrArg List.length allConds_ranks
  rwa [List.length_map, List.length_range] at ranks

/-- The writes of the last link step that have not completed. -/
def State.panelLeft (s : State) : List Piece :=
  ((allConds.map s.entryPieces ++ [[s.causePiece], [s.commitPiece s.store.commits]]).drop s.ctl.stepDone).flatten

theorem State.panelLeft_apart (s : State) : s.panelLeft.Pairwise Piece.apart := by
  have all : (allConds.map s.entryPieces ++ [[s.causePiece], [s.commitPiece s.store.commits]]).flatten = s.panelPieces := by
    rw [List.flatten_append, ← List.flatMap_def]
    rfl
  have apart := s.panelPieces_apart
  rw [← all] at apart
  exact apart.sublist (List.Sublist.flatten (List.drop_sublist _ _))

theorem State.linkStep_entries {s : State} (linking : s.ctl.link = .linking) (step : s.ctl.step = .entries) :
    s.linkStep .written =
      ((s.finishStep.dropOwed.modCtl fun c => { c with link := .linked, stepDone := 0 }).startReminders).evaluate := by
  unfold State.linkStep
  rw [linking, step]
  rfl

theorem State.modCtl_cond (s : State) (f : Ctl → Ctl) (q : CondRef) : (s.modCtl f).cond q = s.cond q := by
  cases q <;> rfl

/-- R165, R167, R195: the last step of a link. -/
theorem linkEntries_step {s : State} (linking : s.ctl.link = .linking) (step : s.ctl.step = .entries) :
    Landed s.panelLeft s (s.linkStep .written) ∧
      (s.linkStep .written).ctl =
        { s.ctl with
          link := .linked, stepDone := 0, consecutive := if s.ctl.stepDone < 261 then 0 else s.ctl.consecutive } ∧
      (s.linkStep .written).alert = { s.alert with progress := (s.linkStep .written).alert.progress } ∧
      Evaluates s (s.linkStep .written) ∧
      (∀ c : DevCond, (s.linkStep .written).cond (.device c) = { s.cond (.device c) with owed := false }) ∧
      ∀ (n : Svc) (c : SvcCond),
        (s.linkStep .written).svcCond n c =
          { s.svcCond n c with
            owed := false
            timer :=
              if (s.svcCond n c).raises ≠ (s.svcCond n c).acked ∧ (s.sheetOf n).reminder ≠ 0 then
                some (s.sheetOf n).reminder
              else (s.svcCond n c).timer } := by
  have writes : s.stepWrites = allConds.map s.entryPieces ++ [[s.causePiece], [s.commitPiece s.store.commits]] := by
    simp only [State.stepWrites, step]
  have count : s.stepWrites.length = 261 := by
    rw [writes, List.length_append, List.length_map, allConds_length]
    rfl
  have left : s.stepLeft.flatten = s.panelLeft := by
    rw [State.stepLeft_linking linking, writes]
    rfl
  obtain ⟨f, hf⟩ : ∃ f, f = s.finishStep := ⟨_, rfl⟩
  obtain ⟨l, hl⟩ : ∃ l, l = f.dropOwed.modCtl fun c => { c with link := .linked, stepDone := 0 } := ⟨_, rfl⟩
  obtain ⟨r, hr⟩ : ∃ r, r = l.startReminders := ⟨_, rfl⟩
  have effect : s.linkStep .written = r.evaluate := by rw [State.linkStep_entries linking step, hr, hl, hf]
  obtain ⟨done, ended⟩ := s.finishStep_ctl
  have finished := s.finishStep_touches
  rw [← hf] at ended finished
  have linked : l.ctl = { f.ctl with link := .linked, stepDone := 0 } := by
    have dropped : f.dropOwed.ctl = f.ctl := by simp
    rw [hl, State.modCtl_ctl, dropped]
  have steps : Touches [.panel, .devPanel, .ctl] f l := by
    rw [hl]
    simp
  have timed : Touches [.panel] l r := by
    rw [hr]
    exact l.startReminders_touches
  have ctl : r.evaluate.ctl = r.ctl := by simp
  have host : r.evaluate.host = r.host := by simp
  have ctl' : r.ctl = l.ctl := timed .ctl (by decide)
  have host' : r.host = f.host := Eq.trans (timed .host (by decide) : r.host = l.host) (steps .host (by decide))
  have alert : r.alert = s.alert :=
    Eq.trans (timed .alert (by decide) : r.alert = l.alert)
      (Eq.trans (steps .alert (by decide) : l.alert = f.alert) (finished .alert (by decide)))
  have sheet : l.sheet = s.sheet :=
    Eq.trans (steps .sheet (by decide) : l.sheet = f.sheet) (finished .sheet (by decide))
  have panels : ∀ q : CondRef, f.cond q = s.cond q := fun q => by
    have panel : f.panel = s.panel := finished .panel (by decide)
    have devPanel : f.devPanel = s.devPanel := finished .devPanel (by decide)
    cases q <;> unfold State.cond <;> dsimp only
    · rw [devPanel]
    · rw [panel]
  have owed : ∀ q : CondRef, l.cond q = { s.cond q with owed := false } := fun q => by
    have same : l.cond q = f.dropOwed.cond q := by
      rw [hl, State.modCtl_cond]
    rw [same, State.dropOwed_cond, panels]
  have conds : ∀ q : CondRef, r.evaluate.cond q =
      if ({ s.cond q with owed := false } : CondEntry).outstanding = true ∧ l.interval q ≠ 0 then
        { s.cond q with owed := false, timer := some (l.interval q) }
      else { s.cond q with owed := false } := fun q => by
    rw [State.evaluate_cond, hr, State.startReminders_cond, owed]
  have interval : ∀ (n : Svc) (c : SvcCond), l.interval (.service n c) = (s.sheetOf n).reminder := fun n c => by
    unfold State.interval State.sheetOf
    dsimp only
    rw [sheet]
  rw [effect]
  refine ⟨.of_host ?_ s.panelLeft_apart, ?_, ?_, State.evaluate_evaluates (congrArg Alert.progress alert), fun c => ?_,
    fun n c => ?_⟩
  · rw [host, host', hf, State.finishStep_host, left]
  · rw [ctl, ctl', linked, ended, State.stepLeft_nil linking, count]
  · rw [← alert]
    exact r.evaluate_alert
  · exact (conds (.device c)).trans (if_neg fun h => h.2 rfl)
  · have cond := conds (.service n c)
    rw [interval] at cond
    have out : ({ s.svcCond n c with owed := false } : CondEntry).outstanding = true ↔
        (s.svcCond n c).raises ≠ (s.svcCond n c).acked := by simp [CondEntry.outstanding]
    refine cond.trans ?_
    by_cases loads : (s.svcCond n c).raises ≠ (s.svcCond n c).acked ∧ (s.sheetOf n).reminder ≠ 0
    · rw [if_pos loads]
      exact if_pos ⟨out.mpr loads.1, loads.2⟩
    · rw [if_neg loads]
      exact if_neg fun h => loads ⟨out.mp h.1, h.2⟩

end Sys2Proof.Machine

namespace Sys2Proof.Machine

/-! ### One service's sheet decided, seen from another's lane (R185) -/

theorem OpenOwn.of_entries {n : Svc} {s t : State} (own : OpenOwn n s)
    (entry : ∀ k, (t.entry n k).state = (s.entry n k).state ∧ (t.entry n k).context = (s.entry n k).context ∧
      (t.entry n k).posting = (s.entry n k).posting)
    (runs : ∀ c : CtxId, s.pool[c].RunsOn t.pool[c]) : OpenOwn n t := fun k x ho hx => by
  obtain ⟨state, context, posting⟩ := entry k
  rw [state] at ho
  rw [context] at hx
  obtain ⟨running, owner⟩ := own k x ho hx
  obtain ⟨running', owner'⟩ := runs x running
  exact ⟨running', by rw [owner', owner, posting]⟩

section
variable (u : State) (m : Svc) (rev : BitVec 32) (body : List Byte)

theorem State.enabled_openOwn (own : ∀ n, OpenOwn n u) (n : Svc) : OpenOwn n (u.enabled m rev body) := by
  have taken : ∀ n, OpenOwn n (u.taken m rev body) := own
  by_cases off : (u.sheetOf m).switchesOff (parseSheet rev body)
  · rw [u.enabled_off m rev body off]
    exact State.disable_openOwn taken n
  · rw [u.enabled_on m rev body off]
    exact own n

theorem State.enabled_queue : u.integ.queue <+: (u.enabled m rev body).integ.queue := by
  by_cases off : (u.sheetOf m).switchesOff (parseSheet rev body)
  · obtain ⟨w, hw⟩ : ∃ w, w = u.taken m rev body := ⟨_, rfl⟩
    have disabled : (w.disable m).integ = ((w.seeking m).closeLayers m .ofEarlyClose).integ := by simp [State.disable_eq]
    have closed := ((w.seeking m).closeLayers_closing m .ofEarlyClose 0).onward.logs.queue
    rw [(w.seeking_logs m).1] at closed
    rw [u.enabled_off m rev body off, ← hw, disabled]
    rw [hw] at closed ⊢
    exact closed
  · rw [u.enabled_on m rev body off]
    exact List.prefix_rfl

theorem State.handMix_runsOn (s : State) (n : Svc) (old new : Sheet) (c : CtxId) :
    s.pool[c].RunsOn (s.handMix n old new).pool[c] := by
  unfold State.handMix
  split
  · exact (s.mixChange_runsCut n).runsOn c
  · exact .refl _

/-- R53: an adoption leaves the OPEN dockets of every service their contexts. -/
theorem State.adoptSheet_openOwn (own : ∀ n, OpenOwn n u) (n : Svc) : OpenOwn n (u.adoptSheet m rev body) := by
  obtain ⟨-, -, sched, pool, -⟩ := u.adoptSheet_blocks m rev body
  have enabled := u.enabled_openOwn m rev body own n
  obtain ⟨e, he⟩ : ∃ e, e = u.enabled m rev body := ⟨_, rfl⟩
  obtain ⟨-, pool', sched', -⟩ := (u.taken m rev body).handBlocks_frame m (u.sheetOf m) (parseSheet rev body)
  have same : (u.adoptSheet m rev body).sched = (e.handMix m (u.sheetOf m) (parseSheet rev body)).sched ∧
      (u.adoptSheet m rev body).pool = (e.handMix m (u.sheetOf m) (parseSheet rev body)).pool := by
    rw [he]
    exact ⟨sched.trans sched', pool.trans pool'⟩
  rw [← he] at enabled
  refine enabled.of_entries (fun k => ?_) fun c => ?_
  · rw [State.entry_of_sched same.1]
    by_cases hm : n = m
    · subst hm
      rw [State.handMix_entry]
      split <;> exact ⟨rfl, rfl, rfl⟩
    · have other : OthersSame m e (e.handMix m (u.sheetOf m) (parseSheet rev body)) := by
        unfold State.handMix
        split <;> simp
      obtain ⟨-, -, -, lane, -⟩ := other n hm
      unfold State.entry
      rw [lane]
      exact ⟨rfl, rfl, rfl⟩
  · rw [same.2]
    exact e.handMix_runsOn m _ _ c

/-- What the decision of another service's sheet leaves of a lane. -/
theorem State.adoptSheet_aside {n : Svc} (other : n ≠ m) : Aside n u (u.adoptSheet m rev body) := by
  have others : OthersSame m u (u.adoptSheet m rev body) := by simp [State.adoptSheet]
  obtain ⟨feed, meter, caption, sched, -, recorder, panel, sheet, -⟩ := others n other
  obtain ⟨integ, -⟩ := u.adoptSheet_logs m rev body
  refine ⟨by simp [State.carries], feed, meter, caption, sched, recorder, panel, sheet, u.adoptSheet_moves m rev body, ?_,
    u.adoptSheet_openOwn m rev body⟩
  rw [integ]
  exact u.enabled_queue m rev body

end

/-- An operation on one service's sheet and panel leaves the other lanes as they were. -/
theorem Aside.of_others {m n : Svc} {s t : State} (other : n ≠ m) (others : OthersSame m s t) (ctl : t.ctl = s.ctl)
    (scheds : t.sched = s.sched) (pool : t.pool = s.pool) (integ : t.integ = s.integ) : Aside n s t := by
  obtain ⟨feed, meter, caption, sched, -, recorder, panel, sheet, -⟩ := others n other
  refine ⟨by simp [State.carries, ctl], feed, meter, caption, sched, recorder, panel, sheet, by rw [pool]; exact .refl _,
    by rw [integ], fun own k => (own k).of_runsOn (by rw [scheds]) fun _ _ _ _ => by rw [pool]; exact .refl _⟩

theorem State.refuseSheet_aside (s : State) {m n : Svc} (other : n ≠ m) (rev : BitVec 32) (c : SheetCause) :
    Aside n s (s.refuseSheet m rev c) :=
  .of_others other (by simp [State.refuseSheet]) (by simp) (by simp) (by simp) (by simp)

theorem State.decideOne_aside (s : State) {m n : Svc} (other : n ≠ m) (excess : Bool) (read : Option SheetRead) :
    Aside n s (s.decideOne excess read m) := by
  unfold State.decideOne
  split
  · exact .of_others other (by simp) rfl rfl rfl rfl
  · split
    · exact s.refuseSheet_aside other _ _
    · split
      · exact s.refuseSheet_aside other _ _
      · exact s.adoptSheet_aside m _ _ other

/-- The decisions of a list of other services leave a lane as it was. -/
theorem State.decideAll_aside {n : Svc} (excess : Bool) (reads : Svc → Option SheetRead) (ms : List Svc) (hn : n ∉ ms)
    (s : State) : Aside n s (ms.foldl (fun s m => s.decideOne excess (reads m) m) s) := by
  induction ms generalizing s with
  | nil => exact .refl n s
  | cons m ms ih =>
    have ne : n ≠ m := fun same => hn (by rw [same]; exact List.mem_cons_self)
    have later : n ∉ ms := fun mem => hn (List.mem_cons_of_mem m mem)
    rw [List.foldl_cons]
    exact (s.decideOne_aside ne excess (reads m)).trans (ih later _)

/-- R185: whether the quotas that the sheets count at pass the spool. -/
def State.excess (s : State) (reads : Vector (Option SheetRead) 16) : Bool :=
  decide (Config.spoolSlots < (allServices.map fun n => s.countedQuota reads n).sum)

theorem State.decideSheets_eq (s : State) (reads : Vector (Option SheetRead) 16) :
    s.decideSheets reads =
      allServices.foldl (fun u m => u.decideOne (s.excess reads) (s.decidable reads m) m) s := by
  unfold State.decideSheets
  exact List.foldl_map

/-- R185: among the decisions stands the service's own, and those before and after it leave its lane as it was. -/
theorem State.decideSheets_own (s : State) (reads : Vector (Option SheetRead) 16) (n : Svc) :
    ∃ u, Aside n s u ∧ Aside n (u.decideOne (s.excess reads) (s.decidable reads n) n) (s.decideSheets reads) := by
  obtain ⟨before, after, split⟩ := List.append_of_mem (mem_allServices n)
  have nodup := allServices_nodup
  rw [split, List.nodup_append] at nodup
  obtain ⟨-, tail, apart⟩ := nodup
  refine ⟨before.foldl (fun u m => u.decideOne (s.excess reads) (s.decidable reads m) m) s,
    State.decideAll_aside _ _ before (fun hn => apart n hn n List.mem_cons_self rfl) s, ?_⟩
  rw [State.decideSheets_eq, split, List.foldl_append, List.foldl_cons]
  exact State.decideAll_aside _ _ after (List.nodup_cons.mp tail).1 _

end Sys2Proof.Machine

namespace Sys2Proof.Machine

/-! ### The header and the sheets of a link (R185, R195 steps 1 and 2) -/

theorem field_byte (b : List Byte) (o : Nat) : field b o 1 < 256 := by
  unfold field
  cases h : (b.drop o).take 1 with
  | nil => decide
  | cons x xs =>
    have short := congrArg List.length h
    rw [List.length_take, List.length_cons] at short
    have none : xs = [] := List.length_eq_zero_iff.mp (by omega)
    rw [none, ofLe, ofLe]
    have := x.isLt
    omega

/-- R172: the device priorities as the header gives them. -/
theorem headerPriorities_eq (b : List Byte) :
    headerPriorities b = #v[min 7 (field b 24 1), min 7 (field b 25 1), min 7 (field b 26 1)] := by
  have taken : ∀ o, takePriority (BitVec.ofNat 8 (field b o 1)) = min 7 (field b o 1) := fun o => by
    rw [takePriority, BitVec.toNat_ofNat, Nat.mod_eq_of_lt (field_byte b o)]
  have ofFn : headerPriorities b = #v[takePriority (BitVec.ofNat 8 (field b 24 1)),
      takePriority (BitVec.ofNat 8 (field b 25 1)), takePriority (BitVec.ofNat 8 (field b 26 1))] := rfl
  rw [ofFn, taken, taken, taken]

theorem linkHeader_step {s : State} (linking : s.ctl.link = .linking) (step : s.ctl.step = .header) (b : List Byte) :
    (field b 0 4 = 1 →
      s.linkStep (.header b) =
        { s with
          ctl := { s.ctl with windowBase := field b 8 8, windowSize := field b 16 8, step := .sheets, failedSheets := [],
                              consecutive := 0, stepDone := 0 }
          devPriority := #v[min 7 (field b 24 1), min 7 (field b 25 1), min 7 (field b 26 1)] }) ∧
    (field b 0 4 ≠ 1 →
      s.linkStep (.header b) = { s with ctl := { s.ctl with result := .badLayout, link := .unlinked, consecutive := 0 } }) := by
  have effect : s.linkStep (.header b) = s.accessDone.linkHeader b := by
    unfold State.linkStep
    rw [linking, step]
  rw [effect]
  unfold State.linkHeader
  refine ⟨fun good => ?_, fun bad => ?_⟩
  · rw [if_pos (show headerVersion b = Config.layoutVersion from good), headerPriorities_eq]
    rfl
  · rw [if_neg (show ¬headerVersion b = Config.layoutVersion from bad)]
    rfl

section
variable (s : State) (reads : Vector (Option SheetRead) 16) (after : Bool)

theorem State.sheetsDone_aside (n : Svc) : Aside n s (s.sheetsDone after) := by
  unfold State.sheetsDone
  split
  · exact s.accessDone_aside n
  · exact .refl n s

theorem State.sheetsDone_ctl :
    (s.sheetsDone after).ctl =
      { s.ctl with consecutive := if after = true ∨ s.ctl.failedSheets = [] then 0 else s.ctl.consecutive } := by
  have test : (after || s.ctl.failedSheets.isEmpty) = true ↔ after = true ∨ s.ctl.failedSheets = [] := by
    rw [Bool.or_eq_true, List.isEmpty_iff]
  unfold State.sheetsDone
  by_cases done : after = true ∨ s.ctl.failedSheets = []
  · rw [if_pos (test.mpr done), if_pos done]
    rfl
  · rw [if_neg (mt test.mp done), if_neg done]

/-- R185: the quota at which a service counts in the sum. -/
def State.counted (m : Svc) : Nat :=
  match reads[m] with
  | some r =>
    if r.before = r.after ∧ m ∉ s.ctl.failedSheets ∧ sheetStructure r.body = none then rawQuota r.body
    else (s.sheetOf m).quota
  | none => (s.sheetOf m).quota

theorem State.countedQuota_eq (m : Svc) : s.countedQuota reads m = s.counted reads m := by
  unfold State.countedQuota State.counted State.decidable
  cases reads[m] with
  | none => rfl
  | some r =>
    dsimp only
    by_cases decided : r.before = r.after ∧ m ∉ s.ctl.failedSheets
    · rw [if_pos decided]
      exact if_congr ⟨fun sound => ⟨decided.1, decided.2, sound⟩, fun ⟨_, _, sound⟩ => sound⟩ rfl rfl
    · rw [if_neg decided]
      exact (if_neg fun ⟨same, whole, _⟩ => decided ⟨same, whole⟩).symm

theorem State.excess_iff : s.excess reads = true ↔ 1048576 < (allServices.map (s.counted reads)).sum := by
  have same : (fun n => s.countedQuota reads n) = s.counted reads := funext (s.countedQuota_eq reads)
  unfold State.excess
  rw [same]
  exact decide_eq_true_iff

/-- The decisions at LINK rest on the sheets and on the reads that failed only. -/
theorem State.counted_congr {d : State} (sheet : d.sheet = s.sheet) (failed : d.ctl.failedSheets = s.ctl.failedSheets) :
    d.counted reads = s.counted reads := by
  funext m
  unfold State.counted State.sheetOf
  rw [sheet, failed]

/-- R185: a sheet that cannot be decided keeps its service's. -/
theorem State.decidable_none {n : Svc} (undecided : reads[n] = none ∨ n ∈ s.ctl.failedSheets) : s.decidable reads n = none := by
  unfold State.decidable
  rcases undecided with none | failed
  · rw [none]
  · cases reads[n] with
    | none => rfl
    | some r => exact if_neg fun h => h.2 failed

variable {reads} {n : Svc} {r : SheetRead}

theorem State.decidable_read (read : reads[n] = some r) (whole : n ∉ s.ctl.failedSheets) :
    s.decidable reads n = if r.before = r.after then some r else none := by
  unfold State.decidable
  rw [read]
  exact if_congr ⟨And.left, fun same => ⟨same, whole⟩⟩ rfl rfl

end

section
variable (u : State) (n : Svc)

theorem State.decideOne_none (excess : Bool) :
    (u.decideOne excess none n).sheet[n] = { u.sheet[n] with lastTaken := none } := by
  simp [State.decideOne]

theorem State.decideOne_refused {excess : Bool} {r : SheetRead} {cause : SheetCause}
    (unsound : sheetStructure r.body = some cause ∨
      sheetStructure r.body = none ∧ (u.sheetOf n).quota < rawQuota r.body ∧ excess = true ∧ cause = .quotaSum) :
    u.decideOne excess (some r) n = u.refuseSheet n r.before cause := by
  unfold State.decideOne
  dsimp only
  rcases unsound with unsound | ⟨sound, raises, rfl, rfl⟩
  · rw [unsound]
  · rw [sound]
    exact if_pos (by simpa using raises)

theorem State.decideOne_adopted {excess : Bool} {r : SheetRead} (sound : sheetStructure r.body = none)
    (room : rawQuota r.body ≤ (u.sheetOf n).quota ∨ excess = false) :
    u.decideOne excess (some r) n = u.adoptSheet n r.before r.body := by
  unfold State.decideOne
  dsimp only
  rw [sound]
  refine if_neg fun h => ?_
  rw [Bool.and_eq_true, decide_eq_true_eq] at h
  rcases room with room | room
  · exact absurd h.2 (by omega)
  · exact nomatch room.symm.trans h.1

end

theorem Aside.nextStep {n : Svc} {s t : State} (h : Aside n s t) (step : LinkStep) : Aside n s (t.nextStep step) :=
  ⟨h.carries, h.feed, h.meter, h.caption, h.sched, h.recorder, h.panel, h.sheet, h.moves, h.queue, h.own⟩

theorem Aside.raises {n : Svc} {s t : State} (h : Aside n s t) (c : SvcCond) : t.raises n c = s.raises n c :=
  congrArg CondEntry.raises (h.svcCond c)

theorem State.linkStep_sheets {s : State} (linking : s.ctl.link = .linking) (step : s.ctl.step = .sheets)
    (reads : Vector (Option SheetRead) 16) (after : Bool) :
    s.linkStep (.sheets reads after) = ((s.sheetsDone after).decideSheets reads).nextStep .standings := by
  unfold State.linkStep
  rw [linking, step]
  rfl

/-- R185, R195: the second step of a link decides the sheets as a set. -/
theorem linkSheets_step {s : State} (linking : s.ctl.link = .linking) (step : s.ctl.step = .sheets)
    (reads : Vector (Option SheetRead) 16) (after : Bool) :
    let total := (allServices.map (s.counted reads)).sum
    let t := s.linkStep (.sheets reads after)
    t.ctl =
      { s.ctl with
        step := .standings, stepDone := 0
        consecutive := if after = true ∨ s.ctl.failedSheets = [] then 0 else s.ctl.consecutive } ∧
    (∀ n : Svc, reads[n] = none ∨ n ∈ s.ctl.failedSheets → t.sheet[n] = { s.sheet[n] with lastTaken := none }) ∧
    ∀ (n : Svc) (r : SheetRead), reads[n] = some r → n ∉ s.ctl.failedSheets →
      (r.before ≠ r.after → t.sheet[n] = { s.sheet[n] with lastTaken := none }) ∧
      (∀ cause, r.before = r.after →
        (sheetStructure r.body = some cause ∨
          sheetStructure r.body = none ∧ (s.sheetOf n).quota < rawQuota r.body ∧ 1048576 < total ∧ cause = .quotaSum) →
        t.sheet[n] =
          { s.sheet[n] with lastTaken := some r.before, refused := some r.before, cause := some cause } ∧
        t.raises n .sheetFault = s.raises n .sheetFault + 1) ∧
      (r.before = r.after → sheetStructure r.body = none →
        rawQuota r.body ≤ (s.sheetOf n).quota ∨ total ≤ 1048576 →
        t.sheet[n] =
          { s.sheet[n] with
            adopted := parseSheet r.before r.body, source := .host, lastTaken := some r.before
            clamped := sheetClamps r.body } ∧
        t.raises n .sheetFault = s.raises n .sheetFault ∧
        GroupsHanded n (s.sheetOf n) (parseSheet r.before r.body) s t) := by
  intro total t
  obtain ⟨d, hd⟩ : ∃ d, d = s.sheetsDone after := ⟨_, rfl⟩
  have effect : t = (d.decideSheets reads).nextStep .standings := by
    rw [hd]
    exact State.linkStep_sheets linking step reads after
  have done := s.sheetsDone_ctl after
  rw [← hd] at done
  have failed : d.ctl.failedSheets = s.ctl.failedSheets := by rw [done]
  have sheet : d.sheet = s.sheet := by
    rw [hd]
    unfold State.sheetsDone
    split <;> rfl
  have excess : d.excess reads = true ↔ 1048576 < total := by
    rw [d.excess_iff reads, s.counted_congr reads sheet failed]
  have lane : ∀ n, ∃ u, Aside n s u ∧ Aside n (u.decideOne (d.excess reads) (d.decidable reads n) n) t := fun n => by
    obtain ⟨u, before, later⟩ := d.decideSheets_own reads n
    have start : Aside n s d := by
      rw [hd]
      exact s.sheetsDone_aside after n
    exact ⟨u, start.trans before, by rw [effect]; exact later.nextStep .standings⟩
  have kept : ∀ n, d.decidable reads n = none → t.sheet[n] = { s.sheet[n] with lastTaken := none } := fun n none => by
    obtain ⟨u, before, later⟩ := lane n
    rw [none] at later
    rw [later.sheet, State.decideOne_none, before.sheet]
  refine ⟨?_, fun n undecided => kept n (d.decidable_none reads (by rw [failed]; exact undecided)), fun n r read whole => ?_⟩
  · have decided : (d.decideSheets reads).ctl = d.ctl := by simp
    rw [effect, State.nextStep_ctl, decided, done]
  · have decidable := d.decidable_read read (by rw [failed]; exact whole)
    obtain ⟨u, before, later⟩ := lane n
    refine ⟨fun torn => kept n (decidable.trans (if_neg torn)), fun cause same unsound => ?_, fun same sound room => ?_⟩
    · rw [decidable, if_pos same, u.decideOne_refused n (cause := cause) (unsound.imp_right
        fun ⟨sound, raises, past, quota⟩ => ⟨sound, by rw [before.sheetOf]; exact raises, excess.mpr past, quota⟩)] at later
      obtain ⟨refused, raises, -⟩ := u.refuseSheet_refuses n r.before cause
      exact ⟨by rw [later.sheet, refused, before.sheet], by rw [later.raises, raises, before.raises]⟩
    · rw [decidable, if_pos same, u.decideOne_adopted n sound (room.imp (fun le => by rw [before.sheetOf]; exact le)
        fun le => Bool.eq_false_iff.mpr fun past => by have := excess.mp past; omega)] at later
      have raises := (u.adoptSheet_conds n r.before r.body (c := .sheetFault) (by decide)).2
      exact ⟨by rw [later.sheet, State.adoptSheet_sheet, before.sheet], by rw [later.raises, raises, before.raises],
        before.adopt_groupsHanded later⟩

/-- A report of a step that is not the present one has no effect. -/
theorem State.linkStep_idle {s : State} {r : LinkReport}
    (stray : s.ctl.link ≠ .linking ∨ (∃ b, r = .header b) ∧ s.ctl.step ≠ .header ∨
      (∃ reads after, r = .sheets reads after) ∧ s.ctl.step ≠ .sheets ∨
      r = .written ∧ (s.ctl.step = .header ∨ s.ctl.step = .sheets)) : s.linkStep r = s := by
  have written : s.ctl.link = .linking → r = .written → s.ctl.step = .header ∨ s.ctl.step = .sheets := fun link hr => by
    subst hr
    rcases stray with h | ⟨⟨_, h⟩, -⟩ | ⟨⟨_, _, h⟩, -⟩ | ⟨-, h⟩
    · exact absurd link h
    · exact nomatch h
    · exact nomatch h
    · exact h
  unfold State.linkStep
  split
  · next link step =>
    rcases stray with h | ⟨-, h⟩ | ⟨⟨_, _, h⟩, -⟩ | ⟨h, -⟩
    · exact absurd link h
    · exact absurd step h
    · exact nomatch h
    · exact nomatch h
  · next link step =>
    rcases stray with h | ⟨⟨_, h⟩, -⟩ | ⟨-, h⟩ | ⟨h, -⟩
    · exact absurd link h
    · exact nomatch h
    · exact absurd step h
    · exact nomatch h
  · next link step => exact absurd (written link rfl) (by rw [step]; decide)
  · next link step => exact absurd (written link rfl) (by rw [step]; decide)
  · next link step => exact absurd (written link rfl) (by rw [step]; decide)
  · rfl

/-- Settles O49: a lemma for each step of LINKING (`linkHeader_step` to `linkEntries_step`); at the sheets a service's own decision is
read through those of the others (`State.decideSheets_own`). -/
theorem linkSteps : Obligations.LinkSteps := by
  unfold Obligations.LinkSteps
  refine ⟨fun s b hp linking step => ?_, fun s reads after hp linking step => ?_, fun s hp linking step => ?_,
    fun s hp linking step => ?_, fun s hp linking step => ?_, fun s c => ?_, fun s r hp stray => ?_⟩
  · obtain ⟨good, bad⟩ := linkHeader_step linking step b
    exact ⟨fun h => (exec_linkStep hp _).trans (congrArg _ (good h)), fun h => (exec_linkStep hp _).trans (congrArg _ (bad h))⟩
  · exact ⟨_, exec_linkStep hp _, linkSheets_step linking step reads after⟩
  · obtain ⟨landed, ctl, sched⟩ := linkStandings_step linking step
    rw [State.idlePieces_eq] at landed
    exact ⟨_, exec_linkStep hp _, landed.host, landed.outside, landed.holds, ctl, sched⟩
  · obtain ⟨landed, rest⟩ := linkDescriptors_step linking step
    exact ⟨_, exec_linkStep hp _, landed.host, landed.outside, landed.holds, rest⟩
  · obtain ⟨landed, rest⟩ := linkEntries_step linking step
    exact ⟨_, exec_linkStep hp _, landed.host, landed.outside, landed.holds, rest⟩
  · have fields := s.entryPieces_fields c
    cases c <;> exact fields
  · exact (exec_linkStep hp r).trans (congrArg _ (State.linkStep_idle stray))

end Sys2Proof.Machine

namespace Sys2Proof.Machine

/-! ### Events that open and close no segment (R41, R45, R70) -/

/-- R70: idle frames within covered ones, covered frames within counted ones. -/
def Tally.Ordered (t : Tally) : Prop := t.idle ≤ t.covered ∧ t.covered ≤ t.counted

/-- R45, R49: the binned and the silent values make up the momentary count, within the count limit; the bins listed hold a count
each and stand in rising order below 750. -/
def Context.Balanced (x : Context) : Prop :=
  binCounts x.histogram + x.silent = x.momentary ∧ x.momentary ≤ Config.countLimit ∧
  (x.histogram.map Bin.index).Pairwise (· < ·) ∧ ∀ b ∈ x.histogram, 1 ≤ b.count ∧ b.index < 750

/-- From e to e' no segment opens: an entry that stands OPEN stood OPEN before with the same context under the same posting, and
its tally stays in order. -/
def Entry.Keeps (e e' : Entry) : Prop :=
  (e'.state = .opened → e.state = .opened ∧ e'.context = e.context ∧ e'.posting = e.posting) ∧
  (e.tally.Ordered → e'.tally.Ordered)

/-- From x to y a context stays with its owner, at most paused or resumed, and its counts stay balanced. -/
def Context.Keeps (x y : Context) : Prop :=
  (y.state = x.state ∨ x.running ∧ y.running) ∧ y.owner = x.owner ∧ (x.Balanced → y.Balanced)

theorem Entry.Keeps.refl (e : Entry) : e.Keeps e := ⟨fun h => ⟨h, rfl, rfl⟩, id⟩

theorem Entry.Keeps.trans {e e' e'' : Entry} (h : e.Keeps e') (g : e'.Keeps e'') : e.Keeps e'' := by
  refine ⟨fun opened => ?_, fun ordered => g.2 (h.2 ordered)⟩
  obtain ⟨opened', context', posting'⟩ := g.1 opened
  obtain ⟨opened'', context, posting⟩ := h.1 opened'
  exact ⟨opened'', context'.trans context, posting'.trans posting⟩

/-- A change of an entry that leaves its docket OPEN or not as it was. -/
theorem Entry.Keeps.of_same {e e' : Entry} (state : e'.state = e.state) (context : e'.context = e.context)
    (posting : e'.posting = e.posting) (tally : e.tally.Ordered → e'.tally.Ordered) : e.Keeps e' :=
  ⟨fun opened => ⟨state ▸ opened, context, posting⟩, tally⟩

/-- A change after which the entry does not stand OPEN. -/
theorem Entry.Keeps.of_not_open {e e' : Entry} (state : e'.state ≠ .opened) (tally : e.tally.Ordered → e'.tally.Ordered) :
    e.Keeps e' :=
  ⟨fun opened => absurd opened state, tally⟩

theorem Tally.zero_ordered : Tally.zero.Ordered := ⟨le_rfl, le_rfl⟩

/-- R70: an entry that has been cleared. -/
theorem Entry.Keeps.of_cleared {e e' : Entry} (state : e'.state ≠ .opened) (tally : e'.tally = Tally.zero) : e.Keeps e' :=
  .of_not_open state fun _ => tally ▸ Tally.zero_ordered

theorem Entry.Adjusts.keeps {e e' : Entry} (h : e.Adjusts e') : e.Keeps e' := by
  obtain ⟨context, posting, -⟩ := h.docket
  refine .of_same h.state context posting fun ordered => ?_
  obtain rfl | ⟨-, p, q, rfl⟩ := h
  · exact ordered
  · exact ordered

theorem Entry.hand_keeps (e : Entry) (carries : Bool) (w : SlotContent) : e.Keeps (e.hand carries w) :=
  .of_same (by simp) (by simp) (by simp) (by simp)

theorem Entry.delivered_keeps (e : Entry) (carries : Bool) (v : Verdict) : e.Keeps (e.delivered carries v) :=
  .of_not_open (by simp [Entry.delivered]) (by simp [Entry.delivered])

theorem Context.Keeps.refl (x : Context) : x.Keeps x := ⟨.inl rfl, rfl, id⟩

theorem Context.Keeps.trans {x y z : Context} (h : x.Keeps y) (g : y.Keeps z) : x.Keeps z := by
  obtain ⟨state, owner, balanced⟩ := h
  obtain ⟨state', owner', balanced'⟩ := g
  refine ⟨?_, owner'.trans owner, fun hx => balanced' (balanced hx)⟩
  rcases state with same | ⟨hx, hy⟩
  · rcases state' with same' | ⟨hy, hz⟩
    · exact .inl (same'.trans same)
    · exact .inr ⟨by simpa [Context.running, same] using hy, hz⟩
  · rcases state' with same' | ⟨-, hz⟩
    · exact .inr ⟨hx, by simpa [Context.running, same'] using hy⟩
    · exact .inr ⟨hx, hz⟩

theorem Context.breakRun_keeps (x : Context) : x.Keeps x.breakRun := by
  unfold Context.breakRun
  split
  · exact ⟨.inl rfl, rfl, id⟩
  · exact .refl x

theorem Context.pause_keeps (x : Context) : x.Keeps x.pause := by
  unfold Context.pause
  split
  · next acc => exact ⟨.inr ⟨.inl acc, .inr rfl⟩, rfl, id⟩
  · exact .refl x

theorem Context.resume_keeps (x : Context) : x.Keeps x.resume := by
  unfold Context.resume
  split
  · next paused => exact ⟨.inr ⟨.inr paused, .inl rfl⟩, rfl, id⟩
  · exact .refl x

/-- From s to t no segment opens and no context is claimed, closed, integrated or freed. -/
structure Calm (s t : State) : Prop where
  integ : t.integ = s.integ
  entries : ∀ (n : Svc) (k : Slot), (s.entry n k).Keeps (t.entry n k)
  contexts : ∀ c : CtxId, s.pool[c].Keeps t.pool[c]

theorem Calm.refl (s : State) : Calm s s := ⟨rfl, fun _ _ => .refl _, fun _ => .refl _⟩

theorem Calm.trans {s t u : State} (h : Calm s t) (g : Calm t u) : Calm s u :=
  ⟨g.integ.trans h.integ, fun n k => (h.entries n k).trans (g.entries n k), fun c => (h.contexts c).trans (g.contexts c)⟩

theorem Calm.of_same {s t : State} (sched : t.sched = s.sched) (pool : t.pool = s.pool) (integ : t.integ = s.integ) :
    Calm s t :=
  ⟨integ, fun n k => by rw [State.entry_of_sched sched]; exact .refl _, fun c => by rw [pool]; exact .refl _⟩

/-- A change of the dockets alone. -/
theorem Calm.of_entries {s t : State} (pool : t.pool = s.pool) (integ : t.integ = s.integ)
    (entries : ∀ (n : Svc) (k : Slot), (s.entry n k).Keeps (t.entry n k)) : Calm s t :=
  ⟨integ, entries, fun c => by rw [pool]; exact .refl _⟩

theorem Calm.foldl {α : Type} (f : State → α → State) (hf : ∀ u a, Calm u (f u a)) (l : List α) (s : State) :
    Calm s (l.foldl f s) :=
  foldl_keeps (Calm s) f (fun u a h => h.trans (hf u a)) l s (.refl s)

theorem State.modEntry_calm (s : State) (n : Svc) (k : Slot) {f : Entry → Entry}
    (hf : (s.entry n k).Keeps (f (s.entry n k))) : Calm s (s.modEntry n k f) := by
  refine .of_entries (by simp) (by simp) fun m j => ?_
  by_cases own : m = n ∧ j = k
  · obtain ⟨rfl, rfl⟩ := own
    simpa using hf
  · rw [State.modEntry_entry_ne _ _ _ _ _ _ (by tauto)]
    exact .refl _

/-- A change of a service's Scheduler that keeps its entries. -/
theorem State.modSched_calm (s : State) (n : Svc) {f : Sched → Sched} (hf : ∀ c, (f c).entries = c.entries) :
    Calm s (s.modSched n f) :=
  .of_entries (by simp) (by simp) fun m k => by rw [State.modSched_entry _ _ _ _ _ hf]; exact .refl _

theorem State.modEntriesWhere_calm (s : State) (n : Svc) (p : Entry → Bool) {f : Entry → Entry}
    (hf : ∀ e : Entry, e.Keeps (f e)) :
    Calm s (s.modEntriesWhere n p f) := by
  unfold State.modEntriesWhere
  refine Calm.foldl _ (fun u k => ?_) allSlots s
  split
  · exact u.modEntry_calm n k (hf _)
  · exact .refl u

theorem State.modPool_calm (s : State) (c : CtxId) {f : Context → Context} (hf : s.pool[c].Keeps (f s.pool[c])) :
    Calm s (s.modPool c f) := by
  refine ⟨rfl, fun _ _ => .refl _, fun d => ?_⟩
  rw [State.modPool_pool, upd_get]
  split
  · next own => subst own; exact hf
  · exact .refl _

theorem State.flagOpen_calm (s : State) (n : Svc) (f : VerdictFlags) : Calm s (s.flagOpen n f) :=
  s.modEntriesWhere_calm n _ fun _ => .of_same rfl rfl rfl id

theorem State.modTallies_calm (s : State) (n : Svc) {f : Tally → Tally} (hf : ∀ t : Tally, t.Ordered → (f t).Ordered) :
    Calm s (s.modTallies n f) :=
  s.modEntriesWhere_calm n _ fun e => .of_same rfl rfl rfl (hf e.tally)

theorem State.pushWrite_calm (s : State) (n : Svc) (k : Slot) (w : SlotContent) : Calm s (s.pushWrite n k w) := by
  unfold State.pushWrite
  split
  · exact s.modEntry_calm n k ((s.entry n k).hand_keeps true w)
  · exact .refl s

theorem State.writeStanding_calm (s : State) (n : Svc) (k : Slot) : Calm s (s.writeStanding n k) :=
  s.pushWrite_calm n k _

theorem State.modContextOf_calm (s : State) (e : Entry) {f : Context → Context} (hf : ∀ x : Context, x.Keeps (f x)) :
    Calm s (s.modContextOf e f) := by
  unfold State.modContextOf
  split
  · exact s.modPool_calm _ (hf _)
  · exact .refl s

theorem State.pauseOuter_calm (s : State) (n : Svc) : Calm s (s.pauseOuter n) := by
  unfold State.pauseOuter State.forOpen
  refine Calm.foldl _ (fun u k => ?_) allSlots s
  unfold State.pauseSegment
  split
  · split
    · exact .refl u
    · exact (u.modContextOf_calm _ Context.pause_keeps).trans (State.modEntry_calm _ n k (.of_same rfl rfl rfl id))
  · exact .refl u

theorem State.resumeOuter_calm (s : State) (n : Svc) : Calm s (s.resumeOuter n) := by
  unfold State.resumeOuter
  split
  · exact .refl s
  unfold State.forOpen
  refine Calm.foldl _ (fun u k => ?_) allSlots s
  unfold State.resumeSegment
  split
  · exact (u.modContextOf_calm _ Context.resume_keeps).trans (State.modEntry_calm _ n k (.of_same rfl rfl rfl id))
  · exact .refl u

theorem State.breakContextRuns_calm (s : State) (n : Svc) : Calm s (s.breakContextRuns n) := by
  unfold State.breakContextRuns
  refine Calm.foldl _ (fun u c => ?_) allContexts s
  split
  · exact u.modPool_calm c (Context.breakRun_keeps _)
  · exact .refl u

theorem State.runBreak_calm (s : State) (n : Svc) : Calm s (s.runBreak n) :=
  .trans (t := s.modMeter n (Meter.breakRun (s.svcCond n .audioSilence).live)) (.of_same (by simp) (by simp) (by simp))
    (State.breakContextRuns_calm _ n)

theorem State.leaveFlywheel_calm (s : State) (n : Svc) : Calm s (s.leaveFlywheel n) := by
  unfold State.leaveFlywheel
  split
  · exact .trans (.of_same (by simp) (by simp) (by simp)) (State.runBreak_calm _ n)
  · exact .refl s

theorem State.leaveLayer_calm (s : State) (n : Svc) (l : Layer) (k : Slot) : Calm s (s.leaveLayer n l k) := by
  unfold State.leaveLayer
  split
  · exact s.modSched_calm n fun c => by cases l <;> rfl
  · exact .refl s

theorem State.deliverVerdict_calm (s : State) (n : Svc) (k : Slot) (v : Verdict) : Calm s (s.deliverVerdict n k v) := by
  refine .of_entries (by simp) (by simp) fun m j => ?_
  by_cases own : m = n
  · subst own
    rw [State.deliverVerdict_entry]
    split
    · next h => subst h; exact Entry.delivered_keeps _ _ _
    · exact .refl _
  · have other := (s.deliverVerdict_others n k v) m own
    rw [State.entry, State.entry, other.2.2.2.1]
    exact .refl _

theorem State.finishVerdict_calm (s : State) (n : Svc) (k : Slot) (loud : LoudResult) :
    Calm s (s.finishVerdict n k loud) := by
  unfold State.finishVerdict
  split
  · exact s.deliverVerdict_calm n k _
  · exact .refl s

theorem State.announceClose_calm (s : State) (n : Svc) (k : Slot) (metered : Bool) :
    Calm s (s.announceClose n k metered) := by
  unfold State.announceClose
  split
  · exact s.writeStanding_calm n k
  split
  · exact s.finishVerdict_calm n k _
  · exact .refl s

theorem State.refreshRequirement_calm (s : State) (n : Svc) : Calm s (s.refreshRequirement n) :=
  .of_same (by simp) (by simp) (by simp)

theorem State.raiseTimeFault_calm (s : State) (n : Svc) : Calm s (s.raiseTimeFault n) :=
  .trans (.of_same (by simp) (by simp) (by simp)) (State.flagOpen_calm _ n _)

end Sys2Proof.Machine

namespace Sys2Proof.Machine

/-! ### What keeps the dockets' tallies, the contexts' counts and the integration queue sound (R41, R45, R53, R54, R70) -/

/-- From s to t each of the invariants of tallies, of counts and of the integration queue is kept. -/
structure KeepsSound (s t : State) : Prop where
  tallies : TallySound s → TallySound t
  counts : CountsSound s → CountsSound t
  queue : QueueSound s → QueueSound t

theorem KeepsSound.refl (s : State) : KeepsSound s s := ⟨id, id, id⟩

theorem KeepsSound.trans {s t u : State} (h : KeepsSound s t) (g : KeepsSound t u) : KeepsSound s u :=
  ⟨g.tallies ∘ h.tallies, g.counts ∘ h.counts, g.queue ∘ h.queue⟩

theorem KeepsSound.foldl {α : Type} (f : State → α → State) (hf : ∀ u a, KeepsSound u (f u a)) (l : List α) (s : State) :
    KeepsSound s (l.foldl f s) :=
  foldl_keeps (KeepsSound s) f (fun u a h => h.trans (hf u a)) l s (.refl s)

theorem TallySound.ordered {s : State} (sound : TallySound s) (n : Svc) (k : Slot) : (s.entry n k).tally.Ordered :=
  sound n k

theorem CountsSound.balanced {s : State} (sound : CountsSound s) (c : CtxId) : s.pool[c].Balanced := sound.1 c

theorem Context.running_not {x : Context} (h : x.running) :
    x.state ≠ .free ∧ x.state ≠ .closing ∧ x.state ≠ .integrating := by
  rcases h with h | h <;> simp [h]

/-- A context that stays with its owner stays CLOSING, and INTEGRATING, as it was. -/
theorem Context.Keeps.state_iff {x y : Context} (h : x.Keeps y) {st : CtxState} (out : st = .closing ∨ st = .integrating) :
    y.state = st ↔ x.state = st := by
  rcases h.1 with same | ⟨hx, hy⟩
  · rw [same]
  · have := Context.running_not hx
    have := Context.running_not hy
    rcases out with rfl | rfl <;> tauto

theorem Calm.keeps {s t : State} (h : Calm s t) : KeepsSound s t where
  tallies sound n k := (h.entries n k).2 (sound n k)
  counts sound := ⟨fun c => (h.contexts c).2.2 (sound.1 c), fun c r busy => sound.2 c r (h.integ ▸ busy)⟩
  queue := by
    rintro ⟨nodup, closing, integrating, own⟩
    refine ⟨h.integ ▸ nodup, fun c => ?_, fun c => ?_, fun n k x opened context => ?_⟩
    · rw [h.integ, (h.contexts c).state_iff (.inl rfl)]
      exact closing c
    · rw [h.integ, (h.contexts c).state_iff (.inr rfl)]
      exact integrating c
    · obtain ⟨opened', context', posting⟩ := (h.entries n k).1 opened
      obtain ⟨running, owner⟩ := own n k x opened' (context' ▸ context)
      obtain ⟨state, owner', -⟩ := h.contexts x
      refine ⟨?_, by rw [owner', owner, posting]⟩
      rcases state with same | ⟨-, running'⟩
      · rw [same]; exact running
      · exact running'

/-! #### A segment closes (R53, R96) -/

theorem Context.close_balanced (fig : CloseFigures) {x : Context} (h : x.Balanced) : (x.close fig).Balanced := h

theorem Context.free_balanced : Context.free.Balanced := by
  refine ⟨rfl, Nat.zero_le _, .nil, fun b hb => ?_⟩
  exact absurd hb List.not_mem_nil

theorem Context.claimed_balanced (owner : Owner) (sn : Snapshot) (paused : Bool) :
    (Context.claimed owner sn paused).Balanced := Context.free_balanced

/-- The change of one context of the pool keeps every context balanced. -/
theorem CountsSound.of_upd {s t : State} (sound : CountsSound s) {c : CtxId} {f : Context → Context}
    (pool : t.pool = upd s.pool c f) (balanced : s.pool[c].Balanced → (f s.pool[c]).Balanced)
    (busy : ∀ d r, t.integ.busy = some (d, r) → r.n1 + r.silent = r.momentary) : CountsSound t := by
  refine ⟨fun d => ?_, busy⟩
  rw [pool, upd_get]
  split
  · next own => subst own; exact balanced (sound.balanced d)
  · exact sound.1 d

/-- R53: a running context that no OPEN docket holds goes to the end of the integration queue. -/
theorem QueueSound.closeContext {s : State} {n : Svc} {c : CtxId} {cls : SegClass} (sound : QueueSound s)
    (left : ∀ (m : Svc) (j : Slot), (s.entry m j).state = .opened → (s.entry m j).context ≠ some c) :
    QueueSound (s.closeContext n c cls) := by
  unfold State.closeContext
  split
  case isFalse => exact sound
  case isTrue running =>
    obtain ⟨nodup, closing, integrating, own⟩ := sound
    have absent : c ∉ s.integ.queue := fun mem => (Context.running_not running).2.1 ((closing c).mp mem)
    refine ⟨?_, fun d => ?_, fun d => ?_, fun m j x opened context => ?_⟩
    · show (s.integ.queue ++ [c]).Nodup
      rw [← List.concat_eq_append]
      exact nodup.concat absent
    · by_cases same : d = c
      · subst same; simp [Context.close]
      · simpa [same] using closing d
    · by_cases same : d = c
      · subst same
        have := (integrating d).not.mp (Context.running_not running).2.2
        simpa [Context.close] using this
      · simpa [same] using integrating d
    · have ne : x ≠ c := by
        rintro rfl
        exact left m j opened context
      simpa [ne, State.entry] using own m j x opened context

theorem CountsSound.closeContext {s : State} (sound : CountsSound s) (n : Svc) (c : CtxId) (cls : SegClass) :
    CountsSound (s.closeContext n c cls) := by
  unfold State.closeContext
  split
  · exact sound.of_upd rfl (Context.close_balanced _) sound.2
  · exact sound

theorem State.closeContext_sched (s : State) (n : Svc) (c : CtxId) (cls : SegClass) :
    (s.closeContext n c cls).sched = s.sched := by simp

/-- R53: the context of a docket that stands OPEN is no other docket's. -/
theorem QueueSound.own_ne {s : State} (sound : QueueSound s) {n m : Svc} {k j : Slot} {x : CtxId}
    (ho : (s.entry n k).state = .opened) (hx : (s.entry n k).context = some x) (other : m ≠ n ∨ j ≠ k)
    (ho' : (s.entry m j).state = .opened) : (s.entry m j).context ≠ some x := fun hx' => by
  have owners := (sound.2.2.2 n k x ho hx).2.symm.trans (sound.2.2.2 m j x ho' hx').2
  simp only [Option.some.injEq, Owner.mk.injEq] at owners
  tauto

theorem State.closeSegment_keeps (s : State) (n : Svc) (k : Slot) (add : VerdictFlags) :
    KeepsSound s (s.closeSegment n k add) := by
  by_cases ho : (s.entry n k).state = .opened
  case neg => rw [State.closeSegment_idle (.inl ho)]; exact .refl s
  cases hb : (s.entry n k).body with
  | none => rw [State.closeSegment_idle (.inr hb)]; exact .refl s
  | some b =>
    have closed : KeepsSound s ((s.modEntry n k (Entry.leaving s.feed[n].time add)).closeContextOf n (s.entry n k) b.cls) := by
      have leaves : Calm s (s.modEntry n k (Entry.leaving s.feed[n].time add)) :=
        s.modEntry_calm n k (.of_not_open (by simp [Entry.leaving]) id)
      unfold State.closeContextOf
      cases hx : (s.entry n k).context with
      | none => exact leaves.keeps
      | some x =>
        refine ⟨fun sound m j => ?_, fun sound => ?_, fun sound => ?_⟩
        · rw [State.entry_of_sched (State.closeContext_sched _ n x b.cls)]
          exact leaves.keeps.tallies sound m j
        · exact (leaves.keeps.counts sound).closeContext n x b.cls
        · refine (leaves.keeps.queue sound).closeContext fun m j opened => ?_
          by_cases own : m = n ∧ j = k
          · obtain ⟨rfl, rfl⟩ := own
            simp [Entry.leaving] at opened
          · have other : m ≠ n ∨ j ≠ k := by tauto
            rw [State.modEntry_entry_ne _ _ _ _ _ _ other] at opened ⊢
            exact sound.own_ne ho hx other opened
    have resumed : ∀ u : State, Calm u (if b.cls.layer = .inner then u.resumeOuter n else u) := fun u => by
      split
      · exact u.resumeOuter_calm n
      · exact .refl u
    have marked : ∀ u : State, Calm u (u.markEnd n k b) := fun u => .of_same (by simp) (by simp) (by simp)
    rw [State.closeSegment_open ho hb]
    exact closed.trans
      ((((State.leaveLayer_calm _ n _ k).trans (resumed _)).trans (marked _)).trans (State.announceClose_calm _ n k _)).keeps

/-! #### A segment opens (R42, R91 to R93) -/

theorem State.closeOne_keeps (n : Svc) (l : Layer) (add : VerdictFlags) (s : State) (k : Slot) :
    KeepsSound s (State.closeOne n l add s k) := by
  unfold State.closeOne
  split
  · split
    · exact s.closeSegment_keeps n k add
    · exact .refl s
  · exact .refl s

theorem State.closeOnNext_keeps (s : State) (n : Svc) (l : Layer) (f : Firing) : KeepsSound s (s.closeOnNext n l f) := by
  rw [State.closeOnNext_eq]
  exact KeepsSound.foldl _ (State.closeOne_keeps n l _) allSlots s

/-- A docket opens: what was FREE may be set up, and the context that the docket has then is its own and runs. -/
theorem QueueSound.opens {s t : State} {n : Svc} {k : Slot} (sound : QueueSound s) (integ : t.integ = s.integ)
    (pool : ∀ d : CtxId, t.pool[d] = s.pool[d] ∨ s.pool[d].state = .free ∧ t.pool[d].running)
    (takes : ∀ c : CtxId, (t.entry n k).context = some c →
      t.pool[c].running ∧ t.pool[c].owner = some ⟨n, k, (t.entry n k).posting⟩)
    (others : ∀ (m : Svc) (j : Slot), m ≠ n ∨ j ≠ k → t.entry m j = s.entry m j) : QueueSound t := by
  obtain ⟨nodup, closing, integrating, own⟩ := sound
  have stays : ∀ (d : CtxId) (st : CtxState), st = .closing ∨ st = .integrating →
      (t.pool[d].state = st ↔ s.pool[d].state = st) := by
    intro d st out
    rcases pool d with same | ⟨free, running⟩
    · rw [same]
    · have := Context.running_not running
      rcases out with rfl | rfl <;> simp [-Fin.getElem_fin, this, free]
  refine ⟨integ ▸ nodup, fun d => ?_, fun d => ?_, fun m j y opened context => ?_⟩
  · rw [integ, stays d _ (.inl rfl)]; exact closing d
  · rw [integ, stays d _ (.inr rfl)]; exact integrating d
  · by_cases here : m = n ∧ j = k
    · obtain ⟨rfl, rfl⟩ := here
      exact takes y context
    · have same := others m j (by tauto)
      rw [same] at opened context ⊢
      obtain ⟨running, owner⟩ := own m j y opened context
      rcases pool y with kept | ⟨free, -⟩
      · rw [kept]; exact ⟨running, owner⟩
      · exact absurd free (Context.running_not running).1

theorem State.claimFor_pool_cases (s : State) (n : Svc) (k : Slot) (sn : Snapshot) (paused : Bool) (d : CtxId) :
    (s.claimFor n k sn paused).pool[d] = s.pool[d] ∨
      s.pool[d].state = .free ∧
        (s.claimFor n k sn paused).pool[d] = Context.claimed ⟨n, k, (s.entry n k).posting⟩ sn paused := by
  unfold State.claimFor
  split
  · next c hc =>
    rw [State.modEntry_pool]
    unfold State.claim
    rw [State.modPool_pool, upd_get]
    split
    · next own => subst own; exact .inr ⟨State.freeContext_free hc, rfl⟩
    · exact .inl rfl
  · rw [show ∀ u : State, (u.raise n .meterShortage).pool = u.pool by simp]
    exact .inl rfl

theorem State.claimFor_entry_ne (s : State) (n : Svc) (k : Slot) (sn : Snapshot) (paused : Bool) {m : Svc} {j : Slot}
    (other : m ≠ n ∨ j ≠ k) : (s.claimFor n k sn paused).entry m j = s.entry m j := by
  by_cases own : m = n
  · subst own
    rw [State.claimFor_entry, if_neg (by tauto)]
  · obtain ⟨-, -, -, sched, -⟩ := s.claimFor_others n k sn paused m own
    rw [State.entry, State.entry, sched]

theorem Context.claimed_running (owner : Owner) (sn : Snapshot) (paused : Bool) :
    (Context.claimed owner sn paused).running := by
  unfold Context.claimed Context.running
  cases paused <;> simp

/-- R91 steps 3 to 5: a context is claimed for a docket, which then stands as its opening leaves it. -/
theorem State.claimFor_keeps (s : State) (n : Svc) (k : Slot) (sn : Snapshot) (paused : Bool) {f : Entry → Entry}
    (hf : ∀ e : Entry, (f e).context = e.context ∧ (f e).posting = e.posting ∧ (f e).tally.Ordered) :
    KeepsSound s ((s.claimFor n k sn paused).modEntry n k f) where
  tallies sound m j := by
    by_cases own : m = n ∧ j = k
    · obtain ⟨rfl, rfl⟩ := own
      rw [State.modEntry_entry]
      exact (hf _).2.2
    · rw [State.modEntry_entry_ne _ _ _ _ _ _ (by tauto), State.claimFor_entry_ne _ _ _ _ _ (by tauto)]
      exact sound m j
  counts sound := by
    refine ⟨fun d => ?_, fun c r busy => sound.2 c r ?_⟩
    · rw [State.modEntry_pool]
      rcases s.claimFor_pool_cases n k sn paused d with same | ⟨-, claimed⟩
      · rw [same]; exact sound.1 d
      · rw [claimed]; exact Context.claimed_balanced _ _ _
    · rwa [State.modEntry_integ, show (s.claimFor n k sn paused).integ = s.integ by simp] at busy
  queue sound := by
    refine sound.opens (n := n) (k := k) (by simp) (fun d => ?_) (fun c context => ?_) fun m j other => ?_
    · rw [State.modEntry_pool]
      refine (s.claimFor_pool_cases n k sn paused d).imp_right fun ⟨free, claimed⟩ => ⟨free, ?_⟩
      rw [claimed]
      exact Context.claimed_running _ _ _
    · rw [State.modEntry_entry] at context ⊢
      rw [(hf _).1, State.claimFor_entry, if_pos rfl] at context
      rw [(hf _).2.1, State.claimFor_entry, if_pos rfl, State.modEntry_pool]
      exact s.claimFor_own n k sn paused context
    · rw [State.modEntry_entry_ne _ _ _ _ _ _ other, State.claimFor_entry_ne _ _ _ _ _ other]

theorem State.opened_keeps (s : State) (n : Svc) (k : Slot) (b : Body) (f : Firing) :
    KeepsSound s (s.opened n k b f) := by
  have pauses : ∀ u : State, Calm u (if b.cls.layer = .inner then u.pauseOuter n else u) := fun u => by
    split
    · exact u.pauseOuter_calm n
    · exact .refl u
  have names : ∀ u : State, Calm u (u.modSched n fun c => c.setOpen b.cls.layer (some k)) := fun u =>
    u.modSched_calm n fun c => by cases b.cls.layer <;> rfl
  unfold State.opened
  dsimp only
  refine .trans ?_ ((names _).trans (pauses _)).keeps
  exact s.claimFor_keeps n k _ _ fun e => ⟨rfl, rfl, Tally.zero_ordered⟩

theorem State.openSegment_keeps (s : State) (n : Svc) (k : Slot) (f : Firing) : KeepsSound s (s.openSegment n k f) := by
  cases hb : (s.entry n k).body with
  | none => rw [State.openSegment_none hb]; exact .refl s
  | some b =>
    rw [State.openSegment_body hb]
    exact ((s.closeOnNext_keeps n b.cls.layer f).trans (State.opened_keeps _ n k b f)).trans
      (State.writeStanding_calm _ n k).keeps

theorem State.fireBoundary_keeps (s : State) (n : Svc) (f : Firing) (x : Boundary) :
    KeepsSound s (s.fireBoundary n f x) := by
  unfold State.fireBoundary
  dsimp only
  split
  · exact s.openSegment_keeps n _ _
  · exact ((s.modEntry_calm n x.slot (.of_not_open (by simp) id)).trans (State.writeStanding_calm _ n _)).keeps
  · exact s.openSegment_keeps n _ _
  · exact s.closeSegment_keeps n _ _
  · exact s.closeSegment_keeps n _ _
  · exact .refl s

theorem State.fireAll_keeps (s : State) (n : Svc) (c : FireCause) (bs : List Boundary) :
    KeepsSound s (s.fireAll n c bs) :=
  KeepsSound.foldl _ (fun u x => u.fireBoundary_keeps n c.firing x) bs s

/-! #### The Integration Unit (R54 to R58) -/

/-- R56, R58: a result accounts for every momentary value of its context. -/
theorem integrate_balanced {x : Context} (h : x.Balanced) (fig : CloseFigures) :
    (integrate x fig).n1 + (integrate x fig).silent = (integrate x fig).momentary := by
  unfold integrate
  dsimp only
  split <;> exact h.1

theorem State.startIntegration_keeps (s : State) : KeepsSound s s.startIntegration := by
  unfold State.startIntegration
  split
  case h_2 => exact .refl s
  case h_1 c rest idle queued =>
    refine ⟨fun sound m j => sound m j, fun sound => ?_, ?_⟩
    · refine sound.of_upd (c := c) (f := fun x => { x with state := .integrating }) rfl (fun balanced => balanced)
        fun d r busy => ?_
      obtain ⟨-, rfl⟩ : c = d ∧ _ = r := by simpa using busy
      exact integrate_balanced (sound.balanced c) _
    · rintro ⟨nodup, closing, integrating, own⟩
      rw [queued] at nodup closing
      obtain ⟨absent, nodup⟩ := List.nodup_cons.mp nodup
      have isClosing : s.pool[c].state = .closing := (closing c).mp List.mem_cons_self
      refine ⟨nodup, fun d => ?_, fun d => ?_, fun m j y opened context => ?_⟩
      · by_cases same : d = c
        · subst same; simpa using absent
        · have := closing d
          simpa [same] using this
      · by_cases same : d = c
        · subst same; simp
        · have := integrating d
          simpa [same, idle, Ne.symm same] using this
      · have held := own m j y opened context
        have ne : y ≠ c := by
          rintro rfl
          exact (Context.running_not held.1).2.1 isClosing
        simpa [ne, State.entry] using held

theorem State.handResult_calm (s : State) (o : Owner) (r : LoudResult) : Calm s (s.handResult o r) := by
  unfold State.handResult
  dsimp only
  split
  · next owned =>
    exact (s.modEntry_calm o.service o.slot (.of_not_open (by simp [owned.1]) id)).trans (State.finishVerdict_calm _ _ _ _)
  · exact .refl s

/-- R55: the context of a completed integration is FREE again, and the unit is idle. -/
theorem State.freed_keeps {s : State} {c : CtxId} {r : LoudResult} (busy : s.integ.busy = some (c, r)) :
    KeepsSound s ((s.modPool c fun _ => Context.free).modInteg fun u => { u with busy := none }) := by
  refine ⟨fun sound m j => sound m j, fun sound => ?_, ?_⟩
  · exact sound.of_upd (f := fun _ => Context.free) rfl (fun _ => Context.free_balanced) fun d r none => by
      simp at none
  · rintro ⟨nodup, closing, integrating, own⟩
    have isIntegrating : s.pool[c].state = .integrating := (integrating c).mpr (by rw [busy]; rfl)
    refine ⟨nodup, fun d => ?_, fun d => ?_, fun m j y opened context => ?_⟩
    · by_cases same : d = c
      · subst same
        have := (closing d).not.mpr (by rw [isIntegrating]; decide)
        simpa [Context.free] using this
      · simpa [same] using closing d
    · by_cases same : d = c
      · subst same; simp [Context.free]
      · have := integrating d
        simpa [same, busy, Ne.symm same] using this
    · have held := own m j y opened context
      have ne : y ≠ c := by
        rintro rfl
        exact (Context.running_not held.1).2.2 isIntegrating
      simpa [ne, State.entry] using held

theorem State.completeIntegration_keeps (s : State) : KeepsSound s s.completeIntegration := by
  unfold State.completeIntegration
  split
  · exact .refl s
  next c r busy =>
  have handed : ∀ t : State, Calm s t →
      KeepsSound s ((t.modPool c fun _ => Context.free).modInteg fun u => { u with busy := none }).startIntegration :=
    fun t calm => (calm.keeps.trans (State.freed_keeps (by rw [calm.integ, busy]))).trans (State.startIntegration_keeps _)
  split
  · exact handed _ (s.handResult_calm _ r)
  · exact handed s (.refl s)

end Sys2Proof.Machine

namespace Sys2Proof.Machine

section
variable (s : State) (n : Svc)

/-! #### Time, frames and cues -/

theorem State.modFeed_calm (f : Feed → Feed) : Calm s (s.modFeed n f) := .of_same rfl rfl rfl

theorem State.advanceTo_keeps (c : FireCause) (t : Nat) : KeepsSound s (s.advanceTo n c t) := by
  unfold State.advanceTo State.advanceBoundaries
  dsimp only
  exact ((s.modFeed_calm n _).keeps.trans (State.fireAll_keeps _ n c _)).trans
    (State.refreshRequirement_calm _ n).keeps

theorem State.seedTime_keeps (t : Nat) : KeepsSound s (s.seedTime n t) := by
  unfold State.seedTime State.seedBoundaries
  dsimp only
  exact ((s.modFeed_calm n _).keeps.trans (State.fireAll_keeps _ n _ _)).trans
    (State.refreshRequirement_calm _ n).keeps

theorem Tally.judged_ordered (st : CapState) {t : Tally} (h : t.Ordered) : (t.judged st).Ordered := by
  unfold Tally.judged
  obtain ⟨idle, covered⟩ := h
  split
  · cases st <;> constructor <;> simp <;> omega
  · exact ⟨idle, covered⟩

theorem State.judgeFrame_calm : Calm s (s.judgeFrame n) :=
  .trans (t := (s.modCaption n Caption.judge).judgeCaptions n) (.of_same (by simp) (by simp) (by simp))
    (State.modTallies_calm _ n fun _ => Tally.judged_ordered _)

theorem State.flyAdvance_keeps : KeepsSound s (s.flyAdvance n) := by
  have counted : ∀ u : State, Calm u ((u.flagOpen n .ofFlywheel).modTallies n Tally.advanced) := fun u =>
    (u.flagOpen_calm n _).trans (State.modTallies_calm _ n fun _ h => h)
  have advanced : ∀ (u : State) (t : Nat),
      KeepsSound u (((u.advanceTo n .flywheel t).flagOpen n .ofFlywheel).modTallies n Tally.advanced) := fun u t =>
    (u.advanceTo_keeps n _ t).trans (counted _).keeps
  unfold State.flyAdvance
  split
  · exact (s.modFeed_calm n _).keeps.trans (advanced _ _)
  · exact .refl s

theorem State.enterFlywheel_keeps (due : Nat) : KeepsSound s (s.enterFlywheel n due) := by
  have entered : Calm s (s.flywheelEntered n) :=
    .trans (.of_same (by simp) (by simp) (by simp)) (State.runBreak_calm _ n)
  exact entered.keeps.trans (KeepsSound.foldl (fun u _ => u.flyAdvance n) (fun u _ => u.flyAdvance_keeps n) _ _)

theorem State.judgeStamp_keeps (t : Nat) : KeepsSound s (s.judgeStamp n t) := by
  unfold State.judgeStamp State.jumpTo
  dsimp only
  split
  · exact (s.modFeed_calm n _).keeps.trans (State.advanceTo_keeps _ n _ t)
  split
  · exact ((s.modFeed_calm n _).trans (State.raiseTimeFault_calm _ n)).keeps.trans (State.advanceTo_keeps _ n _ t)
  split
  · exact .refl s
  · exact ((s.modFeed_calm n _).trans (State.raiseTimeFault_calm _ n)).keeps

theorem State.applyStamp_keeps (t : Nat) : KeepsSound s (s.applyStamp n t) := by
  have reloads : ∀ u : State, KeepsSound u (u.reloadLoss n) := fun u => (u.modFeed_calm n _).keeps
  unfold State.applyStamp
  split
  · split
    · exact (s.seedTime_keeps n t).trans (reloads _)
    · exact .refl s
  · exact (s.judgeStamp_keeps n t).trans (reloads _)
  · exact (s.judgeStamp_keeps n t).trans (reloads _)
  · exact ((s.leaveFlywheel_calm n).keeps.trans (State.judgeStamp_keeps _ n t)).trans (reloads _)

theorem State.judgeRate_calm (code : BitVec 16) : Calm s (s.judgeRate n code) := by
  unfold State.judgeRate
  dsimp only
  split
  · exact s.modFeed_calm n _
  split
  · exact (s.modFeed_calm n _).trans (State.raiseTimeFault_calm _ n)
  · exact s.modFeed_calm n _

theorem State.takeFrame_keeps (t : Nat) (code : BitVec 16) : KeepsSound s (s.takeFrame n t code) := by
  rw [State.takeFrame_eq]
  exact ((s.modFeed_calm n _).keeps.trans (State.applyStamp_keeps _ n t)).trans
    (((State.judgeRate_calm _ n code).trans (State.modFeed_calm _ n _)).trans (State.judgeFrame_calm _ n)).keeps

theorem State.takeLoss_keeps (late : Bool) : KeepsSound s (s.takeLoss n late) := by
  have down : KeepsSound s (s.modFeed n fun f => { f with lineDown := true }) := (s.modFeed_calm n _).keeps
  unfold State.takeLoss
  dsimp only
  split
  · exact down.trans (State.enterFlywheel_keeps _ n _)
  · exact down.trans (State.enterFlywheel_keeps _ n _)
  · exact down
  · exact down

theorem State.lossTimerOut_keeps : KeepsSound s (s.lossTimerOut n) := by
  unfold State.lossTimerOut
  split
  · exact s.enterFlywheel_keeps n 2
  · exact .refl s

theorem State.frameTimerDue_keeps : KeepsSound s (s.frameTimerDue n) := by
  unfold State.frameTimerDue
  split
  · exact (s.modFeed_calm n _).keeps.trans (State.flyAdvance_keeps _ n)
  · exact .refl s

theorem State.cueSlot_keeps (kind : CueKind) (k : Slot) : KeepsSound s (s.cueSlot n kind k) := by
  cases kind with
  | start => exact s.openSegment_keeps n k _
  | finish => exact s.closeSegment_keeps n k _

theorem State.takeCue_keeps (id : BitVec 16) (kind : CueKind) : KeepsSound s (s.takeCue n id kind) := by
  unfold State.takeCue
  dsimp only
  generalize (if (s.sheetOf n).enable then s.cueSlots n id kind else []) = ks
  split
  · exact (s.modSched_calm n (f := fun c => { c with unmatched := c.unmatched + 1 }) fun c => rfl).keeps
  · exact (KeepsSound.foldl _ (fun u k => u.cueSlot_keeps n kind k) ks s).trans (State.refreshRequirement_calm _ n).keeps

theorem State.takeCountLimit_keeps (k : Slot) : KeepsSound s (s.takeCountLimit n k) := by
  unfold State.takeCountLimit
  split
  · exact (s.closeSegment_keeps n k _).trans (State.refreshRequirement_calm _ n).keeps
  · exact .refl s

/-! #### Caption packets -/

theorem State.takeCaption_calm (page : Byte) (lang : Lang) (kind : CaptionKind) (seq : Byte) :
    Calm s (s.takeCaption n page lang kind seq) := by
  have counts : ∀ (u : State) (f : Tally → Tally), (∀ t, (f t).idle = t.idle ∧ (f t).covered = t.covered ∧
      (f t).counted = t.counted) → Calm u (u.modTallies n f) := fun u f hf =>
    u.modTallies_calm n fun t h => by
      obtain ⟨idle, covered, counted⟩ := hf t
      unfold Tally.Ordered
      rw [idle, covered, counted]
      exact h
  have recorded : ∀ (u : State) (f : Caption → Caption), Calm u (u.modCaption n f) := fun u f => .of_same rfl rfl rfl
  have judged : ∀ u : State, Calm u (u.judgeCaptions n) := fun u => .of_same (by simp) (by simp) (by simp)
  unfold State.takeCaption
  split
  · refine .trans (t := s.sequenced n seq) (s.modFeed_calm n _) ?_
    unfold State.sortPacket
    dsimp only
    split
    · split
      · refine .trans ?_ ((recorded _ _).trans (judged _))
        split
        · exact (recorded _ _).trans (counts _ _ fun _ => ⟨rfl, rfl, rfl⟩)
        · exact .refl _
      · exact (recorded _ _).trans (counts _ _ fun _ => ⟨rfl, rfl, rfl⟩)
    · exact .refl _
  · exact s.modFeed_calm n _

theorem State.livenessOut_calm : Calm s (s.livenessOut n) := by
  unfold State.livenessOut
  split
  · exact s.judgeFrame_calm n
  · exact .refl s

theorem State.contentOut_calm : Calm s (s.contentOut n) := by
  unfold State.contentOut
  split
  · exact s.judgeFrame_calm n
  · exact .refl s

end

end Sys2Proof.Machine

namespace Sys2Proof.Machine

/-! #### Sample sets (R37, R44, R45, R49) -/

/-- R45: a value added is one count more. -/
theorem binCounts_binAdd (h : List Bin) (k m : Nat) : binCounts (binAdd h k m) = binCounts h + 1 := by
  induction h with
  | nil => rfl
  | cons b bs ih =>
    unfold binAdd
    split
    · simp [binCounts]; omega
    · split
      · simp [binCounts]; omega
      · simp only [binCounts, List.map_cons, List.sum_cons] at ih ⊢
        omega

/-- R45: each bin after a value has been added to bin k is bin k with a count, or one that was listed. -/
theorem mem_binAdd {h : List Bin} {k m : Nat} {b : Bin} (mem : b ∈ binAdd h k m) :
    b.index = k ∧ 1 ≤ b.count ∨ b ∈ h := by
  induction h with
  | nil => simp [binAdd] at mem; simp [mem]
  | cons d bs ih =>
    unfold binAdd at mem
    split at mem
    · rcases List.mem_cons.mp mem with rfl | listed
      · exact .inl ⟨rfl, le_rfl⟩
      · exact .inr listed
    · split at mem
      · rcases List.mem_cons.mp mem with rfl | listed
        · exact .inl ⟨rfl, by simp⟩
        · exact .inr (List.mem_cons_of_mem d listed)
      · rcases List.mem_cons.mp mem with rfl | later
        · exact .inr List.mem_cons_self
        · exact (ih later).imp_right (List.mem_cons_of_mem d)

/-- R45: the listed bins stay in rising order. -/
theorem binAdd_rising {h : List Bin} (order : (h.map Bin.index).Pairwise (· < ·)) (k m : Nat) :
    ((binAdd h k m).map Bin.index).Pairwise (· < ·) := by
  induction h with
  | nil => simp [binAdd]
  | cons d bs ih =>
    rw [List.map_cons, List.pairwise_cons] at order
    obtain ⟨least, order⟩ := order
    unfold binAdd
    split
    · next low =>
      simp only [List.map_cons, List.pairwise_cons, List.mem_cons]
      refine ⟨?_, least, order⟩
      rintro i (rfl | later)
      · exact low
      · exact low.trans (least i later)
    · next high =>
      split
      · next same =>
        subst same
        exact List.pairwise_cons.mpr ⟨least, order⟩
      · next other =>
        rw [List.map_cons, List.pairwise_cons]
        refine ⟨fun i later => ?_, ih order⟩
        obtain ⟨b, mem, rfl⟩ := List.mem_map.mp later
        rcases mem_binAdd mem with ⟨same, -⟩ | listed
        · omega
        · exact least _ (List.mem_map_of_mem listed)

/-- R44, R49: a momentary value taken below the count limit. -/
theorem Context.takeMomentary_balanced {x : Context} (h : x.Balanced) (room : x.momentary < Config.countLimit) (m : Nat)
    (lv : Int) : (x.takeMomentary m lv).Balanced := by
  obtain ⟨sum, -, rising, bins⟩ := h
  rw [Context.takeMomentary_eq]
  by_cases silent : lv < -7000
  · refine ⟨?_, room, ?_, ?_⟩
    · simp only [silent, if_true]; omega
    · simpa [silent] using rising
    · simpa [silent] using bins
  · refine ⟨?_, room, ?_, ?_⟩
    · simp only [silent, if_false, binCounts_binAdd]; omega
    · simpa [silent] using binAdd_rising rising _ m
    · intro b mem
      have added : b ∈ binAdd x.histogram (min 749 ((lv + 7000) / 10).toNat) m := by simpa [silent] using mem
      rcases mem_binAdd added with ⟨index, count⟩ | listed
      · exact ⟨count, by omega⟩
      · exact bins b listed

theorem Context.takeValues_balanced {x : Context} (h : x.Balanced) (room : x.momentary < Config.countLimit) (cal : Int) :
    (x.takeValues cal).1.Balanced := by
  have momentary : (x.withMomentary cal).Balanced := by
    unfold Context.withMomentary
    split
    · exact Context.takeMomentary_balanced h room _ _
    · exact h
  rw [Context.takeValues_eq]
  split
  · rw [Context.takeShort_eq]
    exact momentary
  · exact momentary

/-- R37: a sample set handed to a context below the count limit. -/
theorem Context.takeSet_keeps {x : Context} (room : x.momentary < Config.countLimit) (mix : List MixChannel) (cal : Int)
    (squares mags : List Nat) : x.Keeps (x.takeSet mix cal squares mags).1 := by
  obtain ⟨-, owner, state, -⟩ := x.takeSet_fields mix cal squares mags
  refine ⟨.inl state, owner, fun balanced => ?_⟩
  by_cases full : 4800 ≤ x.acc.phase + 1
  · have added : ({ x.added squares mags with acc := (x.acc.take squares).completeBlock mix } : Context).Balanced := balanced
    rw [Context.takeSet_full full]
    exact Context.takeValues_balanced added room cal
  · rw [Context.takeSet_within (by omega)]
    exact balanced

theorem State.contextTake_calm (s : State) (n : Svc) (squares mags : List Nat) (c : CtxId) :
    Calm s (s.contextTake n squares mags c) := by
  unfold State.contextTake
  dsimp only
  split
  · next takes =>
    have room : s.pool[c].momentary < Config.countLimit := by
      rw [Bool.and_eq_true, decide_eq_true_iff] at takes
      exact takes.2
    have taken := s.modPool_calm c
      (f := fun _ => (s.pool[c].takeSet (s.sheetOf n).mix (s.sheetOf n).calibration squares mags).1)
      (Context.takeSet_keeps room _ _ _ _)
    split
    · exact taken.trans (.of_same (by simp) (by simp) (by simp))
    · exact taken
  · exact .refl s

theorem State.takeAudio_calm (s : State) (n : Svc) (samples : Vector (BitVec 24) 16) : Calm s (s.takeAudio n samples) := by
  have clips : ∀ (u : State) (raw : List (Option (BitVec 24))), Calm u (u.takeClips n raw) := fun u raw =>
    .of_same (by simp) (by simp) (by simp)
  have rolled : ∀ (u : State) (squares : List Nat), Calm u (u.rollingTake n squares).1 := fun u squares =>
    .of_same (by simp) (by simp) (by simp)
  have counted : ∀ u : State, Calm u (u.countBlock n) := fun u => .of_same (by simp) (by simp) (by simp)
  have moved : ∀ f : Meter → Meter, Calm s (s.modMeter n f) := fun f => .of_same rfl rfl rfl
  unfold State.takeAudio
  dsimp only
  have taken : ∀ (u : State) (squares mags : List Nat),
      Calm u (allContexts.foldl (fun s c => s.contextTake n squares mags c) u) := fun u squares mags =>
    Calm.foldl _ (fun u c => u.contextTake_calm n squares mags c) allContexts u
  split
  · exact (((moved _).trans (clips _ _)).trans (rolled _ _)).trans ((taken _ _ _).trans (counted _))
  · exact (((moved _).trans (clips _ _)).trans (rolled _ _)).trans (taken _ _ _)

/-! #### Command words, postings and slot writes (R77 to R86) -/

section
variable (s : State) (n : Svc)

theorem State.accessDone_calm : Calm s s.accessDone := .of_same rfl rfl rfl

theorem State.onRead_keeps {effect : State → State} (acts : ∀ u, KeepsSound u (effect u)) :
    KeepsSound s (s.onRead effect) := by
  unfold State.onRead
  split
  · exact s.accessDone_calm.keeps.trans (acts _)
  split
  · exact s.accessDone_calm.keeps
  · exact .refl s

theorem State.release_calm (k : Slot) : Calm s (s.release n k) := by
  unfold State.release
  dsimp only
  have lifted := s.modSched_calm n (f := fun c => { c with pins := c.pins.filter fun p => p.slot ≠ k }) fun _ => rfl
  refine (lifted.trans ?_).trans (State.writeStanding_calm _ n k)
  exact State.modEntry_calm _ n k (.of_cleared (by simp [Entry.cleared, Entry.fresh]) rfl)

theorem State.closeOpen_keeps (f : VerdictFlags) : KeepsSound s (s.closeOpen n f) := by
  have layer : ∀ (u : State) (l : Layer), KeepsSound u (u.closeLayer n l f) := fun u l => by
    unfold State.closeLayer State.forOpen
    refine KeepsSound.foldl _ (fun v k => ?_) allSlots u
    split
    · exact v.closeSegment_keeps n k f
    · exact .refl v
  unfold State.closeOpen
  exact ((layer s _).trans (layer _ _)).trans (State.refreshRequirement_calm _ n).keeps

theorem State.validCommand_keeps (k : Slot) (cmd : Nat) : KeepsSound s (s.validCommand n k cmd) := by
  unfold State.validCommand
  dsimp only
  split
  · split
    · exact ((s.modEntry_calm n k (.of_not_open (by simp) id)).trans (State.writeStanding_calm _ n k)).keeps
    split
    · exact (s.closeSegment_keeps n k _).trans (State.refreshRequirement_calm _ n).keeps
    · exact .refl s
  split
  · split
    · exact (s.release_calm n k).keeps
    · exact .refl s
  · exact .refl s

theorem State.readCommandWord_keeps (k : Slot) (w : BitVec 32) : KeepsSound s (s.readCommandWord n k w) := by
  refine s.onRead_keeps fun u => ?_
  have read : Calm u (u.modEntry n k (Entry.readWord w)) := u.modEntry_calm n k (.of_same rfl rfl rfl id)
  have raised : ∀ v : State, Calm v (v.raise n .docketFault) := fun v => .of_same (by simp) (by simp) (by simp)
  have judged : Calm u (if (u.entry n k).wordFault (u.entry n k).lastWord w then
      (u.modEntry n k (Entry.readWord w)).raise n .docketFault else u.modEntry n k (Entry.readWord w)) := by
    split
    · exact read.trans (raised _)
    · exact read
  dsimp only
  split
  · exact judged.keeps.trans (State.validCommand_keeps _ n k _)
  · exact judged.keeps

theorem State.firePassed_keeps (k : Slot) : KeepsSound s (s.firePassed n k) := by
  unfold State.firePassed
  split
  · exact .refl s
  · exact (s.fireAll_keeps n _ _).trans (State.refreshRequirement_calm _ n).keeps

theorem State.settlePosting_keeps (k : Slot) (p : BitVec 16) (r : RefusalCause ⊕ Body) :
    KeepsSound s (s.settlePosting n k p r) := by
  cases r with
  | inl c =>
    have refused := s.modEntry_calm n k (f := Entry.refuse p) (.of_cleared (by simp [Entry.refuse]) rfl)
    exact ((refused.trans (State.pushWrite_calm _ n k _)).trans (State.writeStanding_calm _ n k)).keeps
  | inr b =>
    have accepted := s.modEntry_calm n k (f := Entry.accept p b) (.of_cleared (by simp [Entry.accept]) rfl)
    exact (accepted.trans (State.writeStanding_calm _ n k)).keeps.trans (State.firePassed_keeps _ n k)

theorem State.validatePosting_keeps (k : Slot) (bytes : List Byte) : KeepsSound s (s.validatePosting n k bytes) := by
  unfold State.validatePosting
  split
  · exact .refl s
  split
  · exact s.accessDone_calm.keeps.trans (State.settlePosting_keeps _ n k _ _)
  split
  · exact (s.accessDone_calm.trans (State.modEntry_calm _ n k (.of_same rfl rfl rfl id))).keeps
  · exact .refl s

/-- R77: a change of what stands of a slot's writes. -/
theorem Entry.Keeps.of_writes {e e' : Entry}
    (h : ∃ ws handed dropped, e' = { e with writes := ws, handed := handed, dropped := dropped }) : e.Keeps e' := by
  obtain ⟨ws, handed, dropped, rfl⟩ := h
  exact .of_same rfl rfl rfl id

theorem Entry.advance_keeps (e : Entry) : e.Keeps e.advance := by
  unfold Entry.advance
  split
  · exact .refl e
  · exact .of_writes ⟨_, _, _, rfl⟩
  · exact .of_writes ⟨_, _, _, rfl⟩

theorem Entry.rehand_keeps (e : Entry) : e.Keeps e.rehand := by
  unfold Entry.rehand
  split
  · exact .refl e
  · exact .of_writes ⟨_, _, _, rfl⟩

theorem Entry.rehandOnce_keeps (e : Entry) : e.Keeps e.rehandOnce := by
  unfold Entry.rehandOnce
  split
  · exact .refl e
  · exact .of_writes ⟨_, _, _, rfl⟩

theorem Entry.writeFailed_keeps (e : Entry) (linked : Bool) : e.Keeps (e.writeFailed linked) := by
  unfold Entry.writeFailed
  split
  · exact .of_writes ⟨_, _, _, rfl⟩
  split
  · split
    · exact .of_writes ⟨_, _, _, rfl⟩
    · exact .of_writes ⟨_, _, _, rfl⟩
  · exact .refl e

theorem Entry.forget_keeps (e : Entry) : e.Keeps e.forget := by
  unfold Entry.forget
  split
  · exact .of_cleared (by simp [Entry.cleared, Entry.fresh]) rfl
  · exact .refl e

theorem State.slotWriteDone_calm (k : Slot) : Calm s (s.slotWriteDone n k) := by
  have released : ∀ (u : State) (w : SlotContent), Calm u (u.heldRelease n k w) := fun u w => by
    unfold State.heldRelease
    split
    · dsimp only
      split
      · exact u.release_calm n k
      · exact .refl u
    · exact .refl u
    · exact .refl u
  unfold State.slotWriteDone
  split
  · dsimp only
    have landed : ∀ ps : List Piece, Calm s (s.land ps).accessDone := fun ps => .of_same (by simp) (by simp) (by simp)
    have advanced : ∀ (u : State) (w : SlotContent), Calm u ((u.modEntry n k Entry.advance).heldRelease n k w) :=
      fun u w => (u.modEntry_calm n k (Entry.advance_keeps _)).trans (released _ w)
    exact (landed _).trans (advanced _ _)
  · exact .refl s

theorem State.sweep_calm : Calm s s.sweep := by
  have handed : Calm s (allServices.foldl (fun s n => s.modEntriesWhere n (fun e => !e.handed) Entry.rehand) s) :=
    Calm.foldl _ (fun u m => u.modEntriesWhere_calm m _ Entry.rehand_keeps) allServices s
  have rest : ∀ u : State, Calm u (allDevConds.foldl (fun s c => s.rehandEntry c) u).sweepMover.sweepAlert := fun u =>
    .of_same (by simp) (by simp) (by simp)
  unfold State.sweep
  split
  · exact handed.trans (rest _)
  · exact .refl s

/-! #### Arrivals and the Mover (R104, R109) -/

theorem State.takeChunk_calm (c : Chunk) : Calm s (s.takeChunk n c) := by
  have judged : ∀ (u : State) (x : SpoolUnit), Calm u (u.judgeUnit n x) := fun u x => .of_same (by simp) (by simp) (by simp)
  have counted : ∀ (u : State) (seq : Nat) (dropped : Bool) (k : Slot), Calm u (u.countUnit n seq dropped k) :=
    fun u seq dropped k => by
      unfold State.countUnit
      split
      · have marked : ∀ v : State, Calm v (v.markStart n k seq (u.entry n k)) := fun v =>
          .of_same (by simp) (by simp) (by simp)
        exact .trans (u.modEntry_calm n k (f := fun e => { e with units := e.units.add seq dropped }) (.of_same rfl rfl rfl id))
          (marked _)
      · exact .refl u
  have spooled : ∀ f : Proxy → Proxy, Calm s (s.modProxy n f) := fun f => .of_same rfl rfl rfl
  unfold State.takeChunk
  split
  · exact spooled _
  · dsimp only
    exact ((spooled _).trans (judged _ _)).trans (Calm.foldl _ (fun u k => counted u _ _ k) allSlots _)

theorem State.handRange_calm (e : Extent) : Calm s (s.handRange e) := by
  unfold State.handRange
  split
  · exact s.modEntriesWhere_calm _ _ fun _ => .of_same rfl rfl rfl id
  · exact .refl s

theorem State.walkRead_calm (retest overwrite : Bool) (x : ExtId) (rest : List ExtId) (d : Descriptor) :
    Calm s (s.walkRead n retest overwrite x rest d) := by
  have stepped : Calm s (s.stepWalk n retest overwrite rest) := .of_same (by simp) (by simp) (by simp)
  have violated : ∀ (kind : ViolationKind) (y : Option ExtId), Calm s (s.violate n kind y) := fun kind y =>
    .of_same (by simp) (by simp) (by simp)
  unfold State.walkRead
  split
  · exact (s.handRange_calm s.extents[x]).trans (.of_same (by simp [State.openExtent]) (by simp) (by simp))
  · exact stepped
  · split
    · exact stepped
    · exact violated _ _

theorem State.descriptorRead_calm (x : ExtId) (d : Descriptor) : Calm s (s.descriptorRead x d) := by
  have taken : ∀ u : State, Calm u (u.descriptorTaken x d) := fun u => by
    unfold State.descriptorTaken
    split
    · exact u.walkRead_calm _ _ _ _ _ _
    all_goals exact .of_same (by simp) (by simp) (by simp)
  unfold State.descriptorRead
  split
  · split
    · exact s.accessDone_calm.trans (taken _)
    split
    · exact s.accessDone_calm.trans (.of_same rfl rfl rfl)
    · exact .refl s
  · exact .refl s

end

end Sys2Proof.Machine

namespace Sys2Proof.Machine

section
variable (s : State) (n : Svc)

/-! #### Adoptions (R180 to R182) -/

theorem State.emptyDockets_calm : Calm s (s.emptyDockets n) := by
  have emptied : Calm s (s.modSched n fun c =>
      { c with entries := Vector.replicate 24 Entry.fresh, openOuter := none, openInner := none, pins := [] }) := by
    refine .of_entries rfl rfl fun m k => ?_
    by_cases own : m = n
    · subst own
      exact .of_cleared (by simp [State.entry, Entry.fresh]) (by simp [State.entry, Entry.fresh])
    · rw [show ∀ f : Sched → Sched, (s.modSched n f).entry m k = s.entry m k from fun f => by simp [State.entry, own]]
      exact .refl _
  exact emptied.trans (State.refreshRequirement_calm _ n)

theorem State.disable_keeps : KeepsSound s (s.disable n) := by
  have sought : ∀ u : State, Calm u (u.loseStream n) := fun u => .of_same rfl rfl rfl
  unfold State.disable
  exact (((s.leaveFlywheel_calm n).trans (State.modFeed_calm _ n _)).trans (sought _)).keeps.trans
    (State.closeOpen_keeps _ n _)

theorem State.mixChange_calm : Calm s (s.mixChange n) := by
  have zeroed : ∀ (u : State) (f : Meter → Meter), Calm u (u.modMeter n f) := fun u f => .of_same rfl rfl rfl
  exact ((s.runBreak_calm n).trans (zeroed _ _)).trans (State.flagOpen_calm _ n _)

theorem State.handGroups_keeps (old : Sheet) : KeepsSound s (s.handGroups n old) := by
  have disabled : ∀ c : Prop, [Decidable c] → KeepsSound s (if c then s.disable n else s) := fun c _ => by
    split
    · exact s.disable_keeps n
    · exact .refl s
  have mixed : ∀ (u : State) (c : Prop) [Decidable c], Calm u (if c then u.mixChange n else u) := fun u c _ => by
    split
    · exact u.mixChange_calm n
    · exact .refl u
  have rated : ∀ (u : State) (c : Prop) [Decidable c],
      Calm u (if c then u.modFeed n fun f => { f with mismatch := false } else u) := fun u c _ => by
    split
    · exact u.modFeed_calm n _
    · exact .refl u
  have streamed : ∀ (u : State) (c : Prop) [Decidable c], Calm u (if c then u.loseStream n else u) := fun u c _ => by
    split
    · exact .of_same rfl rfl rfl
    · exact .refl u
  exact (disabled _).trans
    ((((mixed _ _).trans (rated _ _)).trans (streamed _ _)).trans (State.refreshRequirement_calm _ n)).keeps

theorem State.adoptSheet_keeps (rev : BitVec 32) (body : List Byte) : KeepsSound s (s.adoptSheet n rev body) := by
  have replaced : ∀ f : SheetUnit → SheetUnit, Calm s (s.modSheet n f) := fun f => .of_same rfl rfl rfl
  have alerted : ∀ (u : State) (old new : Sheet), Calm u (u.adoptAlerting n old new) := fun u old new =>
    .of_same (by simp) (by simp) (by simp)
  exact ((replaced _).keeps.trans (State.handGroups_keeps _ n _)).trans (alerted _ _ _).keeps

theorem State.refuseSheet_calm (rev : BitVec 32) (c : SheetCause) : Calm s (s.refuseSheet n rev c) :=
  .of_same (by simp) (by simp) (by simp)

theorem State.stage_keeps (r : SheetRead) : KeepsSound s (s.stage n r) := by
  unfold State.stage
  split
  · exact .refl s
  split
  · exact .refl s
  split
  · exact (s.refuseSheet_calm n _ _).keeps
  split
  · exact s.adoptSheet_keeps n _ _
  · exact (s.refuseSheet_calm n _ _).keeps

theorem State.decideOne_keeps (excess : Bool) (read : Option SheetRead) : KeepsSound s (s.decideOne excess read n) := by
  unfold State.decideOne
  split
  · exact Calm.keeps (.of_same rfl rfl rfl)
  split
  · exact (s.refuseSheet_calm n _ _).keeps
  split
  · exact (s.refuseSheet_calm n _ _).keeps
  · exact s.adoptSheet_keeps n _ _

/-! #### The link and its end (R195 to R199) -/

theorem State.modCtl_calm (f : Ctl → Ctl) : Calm s (s.modCtl f) := .of_same rfl rfl rfl

theorem State.nextStep_calm (step : LinkStep) : Calm s (s.nextStep step) := s.modCtl_calm _

theorem State.emptyAll_calm : Calm s (allServices.foldl (fun s n => s.emptyDockets n) s) :=
  Calm.foldl _ (fun u m => u.emptyDockets_calm m) allServices s

theorem State.linkStep_keeps (r : LinkReport) : KeepsSound s (s.linkStep r) := by
  unfold State.linkStep
  split
  · exact Calm.keeps (.of_same (by simp) (by simp) (by simp))
  · next reads after _ _ =>
    have done : Calm s (s.sheetsDone after) := .of_same (by simp) (by simp) (by simp)
    have decided : ∀ u : State, KeepsSound u (u.decideSheets reads) := fun u => by
      unfold State.decideSheets
      exact KeepsSound.foldl _ (fun (v : State) (d : Svc × Option SheetRead) => v.decideOne_keeps d.1 _ d.2) _ u
    exact (done.keeps.trans (decided _)).trans (State.nextStep_calm _ _).keeps
  · have finished : Calm s s.finishStep := .of_same (by simp) (by simp) (by simp)
    exact ((finished.trans (State.emptyAll_calm _)).trans (State.nextStep_calm _ _)).keeps
  · exact Calm.keeps (.of_same (by simp) (by simp) (by simp))
  · exact Calm.keeps (.of_same (by simp) (by simp) (by simp))
  · exact .refl s

theorem State.schedUnlink_keeps : KeepsSound s (s.schedUnlink n) := by
  have forgotten : ∀ u : State, Calm u (u.forgetWaiting n) := fun u => u.modEntriesWhere_calm n _ Entry.forget_keeps
  exact (s.closeOpen_keeps n _).trans ((forgotten _).trans (State.modEntriesWhere_calm _ n _ Entry.rehandOnce_keeps)).keeps

theorem State.beginUnlink_keeps : KeepsSound s s.beginUnlink := by
  have stopped : Calm s (s.handAlert.modCtl fun c => { c with link := .unlinking }).stopReminders.stopWrites.dropAlert :=
    .of_same (by simp) (by simp) (by simp)
  have closed : ∀ u : State, KeepsSound u (allServices.foldl (fun s n => s.schedUnlink n) u) := fun u =>
    KeepsSound.foldl _ (fun v m => v.schedUnlink_keeps m) allServices u
  have moved : ∀ u : State, Calm u u.moverUnlink := fun u => .of_same (by simp) (by simp) (by simp)
  exact (stopped.keeps.trans (closed _)).trans (moved _).keeps

theorem State.commandUnlink_keeps : KeepsSound s s.commandUnlink := by
  unfold State.commandUnlink
  dsimp only
  split
  · exact (s.modCtl_calm _).keeps.trans (State.beginUnlink_keeps _)
  · exact (s.modCtl_calm _).keeps

theorem State.completeUnlink_calm : Calm s s.completeUnlink := by
  have settled : Calm s s.settle := .of_same (by simp) (by simp) (by simp)
  unfold State.completeUnlink
  split
  · exact (settled.trans (State.emptyAll_calm _)).trans (State.modCtl_calm _ _)
  · exact .refl s

theorem State.faultUnlink_keeps : KeepsSound s s.faultUnlink := by
  have closed : ∀ u : State, KeepsSound u (allServices.foldl (fun s n => s.schedFault n) u) := fun u =>
    KeepsSound.foldl _ (fun v m => (v.closeOpen_keeps m _).trans (State.emptyDockets_calm _ m).keeps) allServices u
  have stopped : ∀ u : State, Calm u u.moverFault.stopReminders.dropOwed.dropAlert := fun u =>
    .of_same (by simp) (by simp) (by simp)
  have cleared : ∀ (u : State) (m : Svc) (f : LiveWrite → LiveWrite), Calm u (u.modLive m f) := fun u m f =>
    .of_same rfl rfl rfl
  have header : ∀ (u : State) (f : List HeaderItem → List HeaderItem), Calm u (u.modHeader f) := fun u f =>
    .of_same rfl rfl rfl
  have emptied : ∀ u : State,
      Calm u ((allServices.foldl (fun s n => s.modLive n fun l => { l with queue := [] }) u).modHeader fun _ => []) :=
    fun u => (Calm.foldl _ (fun v m => cleared v m _) allServices u).trans (header _ _)
  exact ((s.modCtl_calm _).keeps.trans (closed _)).trans ((stopped _).trans (emptied _)).keeps

theorem State.failOwner_calm (a : AccessRef) : Calm s (s.failOwner a) := by
  cases a with
  | docketBody m k => exact s.modEntry_calm m k (.of_same rfl rfl rfl id)
  | slotWrite m k => exact s.modEntry_calm m k (Entry.writeFailed_keeps _ _)
  | _ => exact .of_same (by simp [State.failOwner]) (by simp) (by simp)

theorem State.failAccess_keeps (a : AccessRef) (d : Completions) : KeepsSound s (s.failAccess a d) := by
  have completed : Calm s (s.completed d) := .of_same (by simp) (by simp) (by simp)
  have counted : ∀ u : State, Calm u u.countFailure := fun u => u.modCtl_calm _
  unfold State.failAccess State.failFlying
  dsimp only
  split
  · split
    · exact (completed.trans (counted _)).keeps.trans (State.faultUnlink_keeps _)
    · exact ((completed.trans (counted _)).trans (State.failOwner_calm _ a)).keeps
  · exact .refl s

end

/-! #### Every command (O55, O56) -/

theorem KeepsSound.of_atReset {r s t : State} (h : BlocksAtReset r t) : KeepsSound s t := by
  obtain ⟨-, integ, -, -, -, -, pool, -, services, -⟩ := h
  have entry : ∀ (n : Svc) (k : Slot), t.entry n k = Entry.fresh := fun n k => by
    obtain ⟨-, -, -, sched, -⟩ := services n
    rw [State.entry, sched]
    simp [Sched.reset]
  refine ⟨fun _ n k => ?_, fun _ => ⟨fun c => ?_, fun c r busy => ?_⟩,
    fun _ => ⟨?_, fun c => ?_, fun c => ?_, fun n k x opened => ?_⟩⟩
  · rw [entry]; exact Tally.zero_ordered
  · rw [pool]; exact Context.free_balanced
  · simp [integ] at busy
  · simp [integ]
  · rw [pool, integ]; simp [Context.free]
  · rw [pool, integ]; simp [Context.free]
  · rw [entry] at opened
    simp [Entry.fresh] at opened

theorem State.commandReset_keeps (s : State) : KeepsSound s s.commandReset := by
  cases commit : s.store.commit with
  | none => exact .of_atReset (State.commandReset_atReset commit)
  | some c =>
    rw [State.commandReset_committing (by rw [commit]; rfl)]
    exact (s.modCtl_calm _).keeps

theorem effectOf_keeps (c : Instr) (s : State) : KeepsSound s (effectOf c s) := by
  by_cases apart : Part.sched ∉ commandParts c ∧ Part.pool ∉ commandParts c ∧ Part.integ ∉ commandParts c
  · obtain ⟨sched, pool, integ⟩ := apart
    have touches := effectOf_touches c s
    exact Calm.keeps (.of_same (touches .sched sched) (touches .pool pool) (touches .integ integ))
  · cases c with
    | frame n stamp rate => exact s.takeFrame_keeps n stamp.toNat rate
    | audio n samples => exact (s.takeAudio_calm n samples).keeps
    | caption n page lang kind seq => exact (s.takeCaption_calm n page lang kind seq).keeps
    | cue n id kind => exact s.takeCue_keeps n id kind
    | loss n late => exact s.takeLoss_keeps n late
    | lossTimerExpiry n => exact s.lossTimerOut_keeps n
    | flywheelAdvance n => exact s.frameTimerDue_keeps n
    | countLimit n k => exact s.takeCountLimit_keeps n k
    | livenessExpiry n => exact (s.livenessOut_calm n).keeps
    | contentExpiry n => exact (s.contentOut_calm n).keeps
    | integrationStart => exact s.startIntegration_keeps
    | integrationCompletion => exact s.completeIntegration_keeps
    | slotWriteComplete n k => exact (s.slotWriteDone_calm n k).keeps
    | boardSweep => exact s.sweep_calm.keeps
    | commandWordRead n k word => exact s.readCommandWord_keeps n k word
    | postingValidation n k body => exact s.validatePosting_keeps n k body
    | arrival n chunk => exact (s.takeChunk_calm n chunk).keeps
    | sheetStaging n read => exact s.onRead_keeps fun u => u.stage_keeps n read
    | linkStepComplete report => exact s.linkStep_keeps report
    | unlink => exact s.commandUnlink_keeps
    | unlinkComplete => exact s.completeUnlink_calm.keeps
    | deviceReset => exact s.commandReset_keeps
    | accessFailure a => exact s.failAccess_keeps a.access a.done
    | accessTimeout a => exact s.failAccess_keeps a.access a.done
    | powerOn => exact .of_atReset s.turnOn_atReset
    | descriptorReadComplete x fields => exact (s.descriptorRead_calm x _).keeps
    | _ => simp [commandParts] at apart

theorem step_keeps {s t : State} (h : step s = .next t) : KeepsSound s t := by
  obtain rfl | ⟨c, rest, rfl | rfl⟩ := step_next h
  · have idle : Calm s s.idle := by
      unfold State.idle
      split
      · exact .of_same (by simp) (by simp) (by simp)
      · exact .refl s
    exact idle.keeps
  · exact Calm.keeps (.of_same rfl rfl rfl)
  · exact KeepsSound.trans (t := { s with pending := rest }) (Calm.keeps (.of_same rfl rfl rfl)) (effectOf_keeps c _)

/-- Settles O55: no event of a lane, a board or the link takes a tally out of order, and what a set or a result counts balances
(`step_keeps`). -/
theorem keepsCountsSound : Obligations.KeepsCountsSound :=
  ⟨fun _ _ sound h => (step_keeps h).tallies sound, fun _ _ sound h => (step_keeps h).counts sound⟩

/-- Settles O56: a context joins the queue at its close and leaves it at its integration, and a docket holds the context that its
opening claimed (`step_keeps`). -/
theorem keepsQueueSound : Obligations.KeepsQueueSound := fun _ _ sound h => (step_keeps h).queue sound

end Sys2Proof.Machine

namespace Sys2Proof.Machine

/-! ### Gated integration (R56 to R58) -/

/-- R56: the first bin kept, as the manual writes it. -/
theorem firstBin_eq (t : Int) : (firstBin t : Int) = max 0 (min 749 ⌈((t : ℚ) + 7000) / 10⌉) := by
  have ceil : ⌈((t : ℚ) + 7000) / 10⌉ = (t + 7000 + 9) / 10 := by
    rw [Int.ceil_eq_iff]
    have low : 10 * ((t + 7000 + 9) / 10) ≤ t + 7000 + 9 := by omega
    have high : t + 7000 ≤ 10 * ((t + 7000 + 9) / 10) := by omega
    have low' : 10 * (((t + 7000 + 9) / 10 : Int) : ℚ) ≤ t + 7000 + 9 := by exact_mod_cast low
    have high' : (t : ℚ) + 7000 ≤ 10 * (((t + 7000 + 9) / 10 : Int) : ℚ) := by exact_mod_cast high
    constructor <;> linarith
  unfold firstBin
  rw [clampInt_eq_max_min (by norm_num), Int.toNat_of_nonneg (le_max_left _ _), ceil]

/-- The highest of bins that stand in rising order. -/
theorem filter_highest {h : List Bin} (order : (h.map Bin.index).Pairwise (· < ·)) :
    (h.filter fun b => ∀ d ∈ h, d.index ≤ b.index) = h.drop (h.length - 1) := by
  induction h using List.reverseRecOn with
  | nil => rfl
  | append_singleton bs b _ =>
    rw [List.map_append, List.pairwise_append] at order
    obtain ⟨-, -, below⟩ := order
    have below' : ∀ d ∈ bs, d.index < b.index := fun d hd =>
      below d.index (List.mem_map_of_mem hd) b.index (by simp)
    have others : bs.filter (fun x => ∀ d ∈ bs ++ [b], d.index ≤ x.index) = [] :=
      List.filter_eq_nil_iff.mpr fun d hd => by
        have := below' d hd
        simp only [decide_eq_true_eq, not_forall]
        exact ⟨b, by simp, by omega⟩
    have own : ∀ d ∈ bs ++ [b], d.index ≤ b.index := fun d hd => by
      rcases List.mem_append.mp hd with hd | hd
      · exact (below' d hd).le
      · rw [List.mem_singleton.mp hd]
    rw [List.filter_append, others]
    simpa using own

/-- R57: the bins of pass 2, as the manual says them. -/
theorem keptBins_eq {h : List Bin} (order : (h.map Bin.index).Pairwise (· < ·)) {g : Int} {t : Int}
    (hg : g = firstBin t) :
    keptBins h (firstBin t) =
      (if (h.filter fun b => g ≤ b.index) = [] then h.filter fun b => ∀ d ∈ h, d.index ≤ b.index
        else h.filter fun b => g ≤ b.index) := by
  have above : (h.filter fun b => g ≤ b.index) = h.filter fun b => firstBin t ≤ b.index := by
    subst hg
    exact List.filter_congr fun b _ => by simp
  rw [above, filter_highest order]
  unfold keptBins
  split
  · next none => rw [if_pos none]
  · next b bs some => rw [if_neg (by rw [some]; exact List.cons_ne_nil b bs), some]

theorem keptBins_sublist (h : List Bin) (g : Nat) : (keptBins h g).Sublist h := by
  unfold keptBins
  split
  · exact List.drop_sublist _ h
  · next b bs some => rw [← some]; exact List.filter_sublist

theorem keptBins_ne_nil {h : List Bin} (some : h ≠ []) (g : Nat) : keptBins h g ≠ [] := by
  unfold keptBins
  split
  · have := List.length_pos_iff.mpr some
    exact List.ne_nil_of_length_pos (by rw [List.length_drop]; omega)
  · exact List.cons_ne_nil _ _

/-- Bins that hold a count each hold at least one together. -/
theorem binCounts_pos {h : List Bin} (count : ∀ b ∈ h, 1 ≤ b.count) (some : h ≠ []) : 1 ≤ binCounts h := by
  obtain ⟨b, bs, rfl⟩ := List.exists_cons_of_ne_nil some
  have := count b List.mem_cons_self
  simp only [binCounts, List.map_cons, List.sum_cons]
  omega

/-- R56 to R58: the result of a context whose histogram is empty. -/
theorem integrate_unbinned {c : Context} (empty : c.histogram = []) (fig : CloseFigures) :
    integrate c fig =
      { verdict := if c.momentary < fig.minCount then .short else .unmeasured, integrated := none, pass1 := none
        threshold := none, n1 := 0, n2 := 0, momentary := c.momentary, silent := c.silent
        maxMomentary := c.maxMomentary, maxShort := c.maxShort, excess := c.excess, maxima := c.maxima } := by
  simp [integrate, empty, binCounts]

/-- R56: the level of pass 1. -/
def Context.passOne (c : Context) (fig : CloseFigures) : Int :=
  level fig.calibration (binEnergies c.histogram) (binCounts c.histogram)

/-- R56: the threshold of pass 2. -/
def Context.gateLevel (c : Context) (fig : CloseFigures) : Int := max (-9999) (min 3999 (c.passOne fig - fig.gate))

/-- R57: the level of pass 2 over some bins, never below that of pass 1. -/
def Context.passTwo (c : Context) (fig : CloseFigures) (kept : List Bin) : Int :=
  max (c.passOne fig) (level fig.calibration (binEnergies kept) (binCounts kept))

/-- R56 to R58: the result of a context that has binned a value. -/
theorem integrate_binned {c : Context} (binned : binCounts c.histogram ≠ 0) (fig : CloseFigures) :
    integrate c fig =
      let kept := keptBins c.histogram (firstBin (c.gateLevel fig))
      { verdict :=
          if c.momentary < fig.minCount then .short else judgeLevel c.target c.tolerance (c.passTwo fig kept)
        integrated := some (c.passTwo fig kept), pass1 := some (c.passOne fig), threshold := some (c.gateLevel fig)
        n1 := binCounts c.histogram, n2 := binCounts kept, momentary := c.momentary, silent := c.silent
        maxMomentary := c.maxMomentary, maxShort := c.maxShort, excess := c.excess, maxima := c.maxima } := by
  have threshold : clampInt Config.levelMin Config.levelMax (c.passOne fig - fig.gate) = c.gateLevel fig :=
    clampInt_eq_max_min (by decide) _
  have higher : ∀ l : Int, (if l < c.passOne fig then c.passOne fig else l) = max (c.passOne fig) l := fun l => by
    split <;> omega
  unfold integrate
  rw [if_neg binned]
  dsimp only
  rw [show level fig.calibration (binEnergies c.histogram) (binCounts c.histogram) = c.passOne fig from rfl, threshold,
    higher]
  simp only [decide_eq_true_eq]
  rfl

theorem judgeLevel_iff (target tolerance li : Int) :
    (judgeLevel target tolerance li = .high ↔ target + tolerance < li) ∧
    (judgeLevel target tolerance li = .low ↔ li < target - tolerance ∧ ¬ target + tolerance < li) ∧
    (judgeLevel target tolerance li = .pass ↔ target - tolerance ≤ li ∧ li ≤ target + tolerance) := by
  unfold judgeLevel
  split
  · simp; omega
  · split
    · simp; omega
    · simp; omega

/-- Settles O33: the result is `integrate_unbinned` or `integrate_binned`, and the bins of pass 2 are `keptBins_eq`. -/
theorem integratedLevel : Obligations.IntegratedLevel := by
  intro c fig count r
  by_cases empty : c.histogram = []
  · have result : r = _ := integrate_unbinned empty fig
    rw [result]
    refine ⟨by simp [empty, binCounts], rfl, rfl, rfl, rfl, rfl, rfl, fun short => if_pos short, fun _ => ?_, fun some => absurd empty some⟩
    exact ⟨rfl, rfl, rfl, rfl, fun enough => if_neg (by omega)⟩
  · have counts : 1 ≤ binCounts c.histogram := binCounts_pos count empty
    have result : r = _ := integrate_binned (by omega) fig
    have sub := keptBins_sublist c.histogram (firstBin (c.gateLevel fig))
    have kept : 1 ≤ binCounts (keptBins c.histogram (firstBin (c.gateLevel fig))) :=
      binCounts_pos (fun b hb => count b (sub.subset hb)) (keptBins_ne_nil empty _)
    rw [result]
    refine ⟨rfl, rfl, rfl, rfl, rfl, rfl, rfl, fun short => if_pos short, fun none => absurd none empty, fun _ => ?_⟩
    refine ⟨c.passOne fig, c.passTwo fig (keptBins c.histogram (firstBin (c.gateLevel fig))), rfl, rfl, rfl, rfl,
      le_max_left _ _, kept, (sub.map _).sum_le_sum (fun _ _ => Nat.zero_le _), ?_, fun enough => ?_⟩
    · rintro order t g ⟨⟩ hg above kept
      have same := keptBins_eq order (hg.trans (firstBin_eq _).symm)
      exact ⟨congrArg binCounts same, congrArg (c.passTwo fig) same⟩
    · have judged : ∀ v : LoudVerdict, (if c.momentary < fig.minCount then LoudVerdict.short else v) = v := fun v =>
        if_neg (by omega)
      dsimp only
      rw [judged]
      exact judgeLevel_iff _ _ _

/-! ### The unit and its queue (R54, R55) -/

theorem State.startIntegration_takes {s : State} {c : CtxId} {rest : List CtxId} (idle : s.integ.busy = none)
    (queue : s.integ.queue = c :: rest) :
    s.startIntegration =
      (s.modPool c fun x => { x with state := .integrating }).modInteg fun _ =>
        ⟨rest, some (c, integrate s.pool[c] (s.pool[c].figures.getD ⟨10, 0, 0⟩))⟩ := by
  unfold State.startIntegration
  rw [idle, queue]

theorem State.startIntegration_rests {s : State} (h : s.integ.busy.isSome = true ∨ s.integ.queue = []) :
    s.startIntegration = s := by
  unfold State.startIntegration
  split
  · next idle queue => simp [idle, queue] at h
  · rfl

/-- R55: what the unit holds after a completion. -/
theorem State.completeIntegration_frees {s : State} {c : CtxId} {r : LoudResult} (busy : s.integ.busy = some (c, r))
    (left : c ∉ s.integ.queue) :
    s.completeIntegration.pool[c] = Context.free ∧ s.completeIntegration.integ.queue = s.integ.queue.drop 1 ∧
      s.completeIntegration.integ.busy.map Prod.fst = s.integ.queue.head? := by
  have freed : ∀ t : State, t.integ = s.integ →
      let u := ((t.modPool c fun _ => Context.free).modInteg fun u => { u with busy := none }).startIntegration
      u.pool[c] = Context.free ∧ u.integ.queue = s.integ.queue.drop 1 ∧ u.integ.busy.map Prod.fst = s.integ.queue.head? := by
    intro t integ
    cases queue : s.integ.queue with
    | nil =>
      rw [State.startIntegration_rests (.inr (by simp [integ, queue]))]
      simp [integ, queue]
    | cons d rest =>
      rw [State.startIntegration_takes (c := d) (rest := rest) (by simp) (by simp [integ, queue])]
      have other : c ≠ d := fun same => left (by rw [queue, same]; exact List.mem_cons_self)
      simp [other]
  have handed : ∀ o, (s.handResult o r).integ = s.integ := by simp
  unfold State.completeIntegration
  rw [busy]
  dsimp only
  split
  · exact freed _ (handed _)
  · exact freed s rfl

/-- Settles O25: the unit takes a head by `State.startIntegration_takes`, and a completion frees its context before it does. -/
theorem integration : Obligations.Integration := by
  refine ⟨fun s c rest fig power idle queue figures => ?_, fun s power rests => ?_, fun s c r power busy left => ?_,
    fun s power idle empty => ?_⟩
  · refine ⟨_, exec_effectOf .integrationStart power (by decide), ?_⟩
    rw [show effectOf .integrationStart s = s.startIntegration from rfl, State.startIntegration_takes idle queue, figures]
    refine ⟨rfl, by simp, fun x other => by simp [other]⟩
  · rw [exec_effectOf .integrationStart power (by decide)]
    exact congrArg _ (State.startIntegration_rests rests)
  · exact ⟨_, exec_effectOf .integrationCompletion power (by decide), State.completeIntegration_frees busy left⟩
  · rw [exec_effectOf .integrationCompletion power (by decide)]
    refine congrArg _ ?_
    show s.completeIntegration = s
    unfold State.completeIntegration
    rw [idle]

end Sys2Proof.Machine

namespace Sys2Proof.Machine

/-! ### Pauses and resumes, docket by docket and context by context (R50, R51, R94) -/

/-- The entry holds an OPEN docket of a layer. -/
def Entry.standsOpen (l : Layer) (e : Entry) : Bool :=
  decide (e.state = .opened) && decide (e.body.map (fun b => b.cls.layer) = some l)

theorem State.standsOpen_entry (s : State) (n : Svc) (l : Layer) (k : Slot) :
    s.standsOpen n l k = (s.entry n k).standsOpen l := rfl

theorem Entry.standsOpen_iff {e : Entry} {l : Layer} :
    e.standsOpen l = true ↔ e.state = .opened ∧ ∃ b, e.body = some b ∧ b.cls.layer = l := by
  simp [Entry.standsOpen]

theorem Entry.standsOpen_of_body {e : Entry} {b : Body} (hb : e.body = some b) (l : Layer) :
    e.standsOpen l = (decide (e.state = .opened) && decide (b.cls.layer = l)) := by
  simp [Entry.standsOpen, hb]

/-- R94: an entry resumed. -/
def Entry.resumed (e : Entry) : Entry := { e with tally := { e.tally with paused := false } }

/-- R94: an entry paused, unless its docket's INCLUDE_INNER is set. -/
def Entry.held (e : Entry) : Entry :=
  if (e.body.map Body.includeInner).getD false then e
  else { e with tally := { e.tally with paused := true }, flags := e.flags.union .ofPaused }

theorem State.resumeSegment_entry (s : State) (n : Svc) (k j : Slot) :
    (State.resumeSegment n s k).entry n j = if j = k then (s.entry n k).resumed else s.entry n j := by
  unfold State.resumeSegment
  rw [State.modEntry_get, State.entry_of_sched (s.modContextOf_sched _ _), State.entry_of_sched (s.modContextOf_sched _ _)]
  rfl

theorem State.pauseSegment_entry (s : State) (n : Svc) (k j : Slot) :
    (State.pauseSegment n s k).entry n j = if j = k then (s.entry n k).held else s.entry n j := by
  unfold State.pauseSegment Entry.held
  split
  · split
    · next own => rw [own]
    · rfl
  · rw [State.modEntry_get, State.entry_of_sched (s.modContextOf_sched _ _), State.entry_of_sched (s.modContextOf_sched _ _)]

/-- What acting on every OPEN docket of a layer leaves of an entry. -/
theorem State.forOpen_entry (s : State) (n : Svc) (l : Layer) {f : State → Slot → State} {g : Entry → Entry}
    (hf : ∀ u k j, (f u k).entry n j = if j = k then g (u.entry n k) else u.entry n j) (j : Slot) :
    (s.forOpen n l f).entry n j = if (s.entry n j).standsOpen l then g (s.entry n j) else s.entry n j := by
  have fold := foldl_at (fun u i => State.entry u n i) (fun e => if e.standsOpen l then g e else e)
    (fun u k => if u.standsOpen n l k then f u k else u)
    (fun u k => by
      by_cases stands : u.standsOpen n l k = true
      · rw [if_pos stands, if_pos (show (u.entry n k).standsOpen l = true from stands), hf, if_pos rfl]
      · rw [if_neg stands, if_neg (show ¬ (u.entry n k).standsOpen l = true from stands)])
    (fun u k i h => by split <;> simp [hf, h]) j allSlots s allSlots_nodup
  simpa [State.forOpen] using fold

theorem State.pauseOuter_entry (s : State) (n : Svc) (j : Slot) :
    (s.pauseOuter n).entry n j = if (s.entry n j).standsOpen .outer then (s.entry n j).held else s.entry n j :=
  s.forOpen_entry n .outer (fun u k j => u.pauseSegment_entry n k j) j

theorem State.resumeOuter_entry (s : State) (n : Svc) (j : Slot) :
    (s.resumeOuter n).entry n j =
      if s.sched[n].openInner = none ∧ (s.entry n j).standsOpen .outer then (s.entry n j).resumed else s.entry n j := by
  unfold State.resumeOuter
  cases hi : s.sched[n].openInner with
  | some i => simp
  | none =>
    have resumed := s.forOpen_entry n .outer (fun u k j => u.resumeSegment_entry n k j) j
    simpa using resumed

/-- A fold over slots of which those that act change one context by the same idempotent change. -/
theorem foldl_context {n : Svc} {y : CtxId} {f : State → Slot → State} {acts : Entry → Prop} {g : Context → Context}
    (idem : ∀ x, g (g x) = g x) (stays : ∀ u k j, acts ((f u k).entry n j) ↔ acts (u.entry n j))
    (hit : ∀ u k, acts (u.entry n k) → (f u k).pool[y] = g u.pool[y])
    (miss : ∀ u k, ¬ acts (u.entry n k) → (f u k).pool[y] = u.pool[y]) :
    ∀ (ks : List Slot) (s : State),
      ((∃ j ∈ ks, acts (s.entry n j)) → (ks.foldl f s).pool[y] = g s.pool[y]) ∧
      ((∀ j ∈ ks, ¬ acts (s.entry n j)) → (ks.foldl f s).pool[y] = s.pool[y])
  | [], s => ⟨by simp, fun _ => rfl⟩
  | k :: ks, s => by
    obtain ⟨some, none⟩ := foldl_context idem stays hit miss ks (f s k)
    simp only [stays] at some none
    rw [List.foldl_cons]
    refine ⟨?_, fun h => ?_⟩
    · rintro ⟨j, hj, ha⟩
      by_cases later : ∃ i ∈ ks, acts (s.entry n i)
      · rw [some later]
        by_cases own : acts (s.entry n k)
        · rw [hit s k own, idem]
        · rw [miss s k own]
      · rw [none fun i hi hacts => later ⟨i, hi, hacts⟩]
        rcases List.mem_cons.mp hj with rfl | hj
        · exact hit s j ha
        · exact absurd ⟨j, hj, ha⟩ later
    · rw [none fun i hi => h i (List.mem_cons_of_mem k hi), miss s k (h k List.mem_cons_self)]

theorem Context.pause_idem (x : Context) : x.pause.pause = x.pause := by
  unfold Context.pause
  by_cases acc : x.state = .accumulating <;> simp [acc]

theorem Context.resume_idem (x : Context) : x.resume.resume = x.resume := by
  unfold Context.resume
  by_cases paused : x.state = .paused <;> simp [paused]

theorem State.modContextOf_get (s : State) (e : Entry) (f : Context → Context) (y : CtxId) :
    (s.modContextOf e f).pool[y] = if e.context = some y then f s.pool[y] else s.pool[y] := by
  unfold State.modContextOf
  cases context : e.context with
  | none => simp
  | some c =>
    dsimp only
    rw [State.modPool_pool, upd_get]
    by_cases own : y = c
    · simp [own]
    · simp [own, Ne.symm own]

theorem State.resumeSegment_context (s : State) (n : Svc) (k : Slot) (y : CtxId) :
    (State.resumeSegment n s k).pool[y] = if (s.entry n k).context = some y then s.pool[y].resume else s.pool[y] := by
  unfold State.resumeSegment
  rw [State.modEntry_pool, State.modContextOf_get]

theorem State.pauseSegment_context (s : State) (n : Svc) (k : Slot) (y : CtxId) :
    (State.pauseSegment n s k).pool[y] =
      if (s.entry n k).context = some y ∧ ((s.entry n k).body.map Body.includeInner).getD false = false then s.pool[y].pause
      else s.pool[y] := by
  by_cases includes : ((s.entry n k).body.map Body.includeInner).getD false = true
  · have left : State.pauseSegment n s k = s := if_pos includes
    rw [left]
    simp [includes]
  · have paused : (State.pauseSegment n s k).pool = (s.modContextOf (s.entry n k) Context.pause).pool := by
      rw [show State.pauseSegment n s k = _ from if_neg includes, State.modEntry_pool]
    rw [paused, State.modContextOf_get]
    simp only [Bool.eq_false_iff.mpr includes, and_true]

/-- R50: the contexts of the OPEN outer dockets that do not include inner segments pause, and no other. -/
theorem State.pauseOuter_context (s : State) (n : Svc) (y : CtxId) :
    let acts := fun e : Entry =>
      e.standsOpen .outer = true ∧ e.context = some y ∧ (e.body.map Body.includeInner).getD false = false
    ((∃ j, acts (s.entry n j)) → (s.pauseOuter n).pool[y] = s.pool[y].pause) ∧
      ((∀ j, ¬ acts (s.entry n j)) → (s.pauseOuter n).pool[y] = s.pool[y]) := by
  intro acts
  have stays : ∀ e : Entry, acts e.held ↔ acts e := fun e => by
    unfold Entry.held
    split
    · rfl
    · exact Iff.rfl
  have fold := foldl_context (n := n) (y := y) (acts := acts) (g := Context.pause)
    (f := fun u k => if u.standsOpen n .outer k then State.pauseSegment n u k else u) Context.pause_idem
    (fun u k j => by
      split
      · rw [State.pauseSegment_entry]
        split
        · next own => rw [own]; exact stays _
        · rfl
      · rfl)
    (fun u k ha => by
      obtain ⟨stands, held⟩ := ha
      rw [if_pos (show u.standsOpen n .outer k = true from stands), State.pauseSegment_context, if_pos held])
    (fun u k ha => by
      split
      · next stands => rw [State.pauseSegment_context, if_neg fun held => ha ⟨stands, held⟩]
      · rfl) allSlots s
  simpa [State.pauseOuter, State.forOpen] using fold

/-- R51: the contexts of the OPEN outer dockets resume once no inner segment is open, and no other. -/
theorem State.resumeOuter_context (s : State) (n : Svc) (y : CtxId) :
    let acts := fun e : Entry => e.standsOpen .outer = true ∧ e.context = some y
    (s.sched[n].openInner = none ∧ (∃ j, acts (s.entry n j)) → (s.resumeOuter n).pool[y] = s.pool[y].resume) ∧
      (s.sched[n].openInner.isSome = true ∨ (∀ j, ¬ acts (s.entry n j)) → (s.resumeOuter n).pool[y] = s.pool[y]) := by
  intro acts
  have fold := foldl_context (n := n) (y := y) (acts := acts) (g := Context.resume)
    (f := fun u k => if u.standsOpen n .outer k then State.resumeSegment n u k else u) Context.resume_idem
    (fun u k j => by
      split
      · rw [State.resumeSegment_entry]
        split
        · next own => rw [own]; exact Iff.rfl
        · rfl
      · rfl)
    (fun u k ha => by
      obtain ⟨stands, context⟩ := ha
      rw [if_pos (show u.standsOpen n .outer k = true from stands), State.resumeSegment_context, if_pos context])
    (fun u k ha => by
      split
      · next stands => rw [State.resumeSegment_context, if_neg fun context => ha ⟨stands, context⟩]
      · rfl) allSlots s
  unfold State.resumeOuter State.forOpen
  cases hi : s.sched[n].openInner with
  | some i => simp
  | none => simpa using fold

end Sys2Proof.Machine

namespace Sys2Proof.Machine

/-! ### What a close leaves of a service, part by part (R53, R94 to R96, R111, R113, R150) -/

section
variable {s t u : State} {n : Svc} {k : Slot} {b : Body} (add : VerdictFlags)

/-- From s to t only the entries of the service's Scheduler have changed. -/
def EntriesOnly (n : Svc) (s t : State) : Prop := t.sched[n] = { s.sched[n] with entries := t.sched[n].entries }

theorem EntriesOnly.refl (n : Svc) (s : State) : EntriesOnly n s s := rfl

theorem EntriesOnly.trans (h : EntriesOnly n s t) (g : EntriesOnly n t u) : EntriesOnly n s u := by
  unfold EntriesOnly at *
  rw [g, h]

theorem EntriesOnly.of_sched (h : t.sched = s.sched) : EntriesOnly n s t := by
  unfold EntriesOnly
  rw [h]

theorem State.modEntry_entriesOnly (s : State) (n : Svc) (k : Slot) (f : Entry → Entry) :
    EntriesOnly n s (s.modEntry n k f) := by
  unfold EntriesOnly State.modEntry
  rw [State.modSched_sched, upd_get, if_pos rfl]

theorem State.pushWrite_entriesOnly (s : State) (n : Svc) (k : Slot) (w : SlotContent) :
    EntriesOnly n s (s.pushWrite n k w) := by
  unfold State.pushWrite
  split
  · exact s.modEntry_entriesOnly n k _
  · exact .refl n s

theorem State.forOpen_entriesOnly (s : State) (n : Svc) (l : Layer) {f : State → Slot → State}
    (hf : ∀ u k, EntriesOnly n u (f u k)) : EntriesOnly n s (s.forOpen n l f) := by
  refine foldl_keeps (EntriesOnly n s) _ (fun u k h => ?_) allSlots s (.refl n s)
  split
  · exact h.trans (hf u k)
  · exact h

theorem State.modContextOf_entriesOnly (s : State) (n : Svc) (e : Entry) (f : Context → Context) :
    EntriesOnly n s (s.modContextOf e f) := .of_sched (s.modContextOf_sched e f)

theorem State.pauseOuter_entriesOnly (s : State) (n : Svc) : EntriesOnly n s (s.pauseOuter n) :=
  s.forOpen_entriesOnly n .outer fun u k => by
    unfold State.pauseSegment
    split
    · exact .refl n u
    · exact (u.modContextOf_entriesOnly n _ _).trans (State.modEntry_entriesOnly _ n k _)

theorem State.resumeOuter_entriesOnly (s : State) (n : Svc) : EntriesOnly n s (s.resumeOuter n) := by
  unfold State.resumeOuter
  split
  · exact .refl n s
  · exact s.forOpen_entriesOnly n .outer fun u k =>
      (u.modContextOf_entriesOnly n _ _).trans (State.modEntry_entriesOnly _ n k _)

/-- The open slot of a layer once the segment of slot k has left it. -/
def State.leftOpen (s : State) (n : Svc) (l : Layer) (k : Slot) : Option Slot :=
  if s.sched[n].openSlot l = some k then allSlots.find? fun j => decide (j ≠ k) && s.standsOpen n l j
  else s.sched[n].openSlot l

theorem Sched.setOpen_same (c : Sched) (l : Layer) : c.setOpen l (c.openSlot l) = c := by cases l <;> rfl

theorem Sched.setOpen_openSlot (c : Sched) (l m : Layer) (k : Option Slot) :
    (c.setOpen l k).openSlot m = if m = l then k else c.openSlot m := by
  cases l <;> cases m <;> rfl

theorem Sched.setOpen_fields (c : Sched) (l : Layer) (k : Option Slot) :
    (c.setOpen l k).entries = c.entries ∧ (c.setOpen l k).unmatched = c.unmatched ∧ (c.setOpen l k).pins = c.pins := by
  cases l <;> exact ⟨rfl, rfl, rfl⟩

/-- R96 steps 1 and 2: the segment of slot k has left its layer. -/
def State.leaving (s : State) (n : Svc) (k : Slot) (b : Body) (add : VerdictFlags) : State :=
  ((s.modEntry n k (Entry.leaving s.feed[n].time add)).closeContextOf n (s.entry n k) b.cls).leaveLayer n b.cls.layer k

theorem State.afterLeaving_eq (s : State) (n : Svc) (k : Slot) (b : Body) :
    s.afterLeaving n k b (s.entry n k) add =
      if b.cls.layer = .inner then (s.leaving n k b add).resumeOuter n else s.leaving n k b add := rfl

theorem State.leaving_entry (j : Slot) :
    (s.leaving n k b add).entry n j =
      if j = k then (s.entry n k).leaving s.feed[n].time add else s.entry n j := by
  unfold State.leaving
  rw [State.leaveLayer_entry, State.entry_of_sched (State.closeContextOf_sched _ n _ _), State.modEntry_get]

theorem State.leaving_sched (s : State) (n : Svc) (k : Slot) (b : Body) :
    (s.leaving n k b add).sched[n] =
      { s.sched[n].setOpen b.cls.layer (s.leftOpen n b.cls.layer k) with entries := (s.leaving n k b add).sched[n].entries } := by
  obtain ⟨v, hv⟩ : ∃ v, v = (s.modEntry n k (Entry.leaving s.feed[n].time add)).closeContextOf n (s.entry n k) b.cls := ⟨_, rfl⟩
  have entries : EntriesOnly n s v := by
    rw [hv]
    exact (s.modEntry_entriesOnly n k _).trans (.of_sched (State.closeContextOf_sched _ n _ _))
  have slot : v.sched[n].openSlot b.cls.layer = s.sched[n].openSlot b.cls.layer := by
    rw [entries]
    cases b.cls.layer <;> rfl
  have stands : v.standsOpen n b.cls.layer = fun j => decide (j ≠ k) && s.standsOpen n b.cls.layer j := by
    funext j
    have entry : v.entry n j = if j = k then (s.entry n k).leaving s.feed[n].time add else s.entry n j := by
      rw [hv, State.entry_of_sched (State.closeContextOf_sched _ n _ _), State.modEntry_get]
    unfold State.standsOpen
    rw [entry]
    by_cases own : j = k
    · simp [own, Entry.leaving]
    · simp [own]
  have left : (s.leaving n k b add).sched[n] = v.sched[n].setOpen b.cls.layer (s.leftOpen n b.cls.layer k) := by
    unfold State.leaving State.leaveLayer State.leftOpen
    rw [← hv, slot, stands]
    split
    · simp
    · exact (Sched.setOpen_same v.sched[n] b.cls.layer).symm.trans (by rw [slot])
  rw [left, entries]
  cases b.cls.layer <;> rfl

theorem State.leaving_openInner (s : State) (n : Svc) (k : Slot) (inner : b.cls.layer = .inner) :
    (s.leaving n k b add).sched[n].openInner = s.leftOpen n .inner k := by
  have sched := congrArg (fun c => c.openSlot .inner) (s.leaving_sched add n k b)
  simpa [Sched.openSlot, inner, Sched.setOpen] using sched

/-- R94, R96: an outer docket is resumed when the last inner segment closes; another is as before. -/
theorem State.closeSegment_entry_ne (ho : (s.entry n k).state = .opened) (hb : (s.entry n k).body = some b) {j : Slot}
    (h : j ≠ k) :
    (s.closeSegment n k add).entry n j =
      if b.cls.layer = .inner ∧ s.leftOpen n .inner k = none ∧ s.standsOpen n .outer j = true then (s.entry n j).resumed
      else s.entry n j := by
  have context : (((s.afterLeaving n k b (s.entry n k) add).markEnd n k b).entry n k).context = (s.entry n k).context := by
    rw [State.entry_of_sched (State.markEnd_sched _ n k b), State.afterLeaving_own]; rfl
  have announced := ((s.afterLeaving n k b (s.entry n k) add).markEnd n k b).announceClose_entry n k j
  rw [if_neg h, context, State.entry_of_sched (State.markEnd_sched _ n k b)] at announced
  rw [State.closeSegment_open ho hb, announced, State.afterLeaving_eq]
  by_cases inner : b.cls.layer = .inner
  · rw [if_pos inner, State.resumeOuter_entry, s.leaving_openInner add n k inner, State.leaving_entry, if_neg h]
    simp only [inner, true_and]
    rfl
  · rw [if_neg inner, State.leaving_entry, if_neg h, if_neg fun all => inner all.1]

/-! #### The verdict of a docket without a context (R98, R106, R111, R113) -/

theorem LoudResult.noMeter_fails : noMeterResult.fails = false := rfl

/-- R111: the raises of a NO_METER verdict. -/
theorem State.raiseVerdict_noMeter (s : State) (n : Svc) {v : Verdict} (loud : v.loudness = noMeterResult) :
    s.raiseVerdict n v = if v.captions.verdict = .short then s.raise n .captionFail else s := by
  unfold State.raiseVerdict
  rw [loud, LoudResult.noMeter_fails]
  rfl

/-- R98, R113: the Scheduler of a service whose verdict has been delivered. -/
theorem State.deliverVerdict_sched (s : State) (n : Svc) (k : Slot) (v : Verdict) :
    (s.deliverVerdict n k v).sched[n] =
      { s.sched[n] with entries := (s.deliverVerdict n k v).sched[n].entries, pins := s.sched[n].pins ++ v.pin k } := by
  obtain ⟨w, hw⟩ : ∃ w, w = (((s.pushWrite n k (.verdict v)).modEntry n k fun e => { e with state := .closed }).writeStanding n k).raiseVerdict n v :=
    ⟨_, rfl⟩
  have entries : EntriesOnly n s w := by
    rw [hw]
    exact (((s.pushWrite_entriesOnly n k _).trans (State.modEntry_entriesOnly _ n k _)).trans
      (State.pushWrite_entriesOnly _ n k _)).trans (.of_sched (State.raiseVerdict_sched _ n v))
  have delivered : (s.deliverVerdict n k v).sched[n] = { w.sched[n] with pins := w.sched[n].pins ++ v.pin k } := by
    unfold State.deliverVerdict
    dsimp only
    rw [← hw, State.modSched_sched, upd_get, if_pos rfl]
  rw [delivered, entries]

theorem State.raises_of_panel (h : t.panel = s.panel) (c : SvcCond) : t.raises n c = s.raises n c := by
  unfold State.raises State.svcCond State.cond
  rw [h]

theorem State.raise_raises_service (s : State) (n : Svc) (c d : SvcCond) :
    (s.raise n c).raises n d = s.raises n d + if d = c then 1 else 0 := by
  have raised := s.raise_raises n c (.service n d)
  unfold State.raises State.svcCond
  by_cases own : d = c
  · simpa [own] using raised
  · simpa [own] using raised

theorem State.deliverVerdict_raises (s : State) (n : Svc) (k : Slot) {v : Verdict} (loud : v.loudness = noMeterResult)
    (c : SvcCond) :
    (s.deliverVerdict n k v).raises n c =
      s.raises n c + if c = .captionFail ∧ v.captions.verdict = .short then 1 else 0 := by
  obtain ⟨w, hw⟩ : ∃ w, w = ((s.pushWrite n k (.verdict v)).modEntry n k fun e => { e with state := .closed }).writeStanding n k :=
    ⟨_, rfl⟩
  have before : w.raises n c = s.raises n c := State.raises_of_panel (by rw [hw]; simp) c
  have delivered : (s.deliverVerdict n k v).raises n c = (w.raiseVerdict n v).raises n c := by
    rw [hw]; rfl
  rw [delivered, State.raiseVerdict_noMeter w n loud]
  by_cases short : v.captions.verdict = .short
  · simp only [short, if_true, and_true]
    rw [State.raise_raises_service, before]
  · simp [short, before]

/-- R110, R111: the close of an entry without a context raises CAPTION_FAIL. -/
def Entry.closeShort (e : Entry) : Bool := (e.noMeterVerdict.map fun v => decide (v.captions.verdict = .short)).getD false

/-- R111, R113: the pin that the close of an entry without a context installs. -/
def Entry.closePins (k : Slot) (e : Entry) : List Pin := (e.noMeterVerdict.map fun v => v.pin k).getD []

theorem closeShort_eq (n : Svc) (k : Slot) (t : State) : closeShort n k t = (t.entry n k).closeShort := rfl

theorem closePins_eq (n : Svc) (k : Slot) (t : State) : closePins n k t = (t.entry n k).closePins k := by
  have verdict : noMeterVerdict n k t = (t.entry n k).noMeterVerdict := rfl
  unfold closePins Entry.closePins
  rw [verdict]
  unfold Entry.noMeterVerdict
  split
  · next v first last hv hf hl =>
    have units : v.units = (t.entry n k).units ∧ v.posting = (t.entry n k).posting := by
      split at hv
      · obtain rfl := Option.some.inj hv
        exact ⟨rfl, rfl⟩
      · exact nomatch hv
    rw [hv]
    dsimp only [Option.map_some, Option.getD_some]
    unfold Verdict.pin
    rw [units.1, units.2, hf, hl]
    cases v.failing <;> rfl
  · next none =>
    split
    · next b sn hc hb hs =>
      dsimp only [Option.map_some, Option.getD_some]
      unfold Verdict.pin
      split
      · next hv hf hl =>
        exact absurd hl (none _ _ _ (by rw [hc, hb, hs]) hf)
      · rfl
    · rfl

/-- What an entry's verdict is assembled from. -/
structure Entry.SameDocket (e e' : Entry) : Prop where
  body : e'.body = e.body
  snapshot : e'.snapshot = e.snapshot
  context : e'.context = e.context
  posting : e'.posting = e.posting
  tally : e'.tally = e.tally
  units : e'.units = e.units
  openStamp : e'.openStamp = e.openStamp
  closeStamp : e'.closeStamp = e.closeStamp
  flags : e'.flags = e.flags

theorem Entry.SameDocket.noMeterVerdict {e e' : Entry} (h : e.SameDocket e') : e'.noMeterVerdict = e.noMeterVerdict := by
  unfold Entry.noMeterVerdict Entry.assemble
  rw [h.body, h.snapshot, h.context, h.posting, h.tally, h.units, h.openStamp, h.closeStamp, h.flags]

/-- R96 step 6: what a close announces leaves the docket itself alone. -/
theorem Entry.announced_docket (carries : Bool) (e : Entry) : e.SameDocket (e.announced carries) := by
  obtain ⟨body, posting, units, context, openStamp, closeStamp⟩ := e.announced_fields carries
  have snapshot : (e.announced carries).snapshot = e.snapshot := by
    unfold Entry.announced
    (repeat' split) <;> simp
  exact ⟨body, snapshot, context, posting, e.announced_tally carries, units, openStamp, closeStamp, e.announced_flags carries⟩

theorem Entry.announced_closeShort (carries : Bool) (e : Entry) : (e.announced carries).closeShort = e.closeShort := by
  unfold Entry.closeShort
  rw [(e.announced_docket carries).noMeterVerdict]

theorem Entry.announced_closePins (carries : Bool) (k : Slot) (e : Entry) :
    (e.announced carries).closePins k = e.closePins k := by
  unfold Entry.closePins
  rw [(e.announced_docket carries).noMeterVerdict]

/-- R96 step 6, R106, R111, R113: what a close announces to the rest of the service. -/
theorem State.announceClose_parts (s : State) (n : Svc) (k : Slot) :
    let t := s.announceClose n k (s.entry n k).context.isSome
    t.sched[n] =
      { s.sched[n] with
        entries := t.sched[n].entries
        pins := s.sched[n].pins ++ if s.carries then (s.entry n k).closePins k else [] } ∧
    ∀ c : SvcCond,
      t.raises n c = s.raises n c + if c = .captionFail ∧ s.carries = true ∧ (s.entry n k).closeShort = true then 1 else 0 := by
  intro t
  have quiet : (s.entry n k).noMeterVerdict = none → EntriesOnly n s t → t.panel = s.panel →
      t.sched[n] = { s.sched[n] with entries := t.sched[n].entries, pins := s.sched[n].pins ++ if s.carries then (s.entry n k).closePins k else [] } ∧
      ∀ c : SvcCond,
        t.raises n c = s.raises n c + if c = .captionFail ∧ s.carries = true ∧ (s.entry n k).closeShort = true then 1 else 0 := by
    intro none entries panel
    refine ⟨?_, fun c => ?_⟩
    · unfold Entry.closePins
      rw [none]
      simpa [EntriesOnly] using entries
    · unfold Entry.closeShort
      rw [none, State.raises_of_panel panel]
      simp
  cases context : (s.entry n k).context with
  | some x =>
    have standing : t = s.writeStanding n k := by simp [t, State.announceClose, context]
    exact quiet (by simp [Entry.noMeterVerdict, context]) (standing ▸ s.pushWrite_entriesOnly n k _) (by rw [standing]; simp)
  | none =>
    cases carries : s.carries with
    | false =>
      have same : t = s := by simp [t, State.announceClose, context, carries]
      refine ⟨by rw [same]; simp, fun c => by rw [same]; simp⟩
    | true =>
      have finished : t = s.finishVerdict n k noMeterResult := by simp [t, State.announceClose, context, carries]
      unfold State.finishVerdict at finished
      split at finished
      · next b sn hb hs =>
        have verdict : (s.entry n k).noMeterVerdict = some ((s.entry n k).assemble b sn noMeterResult) := by
          simp [Entry.noMeterVerdict, context, hb, hs]
        refine ⟨?_, fun c => ?_⟩
        · rw [finished]
          unfold Entry.closePins
          rw [verdict]
          exact s.deliverVerdict_sched n k _
        · rw [finished, State.deliverVerdict_raises s n k rfl]
          unfold Entry.closeShort
          rw [verdict]
          simp
      · next unset =>
        have none : (s.entry n k).noMeterVerdict = none := by
          unfold Entry.noMeterVerdict
          split
          · next hb hs => exact absurd hs (unset _ _ hb)
          · rfl
        rw [carries] at quiet
        exact quiet none (finished ▸ .refl n s) (by rw [finished])

end

end Sys2Proof.Machine

namespace Sys2Proof.Machine

/-! ### The close of one OPEN docket (R53, R94 to R96, R150) -/

theorem State.afterLeaving_entriesOnly (s : State) (n : Svc) (k : Slot) (b : Body) (add : VerdictFlags) :
    EntriesOnly n (s.leaving n k b add) (s.afterLeaving n k b (s.entry n k) add) := by
  rw [State.afterLeaving_eq]
  split
  · exact State.resumeOuter_entriesOnly _ n
  · exact .refl n _

theorem State.afterLeaving_recorder (s : State) (n : Svc) (k : Slot) (b : Body) (e : Entry) (add : VerdictFlags) :
    (s.afterLeaving n k b e add).recorder = s.recorder := by
  unfold State.afterLeaving
  dsimp only
  split <;> simp

theorem State.afterLeaving_panel (s : State) (n : Svc) (k : Slot) (b : Body) (e : Entry) (add : VerdictFlags) :
    (s.afterLeaving n k b e add).panel = s.panel := by
  unfold State.afterLeaving
  dsimp only
  split <;> simp

/-- R150: a recorder to which a mark request has been handed. -/
def Recorder.asked (r : Recorder) (m : MarkRequest) : Recorder :=
  if r.marks.length < 64 then { r with marks := r.marks ++ [m] } else { r with lostMarks := sat32 r.lostMarks }

theorem State.requestMark_recorder (s : State) (n : Svc) (m : MarkRequest) :
    (s.requestMark n m).recorder[n] = s.recorder[n].asked m := by
  unfold State.requestMark
  rw [State.modRecorder_recorder, upd_get, if_pos rfl]
  rfl

section
variable {s : State} {n : Svc} {k : Slot} {b : Body} (ho : (s.entry n k).state = .opened)
  (hb : (s.entry n k).body = some b) (add : VerdictFlags)
include ho hb

/-- R96: a close is announced in the state in which the segment has left its layer and its mark is requested. -/
theorem State.closeSegment_announces :
    let v := (s.afterLeaving n k b (s.entry n k) add).markEnd n k b
    s.closeSegment n k add = v.announceClose n k (v.entry n k).context.isSome ∧
      v.entry n k = (s.entry n k).leaving s.feed[n].time add ∧ v.carries = s.carries ∧ v.panel = s.panel ∧
      v.sched = (s.afterLeaving n k b (s.entry n k) add).sched := by
  intro v
  have sched : v.sched = (s.afterLeaving n k b (s.entry n k) add).sched := State.markEnd_sched _ n k b
  have entry : v.entry n k = (s.entry n k).leaving s.feed[n].time add := by
    rw [State.entry_of_sched sched, State.afterLeaving_own]
  have marked : ∀ u : State, (u.markEnd n k b).ctl = u.ctl ∧ (u.markEnd n k b).panel = u.panel := fun u =>
    ⟨by simp, by simp⟩
  refine ⟨?_, entry, ?_, ?_, sched⟩
  · rw [entry]
    exact State.closeSegment_open ho hb add
  · unfold State.carries
    rw [(marked _).1, State.afterLeaving_ctl]
  · rw [(marked _).2, State.afterLeaving_panel]

/-- R96, R113: the Scheduler of the service. -/
theorem State.closeSegment_sched :
    let t := s.closeSegment n k add
    t.sched[n] =
      { s.sched[n].setOpen b.cls.layer (s.leftOpen n b.cls.layer k) with
        entries := t.sched[n].entries
        pins := s.sched[n].pins ++ if s.carries then (t.entry n k).closePins k else [] } := by
  intro t
  obtain ⟨announces, entry, carries, -, sched⟩ := State.closeSegment_announces ho hb add
  obtain ⟨v, hv⟩ : ∃ v, v = (s.afterLeaving n k b (s.entry n k) add).markEnd n k b := ⟨_, rfl⟩
  rw [← hv] at announces entry carries sched
  have own : t.entry n k = ((s.entry n k).leaving s.feed[n].time add).announced s.carries :=
    State.closeSegment_entry_own ho hb add
  have parts := (v.announceClose_parts n k).1
  have left := (s.leaving_sched add n k b)
  have after := s.afterLeaving_entriesOnly n k b add
  rw [own, Entry.announced_closePins, ← entry, ← carries]
  have at_t : t.sched[n] = (v.announceClose n k (v.entry n k).context.isSome).sched[n] := by rw [← announces]
  unfold EntriesOnly at after
  rw [at_t, parts, sched, after, left]
  obtain ⟨-, unmatched, pins⟩ := s.sched[n].setOpen_fields b.cls.layer (s.leftOpen n b.cls.layer k)
  dsimp only
  rw [pins]

/-- R111: the raises of a close. -/
theorem State.closeSegment_raises (c : SvcCond) :
    let t := s.closeSegment n k add
    t.raises n c =
      s.raises n c + if c = .captionFail ∧ s.carries = true ∧ (t.entry n k).closeShort = true then 1 else 0 := by
  intro t
  obtain ⟨announces, entry, carries, panel, -⟩ := State.closeSegment_announces ho hb add
  have own : t.entry n k = ((s.entry n k).leaving s.feed[n].time add).announced s.carries :=
    State.closeSegment_entry_own ho hb add
  have parts := (State.announceClose_parts ((s.afterLeaving n k b (s.entry n k) add).markEnd n k b) n k).2 c
  rw [entry, carries, State.raises_of_panel panel] at parts
  rw [own, Entry.announced_closeShort, show t = _ from announces, entry]
  exact parts

/-- R150: the recorder of the service. -/
theorem State.closeSegment_recorder :
    (s.closeSegment n k add).recorder[n] =
      match (s.entry n k).units.last with
      | none => s.recorder[n]
      | some last => s.recorder[n].asked ⟨last + 1, .finish, b.segId, k⟩ := by
  have announced : ∀ (u : State) (m : Bool), (u.announceClose n k m).recorder = u.recorder := by simp
  have units : ((s.afterLeaving n k b (s.entry n k) add).entry n k).units = (s.entry n k).units := by
    rw [State.afterLeaving_own]; rfl
  rw [State.closeSegment_open ho hb, announced]
  unfold State.markEnd
  rw [units]
  cases (s.entry n k).units.last with
  | none => dsimp only; rw [State.afterLeaving_recorder]
  | some last => dsimp only; rw [State.requestMark_recorder, State.afterLeaving_recorder]

omit ho hb in
/-- R53: the close of a context leaves the others alone. -/
theorem State.leaving_context_ne {y : CtxId} (other : (s.entry n k).context ≠ some y) :
    (s.leaving n k b add).pool[y] = s.pool[y] := by
  have left : ∀ u : State, (u.leaveLayer n b.cls.layer k).pool = u.pool := by simp
  unfold State.leaving
  rw [left]
  unfold State.closeContextOf
  cases context : (s.entry n k).context with
  | none => rfl
  | some c =>
    have ne : y ≠ c := by
      rintro rfl
      exact other context
    dsimp only
    unfold State.closeContext
    split
    · simp [ne]
    · rfl

theorem State.closeSegment_pool_eq : (s.closeSegment n k add).pool = (s.afterLeaving n k b (s.entry n k) add).pool := by
  have handed : ∀ (u : State) (m : Bool), ((u.markEnd n k b).announceClose n k m).pool = u.pool := by simp
  rw [State.closeSegment_open ho hb, handed]

theorem State.closeSegment_integ_eq : (s.closeSegment n k add).integ = (s.afterLeaving n k b (s.entry n k) add).integ := by
  have handed : ∀ (u : State) (m : Bool), ((u.markEnd n k b).announceClose n k m).integ = u.integ := by simp
  rw [State.closeSegment_open ho hb, handed]

/-- R94, R51: the last inner close resumes the context of an outer docket. -/
theorem State.closeSegment_resumes (inner : b.cls.layer = .inner) (last : s.leftOpen n .inner k = none) {j : Slot} {y : CtxId}
    (stands : s.standsOpen n .outer j = true) (held : (s.entry n j).context = some y)
    (other : (s.entry n k).context ≠ some y) : (s.closeSegment n k add).pool[y] = s.pool[y].resume := by
  have ne : j ≠ k := by
    rintro rfl
    exact other held
  have resumed := ((s.leaving n k b add).resumeOuter_context n y).1 ⟨by rw [s.leaving_openInner add n k inner]; exact last,
    j, by rw [State.leaving_entry, if_neg ne]; exact ⟨stands, held⟩⟩
  rw [State.leaving_context_ne add other] at resumed
  rw [State.closeSegment_pool_eq ho hb, State.afterLeaving_eq, if_pos inner]
  exact resumed

/-- R53, R94: a context that is neither closed nor resumed stays as it is. -/
theorem State.closeSegment_context_kept {y : CtxId} (other : (s.entry n k).context ≠ some y)
    (apart : b.cls.layer = .inner → ∀ j, s.standsOpen n .outer j = true → (s.entry n j).context ≠ some y) :
    (s.closeSegment n k add).pool[y] = s.pool[y] := by
  have left := State.leaving_context_ne (b := b) add other
  rw [State.closeSegment_pool_eq ho hb, State.afterLeaving_eq]
  by_cases inner : b.cls.layer = .inner
  · rw [if_pos inner]
    refine (((s.leaving n k b add).resumeOuter_context n y).2 (.inr fun j acts => ?_)).trans left
    rw [State.leaving_entry] at acts
    split at acts
    · simp [Entry.standsOpen, Entry.leaving] at acts
    · exact apart inner j acts.1 acts.2
  · rw [if_neg inner]
    exact left

/-- R53, R54: the closed context joins the integration queue. -/
theorem State.closeSegment_joins {x : CtxId} (hx : (s.entry n k).context = some x) (running : s.pool[x].running) :
    (s.closeSegment n k add).integ.queue = s.integ.queue ++ [x] := by
  rw [State.closeSegment_integ_eq ho hb]
  exact (s.afterLeaving_closes n k b add hx running).2.2

theorem State.closeSegment_queue_kept (unmetered : (s.entry n k).context = none) :
    (s.closeSegment n k add).integ = s.integ := by
  have resumed : ∀ u : State, (if b.cls.layer = .inner then u.resumeOuter n else u).integ = u.integ := fun u => by
    split <;> simp
  rw [State.closeSegment_integ_eq ho hb, State.afterLeaving_eq, resumed]
  simp [State.leaving, State.closeContextOf, unmetered]

end

/-! ### A close read back through the requirement taken afresh (R68, R69) -/

theorem State.refreshRequirement_raises (s : State) (n : Svc) {c : SvcCond} (other : c ∉ captionConds) :
    (s.refreshRequirement n).raises n c = s.raises n c := by
  have kept : CondsKept captionConds s.panel (s.refreshRequirement n).panel :=
    (State.refreshRequirement_conds (fun _ h => h) s n).mpr (by simp)
  unfold State.raises
  rw [kept.svcCond n other]

/-- Where the docket closes: its standing. -/
theorem Entry.closedAt_standing {e : Entry} {carries : Bool} (now : Nat) (add : VerdictFlags) (hb : e.body.isSome = true)
    (hs : e.snapshot.isSome = true) :
    (e.closedAt carries now add).state = if e.context.isNone && carries then .closed else .closing := by
  obtain ⟨b, hb⟩ := Option.isSome_iff_exists.mp hb
  obtain ⟨sn, hs⟩ := Option.isSome_iff_exists.mp hs
  unfold Entry.closedAt Entry.announced
  dsimp only
  rw [hb, hs]
  cases context : e.context <;> cases carries <;> simp [Entry.delivered]

end Sys2Proof.Machine

namespace Sys2Proof.Machine

/-! ### The close of one segment, read once the requirement is taken afresh (R49, R53, R80, R90, R94 to R96) -/

/-- From s to t the segment of slot k, OPEN at s with body b, has been closed and the requirement taken afresh. -/
structure SegmentClosed (n : Svc) (k : Slot) (b : Body) (add : VerdictFlags) (s t : State) : Prop where
  closeStamp : (t.entry n k).closeStamp = some s.feed[n].time
  flags : (t.entry n k).flags = (s.entry n k).flags.union add
  standing : (t.entry n k).state = if (s.entry n k).context.isSome then .closing else .closed
  openSlot : t.sched[n].openSlot b.cls.layer = s.leftOpen n b.cls.layer k
  caption : t.caption[n].state = s.caption[n].state
  inForce : InForce n t
  follow : CaptionCondsFollow n s t
  unmatched : t.sched[n].unmatched = s.sched[n].unmatched
  hands : SlotHands n k (closeWrites n k t) s t
  loudness : t.raises n .loudnessFail = s.raises n .loudnessFail
  captionFail : t.raises n .captionFail = s.raises n .captionFail + if closeShort n k t then 1 else 0
  pins : t.sched[n].pins = s.sched[n].pins ++ closePins n k t
  context : ∀ x : CtxId, (s.entry n k).context = some x →
    (s.pool[x].state = .accumulating ∨ s.pool[x].state = .paused) →
    t.pool[x].state = .closing ∧ t.integ.queue = s.integ.queue ++ [x] ∧
    t.pool[x].figures = some ((s.sheetOf n).closeFigures b.cls) ∧
    t.pool[x].histogram = s.pool[x].histogram ∧ t.pool[x].momentary = s.pool[x].momentary
  recorder : t.recorder[n] =
    match (s.entry n k).units.last with
    | none => s.recorder[n]
    | some last => s.recorder[n].asked ⟨last + 1, .finish, b.segId, k⟩
  held : b.cls.layer = .inner → ∀ j, s.standsOpen n .outer j = true → t.sched[n].openInner.isSome = true →
    t.entry n j = s.entry n j
  resumed : b.cls.layer = .inner → ∀ j, s.standsOpen n .outer j = true → t.sched[n].openInner = none →
    t.entry n j = (s.entry n j).resumed ∧
    ∀ x : CtxId, (s.entry n j).context = some x → (s.entry n k).context ≠ some x → s.pool[x].state = .paused →
      t.pool[x] = { s.pool[x] with state := .accumulating, acc := Accumulator.fresh }

section
variable {s : State} {n : Svc} {k : Slot} {b : Body}

/-- R94: an OPEN outer docket is not the inner one that closes. -/
theorem State.standsOpen_outer_ne (hb : (s.entry n k).body = some b) (inner : b.cls.layer = .inner) {j : Slot}
    (stands : s.standsOpen n .outer j = true) : j ≠ k := by
  rintro rfl
  obtain ⟨-, o, body, outer⟩ := Entry.standsOpen_iff.mp stands
  rw [hb] at body
  rw [Option.some.inj body, outer] at inner
  exact nomatch inner

/-- R94 to R96: a close, and the requirement taken afresh behind it. -/
theorem State.closeSegment_closed (ho : (s.entry n k).state = .opened) (hb : (s.entry n k).body = some b)
    (hs : (s.entry n k).snapshot.isSome = true) (carries : s.carries = true) (add : VerdictFlags) :
    SegmentClosed n k b add s ((s.closeSegment n k add).refreshRequirement n) := by
  obtain ⟨c, hc⟩ : ∃ c, c = s.closeSegment n k add := ⟨_, rfl⟩
  rw [← hc]
  have sched : (c.refreshRequirement n).sched = c.sched := by simp
  have pool : (c.refreshRequirement n).pool = c.pool := by simp
  have integ : (c.refreshRequirement n).integ = c.integ := by simp
  have entry : ∀ j, (c.refreshRequirement n).entry n j = c.entry n j := State.entry_of_sched sched n
  have own : c.entry n k = (s.entry n k).closedAt true s.feed[n].time add := by
    rw [hc, State.closeSegment_entry_own ho hb, carries]
  have scheduler := State.closeSegment_sched ho hb add
  dsimp only at scheduler
  rw [← hc, carries, if_pos rfl] at scheduler
  obtain ⟨-, -, -, -, -, closeStamp, flags⟩ :=
    Entry.closedAt_fields (e := s.entry n k) (carries := true) (now := s.feed[n].time) (add := add)
  have openSlot : c.sched[n].openSlot b.cls.layer = s.leftOpen n b.cls.layer k := by
    rw [scheduler]
    exact (Sched.setOpen_openSlot s.sched[n] b.cls.layer b.cls.layer _).trans (if_pos rfl)
  have openInner : b.cls.layer = .inner → (c.refreshRequirement n).sched[n].openInner = s.leftOpen n .inner k := by
    intro inner
    rw [sched, ← inner, ← openSlot, inner]
    rfl
  obtain ⟨setEntries, setUnmatched, setPins⟩ := s.sched[n].setOpen_fields b.cls.layer (s.leftOpen n b.cls.layer k)
  have raises : ∀ d : SvcCond, d ∉ captionConds → (c.refreshRequirement n).raises n d =
      s.raises n d + if d = .captionFail ∧ s.carries = true ∧ (c.entry n k).closeShort = true then 1 else 0 := by
    intro d other
    have closed := State.closeSegment_raises ho hb add d
    rw [← hc] at closed
    rw [State.refreshRequirement_raises c n other, closed]
  constructor
  case closeStamp => rw [entry, own, closeStamp]
  case flags => rw [entry, own, flags]
  case standing =>
    rw [entry, own, Entry.closedAt_standing _ _ (by rw [hb]; rfl) hs]
    cases (s.entry n k).context <;> rfl
  case openSlot => rw [sched]; exact openSlot
  case caption =>
    have kept : c.caption = s.caption := by simp [hc]
    simp [State.refreshRequirement, kept]
  case inForce => exact State.refreshRequirement_inForce c n
  case follow =>
    refine (State.refreshRequirement_follow c n).of_kept (C := segmentConds) ?_ (by decide)
    rw [hc, State.closeSegment_conds (List.Subset.refl _)]
    simp
  case unmatched => rw [sched, scheduler]; exact setUnmatched
  case hands =>
    have hands := Entry.closedAt_hands true s.feed[n].time add (s.entry n k)
    rw [← own, ← entry k, ← closeWrites_eq, ← carries] at hands
    exact hands.slotHands
  case loudness => simpa using raises .loudnessFail (by decide)
  case captionFail =>
    have raised := raises .captionFail (by decide)
    rw [← entry k] at raised
    simp only [carries, true_and] at raised
    exact raised
  case pins =>
    rw [closePins_eq, entry, sched, scheduler]
  case context =>
    intro x hx running
    have joins := State.closeSegment_joins ho hb add hx running
    have counts := (s.closeSegment_pool n k add x).counts (by rcases running with h | h <;> rw [h] <;> decide)
    obtain ⟨closing, figures, -⟩ := s.afterLeaving_closes n k b add hx running
    rw [← State.closeSegment_pool_eq ho hb] at closing figures
    rw [← hc] at closing figures joins counts
    rw [pool, integ]
    exact ⟨closing, joins, figures, counts.1, counts.2⟩
  case recorder =>
    have recorder : (c.refreshRequirement n).recorder = c.recorder := by simp
    rw [recorder, hc]
    exact State.closeSegment_recorder ho hb add
  case held =>
    intro inner j stands some
    rw [openInner inner] at some
    rw [entry, hc, State.closeSegment_entry_ne add ho hb (State.standsOpen_outer_ne hb inner stands),
      if_neg fun all => by simp [all.2.1] at some]
  case resumed =>
    intro inner j stands none
    rw [openInner inner] at none
    refine ⟨?_, fun x hx other paused => ?_⟩
    · rw [entry, hc, State.closeSegment_entry_ne add ho hb (State.standsOpen_outer_ne hb inner stands),
        if_pos ⟨inner, none, stands⟩]
    · rw [pool, hc, State.closeSegment_resumes ho hb add inner none stands hx other]
      exact if_pos paused

end

/-! ### A WITHDRAW of an OPEN docket (R79, R80) -/

section
variable {s : State} {n : Svc} {k : Slot} {w : BitVec 32}

/-- A command word in a docket's entry leaves what its close reads. -/
theorem Entry.readWord_fields (w : BitVec 32) (e : Entry) :
    (e.readWord w).state = e.state ∧ (e.readWord w).body = e.body ∧ (e.readWord w).snapshot = e.snapshot ∧
      (e.readWord w).context = e.context ∧ (e.readWord w).flags = e.flags ∧ (e.readWord w).units = e.units ∧
      (e.readWord w).writes = e.writes ∧ (e.readWord w).handed = e.handed ∧ (e.readWord w).dropped = e.dropped :=
  ⟨rfl, rfl, rfl, rfl, rfl, rfl, rfl, rfl, rfl⟩

/-- R79 to R81: the state in which a command word read acts. -/
def State.wordRead (s : State) (n : Svc) (k : Slot) (w : BitVec 32) : State :=
  s.accessDone.modEntry n k (Entry.readWord w)

theorem State.wordRead_entry (s : State) (n : Svc) (k : Slot) (w : BitVec 32) (j : Slot) :
    (s.wordRead n k w).entry n j = if j = k then (s.entry n k).readWord w else s.entry n j := by
  unfold State.wordRead
  rw [State.modEntry_get]
  rfl

theorem State.wordRead_entriesOnly (s : State) (n : Svc) (k : Slot) (w : BitVec 32) : EntriesOnly n s (s.wordRead n k w) :=
  s.accessDone.modEntry_entriesOnly n k _

/-- R80: a WITHDRAW under the posting of an OPEN docket closes it. -/
theorem State.readCommandWord_withdraws (link : s.isLinked = true) (ho : (s.entry n k).state = .opened)
    (posting : wordPosting w = (s.entry n k).posting) (posted : (s.entry n k).posting ≠ 0) (withdraw : wordCommand w = 2) :
    s.readCommandWord n k w = ((s.wordRead n k w).closeSegment n k .ofEarlyClose).refreshRequirement n := by
  have entry : s.accessDone.entry n k = s.entry n k := rfl
  have state : ((s.wordRead n k w).entry n k).state = .opened := by
    rw [State.wordRead_entry, if_pos rfl]
    exact ho
  have faultless : (s.entry n k).wordFault (s.entry n k).lastWord w = false := by
    simp [Entry.wordFault, wordUnknown, ho, posting, withdraw, cmdWithdraw]
  have reads : s.readCommandWord n k w = (s.wordRead n k w).validCommand n k 2 := by
    unfold State.readCommandWord State.onRead
    rw [if_pos link]
    dsimp only
    simp only [entry, faultless, Bool.false_eq_true, if_false]
    rw [if_pos ⟨posting, posted⟩, withdraw]
    rfl
  rw [reads]
  unfold State.validCommand
  rw [if_pos (show 2 = cmdWithdraw from rfl), state, if_neg (by decide), if_pos rfl]

/-- What has been closed after a word was read has been closed from the state before it. -/
theorem SegmentClosed.of_wordRead {b : Body} {add : VerdictFlags} {t : State}
    (h : SegmentClosed n k b add (s.wordRead n k w) t) (hb : (s.entry n k).body = some b) : SegmentClosed n k b add s t := by
  have own : (s.wordRead n k w).entry n k = (s.entry n k).readWord w := by rw [State.wordRead_entry, if_pos rfl]
  have stands : ∀ l j, (s.wordRead n k w).standsOpen n l j = s.standsOpen n l j := by
    intro l j
    unfold State.standsOpen
    rw [State.wordRead_entry]
    split
    · next same => rw [same]; rfl
    · rfl
  have entries := s.wordRead_entriesOnly n k w
  unfold EntriesOnly at entries
  have left : ∀ l, (s.wordRead n k w).leftOpen n l k = s.leftOpen n l k := by
    intro l
    unfold State.leftOpen
    have slot : (s.wordRead n k w).sched[n].openSlot l = s.sched[n].openSlot l := by rw [entries]; cases l <;> rfl
    rw [slot]
    simp only [stands]
  obtain ⟨closeStamp, flags, standing, openSlot, caption, inForce, follow, unmatched, hands, loudness, captionFail, pins,
    context, recorder, held, resumed⟩ := h
  unfold SlotHands at hands
  rw [own] at flags standing hands context recorder resumed
  rw [left] at openSlot
  rw [entries] at unmatched pins
  simp only [stands] at held resumed
  refine ⟨closeStamp, flags, standing, openSlot, caption, inForce, follow, unmatched, hands, loudness, captionFail, pins,
    context, recorder, fun inner j outer => ?_, fun inner j outer => ?_⟩
  · have other : (s.wordRead n k w).entry n j = s.entry n j := by
      rw [State.wordRead_entry, if_neg (State.standsOpen_outer_ne hb inner outer)]
    exact fun some => (held inner j outer some).trans other
  · have other : (s.wordRead n k w).entry n j = s.entry n j := by
      rw [State.wordRead_entry, if_neg (State.standsOpen_outer_ne hb inner outer)]
    have resumed := resumed inner j outer
    rw [other] at resumed
    exact resumed

end

end Sys2Proof.Machine

namespace Sys2Proof.Machine

/-! ### Several closes one after the other (R90, assumption 23) -/

/-- What the close of another docket can do to an entry: an OPEN one may be resumed. -/
def Entry.Eased (e e' : Entry) : Prop := e' = e ∨ e.state = .opened ∧ e' = e.resumed

theorem Entry.Eased.refl (e : Entry) : e.Eased e := .inl rfl

theorem Entry.Eased.trans {e e' e'' : Entry} (h : e.Eased e') (g : e'.Eased e'') : e.Eased e'' := by
  rcases h with rfl | ⟨ho, rfl⟩
  · exact g
  · rcases g with rfl | ⟨-, rfl⟩ <;> exact .inr ⟨ho, rfl⟩

/-- An eased entry differs from the one before in its tally's pause only. -/
theorem Entry.Eased.fields {e e' : Entry} (h : e.Eased e') :
    e'.state = e.state ∧ e'.body = e.body ∧ e'.snapshot = e.snapshot ∧ e'.context = e.context ∧ e'.flags = e.flags ∧
      e'.posting = e.posting := by
  rcases h with rfl | ⟨-, rfl⟩ <;> exact ⟨rfl, rfl, rfl, rfl, rfl, rfl⟩

theorem Entry.Eased.eq_of_not_open {e e' : Entry} (h : e.Eased e') (closed : e.state ≠ .opened) : e' = e :=
  h.resolve_right fun opened => closed opened.1

theorem Entry.Eased.hands {e e' : Entry} (h : e.Eased e') (carries : Bool) : e.Hands carries [] e' := by
  rcases h with rfl | ⟨-, rfl⟩ <;> exact .of_same carries rfl rfl rfl

section
variable {s : State} {n : Svc} {k : Slot} {b : Body} (add : VerdictFlags)

/-- R94: another docket's close eases an entry at most. -/
theorem State.closeSegment_eases (s : State) (n : Svc) {k j : Slot} (other : j ≠ k) :
    (s.entry n j).Eased ((s.closeSegment n k add).entry n j) := by
  by_cases ho : (s.entry n k).state = .opened
  · cases hb : (s.entry n k).body with
    | none => rw [State.closeSegment_idle (.inr hb)]; exact .refl _
    | some b =>
      rw [State.closeSegment_entry_ne add ho hb other]
      split
      · next acts => exact .inr ⟨(Entry.standsOpen_iff.mp acts.2.2).1, rfl⟩
      · exact .refl _
  · rw [State.closeSegment_idle (.inl ho)]; exact .refl _

/-- R96: the closed segment is no longer the open one of its layer. -/
theorem State.leftOpen_ne (s : State) (n : Svc) (l : Layer) (k : Slot) : s.leftOpen n l k ≠ some k := by
  unfold State.leftOpen
  split
  · intro found
    have holds := List.find?_some found
    simp at holds
  · assumption

/-- R96: a close makes no docket the open one of a layer that does not stand OPEN. -/
theorem State.closeSegment_openSlot_ne {l : Layer} {j : Slot} (ho : (s.entry n k).state = .opened)
    (hb : (s.entry n k).body = some b) (closed : s.standsOpen n l j = false) (left : s.sched[n].openSlot l ≠ some j) :
    (s.closeSegment n k add).sched[n].openSlot l ≠ some j := by
  have scheduler := State.closeSegment_sched ho hb add
  dsimp only at scheduler
  rw [scheduler]
  show (s.sched[n].setOpen b.cls.layer (s.leftOpen n b.cls.layer k)).openSlot l ≠ some j
  rw [Sched.setOpen_openSlot]
  split
  · next same =>
    subst same
    unfold State.leftOpen
    split
    · intro found
      have holds := List.find?_some found
      rw [Bool.and_eq_true, closed] at holds
      exact nomatch holds.2
    · exact left
  · exact left

/-- The closes of some slots, in their order. -/
def State.closeEach (s : State) (n : Svc) (add : VerdictFlags) (ks : List Slot) : State :=
  ks.foldl (fun u k => u.closeSegment n k add) s

theorem State.closeEach_cons (s : State) (n : Svc) (k : Slot) (ks : List Slot) :
    s.closeEach n add (k :: ks) = (s.closeSegment n k add).closeEach n add ks := rfl

/-- The dockets of the slots stand OPEN. -/
def State.StandOpen (s : State) (n : Svc) (ks : List Slot) : Prop :=
  ∀ k ∈ ks, (s.entry n k).state = .opened ∧ (s.entry n k).body.isSome = true

variable {ks : List Slot}

theorem State.StandOpen.head (h : s.StandOpen n (k :: ks)) :
    (s.entry n k).state = .opened ∧ ∃ b, (s.entry n k).body = some b := by
  obtain ⟨ho, hb⟩ := h k List.mem_cons_self
  exact ⟨ho, Option.isSome_iff_exists.mp hb⟩

/-- The others still stand OPEN after a close. -/
theorem State.StandOpen.tail (h : s.StandOpen n (k :: ks)) (other : k ∉ ks) :
    (s.closeSegment n k add).StandOpen n ks := by
  intro j hj
  obtain ⟨ho, hb⟩ := h j (List.mem_cons_of_mem k hj)
  obtain ⟨state, body, -⟩ := (s.closeSegment_eases add n (ne_of_mem_of_not_mem hj other)).fields
  exact ⟨state.trans ho, by rw [body]; exact hb⟩

theorem State.closeEach_eases (n : Svc) {j : Slot} :
    ∀ (ks : List Slot) (s : State), j ∉ ks → (s.entry n j).Eased ((s.closeEach n add ks).entry n j)
  | [], s, _ => .refl _
  | k :: ks, s, other => by
    obtain ⟨ne, rest⟩ := not_or.mp (mt List.mem_cons.mpr other)
    exact (s.closeSegment_eases add n ne).trans (State.closeEach_eases n ks _ rest)

/-- What the closes leave of what the requirement and the writes read. -/
theorem State.closeEach_frame (s : State) (n : Svc) (ks : List Slot) :
    (s.closeEach n add ks).carries = s.carries ∧ (s.closeEach n add ks).feed = s.feed ∧
      CondsKept segmentConds s.panel (s.closeEach n add ks).panel := by
  refine foldl_keeps (fun u => u.carries = s.carries ∧ u.feed = s.feed ∧ CondsKept segmentConds s.panel u.panel) _
    (fun u k h => ?_) ks s ⟨rfl, rfl, by simp⟩
  have ctl : (u.closeSegment n k add).ctl = u.ctl := by simp
  refine ⟨?_, by simpa using h.2.1, (State.closeSegment_conds (List.Subset.refl _) u n k add).mpr h.2.2⟩
  rw [← h.1]
  unfold State.carries
  rw [ctl]

/-- R53, R96: each docket of the list is closed as it stood when its turn came, and left alone then. -/
theorem State.closeEach_entry :
    ∀ (ks : List Slot) (s : State), ks.Nodup → s.StandOpen n ks → ∀ k ∈ ks, ∃ a, (s.entry n k).Eased a ∧
      (s.closeEach n add ks).entry n k = a.closedAt s.carries s.feed[n].time add
  | [], _, _, _ => nofun
  | i :: ks, s, distinct, stand => by
    obtain ⟨other, distinct⟩ := List.nodup_cons.mp distinct
    obtain ⟨ho, b, hb⟩ := stand.head
    intro k hk
    rcases List.mem_cons.mp hk with rfl | hk
    · have own := State.closeSegment_entry_own ho hb add
      have rest := State.closeEach_eases add n ks (s.closeSegment n k add) other
      refine ⟨_, .refl _, ?_⟩
      rw [State.closeEach_cons, rest.eq_of_not_open (by rw [own]; exact Entry.closedAt_not_open _ _ _ _), own]
    · obtain ⟨a, eased, closed⟩ := State.closeEach_entry ks _ distinct (stand.tail add other) k hk
      obtain ⟨carries, feed, -⟩ := s.closeEach_frame add n [i]
      change (s.closeSegment n i add).carries = _ at carries
      change (s.closeSegment n i add).feed = _ at feed
      rw [carries, feed] at closed
      exact ⟨a, (s.closeSegment_eases add n (ne_of_mem_of_not_mem hk other)).trans eased, closed⟩

/-- R111, R113: the counts of cues, raises and pins of the closes. -/
theorem State.closeEach_announces :
    ∀ (ks : List Slot) (s : State), ks.Nodup → s.StandOpen n ks → s.carries = true →
      let t := s.closeEach n add ks
      t.sched[n].unmatched = s.sched[n].unmatched ∧
      t.raises n .loudnessFail = s.raises n .loudnessFail ∧
      t.raises n .captionFail =
        s.raises n .captionFail + BitVec.ofNat 16 (ks.filter fun k => (t.entry n k).closeShort).length ∧
      t.sched[n].pins = s.sched[n].pins ++ ks.flatMap fun k => (t.entry n k).closePins k
  | [], s, _, _, _ => ⟨rfl, rfl, by simp [State.closeEach], by simp [State.closeEach]⟩
  | k :: ks, s, distinct, stand, carries => by
    obtain ⟨other, distinct⟩ := List.nodup_cons.mp distinct
    obtain ⟨ho, b, hb⟩ := stand.head
    obtain ⟨c, hc⟩ : ∃ c, c = s.closeSegment n k add := ⟨_, rfl⟩
    have still : c.carries = true := by
      rw [← carries, hc]
      exact (s.closeEach_frame add n [k]).1
    obtain ⟨unmatched, loudness, shorts, pins⟩ :=
      State.closeEach_announces ks c distinct (hc ▸ stand.tail add other) still
    have own : (c.closeEach n add ks).entry n k = c.entry n k :=
      (State.closeEach_eases add n ks c other).eq_of_not_open (by
        rw [hc, State.closeSegment_entry_own ho hb]; exact Entry.closedAt_not_open _ _ _ _)
    have scheduler := State.closeSegment_sched ho hb add
    have raises := State.closeSegment_raises ho hb add
    dsimp only at scheduler raises
    rw [← hc, carries, if_pos rfl] at scheduler
    simp only [← hc, carries, true_and] at raises
    obtain ⟨-, setUnmatched, -⟩ := s.sched[n].setOpen_fields b.cls.layer (s.leftOpen n b.cls.layer k)
    intro t
    have ht : t = c.closeEach n add ks := by rw [hc]; rfl
    rw [ht, unmatched, loudness, shorts, pins, raises, raises, List.flatMap_cons, own, List.filter_cons, own]
    refine ⟨by rw [scheduler]; exact setUnmatched, by simp, ?_, by rw [scheduler]; simp⟩
    rw [BitVec.add_assoc]
    refine congrArg _ ?_
    split <;> simp_all [BitVec.ofNat_add, BitVec.add_comm]

/-- R96: no closed segment is the open one of its layer. -/
theorem State.closeEach_openSlot {j : Slot} {l : Layer} :
    ∀ (ks : List Slot) (s : State), ks.Nodup → s.StandOpen n ks →
      (j ∈ ks ∧ (s.entry n j).body.map (fun b => b.cls.layer) = some l ∨
        s.standsOpen n l j = false ∧ s.sched[n].openSlot l ≠ some j) →
      (s.closeEach n add ks).sched[n].openSlot l ≠ some j
  | [], _, _, _, h => by
    rcases h with ⟨hj, -⟩ | ⟨-, left⟩
    · exact nomatch hj
    · exact left
  | k :: ks, s, distinct, stand, h => by
    obtain ⟨other, distinct⟩ := List.nodup_cons.mp distinct
    obtain ⟨ho, b, hb⟩ := stand.head
    rw [State.closeEach_cons]
    refine State.closeEach_openSlot ks _ distinct (stand.tail add other) ?_
    by_cases own : j = k
    · subst own
      right
      have closed : (s.closeSegment n j add).standsOpen n l j = false := by
        unfold State.standsOpen
        rw [State.closeSegment_entry_own ho hb]
        simp [Entry.closedAt_not_open]
      refine ⟨closed, ?_⟩
      rcases h with ⟨-, layer⟩ | ⟨standsNot, left⟩
      · rw [hb, Option.map_some] at layer
        have scheduler := State.closeSegment_sched ho hb add
        dsimp only at scheduler
        rw [scheduler]
        show (s.sched[n].setOpen b.cls.layer (s.leftOpen n b.cls.layer j)).openSlot l ≠ some j
        rw [show b.cls.layer = l from Option.some.inj layer, Sched.setOpen_openSlot, if_pos rfl]
        exact s.leftOpen_ne n l j
      · exact State.closeSegment_openSlot_ne add ho hb standsNot left
    · obtain ⟨state, body, -⟩ := (s.closeSegment_eases add n own).fields
      rcases h with ⟨hj, layer⟩ | ⟨standsNot, left⟩
      · exact .inl ⟨(List.mem_cons.mp hj).resolve_left own, by rw [body]; exact layer⟩
      · refine .inr ⟨?_, State.closeSegment_openSlot_ne add ho hb standsNot left⟩
        rw [← standsNot]
        unfold State.standsOpen
        rw [state, body]

/-- R53, R54: the contexts of the closed dockets join the integration queue in the order of the closes. -/
theorem State.closeEach_queue :
    ∀ (ks : List Slot) (s : State), ks.Nodup → s.StandOpen n ks →
      (ks.filterMap fun k => (s.entry n k).context).Nodup →
      (∀ k ∈ ks, ∀ x, (s.entry n k).context = some x → s.pool[x].running) →
      (s.closeEach n add ks).integ.queue = s.integ.queue ++ ks.filterMap fun k => (s.entry n k).context
  | [], s, _, _, _, _ => by simp [State.closeEach]
  | k :: ks, s, distinct, stand, apart, running => by
    obtain ⟨other, distinct⟩ := List.nodup_cons.mp distinct
    obtain ⟨ho, b, hb⟩ := stand.head
    have contexts : (ks.filterMap fun j => ((s.closeSegment n k add).entry n j).context) =
        ks.filterMap fun j => (s.entry n j).context :=
      List.filterMap_congr fun j hj => (s.closeSegment_eases add n (ne_of_mem_of_not_mem hj other)).fields.2.2.2.1
    have rest : (ks.filterMap fun j => (s.entry n j).context).Nodup := by
      cases context : (s.entry n k).context <;> simp_all
    have queue := State.closeEach_queue ks (s.closeSegment n k add) distinct (stand.tail add other)
      (by rw [contexts]; exact rest) fun j hj x hx => by
        have held : (s.entry n j).context = some x :=
          (s.closeSegment_eases add n (ne_of_mem_of_not_mem hj other)).fields.2.2.2.1.symm.trans hx
        refine (s.closeSegment_runsOn n add (fun own => ?_) (running j (List.mem_cons_of_mem k hj) x held)).1
        rw [List.filterMap_cons, own] at apart
        exact (List.nodup_cons.mp apart).1 (List.mem_filterMap.mpr ⟨j, hj, held⟩)
    rw [State.closeEach_cons, queue, contexts]
    cases context : (s.entry n k).context with
    | none => rw [State.closeSegment_queue_kept ho hb add context, List.filterMap_cons, context]
    | some x =>
      rw [State.closeSegment_joins ho hb add context (running k List.mem_cons_self x context),
        List.filterMap_cons, context, List.append_assoc]
      rfl

end

end Sys2Proof.Machine

namespace Sys2Proof.Machine

/-! ### The three causes of a close (R49, R80, R90) -/

theorem VerdictFlags.union_none (f : VerdictFlags) : f.union .none = f := by
  simp [VerdictFlags.union, VerdictFlags.none]

section
variable {s : State} {n : Svc} {id : BitVec 16} {k : Slot}

theorem State.cueSlots_nodup (s : State) (n : Svc) (id : BitVec 16) (kind : CueKind) : (s.cueSlots n id kind).Nodup :=
  allSlots_nodup.filter _

/-- R90: an END CUE matches OPEN dockets alone. -/
theorem State.mem_cueSlots_finish (h : k ∈ s.cueSlots n id .finish) :
    (s.entry n k).state = .opened ∧ (s.entry n k).body.isSome = true := by
  unfold State.cueSlots at h
  have matched := (List.mem_filter.mp h).2
  cases body : (s.entry n k).body with
  | none => simp [body] at matched
  | some b =>
    cases finish : b.finish <;> simp [body, finish] at matched
    exact ⟨matched.1, rfl⟩

theorem State.takeCue_matched {kind : CueKind} (enabled : (s.sheetOf n).enable = true) (matched : s.cueSlots n id kind ≠ []) :
    s.takeCue n id kind =
      ((s.cueSlots n id kind).foldl (fun u k => u.cueSlot n kind k) s).refreshRequirement n := by
  unfold State.takeCue
  rw [if_pos enabled, if_neg (by simpa using matched)]

/-- R90: an END CUE closes what it matches. -/
theorem State.takeCue_closes (enabled : (s.sheetOf n).enable = true) (matched : s.cueSlots n id .finish ≠ []) :
    s.takeCue n id .finish = (s.closeEach n .none (s.cueSlots n id .finish)).refreshRequirement n :=
  State.takeCue_matched enabled matched

/-- R90, assumption 23: what an END CUE leaves of all the dockets that it closes. -/
theorem State.closeEach_closed {add : VerdictFlags} {ks : List Slot} (distinct : ks.Nodup) (stand : s.StandOpen n ks)
    (carries : s.carries = true) (hk : k ∈ ks) (hs : (s.entry n k).snapshot.isSome = true) :
    let t := (s.closeEach n add ks).refreshRequirement n
    (t.entry n k).state = (if (s.entry n k).context.isSome then .closing else .closed) ∧
      (t.entry n k).closeStamp = some s.feed[n].time ∧ (t.entry n k).flags = (s.entry n k).flags.union add ∧
      SlotHands n k (closeWrites n k t) s t ∧
      ∀ b, (s.entry n k).body = some b → t.sched[n].openSlot b.cls.layer ≠ some k := by
  intro t
  have sched : t.sched = (s.closeEach n add ks).sched := State.refreshRequirement_frame _ n |>.2.2.2.2.1
  obtain ⟨ho, hb⟩ := stand k hk
  obtain ⟨a, eased, closed⟩ := State.closeEach_entry add ks s distinct stand k hk
  obtain ⟨-, body, snapshot, context, flags, -⟩ := eased.fields
  have entry : t.entry n k = a.closedAt true s.feed[n].time add := by
    rw [State.entry_of_sched sched, closed, carries]
  obtain ⟨-, -, -, -, -, closeStamp, flagged⟩ :=
    Entry.closedAt_fields (e := a) (carries := true) (now := s.feed[n].time) (add := add)
  refine ⟨?_, by rw [entry, closeStamp], by rw [entry, flagged, flags], ?_, fun b body => ?_⟩
  · rw [entry, Entry.closedAt_standing _ _ (by rw [body]; exact hb) (by rw [snapshot]; exact hs), context]
    cases (s.entry n k).context <;> rfl
  · have hands := (eased.hands true).trans (Entry.closedAt_hands true s.feed[n].time add a)
    rw [← entry, List.nil_append, ← closeWrites_eq, ← carries] at hands
    exact hands.slotHands
  · rw [sched]
    exact State.closeEach_openSlot add ks s distinct stand (.inl ⟨hk, by rw [body]; rfl⟩)

end

/-- Settles O19: each of the three causes comes down to one close (`State.closeSegment_closed`), a WITHDRAW from the state in which
its word has been read; an END CUE that matches several goes through them one by one (`State.closeEach_entry`). -/
theorem segmentCloses : Obligations.SegmentCloses := by
  refine ⟨fun s n k b c add power ho hb hs carries cause => ?_, fun s n id power carries enabled matched => ?_⟩
  · obtain ⟨t, runs, closed⟩ : ∃ t, exec c s = .next t ∧ SegmentClosed n k b add s t := by
      rcases cause with ⟨id, rfl, only, enabled, rfl⟩ | ⟨rfl, limit, rfl⟩ | ⟨w, rfl, link, posting, posted, withdraw, rfl⟩
      · refine ⟨_, exec_effectOf _ power (by simp), ?_⟩
        rw [show effectOf (.cue n id .finish) s = s.takeCue n id .finish from rfl,
          State.takeCue_closes enabled (by rw [only]; exact nofun), only]
        exact State.closeSegment_closed ho hb hs carries _
      · refine ⟨_, exec_effectOf _ power (by simp), ?_⟩
        rw [show effectOf (.countLimit n k) s = s.takeCountLimit n k from rfl, State.takeCountLimit, if_pos limit]
        exact State.closeSegment_closed ho hb hs carries _
      · refine ⟨_, exec_effectOf _ power (by simp), ?_⟩
        have own : (s.wordRead n k w).entry n k = (s.entry n k).readWord w := by rw [State.wordRead_entry, if_pos rfl]
        rw [show effectOf (.commandWordRead n k w) s = s.readCommandWord n k w from rfl,
          State.readCommandWord_withdraws link ho posting posted withdraw]
        refine SegmentClosed.of_wordRead (State.closeSegment_closed (s := s.wordRead n k w) ?_ ?_ ?_ carries _) hb <;> rw [own]
        · exact ho
        · exact hb
        · exact hs
    obtain ⟨closeStamp, flags, standing, openSlot, caption, inForce, follow, unmatched, hands, loudness, captionFail, pins,
      context, recorder, held, resumed⟩ := closed
    exact ⟨t, runs, closeStamp, flags, standing, openSlot, caption, inForce, follow, unmatched, hands, loudness, captionFail,
      pins, context, recorder, held, resumed⟩
  · intro ks
    have distinct : ks.Nodup := s.cueSlots_nodup n id .finish
    have stand : s.StandOpen n ks := fun k hk => State.mem_cueSlots_finish hk
    obtain ⟨c, hc⟩ : ∃ c, c = s.closeEach n .none ks := ⟨_, rfl⟩
    refine ⟨c.refreshRequirement n, ?_, ?_⟩
    · rw [exec_effectOf _ power (by simp), hc]
      exact congrArg _ (State.takeCue_closes enabled matched)
    · have sched : (c.refreshRequirement n).sched = c.sched := by simp
      have integ : (c.refreshRequirement n).integ = c.integ := by simp
      obtain ⟨unmatched, loudness, shorts, pins⟩ := State.closeEach_announces .none ks s distinct stand carries
      rw [← hc] at unmatched loudness shorts pins
      refine ⟨by rw [sched, unmatched], State.refreshRequirement_inForce c n,
        (State.refreshRequirement_follow c n).of_kept (C := segmentConds) ?_ (by decide), fun k hk hs => ?_, ?_, ?_, ?_, ?_⟩
      · rw [hc]
        exact (s.closeEach_frame .none n ks).2.2
      · rw [hc]
        have closed := State.closeEach_closed (add := .none) distinct stand carries hk hs
        rwa [VerdictFlags.union_none] at closed
      · rw [State.refreshRequirement_raises c n (by decide), loudness]
      · rw [State.refreshRequirement_raises c n (by decide), shorts]
        simp only [closeShort_eq, State.entry_of_sched sched]
      · simp only [closePins_eq, State.entry_of_sched sched]
        rw [sched, pins]
      · intro apart running
        rw [integ, hc]
        exact State.closeEach_queue .none ks s distinct stand apart running

end Sys2Proof.Machine

namespace Sys2Proof.Machine

/-! ### The closes that an opening makes, as a list of closes (R91 step 1, R97) -/

/-- The entry holds an OPEN docket of a layer that ends ON_NEXT. -/
def Entry.endsNext (l : Layer) (e : Entry) : Bool := e.standsOpen l && (e.body.map Body.isOnNext).getD false

theorem Entry.endsNext_iff {e : Entry} {l : Layer} : e.endsNext l = true ↔ e.endsOnNext l := by
  unfold Entry.endsNext Entry.endsOnNext
  rw [Bool.and_eq_true, Entry.standsOpen_iff]
  constructor
  · rintro ⟨⟨ho, b, hb, layer⟩, next⟩
    exact ⟨ho, b, hb, layer, by simpa [hb] using next⟩
  · rintro ⟨ho, b, hb, layer, next⟩
    exact ⟨⟨ho, b, hb, layer⟩, by simpa [hb] using next⟩

theorem Entry.Eased.endsNext {e e' : Entry} (h : e.Eased e') (l : Layer) : e'.endsNext l = e.endsNext l := by
  obtain ⟨state, body, -⟩ := h.fields
  unfold Entry.endsNext Entry.standsOpen
  rw [state, body]

theorem Entry.Eased.standsOpen {e e' : Entry} (h : e.Eased e') (l : Layer) : e'.standsOpen l = e.standsOpen l := by
  obtain ⟨state, body, -⟩ := h.fields
  unfold Entry.standsOpen
  rw [state, body]

/-- The slots whose OPEN dockets of a layer end ON_NEXT. -/
def State.nextEnders (s : State) (n : Svc) (l : Layer) : List Slot :=
  allSlots.filter fun k => (s.entry n k).endsNext l

section
variable {s : State} {n : Svc} {k : Slot} {b : Body} {l : Layer} (add : VerdictFlags)

theorem State.mem_nextEnders : k ∈ s.nextEnders n l ↔ (s.entry n k).endsOnNext l := by
  unfold State.nextEnders
  rw [List.mem_filter, Entry.endsNext_iff]
  simp

theorem State.nextEnders_nodup (s : State) (n : Svc) (l : Layer) : (s.nextEnders n l).Nodup := allSlots_nodup.filter _

theorem State.nextEnders_standOpen (s : State) (n : Svc) (l : Layer) : s.StandOpen n (s.nextEnders n l) := fun k hk => by
  obtain ⟨ho, b, hb, -⟩ := State.mem_nextEnders.mp hk
  exact ⟨ho, by rw [hb]; rfl⟩

theorem State.closeOne_eq (s : State) (n : Svc) (l : Layer) (k : Slot) :
    State.closeOne n l add s k = if (s.entry n k).endsNext l then s.closeSegment n k add else s := by
  unfold State.closeOne Entry.endsNext
  rw [State.standsOpen_entry]
  cases (s.entry n k).standsOpen l <;> simp

theorem State.foldl_closeOne_eq :
    ∀ (ks : List Slot) (s : State), ks.Nodup →
      ks.foldl (State.closeOne n l add) s = s.closeEach n add (ks.filter fun k => (s.entry n k).endsNext l)
  | [], _, _ => rfl
  | k :: ks, s, distinct => by
    obtain ⟨other, distinct⟩ := List.nodup_cons.mp distinct
    rw [List.foldl_cons, State.foldl_closeOne_eq ks _ distinct, State.closeOne_eq, List.filter_cons]
    split
    · rw [State.closeEach_cons]
      refine congrArg _ (List.filter_congr fun j hj => ?_)
      exact (s.closeSegment_eases add n (ne_of_mem_of_not_mem hj other)).endsNext l
    · rfl

/-- R97: the closes of an opening, with the flags of its firing but for CUE_MISSED. -/
theorem State.closeOnNext_eachClosed (s : State) (n : Svc) (l : Layer) (f : Firing) :
    s.closeOnNext n l f = s.closeEach n { f with cueMissed := false }.flags (s.nextEnders n l) := by
  rw [State.closeOnNext_eq, State.foldl_closeOne_eq _ _ _ allSlots_nodup]
  rfl

/-! #### What closes leave of the layer's open slots, the raises and the pool -/

/-- R96: closes of one layer leave the other's open slot alone. -/
theorem State.closeEach_openSlot_other {m : Layer} (other : m ≠ l) :
    ∀ (ks : List Slot) (s : State), ks.Nodup → (∀ k ∈ ks, (s.entry n k).standsOpen l = true) →
      (s.closeEach n add ks).sched[n].openSlot m = s.sched[n].openSlot m
  | [], _, _, _ => rfl
  | k :: ks, s, distinct, stand => by
    obtain ⟨apart, distinct⟩ := List.nodup_cons.mp distinct
    obtain ⟨ho, b, hb, layer⟩ := Entry.standsOpen_iff.mp (stand k List.mem_cons_self)
    have scheduler := State.closeSegment_sched ho hb add
    dsimp only at scheduler
    rw [State.closeEach_cons, State.closeEach_openSlot_other other ks _ distinct fun j hj => ?_]
    · rw [scheduler]
      exact (Sched.setOpen_openSlot s.sched[n] b.cls.layer m _).trans (if_neg (layer ▸ other))
    · rw [(s.closeSegment_eases add n (ne_of_mem_of_not_mem hj apart)).standsOpen l]
      exact stand j (List.mem_cons_of_mem k hj)

/-- R93: no close raises METER_SHORTAGE, nor counts a cue. -/
theorem State.closeEach_shortage :
    ∀ (ks : List Slot) (s : State), ks.Nodup → s.StandOpen n ks →
      (s.closeEach n add ks).raises n .meterShortage = s.raises n .meterShortage ∧
      (s.closeEach n add ks).sched[n].unmatched = s.sched[n].unmatched
  | [], _, _, _ => ⟨rfl, rfl⟩
  | k :: ks, s, distinct, stand => by
    obtain ⟨other, distinct⟩ := List.nodup_cons.mp distinct
    obtain ⟨ho, b, hb⟩ := stand.head
    have scheduler := State.closeSegment_sched ho hb add
    have raises := State.closeSegment_raises ho hb add .meterShortage
    dsimp only at scheduler
    obtain ⟨-, unmatched, -⟩ := s.sched[n].setOpen_fields b.cls.layer (s.leftOpen n b.cls.layer k)
    obtain ⟨shortage, counted⟩ := State.closeEach_shortage ks _ distinct (stand.tail add other)
    rw [State.closeEach_cons, shortage, counted]
    refine ⟨by simpa using raises, ?_⟩
    rw [scheduler]
    exact unmatched

theorem State.resumeOuter_context_cases (s : State) (n : Svc) (y : CtxId) :
    (s.resumeOuter n).pool[y] = s.pool[y].resume ∨ (s.resumeOuter n).pool[y] = s.pool[y] := by
  obtain ⟨resumes, stays⟩ := s.resumeOuter_context n y
  by_cases acts : s.sched[n].openInner = none ∧ ∃ j, (s.entry n j).standsOpen .outer = true ∧ (s.entry n j).context = some y
  · exact .inl (resumes acts)
  · refine .inr (stays ?_)
    rw [not_and_or, not_exists] at acts
    refine acts.imp_left fun some => ?_
    cases h : s.sched[n].openInner with
    | none => exact absurd h some
    | some i => rfl

/-- R51, R53: a context that the closed docket does not hold is resumed at most. -/
theorem State.closeSegment_context_cases (s : State) (n : Svc) (k : Slot) {y : CtxId}
    (other : (s.entry n k).context ≠ some y ∨ ¬ s.pool[y].running) :
    (s.closeSegment n k add).pool[y] = s.pool[y].resume ∨ (s.closeSegment n k add).pool[y] = s.pool[y] := by
  by_cases ho : (s.entry n k).state = .opened
  · cases hb : (s.entry n k).body with
    | none => rw [State.closeSegment_idle (.inr hb)]; exact .inr rfl
    | some b =>
      have left : (s.leaving n k b add).pool[y] = s.pool[y] := by
        rcases Decidable.em ((s.entry n k).context = some y) with own | ne
        · have set : ∀ u : State, (u.leaveLayer n b.cls.layer k).pool = u.pool := by simp
          have idle := other.resolve_left fun ne => ne own
          unfold State.leaving
          rw [set]
          unfold State.closeContextOf State.closeContext
          rw [own]
          dsimp only
          rw [State.modEntry_pool, if_neg (show ¬ (s.pool[y].state = .accumulating ∨ s.pool[y].state = .paused) from idle),
            State.modEntry_pool]
        · exact State.leaving_context_ne add ne
      rw [State.closeSegment_pool_eq ho hb, State.afterLeaving_eq, ← left]
      split
      · exact State.resumeOuter_context_cases _ n y
      · exact .inr rfl
  · rw [State.closeSegment_idle (.inl ho)]; exact .inr rfl

/-- R52: closes neither free nor take a FREE context. -/
theorem State.closeEach_free (s : State) (n : Svc) (ks : List Slot) (y : CtxId) :
    ((s.closeEach n add ks).pool[y].state = .free ↔ s.pool[y].state = .free) := by
  constructor
  · intro free
    by_contra taken
    have moves : PoolMoves s.pool (s.closeEach n add ks).pool :=
      foldl_keeps (fun u => PoolMoves s.pool u.pool) _ (fun u k h => h.trans (u.closeSegment_pool n k add)) ks s (.refl _)
    rcases moves y taken with same | ⟨-, st, fig, hst, same⟩
    · exact taken (same ▸ free)
    · rw [same] at free
      exact hst free
  · refine foldl_keeps (fun u : State => s.pool[y].state = .free → u.pool[y].state = .free) _ (fun u k h free => ?_) ks s id
    have free' := h free
    have idle : ¬ u.pool[y].running := by
      intro running
      rcases running with h | h <;> rw [free'] at h <;> exact nomatch h
    rcases u.closeSegment_context_cases add n k (.inr idle) with same | same
    · rw [same]
      unfold Context.resume
      rw [if_neg (by rw [free']; exact nofun), free']
    · rw [same, free']

/-- R51, R53: a context that no closed docket holds is resumed at most. -/
theorem State.closeEach_context {y : CtxId} :
    ∀ (ks : List Slot) (s : State), ks.Nodup → (∀ k ∈ ks, (s.entry n k).context ≠ some y) →
      (s.closeEach n add ks).pool[y] = s.pool[y].resume ∨ (s.closeEach n add ks).pool[y] = s.pool[y]
  | [], _, _, _ => .inr rfl
  | k :: ks, s, distinct, apart => by
    obtain ⟨other, distinct⟩ := List.nodup_cons.mp distinct
    have rest := State.closeEach_context ks (s.closeSegment n k add) distinct fun j hj => by
      rw [(s.closeSegment_eases add n (ne_of_mem_of_not_mem hj other)).fields.2.2.2.1]
      exact apart j (List.mem_cons_of_mem k hj)
    rw [State.closeEach_cons]
    rcases s.closeSegment_context_cases add n k (.inl (apart k List.mem_cons_self)) with same | same
    · rw [same, Context.resume_idem, or_self] at rest
      exact .inl rest
    · rwa [same] at rest

/-- R94: closes in the outer layer resume nothing. -/
theorem State.closeEach_outer :
    ∀ (ks : List Slot) (s : State), ks.Nodup → (∀ k ∈ ks, (s.entry n k).standsOpen .outer = true) →
      (∀ j, j ∉ ks → (s.closeEach n add ks).entry n j = s.entry n j) ∧
      ∀ y, (∀ k ∈ ks, (s.entry n k).context ≠ some y) → (s.closeEach n add ks).pool[y] = s.pool[y]
  | [], _, _, _ => ⟨fun _ _ => rfl, fun _ _ => rfl⟩
  | k :: ks, s, distinct, stand => by
    obtain ⟨other, distinct⟩ := List.nodup_cons.mp distinct
    obtain ⟨ho, b, hb, layer⟩ := Entry.standsOpen_iff.mp (stand k List.mem_cons_self)
    have outer : ¬ b.cls.layer = .inner := by rw [layer]; exact nofun
    have same : ∀ j, j ≠ k → (s.closeSegment n k add).entry n j = s.entry n j := fun j ne => by
      rw [State.closeSegment_entry_ne add ho hb ne, if_neg fun all => outer all.1]
    have later : ∀ j ∈ ks, (s.closeSegment n k add).entry n j = s.entry n j := fun j hj =>
      same j (ne_of_mem_of_not_mem hj other)
    obtain ⟨entries, contexts⟩ := State.closeEach_outer ks _ distinct fun j hj => by
      rw [later j hj]
      exact stand j (List.mem_cons_of_mem k hj)
    rw [State.closeEach_cons]
    refine ⟨fun j hj => ?_, fun y apart => ?_⟩
    · obtain ⟨ne, rest⟩ := not_or.mp (mt List.mem_cons.mpr hj)
      rw [entries j rest, same j ne]
    · rw [contexts y fun j hj => by rw [later j hj]; exact apart j (List.mem_cons_of_mem k hj),
        State.closeSegment_context_kept ho hb add (apart k List.mem_cons_self) fun inner => absurd inner outer]

end

/-! ### The FREE contexts (R42, R52) -/

/-- Which contexts are FREE says which is claimed next and how many there are. -/
theorem State.freeContext_congr {s t : State} (h : ∀ c : CtxId, t.pool[c].state = .free ↔ s.pool[c].state = .free) :
    t.freeContext = s.freeContext ∧ t.freeCount = s.freeCount := by
  unfold State.freeContext State.freeCount
  simp only [h, and_self]

theorem State.freeContext_none (s : State) : s.freeContext = none ↔ s.freeCount = 0 := by
  unfold State.freeContext State.freeCount
  rw [List.find?_eq_none, List.length_eq_zero_iff, List.filter_eq_nil_iff]

/-- R52: a claim takes one of the FREE contexts. -/
theorem State.freeCount_claimed {s t : State}
    (h : ∀ c : CtxId, t.pool[c].state = .free ↔ s.pool[c].state = .free ∧ s.freeContext ≠ some c) :
    t.freeCount = s.freeCount - 1 := by
  cases claimed : s.freeContext with
  | none =>
    have same : t.freeCount = s.freeCount := (State.freeContext_congr fun c => by rw [h, claimed]; simp).2
    rw [same, s.freeContext_none.mp claimed]
  | some x =>
    have free := State.freeContext_free claimed
    have rest : (allContexts.filter fun c => decide (t.pool[c].state = .free)) =
        (allContexts.filter fun c => decide (s.pool[c].state = .free)).erase x := by
      rw [(allContexts_nodup.filter _).erase_eq_filter, List.filter_filter]
      refine List.filter_congr fun c _ => ?_
      have iff := h c
      rw [claimed, Ne, Option.some.injEq] at iff
      rw [Bool.eq_iff_iff, decide_eq_true_iff, iff, Bool.and_eq_true, bne_iff_ne, decide_eq_true_iff, and_comm, Ne, eq_comm]
    have mem : x ∈ allContexts.filter fun c => decide (s.pool[c].state = .free) := by simpa using free
    unfold State.freeCount
    rw [rest, List.length_erase_of_mem mem]

end Sys2Proof.Machine

namespace Sys2Proof.Machine

/-! ### One opening, part by part (R91 to R94) -/

section
variable {s : State} {n : Svc} {k : Slot} {b : Body} (f : Firing)

/-- R91 steps 3 to 5: the docket stands OPEN with its context, before it pauses the outer layer. -/
def State.entered (s : State) (n : Svc) (k : Slot) (b : Body) (f : Firing) : State :=
  let sn := (s.sheetOf n).snapshot b
  let paused := s.opensPaused n b
  let t := s.claimFor n k sn paused
  let t := t.modEntry n k fun e =>
    { e with snapshot := some sn, openStamp := some t.feed[n].time, state := .opened,
             tally := { Tally.zero with paused := paused, required := sn.required, permille := sn.permille },
             flags := (e.flags.union f.flags).union (if paused then .ofPaused else .none) }
  t.modSched n fun c => c.setOpen b.cls.layer (some k)

theorem State.opened_eq (s : State) (n : Svc) (k : Slot) (b : Body) :
    s.opened n k b f = if b.cls.layer = .inner then (s.entered n k b f).pauseOuter n else s.entered n k b f := rfl

theorem State.entered_entry (s : State) (n : Svc) (k : Slot) (b : Body) (j : Slot) :
    (s.entered n k b f).entry n j =
      if j = k then
        (s.entry n k).opening ((s.sheetOf n).snapshot b) s.freeContext (s.opensPaused n b) f s.feed[n].time
      else s.entry n j := by
  have set : ∀ u : State, (u.modSched n fun c => c.setOpen b.cls.layer (some k)).entry n j = u.entry n j := fun u =>
    State.modSched_entry _ _ _ _ _ fun c => by cases b.cls.layer <;> rfl
  have feed : (s.claimFor n k ((s.sheetOf n).snapshot b) (s.opensPaused n b)).feed = s.feed := by simp
  unfold State.entered
  dsimp only
  rw [set, State.modEntry_get, State.claimFor_entry, State.claimFor_entry, if_pos rfl, feed]
  split <;> rfl

theorem State.claimFor_entriesOnly (s : State) (n : Svc) (k : Slot) (sn : Snapshot) (paused : Bool) :
    EntriesOnly n s (s.claimFor n k sn paused) := by
  unfold State.claimFor
  split
  · exact EntriesOnly.trans (.of_sched (by simp)) (State.modEntry_entriesOnly _ n k _)
  · exact (s.modEntry_entriesOnly n k fun e => { e with context := none, flags := e.flags.union .ofNoMeter }).trans
      (.of_sched (by simp))

theorem State.entered_sched (s : State) (n : Svc) (k : Slot) (b : Body) :
    (s.entered n k b f).sched[n] =
      { s.sched[n].setOpen b.cls.layer (some k) with entries := (s.entered n k b f).sched[n].entries } := by
  have entries : ∀ g, EntriesOnly n s ((s.claimFor n k ((s.sheetOf n).snapshot b) (s.opensPaused n b)).modEntry n k g) :=
    fun g => (s.claimFor_entriesOnly n k _ _).trans (State.modEntry_entriesOnly _ n k g)
  unfold State.entered
  dsimp only
  rw [State.modSched_sched, upd_get, if_pos rfl, entries]
  cases b.cls.layer <;> rfl

theorem State.claimFor_panel (s : State) (n : Svc) (k : Slot) (sn : Snapshot) (paused : Bool) (c : SvcCond) :
    (s.claimFor n k sn paused).raises n c =
      s.raises n c + if c = .meterShortage ∧ s.freeContext = none then 1 else 0 := by
  unfold State.claimFor
  cases claimed : s.freeContext with
  | some x => exact (State.raises_of_panel (s := s) (by simp) c).trans (by simp)
  | none =>
    dsimp only
    rw [State.raise_raises_service, State.raises_of_panel (s := s) (by simp)]
    simp

theorem State.entered_raises (s : State) (n : Svc) (k : Slot) (b : Body) (c : SvcCond) :
    (s.entered n k b f).raises n c = s.raises n c + if c = .meterShortage ∧ s.freeContext = none then 1 else 0 := by
  rw [← s.claimFor_panel n k ((s.sheetOf n).snapshot b) (s.opensPaused n b)]
  exact State.raises_of_panel (by simp [State.entered]) c

/-- R52: the first FREE context is claimed, and no other is touched. -/
theorem State.claimFor_pool_get (s : State) (n : Svc) (k : Slot) (sn : Snapshot) (paused : Bool) (y : CtxId) :
    (s.claimFor n k sn paused).pool[y] =
      if s.freeContext = some y then Context.claimed ⟨n, k, (s.entry n k).posting⟩ sn paused else s.pool[y] := by
  unfold State.claimFor
  cases claimed : s.freeContext with
  | some x =>
    dsimp only
    rw [State.modEntry_pool]
    unfold State.claim
    rw [State.modPool_pool, upd_get]
    by_cases own : y = x
    · rw [if_pos own, if_pos (by rw [own])]
    · rw [if_neg own, if_neg fun same => own (Option.some.inj same).symm]
  | none =>
    have pool : ∀ u : State, (u.raise n .meterShortage).pool = u.pool := by simp
    dsimp only
    rw [pool, State.modEntry_pool, if_neg nofun]

theorem State.entered_pool (s : State) (n : Svc) (k : Slot) (b : Body) (y : CtxId) :
    (s.entered n k b f).pool[y] =
      if s.freeContext = some y then
        Context.claimed ⟨n, k, (s.entry n k).posting⟩ ((s.sheetOf n).snapshot b) (s.opensPaused n b)
      else s.pool[y] := by
  rw [← s.claimFor_pool_get]
  have pool : (s.entered n k b f).pool = (s.claimFor n k ((s.sheetOf n).snapshot b) (s.opensPaused n b)).pool := by
    simp [State.entered]
  rw [pool]

theorem State.pauseOuter_context_cases (s : State) (n : Svc) (y : CtxId) :
    (s.pauseOuter n).pool[y] = s.pool[y].pause ∨ (s.pauseOuter n).pool[y] = s.pool[y] := by
  obtain ⟨pauses, stays⟩ := s.pauseOuter_context n y
  by_cases acts : ∃ j, (s.entry n j).standsOpen .outer = true ∧ (s.entry n j).context = some y ∧
      ((s.entry n j).body.map Body.includeInner).getD false = false
  · exact .inl (pauses acts)
  · exact .inr (stays (not_exists.mp acts))

theorem Context.pause_free (x : Context) : x.pause.state = .free ↔ x.state = .free := by
  unfold Context.pause
  by_cases acc : x.state = .accumulating <;> simp [acc]

theorem Context.claimed_state (owner : Owner) (sn : Snapshot) (paused : Bool) :
    (Context.claimed owner sn paused).state = if paused then .paused else .accumulating := rfl

/-- R52: an opening takes the context that it claims, and no other. -/
theorem State.opened_free (s : State) (n : Svc) (k : Slot) (b : Body) (y : CtxId) :
    ((s.opened n k b f).pool[y].state = .free ↔ s.pool[y].state = .free ∧ s.freeContext ≠ some y) := by
  have entered : ((s.entered n k b f).pool[y].state = .free ↔ s.pool[y].state = .free ∧ s.freeContext ≠ some y) := by
    rw [State.entered_pool]
    split
    · next claimed =>
      rw [Context.claimed_state]
      simp only [claimed, ne_eq, not_true_eq_false, and_false, iff_false]
      split <;> exact nofun
    · next other => simp [other]
  rw [State.opened_eq, ← entered]
  split
  · rcases State.pauseOuter_context_cases (s.entered n k b f) n y with same | same
    · rw [same, Context.pause_free]
    · rw [same]
  · rfl

/-- R91, R93: the parts of an opening that its pauses leave alone. -/
theorem State.opened_sched (s : State) (n : Svc) (k : Slot) (b : Body) :
    (s.opened n k b f).sched[n] =
      { s.sched[n].setOpen b.cls.layer (some k) with entries := (s.opened n k b f).sched[n].entries } := by
  have paused : EntriesOnly n (s.entered n k b f) (s.opened n k b f) := by
    rw [State.opened_eq]
    split
    · exact State.pauseOuter_entriesOnly _ n
    · exact .refl n _
  rw [paused, State.entered_sched]

theorem State.opened_raises (s : State) (n : Svc) (k : Slot) (b : Body) (c : SvcCond) :
    (s.opened n k b f).raises n c = s.raises n c + if c = .meterShortage ∧ s.freeContext = none then 1 else 0 := by
  rw [← s.entered_raises f n k b c]
  refine State.raises_of_panel ?_ c
  rw [State.opened_eq]
  split <;> simp

/-- R94: what an inner opening pauses. -/
theorem State.opened_entry_ne (s : State) (n : Svc) (k : Slot) (b : Body) {j : Slot} (other : j ≠ k) :
    (s.opened n k b f).entry n j =
      if b.cls.layer = .inner ∧ (s.entry n j).standsOpen .outer = true then (s.entry n j).held else s.entry n j := by
  have same : (s.entered n k b f).entry n j = s.entry n j := by rw [State.entered_entry, if_neg other]
  rw [State.opened_eq]
  by_cases inner : b.cls.layer = .inner
  · rw [if_pos inner, State.pauseOuter_entry, same]
    simp [inner]
  · rw [if_neg inner, same, if_neg fun all => inner all.1]

/-- R50: the contexts that an inner opening pauses. -/
theorem State.opened_context (s : State) (n : Svc) (k : Slot) {b : Body} (hb : (s.entry n k).body = some b) (y : CtxId) :
    let acts := fun e : Entry =>
      e.standsOpen .outer = true ∧ e.context = some y ∧ (e.body.map Body.includeInner).getD false = false
    (b.cls.layer = .inner → (∃ j, j ≠ k ∧ acts (s.entry n j)) →
      (s.opened n k b f).pool[y] = (s.entered n k b f).pool[y].pause) ∧
    ((b.cls.layer = .outer ∨ ∀ j, j ≠ k → ¬ acts (s.entry n j)) →
      (s.opened n k b f).pool[y] = (s.entered n k b f).pool[y]) := by
  intro acts
  obtain ⟨pauses, stays⟩ := (s.entered n k b f).pauseOuter_context n y
  have same : ∀ j, j ≠ k → (s.entered n k b f).entry n j = s.entry n j := fun j other => by
    rw [State.entered_entry, if_neg other]
  rw [State.opened_eq]
  refine ⟨fun inner ⟨j, other, ha⟩ => ?_, fun none => ?_⟩
  · rw [if_pos inner]
    exact pauses ⟨j, by rw [same j other]; exact ha⟩
  · split
    · next inner =>
      refine stays fun j => ?_
      by_cases own : j = k
      · subst own
        rw [State.entered_entry, if_pos rfl]
        intro ha
        have layer := ha.1
        rw [Entry.standsOpen_of_body (b := b) (by exact hb), inner] at layer
        simp at layer
      · rw [same j own]
        exact (none.resolve_left fun outer => by rw [inner] at outer; exact nomatch outer) j own
    · rfl

end

end Sys2Proof.Machine

namespace Sys2Proof.Machine

/-! ### A START CUE's opening (R90, R91) -/

/-- The entry holds an OPEN outer docket with a context, which an inner opening pauses. -/
def Entry.pausesWith (y : CtxId) (e : Entry) : Prop :=
  e.standsOpen .outer = true ∧ e.context = some y ∧ (e.body.map Body.includeInner).getD false = false

theorem Entry.Eased.pausesWith {e e' : Entry} (h : e.Eased e') (y : CtxId) : e'.pausesWith y ↔ e.pausesWith y := by
  obtain ⟨-, body, -, context, -⟩ := h.fields
  unfold Entry.pausesWith
  rw [h.standsOpen, body, context]

section
variable {s : State} {n : Svc} {k : Slot} {b : Body} (hb : (s.entry n k).body = some b) (ho : (s.entry n k).state ≠ .opened)

theorem State.readyToOpen_plain (s : State) (n : Svc) (b : Body) :
    s.readyToOpen n b Firing.plain = s.closeEach n .none (s.nextEnders n b.cls.layer) :=
  s.closeOnNext_eachClosed n b.cls.layer Firing.plain

/-- R91 step 1: an entry that does not close before the opening is eased at most, and in the outer layer as before. -/
theorem State.readyToOpen_eases {j : Slot} (stays : ¬ (s.entry n j).endsOnNext b.cls.layer) :
    (s.entry n j).Eased ((s.readyToOpen n b Firing.plain).entry n j) ∧
      (b.cls.layer = .outer ∨ s.nextEnders n b.cls.layer = [] →
        (s.readyToOpen n b Firing.plain).entry n j = s.entry n j) := by
  have other : j ∉ s.nextEnders n b.cls.layer := mt State.mem_nextEnders.mp stays
  rw [State.readyToOpen_plain]
  refine ⟨State.closeEach_eases .none n _ s other, ?_⟩
  rintro (outer | none)
  · refine (State.closeEach_outer .none _ s (s.nextEnders_nodup n _) fun i hi => ?_).1 j other
    obtain ⟨opened, o, body, layer, -⟩ := State.mem_nextEnders.mp hi
    exact Entry.standsOpen_iff.mpr ⟨opened, o, body, layer.trans outer⟩
  · rw [none]
    rfl

/-- R91 step 1: the closes leave which contexts are FREE. -/
theorem State.readyToOpen_free (s : State) (n : Svc) (b : Body) :
    (∀ y : CtxId, (s.readyToOpen n b Firing.plain).pool[y].state = .free ↔ s.pool[y].state = .free) ∧
      (s.readyToOpen n b Firing.plain).freeContext = s.freeContext := by
  rw [State.readyToOpen_plain]
  have free := s.closeEach_free (n := n) .none (s.nextEnders n b.cls.layer)
  exact ⟨free, (State.freeContext_congr free).1⟩

/-- R94: the closes leave whether the docket opens paused. -/
theorem State.readyToOpen_opensPaused (s : State) (n : Svc) (b : Body) :
    (s.readyToOpen n b Firing.plain).opensPaused n b = s.opensPaused n b := by
  unfold State.opensPaused
  by_cases outer : b.cls.layer = .outer
  · have inner : (s.readyToOpen n b Firing.plain).sched[n].openInner = s.sched[n].openInner := by
      rw [State.readyToOpen_plain]
      refine State.closeEach_openSlot_other (l := b.cls.layer) (m := .inner) .none (by rw [outer]; exact nofun) _ s
        (s.nextEnders_nodup n _) fun i hi => ?_
      obtain ⟨opened, o, body, layer, -⟩ := State.mem_nextEnders.mp hi
      exact Entry.standsOpen_iff.mpr ⟨opened, o, body, layer⟩
    rw [inner]
  · simp [outer]

include hb ho

/-- R91 to R93: the entry that the opening opens. -/
theorem State.openSegment_own :
    (s.openSegment n k Firing.plain).entry n k =
      ((s.entry n k).opening ((s.sheetOf n).snapshot b) s.freeContext (s.opensPaused n b) Firing.plain s.feed[n].time).hand
        s.carries (.standing .opened (s.entry n k).posting) := by
  rw [State.openSegment_entry_own hb ho, (s.readyToOpen_free n b).2, s.readyToOpen_opensPaused]

/-- The opening through its writes: the parts that a write leaves alone. -/
theorem State.openSegment_through (f : Firing) :
    let r := s.readyToOpen n b f
    let u := s.openSegment n k f
    r.entry n k = s.entry n k ∧ (∀ j, j ≠ k → u.entry n j = (r.opened n k b f).entry n j) ∧
      EntriesOnly n (r.opened n k b f) u ∧ u.pool = (r.opened n k b f).pool ∧
      u.panel = (r.opened n k b f).panel := by
  intro r u
  have hu : u = (r.opened n k b f).writeStanding n k := State.openSegment_body hb _
  refine ⟨(s.closeOnNext_entry n b.cls.layer f k).of_not_open ho, fun j other => ?_, ?_, ?_, ?_⟩
  · rw [hu, State.writeStanding_entry, if_neg other]
  · rw [hu]
    exact State.pushWrite_entriesOnly _ n k _
  · rw [hu]
    simp
  · rw [hu]
    simp

/-- R91 step 1, R97: an OPEN docket of the layer that ends ON_NEXT closes at service time, with the flags of the firing. -/
theorem State.openSegment_closed (f : Firing) {j : Slot} (next : (s.entry n j).endsOnNext b.cls.layer) :
    ∃ a, (s.entry n j).Eased a ∧
      (s.openSegment n k f).entry n j = a.closedAt s.carries s.feed[n].time { f with cueMissed := false }.flags := by
  have other : j ≠ k := by
    rintro rfl
    exact ho next.1
  obtain ⟨-, entries, -⟩ := State.openSegment_through hb ho f
  obtain ⟨a, eased, closed⟩ := State.closeEach_entry { f with cueMissed := false }.flags _ s (s.nextEnders_nodup n _)
    (s.nextEnders_standOpen n _) j (State.mem_nextEnders.mpr next)
  have ready : s.readyToOpen n b f = _ := s.closeOnNext_eachClosed n b.cls.layer f
  rw [← ready] at closed
  refine ⟨a, eased, ?_⟩
  rw [entries j other, State.opened_entry_ne _ _ n k b other, closed, if_neg ?_]
  intro all
  exact Entry.closedAt_not_open _ _ _ _ (Entry.standsOpen_iff.mp all.2).1

/-- R94: what the opening leaves of a docket that it neither opens nor closes. -/
theorem State.openSegment_leaves {j : Slot} (other : j ≠ k) (stays : ¬ (s.entry n j).endsOnNext b.cls.layer) :
    ∃ a, (s.entry n j).Eased a ∧ (b.cls.layer = .outer ∨ s.nextEnders n b.cls.layer = [] → a = s.entry n j) ∧
      (s.openSegment n k Firing.plain).entry n j =
        if b.cls.layer = .inner ∧ (s.entry n j).standsOpen .outer = true then a.held else a := by
  obtain ⟨-, entries, -⟩ := State.openSegment_through hb ho Firing.plain
  obtain ⟨eased, same⟩ := State.readyToOpen_eases stays
  refine ⟨_, eased, same, ?_⟩
  rw [entries j other, State.opened_entry_ne _ _ n k b other, eased.standsOpen]

/-- R91: the open slots after the opening. -/
theorem State.openSegment_openSlot (l : Layer) :
    (s.openSegment n k Firing.plain).sched[n].openSlot l =
      if l = b.cls.layer then some k else s.sched[n].openSlot l := by
  obtain ⟨-, -, written, -⟩ := State.openSegment_through hb ho Firing.plain
  have opened : (s.openSegment n k Firing.plain).sched[n].openSlot l =
      ((s.readyToOpen n b Firing.plain).sched[n].setOpen b.cls.layer (some k)).openSlot l := by
    rw [written, State.opened_sched]
    cases l <;> rfl
  rw [opened, Sched.setOpen_openSlot]
  split
  · rfl
  · next other =>
    rw [State.readyToOpen_plain]
    refine State.closeEach_openSlot_other .none other _ s (s.nextEnders_nodup n _) fun i hi => ?_
    obtain ⟨stands, o, body, layer, -⟩ := State.mem_nextEnders.mp hi
    exact Entry.standsOpen_iff.mpr ⟨stands, o, body, layer⟩

/-- R90, R93: the counts of cues and of raised shortages after the opening. -/
theorem State.openSegment_counts :
    (s.openSegment n k Firing.plain).sched[n].unmatched = s.sched[n].unmatched ∧
      (s.openSegment n k Firing.plain).raises n .meterShortage =
        s.raises n .meterShortage + if s.freeCount = 0 then 1 else 0 := by
  obtain ⟨-, -, written, -, panel⟩ := State.openSegment_through hb ho Firing.plain
  obtain ⟨shortage, unmatched⟩ := State.closeEach_shortage .none _ s (s.nextEnders_nodup n b.cls.layer)
    (s.nextEnders_standOpen n b.cls.layer)
  rw [← State.readyToOpen_plain] at shortage unmatched
  refine ⟨?_, ?_⟩
  · rw [written, State.opened_sched, ← unmatched]
    exact ((s.readyToOpen n b Firing.plain).sched[n].setOpen_fields b.cls.layer (some k)).2.1
  · rw [State.raises_of_panel panel, State.opened_raises, shortage, (s.readyToOpen_free n b).2]
    simp only [true_and, s.freeContext_none]

/-- R52: the opening takes the first FREE context, and no other. -/
theorem State.openSegment_free (y : CtxId) :
    ((s.openSegment n k Firing.plain).pool[y].state = .free ↔ s.pool[y].state = .free ∧ s.freeContext ≠ some y) := by
  obtain ⟨-, -, -, pool, -⟩ := State.openSegment_through hb ho Firing.plain
  obtain ⟨free, claimed⟩ := s.readyToOpen_free n b
  rw [pool, State.opened_free, free, claimed]

theorem State.openSegment_onward (f : Firing) : Onward n s (s.openSegment n k f) := by
  obtain ⟨own, -⟩ := State.openSegment_through hb ho f
  rw [State.openSegment_body hb]
  refine Onward.trans ?_ ((State.opened_onward _ n (own.symm ▸ hb) _).trans (State.writeStanding_onward _ n k))
  rw [show s.readyToOpen n b f = _ from s.closeOnNext_eachClosed n b.cls.layer f]
  exact foldl_keeps (Onward n s) _ (fun u i h => h.trans (u.closeSegment_onward n i _)) _ s (.refl n s)

/-- R53, R150: the segment of each docket that the opening closes has ended. -/
theorem State.openSegment_ends (f : Firing) {j : Slot} {o : Body} (hj : (s.entry n j).state = .opened)
    (body : (s.entry n j).body = some o) (layer : o.cls.layer = b.cls.layer) (next : o.isOnNext = true) :
    ClosesWith n j o f s (s.openSegment n k f) := by
  obtain ⟨own, entries, -⟩ := State.openSegment_through hb ho f
  have closes := State.closeOnNext_closes hj body next f
  rw [layer] at closes
  have other : j ≠ k := by
    rintro rfl
    exact ho hj
  refine closes.after (u := s.openSegment n k f) ?_ ?_
  · rw [State.openSegment_body hb]
    exact (State.opened_onward _ n (own.symm ▸ hb) _).trans (State.writeStanding_onward _ n k)
  · rw [entries j other]
    refine ((s.readyToOpen n b f).opened_entry_other n other b f).eq_of_not_open ?_
    rcases closes.state with state | state
    · exact fun opened => nomatch state.symm.trans opened
    · exact fun opened => nomatch state.symm.trans opened

/-! #### The contexts of an opening (R50, R52, R94) -/

/-- The context of a docket that the opening pauses is paused, as it stood when the docket had its own. -/
theorem State.openSegment_context (y : CtxId) :
    let r := s.readyToOpen n b Firing.plain
    let held := if s.freeContext = some y then
        Context.claimed ⟨n, k, (s.entry n k).posting⟩ ((s.sheetOf n).snapshot b) (s.opensPaused n b)
      else r.pool[y]
    (b.cls.layer = .inner → (∃ j, (s.entry n j).pausesWith y) → (s.openSegment n k Firing.plain).pool[y] = held.pause) ∧
    ((b.cls.layer = .outer ∨ ∀ j, ¬ (s.entry n j).pausesWith y) → (s.openSegment n k Firing.plain).pool[y] = held) := by
  intro r held
  obtain ⟨own, -, -, pool, -⟩ := State.openSegment_through hb ho Firing.plain
  obtain ⟨pauses, stays⟩ := State.opened_context Firing.plain r n k (own.symm ▸ hb) y
  have sheet : r.sheetOf n = s.sheetOf n := by simp [r, State.readyToOpen, State.sheetOf]
  have entered : (r.entered n k b Firing.plain).pool[y] = held := by
    rw [State.entered_pool, (s.readyToOpen_free n b).2, own, sheet, s.readyToOpen_opensPaused]
  rw [entered] at pauses stays
  have not_next : ∀ j, b.cls.layer = .inner → (s.entry n j).standsOpen .outer = true →
      ¬ (s.entry n j).endsOnNext b.cls.layer := by
    rintro j inner stands ⟨-, o, body, layer, -⟩
    obtain ⟨-, p, hp, outer⟩ := Entry.standsOpen_iff.mp stands
    rw [body] at hp
    rw [Option.some.inj hp, outer, inner] at layer
    exact nomatch layer
  rw [pool]
  refine ⟨fun inner ⟨j, acts⟩ => ?_, fun none => ?_⟩
  · have other : j ≠ k := by
      rintro rfl
      exact ho (Entry.standsOpen_iff.mp acts.1).1
    exact pauses inner ⟨j, other, ((State.readyToOpen_eases (not_next j inner acts.1)).1.pausesWith y).mpr acts⟩
  · refine stays (none.imp_right fun none j other acts => ?_)
    by_cases next : (s.entry n j).endsOnNext b.cls.layer
    · obtain ⟨a, -, closed⟩ := State.closeEach_entry .none _ s (s.nextEnders_nodup n _) (s.nextEnders_standOpen n _) j
        (State.mem_nextEnders.mpr next)
      have stands := acts.1
      rw [show r = _ from State.readyToOpen_plain s n b, closed] at stands
      exact Entry.closedAt_not_open _ _ _ _ (Entry.standsOpen_iff.mp stands).1
    · exact none j (((State.readyToOpen_eases next).1.pausesWith y).mp acts)

/-- R52, R93: the claimed context is fresh and the docket's own. -/
theorem State.openSegment_claims {y : CtxId} (claimed : s.freeContext = some y) :
    let x := (s.openSegment n k Firing.plain).pool[y]
    x.owner = some ⟨n, k, (s.entry n k).posting⟩ ∧ x.momentary = 0 ∧ x.histogram = [] ∧ x.acc = Accumulator.fresh := by
  intro x
  obtain ⟨pauses, stays⟩ := State.openSegment_context hb ho y
  rw [if_pos claimed] at pauses stays
  have pause : ∀ c : Context, c.pause = c ∨ c.pause = { c with state := .paused, acc := Accumulator.fresh } := fun c => by
    unfold Context.pause
    split
    · exact .inr rfl
    · exact .inl rfl
  by_cases acts : b.cls.layer = .inner ∧ ∃ j, (s.entry n j).pausesWith y
  · rw [show x = _ from pauses acts.1 acts.2]
    rcases pause (Context.claimed ⟨n, k, (s.entry n k).posting⟩ ((s.sheetOf n).snapshot b) (s.opensPaused n b)) with
      same | same <;> rw [same] <;> exact ⟨rfl, rfl, rfl, rfl⟩
  · rw [show x = _ from stays ?_]
    · exact ⟨rfl, rfl, rfl, rfl⟩
    · rw [not_and_or, not_exists] at acts
      refine acts.imp_left fun other => ?_
      cases layer : b.cls.layer with
      | outer => rfl
      | inner => exact absurd layer other

end

end Sys2Proof.Machine

namespace Sys2Proof.Machine

/-! ### START CUE (R90 to R94) -/

/-- R53, R150: what has ended by the time the requirement is taken afresh has ended as the obligations read it. -/
theorem SegmentEnded.segmentEnds {n : Svc} {k : Slot} {b : Body} {s u t : State} (ended : SegmentEnded n k b s u)
    (moves : PoolMoves s.pool u.pool) (pool : t.pool = u.pool) (integ : t.integ = u.integ) (recorder : t.recorder = u.recorder) :
    SegmentEnds n k b (s.sheetOf n) s t := by
  refine ⟨fun x hx running => ?_, fun last hl => ?_⟩
  · obtain ⟨closing, figures, q, r, hr⟩ := ended.context x hx
    obtain ⟨histogram, momentary⟩ := (moves x).counts (by rcases running with h | h <;> rw [h] <;> decide)
    have queue : t.integ.queue = s.integ.queue ++ (q ++ x :: r) := by
      rw [integ, ← hr]
      simp
    rw [pool, queue]
    exact ⟨closing, by simp, by simp, figures, histogram, momentary⟩
  · have taken := ended.mark last hl
    unfold MarkTaken at taken
    rwa [← recorder] at taken

/-- R93: the flags of a docket that an opening with no flag of the firing opens. -/
theorem Entry.opening_flags (sn : Snapshot) (ctx : Option CtxId) (paused : Bool) (now : Nat) (e : Entry) :
    (e.opening sn ctx paused Firing.plain now).flags =
      { e.flags with noMeter := e.flags.noMeter || ctx.isNone, paused := e.flags.paused || paused } := by
  cases ctx <;> cases paused <;>
    simp [Entry.opening, VerdictFlags.union, VerdictFlags.ofNoMeter, VerdictFlags.ofPaused, VerdictFlags.none, Firing.flags,
      Firing.plain]

theorem Entry.Eased.adjusts {e e' : Entry} (h : e.Eased e') : e.Adjusts e' := by
  rcases h with rfl | ⟨ho, rfl⟩
  · exact .refl _
  · exact .inr ⟨ho, false, e.flags.paused, rfl⟩

theorem Entry.held_adjusts {e : Entry} (ho : e.state = .opened) : e.Adjusts e.held := by
  unfold Entry.held
  split
  · exact .refl e
  · refine .inr ⟨ho, true, true, ?_⟩
    simp [Entry.adjusted, VerdictFlags.union, VerdictFlags.ofPaused, VerdictFlags.none]

/-- R97: a docket closed with no flag of the close, as its entry stood when its turn came. -/
theorem Entry.Adjusts.closed {e a e' : Entry} {carries : Bool} {now : Nat} (h : e.Adjusts a)
    (closed : e' = a.closedAt carries now .none) (hb : e.body.isSome = true) (hs : e.snapshot.isSome = true) :
    e'.state = (if e.context.isNone && carries then .closed else .closing) ∧ e'.closeStamp = some now ∧
      e'.flags = a.flags ∧ e.Hands carries e'.closeWrites e' := by
  obtain ⟨-, -, -, -, -, closeStamp, flags⟩ := Entry.closedAt_fields (e := a) (carries := carries) (now := now) (add := .none)
  have standing := Entry.closedAt_standing (carries := carries) (e := a) now .none
  have hands := (h.hands carries).trans (a.closedAt_hands carries now .none)
  have same : a.body = e.body ∧ a.snapshot = e.snapshot ∧ a.context = e.context := by
    obtain rfl | ⟨-, p, q, rfl⟩ := h <;> exact ⟨rfl, rfl, rfl⟩
  rw [same.1, same.2.1, same.2.2] at standing
  rw [closed]
  exact ⟨standing hb hs, closeStamp, by rw [flags, VerdictFlags.union_none], hands⟩

section
variable {s : State} {n : Svc} {id : BitVec 16} {k : Slot} {b : Body}

/-- R90: a START CUE matches ARMED dockets alone. -/
theorem State.mem_cueSlots_start (h : k ∈ s.cueSlots n id .start) : (s.entry n k).state = .armed := by
  unfold State.cueSlots at h
  have matched := (List.mem_filter.mp h).2
  cases body : (s.entry n k).body with
  | none => simp [body] at matched
  | some b =>
    cases start : b.start <;> simp [body, start] at matched
    exact matched.1

theorem State.freeContext_isNone (s : State) : s.freeContext.isNone = decide (s.freeCount = 0) := by
  rw [Bool.eq_iff_iff, Option.isNone_iff_eq_none, s.freeContext_none, decide_eq_true_iff]

/-- What the entry of an opened docket holds (R91 to R93). -/
theorem Entry.opened_fields {e o : Entry} {sn : Snapshot} {ctx : Option CtxId} {paused carries : Bool} {now : Nat}
    (h : o = (e.opening sn ctx paused Firing.plain now).hand carries (.standing .opened e.posting)) :
    o.state = .opened ∧ o.posting = e.posting ∧ o.body = e.body ∧ o.openStamp = some now ∧ o.snapshot = some sn ∧
      o.tally.counted = 0 ∧ o.tally.mismatches = 0 ∧ o.tally.paused = paused ∧ o.context = ctx ∧
      o.flags = { e.flags with noMeter := e.flags.noMeter || ctx.isNone, paused := e.flags.paused || paused } ∧
      e.Hands carries [.standing .opened e.posting] o := by
  have opened : e.Hands carries [] (e.opening sn ctx paused Firing.plain now) := .of_same carries rfl rfl rfl
  have hands := opened.trans (Entry.hand_hands carries (.standing .opened e.posting) _)
  rw [← h] at hands
  refine ⟨?_, ?_, ?_, ?_, ?_, ?_, ?_, ?_, ?_, ?_, hands⟩ <;> rw [h]
  case refine_10 => rw [Entry.hand_flags, Entry.opening_flags]
  all_goals simp [Entry.opening, Tally.zero]

end

/-! #### The cue that matches one docket -/

section
variable {s : State} {n : Svc} {k : Slot} {b : Body} (hb : (s.entry n k).body = some b) (ho : (s.entry n k).state ≠ .opened)
include hb ho

/-- R91 step 1, R97: what the opening leaves of each docket of its layer that stands OPEN and ends ON_NEXT. -/
theorem State.openSegment_closesNext {t : State} (sched : t.sched = (s.openSegment n k Firing.plain).sched)
    (pool : t.pool = (s.openSegment n k Firing.plain).pool) (integ : t.integ = (s.openSegment n k Firing.plain).integ)
    (recorder : t.recorder = (s.openSegment n k Firing.plain).recorder) {j : Slot} {o : Body}
    (hj : (s.entry n j).state = .opened) (body : (s.entry n j).body = some o) (layer : o.cls.layer = b.cls.layer)
    (next : o.isOnNext = true) (hs : (s.entry n j).snapshot.isSome = true) :
    (t.entry n j).state = (if (s.entry n j).context.isNone && s.carries then .closed else .closing) ∧
      (t.entry n j).closeStamp = some s.feed[n].time ∧ (t.entry n j).flags = (s.entry n j).flags ∧
      SlotHands n j (closeWrites n j t) s t ∧ (QueueSound s → SegmentEnds n j o (s.sheetOf n) s t) := by
  obtain ⟨a, eased, closed⟩ := State.openSegment_closed hb ho Firing.plain ⟨hj, o, body, layer, next⟩
  rw [← State.entry_of_sched sched] at closed
  obtain ⟨standing, closeStamp, flags, hands⟩ := eased.adjusts.closed closed (by rw [body]; rfl) hs
  refine ⟨standing, closeStamp, flags.trans eased.fields.2.2.2.2.1, hands.slotHands, fun sound => ?_⟩
  exact ((State.openSegment_ends hb ho Firing.plain hj body layer next).ended (sound.openOwn n)).segmentEnds
    (State.openSegment_onward hb ho Firing.plain).moves pool integ recorder

omit hb ho in
/-- R94: in sound dockets an inner opening under no open inner segment closes none. -/
theorem State.nextEnders_nil (sound : DocketsSound s) (none : s.sched[n].openInner = none) : s.nextEnders n .inner = [] := by
  unfold State.nextEnders
  rw [List.filter_eq_nil_iff]
  intro j _ next
  obtain ⟨hj, o, body, layer, -⟩ := Entry.endsNext_iff.mp next
  obtain ⟨-, -, -, stands, -⟩ := sound n
  obtain ⟨p, hp, isSome⟩ := stands j hj
  rw [body] at hp
  rw [← Option.some.inj hp, layer] at isSome
  have shut : s.sched[n].openSlot .inner = Option.none := none
  rw [shut] at isSome
  exact nomatch isSome

/-- R94: the context of a docket, no other docket's, that an inner opening does not pause. -/
theorem State.openSegment_includes (quiet : s.nextEnders n b.cls.layer = []) {j : Slot}
    {o : Body} (hj : (s.entry n j).state = .opened) (body : (s.entry n j).body = some o) (includes : o.includeInner = true) :
    (s.openSegment n k Firing.plain).entry n j = s.entry n j ∧
      ∀ x : CtxId, (s.entry n j).context = some x → (∀ i : Slot, i ≠ j → (s.entry n i).context ≠ some x) →
        s.pool[x].state = .accumulating → (s.openSegment n k Firing.plain).pool[x] = s.pool[x] := by
  have other : j ≠ k := by
    rintro rfl
    exact ho hj
  have stays : ¬ (s.entry n j).endsOnNext b.cls.layer := by
    rw [← State.mem_nextEnders, quiet]
    exact List.not_mem_nil
  refine ⟨?_, fun x hx apart acc => ?_⟩
  · obtain ⟨a, -, same, entry⟩ := State.openSegment_leaves hb ho other stays
    rw [entry, same (.inr quiet)]
    unfold Entry.held
    rw [body]
    simp [includes]
  · have taken : s.freeContext ≠ some x := fun claimed => by
      rw [State.freeContext_free claimed] at acc
      exact nomatch acc
    have idle : ∀ i, ¬ (s.entry n i).pausesWith x := by
      rintro i ⟨-, hi, paused⟩
      have own : i = j := by
        by_contra ne
        exact apart i ne hi
      rw [own, body] at paused
      simp [includes] at paused
    have ready : s.readyToOpen n b Firing.plain = s := by rw [State.readyToOpen_plain, quiet]; rfl
    have context := (State.openSegment_context hb ho x).2 (.inr idle)
    rwa [if_neg taken, ready] at context

/-- R50, R94: the docket and the context that an inner opening pauses. -/
theorem State.openSegment_pauses (inner : b.cls.layer = .inner) (quiet : s.nextEnders n b.cls.layer = []) {j : Slot}
    {o : Body} (hj : (s.entry n j).state = .opened) (body : (s.entry n j).body = some o) (outer : o.cls.layer = .outer)
    (excludes : o.includeInner = false) :
    (s.openSegment n k Firing.plain).entry n j =
      { s.entry n j with
        tally := { (s.entry n j).tally with paused := true }
        flags := { (s.entry n j).flags with paused := true } } ∧
      ∀ x : CtxId, (s.entry n j).context = some x → s.pool[x].state = .accumulating →
        (s.openSegment n k Firing.plain).pool[x] = { s.pool[x] with state := .paused, acc := Accumulator.fresh } := by
  have other : j ≠ k := by
    rintro rfl
    exact ho hj
  have stays : ¬ (s.entry n j).endsOnNext b.cls.layer := by
    rw [← State.mem_nextEnders, quiet]
    exact List.not_mem_nil
  have stands : (s.entry n j).standsOpen .outer = true := Entry.standsOpen_iff.mpr ⟨hj, o, body, outer⟩
  refine ⟨?_, fun x hx acc => ?_⟩
  · obtain ⟨a, -, same, entry⟩ := State.openSegment_leaves hb ho other stays
    rw [entry, same (.inr quiet), if_pos ⟨inner, stands⟩]
    unfold Entry.held
    rw [if_neg (by rw [body]; simp [excludes])]
    simp [VerdictFlags.union, VerdictFlags.ofPaused, VerdictFlags.none]
  · have taken : s.freeContext ≠ some x := fun claimed => by
      rw [State.freeContext_free claimed] at acc
      exact nomatch acc
    have ready : s.readyToOpen n b Firing.plain = s := by rw [State.readyToOpen_plain, quiet]; rfl
    have context := (State.openSegment_context hb ho x).1 inner ⟨j, stands, hx, by rw [body]; simp [excludes]⟩
    rw [if_neg taken, ready] at context
    rw [context]
    exact if_pos acc

/-- R50, R94: the state of the claimed context, where no OPEN outer docket holds it. -/
theorem State.openSegment_claimed_state {y : CtxId} (claimed : s.freeContext = some y)
    (apart : b.cls.layer = .outer ∨ ∀ j, ¬ (s.entry n j).pausesWith y) :
    (s.openSegment n k Firing.plain).pool[y].state = if s.opensPaused n b then .paused else .accumulating := by
  have context := (State.openSegment_context hb ho y).2 apart
  rw [if_pos claimed] at context
  rw [context, Context.claimed_state]

end

/-- R52: no OPEN docket holds a FREE context. -/
theorem OpenOwn.not_free {n : Svc} {s : State} (own : OpenOwn n s) {y : CtxId} (free : s.pool[y].state = .free) (j : Slot) :
    ¬ (s.entry n j).pausesWith y := by
  rintro ⟨stands, held, -⟩
  rcases (own j y (Entry.standsOpen_iff.mp stands).1 held).1 with h | h <;> rw [free] at h <;> exact nomatch h

/-- R90 to R94: a START CUE that matches one docket. -/
theorem State.takeCue_opens {s : State} {n : Svc} {id : BitVec 16} {k : Slot} (only : s.cueSlots n id .start = [k])
    (enabled : (s.sheetOf n).enable = true) :
    s.takeCue n id .start = (s.openSegment n k Firing.plain).refreshRequirement n := by
  rw [State.takeCue_matched enabled (by rw [only]; exact nofun), only]
  rfl

end Sys2Proof.Machine

namespace Sys2Proof.Machine

/-! ### The START CUE that matches an outer and an inner docket (R88, R94) -/

section
variable {s : State} {n : Svc} {i j k : Slot} {a b : Body}

/-- R91: an opening leaves a docket that does not stand OPEN and is not its own as it is. -/
theorem State.openSegment_waits (hb : (s.entry n k).body = some b) (other : j ≠ k) (waits : (s.entry n j).state ≠ .opened) :
    (s.openSegment n k Firing.plain).entry n j = s.entry n j :=
  (State.openSegment_entry_other hb other Firing.plain).of_not_open waits

/-- The entry of a docket that stands OPEN in the other layer when a segment opens: an outer one is paused, unless its
INCLUDE_INNER is set. -/
theorem Entry.held_fields {e : Entry} {o : Body} (hb : e.body = some o) :
    e.held =
      if o.includeInner then e
      else { e with tally := { e.tally with paused := true }, flags := { e.flags with paused := true } } := by
  unfold Entry.held
  by_cases includes : o.includeInner = true
  · rw [if_pos (by rw [hb]; exact includes), if_pos includes]
  · rw [if_neg (by rw [hb]; exact includes), if_neg includes]
    simp [VerdictFlags.union, VerdictFlags.ofPaused, VerdictFlags.none]

/-- What an opening leaves of a docket that stands OPEN in the other layer (R94). -/
theorem State.openSegment_beside (hb : (s.entry n k).body = some b) (ho : (s.entry n k).state ≠ .opened)
    (hi : (s.entry n i).state = .opened) (body : (s.entry n i).body = some a) (layers : a.cls.layer ≠ b.cls.layer) :
    let e := s.entry n i
    let e' := (s.openSegment n k Firing.plain).entry n i
    let pauses := decide (a.cls.layer = .outer) && !a.includeInner
    e.Adjusts e' ∧ (pauses = true → e'.tally.paused = true) ∧ (e.tally.paused = false → e'.tally.paused = pauses) ∧
      e'.flags = { e.flags with paused := e.flags.paused || pauses } := by
  intro e e' pauses
  have other : i ≠ k := by
    rintro rfl
    exact ho hi
  have stays : ¬ e.endsOnNext b.cls.layer := by
    rintro ⟨-, o, ho, layer, -⟩
    rw [body] at ho
    exact layers (Option.some.inj ho ▸ layer)
  obtain ⟨x, eased, same, entry⟩ := State.openSegment_leaves hb ho other stays
  have stands : e.standsOpen .outer = decide (a.cls.layer = .outer) := by
    rw [Entry.standsOpen_of_body body, hi]
    rfl
  have adjusts : e.Adjusts e' :=
    (State.openSegment_entry_other hb other Firing.plain).2 stays
  refine ⟨adjusts, ?_⟩
  cases outer : a.cls.layer with
  | inner =>
    have second : b.cls.layer = .outer := by
      cases h : b.cls.layer with
      | outer => rfl
      | inner => exact absurd (outer.trans h.symm) layers
    have unpaused : pauses = false := by simp [pauses, outer]
    have kept : e' = e := by
      rw [show e' = _ from entry, same (.inl second), if_neg (by rw [second]; exact nofun)]
    rw [unpaused, kept]
    simp
  | outer =>
    have second : b.cls.layer = .inner := by
      cases h : b.cls.layer with
      | outer => exact absurd (outer.trans h.symm) layers
      | inner => rfl
    obtain ⟨-, xbody, -, -, xflags, -⟩ := eased.fields
    have held : e' = x.held := by
      rw [show e' = _ from entry, if_pos ⟨second, by rw [stands, outer]; rfl⟩]
    rw [held, Entry.held_fields (xbody.trans body)]
    have pausing : pauses = !a.includeInner := by simp [pauses, outer]
    rw [pausing]
    cases includes : a.includeInner with
    | true =>
      simp only [if_true, Bool.not_true, Bool.or_false, xflags]
      refine ⟨nofun, fun unpaused => ?_, rfl⟩
      rcases eased with rfl | ⟨-, rfl⟩
      · exact unpaused
      · rfl
    | false => simp [xflags, e]

end

/-! #### The two openings -/

/-- R93: the shortages that two openings raise. -/
theorem shortages_of_two (r : BitVec 16) (free : Nat) :
    (r + if free = 0 then 1 else 0) + (if free - 1 = 0 then 1 else 0) = r + BitVec.ofNat 16 (2 - free) := by
  rcases free with _ | _ | free
  · simp [BitVec.add_assoc]
  · simp
  · simp

/-- The parts of a context that its moves leave alone once it has been claimed. -/
theorem Context.Moves.fresh {x y : Context} (h : x.Moves y) (taken : x.state ≠ .free) (fresh : x.acc = Accumulator.fresh) :
    y.owner = x.owner ∧ y.momentary = x.momentary ∧ y.histogram = x.histogram ∧ y.acc = Accumulator.fresh := by
  rcases h taken with rfl | ⟨-, st, fig, -, rfl⟩
  · exact ⟨rfl, rfl, rfl, fresh⟩
  · exact ⟨rfl, rfl, rfl, rfl⟩

theorem Context.pause_running {x : Context} (h : x.running) : x.pause.state = .paused := by
  unfold Context.pause
  rcases h with acc | paused
  · simp [acc]
  · simp [paused]

theorem Context.resume_of_accumulating {x : Context} (h : x.state = .accumulating) : x.resume = x := by
  unfold Context.resume
  rw [if_neg (by rw [h]; exact nofun)]

/-- R50, R94: what an opening in the other layer leaves of the state of an OPEN docket's context. -/
theorem State.openSegment_context_beside {s : State} {n : Svc} {i k : Slot} {a b : Body} {c : CtxId}
    (hb : (s.entry n k).body = some b) (ho : (s.entry n k).state ≠ .opened) (own : OpenOwn n s)
    (hi : (s.entry n i).state = .opened) (body : (s.entry n i).body = some a) (layers : a.cls.layer ≠ b.cls.layer)
    (held : (s.entry n i).context = some c) :
    let pauses := decide (a.cls.layer = .outer) && !a.includeInner
    (pauses = true → (s.openSegment n k Firing.plain).pool[c].state = .paused) ∧
      (pauses = false → s.pool[c].state = .accumulating →
        (s.openSegment n k Firing.plain).pool[c].state = .accumulating) := by
  intro pauses
  have running := (own i c hi held).1
  have taken : s.freeContext ≠ some c := fun claimed => by
    rcases running with h | h <;> rw [State.freeContext_free claimed] at h <;> exact nomatch h
  have apart : ∀ m ∈ s.nextEnders n b.cls.layer, (s.entry n m).context ≠ some c := fun m hm => by
    obtain ⟨opened, o, ho, layer, -⟩ := State.mem_nextEnders.mp hm
    refine own.ne_context (j := i) ?_ opened hi held
    rintro rfl
    rw [body] at ho
    exact layers (Option.some.inj ho ▸ layer)
  have alone : ∀ m, (s.entry n m).pausesWith c → m = i := fun m ⟨stands, hm, _⟩ => by
    by_contra ne
    exact own.ne_context (Ne.symm ne) (Entry.standsOpen_iff.mp stands).1 hi held hm
  have ready := State.closeEach_context .none (y := c) _ s (s.nextEnders_nodup n b.cls.layer) apart
  rw [← State.readyToOpen_plain] at ready
  obtain ⟨paused, kept⟩ := State.openSegment_context hb ho c
  rw [if_neg taken] at paused kept
  refine ⟨fun pauses' => ?_, fun pauses' acc => ?_⟩
  · obtain ⟨outer, excludes⟩ : a.cls.layer = .outer ∧ a.includeInner = false := by simpa [pauses] using pauses'
    have inner : b.cls.layer = .inner := by
      cases h : b.cls.layer with
      | outer => exact absurd (outer.trans h.symm) layers
      | inner => rfl
    rw [paused inner ⟨i, Entry.standsOpen_iff.mpr ⟨hi, a, body, outer⟩, held, by rw [body]; simp [excludes]⟩]
    refine Context.pause_running ?_
    rcases ready with same | same <;> rw [same]
    · unfold Context.resume
      split
      · exact .inl rfl
      · exact running
    · exact running
  · rw [kept ?_]
    · rw [Context.resume_of_accumulating acc, or_self] at ready
      rw [ready, acc]
    · by_cases outer : a.cls.layer = .outer
      · refine .inr fun m acts => ?_
        have excludes := acts.2.2
        rw [alone m acts, body] at excludes
        simp only [Option.map_some, Option.getD_some] at excludes
        simp [pauses, outer, excludes] at pauses'
      · left
        cases h : b.cls.layer with
        | outer => rfl
        | inner =>
          cases h' : a.cls.layer with
          | outer => exact absurd h' outer
          | inner => exact absurd (h'.trans h.symm) layers

end Sys2Proof.Machine

namespace Sys2Proof.Machine

/-- The docket of slot k, ARMED at s with body o, has been opened at t by a cue that matches one of each layer. -/
structure CueOpened (n : Svc) (k : Slot) (o : Body) (s t : State) : Prop where
  standing : (t.entry n k).state = .opened
  posting : (t.entry n k).posting = (s.entry n k).posting
  body : (t.entry n k).body = some o
  openStamp : (t.entry n k).openStamp = some s.feed[n].time
  hands : SlotHands n k [.standing .opened (s.entry n k).posting] s t
  openSlot : t.sched[n].openSlot o.cls.layer = some k
  snapshot : (t.entry n k).snapshot = some ((s.sheetOf n).snapshot o)
  counted : (t.entry n k).tally.counted = 0
  paused : (t.entry n k).tally.paused = (decide (o.cls.layer = .outer) && !o.includeInner)
  flags : (t.entry n k).flags =
    { (s.entry n k).flags with
      noMeter := (s.entry n k).flags.noMeter || (t.entry n k).context.isNone
      paused := (s.entry n k).flags.paused || (decide (o.cls.layer = .outer) && !o.includeInner) }
  closes : ∀ (m : Slot) (p : Body), (s.entry n m).state = .opened → (s.entry n m).body = some p →
    p.cls.layer = o.cls.layer → p.isOnNext = true → (s.entry n m).snapshot.isSome = true →
    (t.entry n m).state = (if (s.entry n m).context.isNone && s.carries then .closed else .closing) ∧
    (t.entry n m).closeStamp = some s.feed[n].time ∧ (t.entry n m).flags.cueMissed = (s.entry n m).flags.cueMissed ∧
    (t.entry n m).flags.late = (s.entry n m).flags.late ∧ (t.entry n m).flags.flywheel = (s.entry n m).flags.flywheel ∧
    SlotHands n m (closeWrites n m t) s t ∧ (QueueSound s → SegmentEnds n m p (s.sheetOf n) s t)
  context : ∀ c : CtxId, (t.entry n k).context = some c →
    s.pool[c].state = .free ∧ t.pool[c].owner = some ⟨n, k, (s.entry n k).posting⟩ ∧ t.pool[c].momentary = 0 ∧
    t.pool[c].histogram = [] ∧ t.pool[c].acc = Accumulator.fresh ∧
    (QueueSound s →
      t.pool[c].state = if decide (o.cls.layer = .outer) && !o.includeInner then .paused else .accumulating)

section
variable {s u v t : State} {n : Svc} {i j : Slot} {a b : Body} (ha : (s.entry n i).body = some a)
  (hi : (s.entry n i).state ≠ .opened) (hb : (s.entry n j).body = some b) (hj : (s.entry n j).state ≠ .opened)
  (other : j ≠ i) (layers : a.cls.layer ≠ b.cls.layer) (hu : u = s.openSegment n i Firing.plain)
  (hv : v = u.openSegment n j Firing.plain)

include ha hj other hu in
/-- The second docket still waits behind the first opening. -/
theorem State.openings_second : u.entry n j = s.entry n j := by
  rw [hu]
  exact State.openSegment_waits ha other hj

include ha hi hb hj other layers hu hv

/-- The entry of the first docket behind both openings. -/
theorem State.openings_first :
    let e := u.entry n i
    let e' := v.entry n i
    let pauses := decide (a.cls.layer = .outer) && !a.includeInner
    e.state = .opened ∧ e.body = some a ∧ e.Adjusts e' ∧ (pauses = true → e'.tally.paused = true) ∧
      (e.tally.paused = false → e'.tally.paused = pauses) ∧
      e'.flags = { e.flags with paused := e.flags.paused || pauses } := by
  intro e e' pauses
  have second := State.openings_second ha hj other hu
  obtain ⟨standing, -, body, -⟩ := Entry.opened_fields (State.openSegment_own ha hi)
  rw [← hu] at standing body
  have beside := State.openSegment_beside (second.symm ▸ hb) (second.symm ▸ hj) standing (body.trans ha) layers
  rw [← hv] at beside
  exact ⟨standing, body.trans ha, beside⟩

/-- R91 to R94: the docket that the cue opens first. -/
theorem State.openings_cueOpened_first (sched : t.sched = v.sched) (pool : t.pool = v.pool) (integ : t.integ = v.integ)
    (recorder : t.recorder = v.recorder) : CueOpened n i a s t := by
  have second := State.openings_second ha hj other hu
  have hb' : (u.entry n j).body = some b := second.symm ▸ hb
  have hj' : (u.entry n j).state ≠ .opened := second.symm ▸ hj
  have entry := State.entry_of_sched sched n
  obtain ⟨standing, body, adjusts, pauses, unpaused, flags⟩ := State.openings_first ha hi hb hj other layers hu hv
  obtain ⟨-, posting, -, openStamp, snapshot, counted, -, paused, context, flagged, hands⟩ :=
    Entry.opened_fields (State.openSegment_own ha hi)
  rw [← hu] at posting openStamp snapshot counted paused context flagged hands
  have opensPaused : (decide (a.cls.layer = .outer) && !a.includeInner) = false → s.opensPaused n a = false := by
    unfold State.opensPaused
    cases decide (a.cls.layer = .outer) <;> cases a.includeInner <;> simp
  obtain ⟨kContext, kPosting, kUnits⟩ := adjusts.docket
  have kept : (v.entry n i).openStamp = (u.entry n i).openStamp ∧ (v.entry n i).snapshot = (u.entry n i).snapshot ∧
      (v.entry n i).tally.counted = (u.entry n i).tally.counted := by
    rcases adjusts with same | ⟨-, p, q, same⟩ <;> rw [same] <;> exact ⟨rfl, rfl, rfl⟩
  have onward : Onward n u v := hv ▸ State.openSegment_onward hb' hj' Firing.plain
  constructor
  case standing => rw [entry, adjusts.state, standing]
  case posting => rw [entry, kPosting, posting]
  case body => rw [entry, adjusts.body, body]
  case openStamp => rw [entry, kept.1, openStamp]
  case hands =>
    have both := hands.trans (adjusts.hands s.carries)
    rw [List.append_nil, ← entry] at both
    exact both.slotHands
  case openSlot =>
    rw [sched, hv, State.openSegment_openSlot hb' hj', if_neg layers, hu, State.openSegment_openSlot ha hi, if_pos rfl]
  case snapshot => rw [entry, kept.2.1, snapshot]
  case counted => rw [entry, kept.2.2, counted]
  case paused =>
    rw [entry]
    cases h : decide (a.cls.layer = .outer) && !a.includeInner with
    | true => exact pauses h
    | false => exact (unpaused (by rw [paused, opensPaused h])).trans h
  case flags =>
    rw [entry, flags, flagged, kContext, context]
    cases h : decide (a.cls.layer = .outer) && !a.includeInner with
    | true => simp
    | false => simp [opensPaused h]
  case closes =>
    intro m p opened mbody layer next hs
    have ne : m ≠ j := by
      rintro rfl
      exact hj opened
    obtain ⟨x, eased, closed⟩ := State.openSegment_closed ha hi Firing.plain ⟨opened, p, mbody, layer, next⟩
    rw [← hu] at closed
    have still : t.entry n m = u.entry n m := by
      rw [entry, hv]
      exact State.openSegment_waits hb' ne (by rw [closed]; exact Entry.closedAt_not_open _ _ _ _)
    obtain ⟨state, closeStamp, mflags, mhands⟩ := eased.adjusts.closed (still.trans closed) (by rw [mbody]; rfl) hs
    have same := mflags.trans eased.fields.2.2.2.2.1
    refine ⟨state, closeStamp, by rw [same], by rw [same], by rw [same], mhands.slotHands, fun sound => ?_⟩
    have ends := State.openSegment_ends ha hi Firing.plain opened mbody layer next
    rw [← hu] at ends
    have first : Onward n s u := hu ▸ State.openSegment_onward ha hi Firing.plain
    exact ((ends.ended (sound.openOwn n)).after onward).segmentEnds (first.moves.trans onward.moves) pool integ recorder
  case context =>
    intro c hc
    rw [entry, kContext, context] at hc
    have taken : u.pool[c].state ≠ .free := fun free => by
      rw [hu, State.openSegment_free ha hi] at free
      exact free.2 hc
    obtain ⟨owner, momentary, histogram, acc⟩ := State.openSegment_claims ha hi hc
    rw [← hu] at owner momentary histogram acc
    obtain ⟨owner', momentary', histogram', acc'⟩ := (onward.moves c).fresh taken acc
    refine ⟨State.freeContext_free hc, ?_⟩
    rw [pool]
    refine ⟨owner'.trans owner, momentary'.trans momentary, histogram'.trans histogram, acc', fun sound => ?_⟩
    have own : OpenOwn n s := sound.openOwn n
    have first : Onward n s u := hu ▸ State.openSegment_onward ha hi Firing.plain
    have beside := State.openSegment_context_beside hb' hj' (first.own own) standing body layers (context.trans hc)
    rw [← hv] at beside
    cases h : decide (a.cls.layer = .outer) && !a.includeInner with
    | true => exact beside.1 h
    | false =>
      refine beside.2 h ?_
      have state := State.openSegment_claimed_state ha hi hc (.inr (own.not_free (State.freeContext_free hc)))
      rwa [← hu, opensPaused h] at state

/-- R91 to R94: the docket that the cue opens second. -/
theorem State.openings_cueOpened_second (sched : t.sched = v.sched) (pool : t.pool = v.pool) (integ : t.integ = v.integ)
    (recorder : t.recorder = v.recorder) : CueOpened n j b s t := by
  have second := State.openings_second ha hj other hu
  have hb' : (u.entry n j).body = some b := second.symm ▸ hb
  have hj' : (u.entry n j).state ≠ .opened := second.symm ▸ hj
  have entry := State.entry_of_sched sched n
  have first : Onward n s u := hu ▸ State.openSegment_onward ha hi Firing.plain
  have onward : Onward n u v := hv ▸ State.openSegment_onward hb' hj' Firing.plain
  have opensPaused : u.opensPaused n b = (decide (b.cls.layer = .outer) && !b.includeInner) := by
    unfold State.opensPaused
    cases outer : b.cls.layer with
    | inner => simp
    | outer =>
      have inner : a.cls.layer = .inner := by
        cases h : a.cls.layer with
        | outer => exact absurd (h.trans outer.symm) layers
        | inner => rfl
      have slot : u.sched[n].openSlot a.cls.layer = some i := by
        rw [hu, State.openSegment_openSlot ha hi, if_pos rfl]
      have isOpen : u.sched[n].openInner = some i := by
        rw [inner] at slot
        exact slot
      rw [isOpen]
      simp
  obtain ⟨standing, posting, body, openStamp, snapshot, counted, -, paused, context, flags, hands⟩ :=
    Entry.opened_fields (State.openSegment_own hb' hj')
  rw [← hv, ← entry] at standing posting body openStamp snapshot counted paused context flags hands
  rw [second, first.carries] at hands
  rw [second] at posting flags
  rw [opensPaused] at paused flags
  rw [first.feed] at openStamp
  rw [first.sheetOf] at snapshot
  constructor
  case standing => exact standing
  case posting => exact posting
  case body => exact body.trans hb'
  case openStamp => exact openStamp
  case hands => exact hands.slotHands
  case openSlot => rw [sched, hv, State.openSegment_openSlot hb' hj', if_pos rfl]
  case snapshot => exact snapshot
  case counted => exact counted
  case paused => exact paused
  case flags => rw [flags, context]
  case closes =>
    intro m p opened mbody layer next hs
    have ne : m ≠ i := by
      rintro rfl
      exact hi opened
    have stays : ¬ (s.entry n m).endsOnNext a.cls.layer := by
      rintro ⟨-, o, ho, alayer, -⟩
      rw [mbody] at ho
      exact layers ((Option.some.inj ho ▸ alayer).symm.trans layer)
    have adjusts : (s.entry n m).Adjusts (u.entry n m) :=
      hu ▸ (State.openSegment_entry_other ha ne Firing.plain).2 stays
    have opened' := adjusts.state.trans opened
    have mbody' := adjusts.body.trans mbody
    obtain ⟨x, eased, closed⟩ := State.openSegment_closed hb' hj' Firing.plain ⟨opened', p, mbody', layer, next⟩
    rw [← hv, ← entry, first.carries, first.feed] at closed
    have through : (s.entry n m).Adjusts x := adjusts.trans eased.adjusts
    obtain ⟨state, closeStamp, mflags, mhands⟩ := through.closed closed (by rw [mbody]; rfl) hs
    have flagged : x.flags.cueMissed = (s.entry n m).flags.cueMissed ∧ x.flags.late = (s.entry n m).flags.late ∧
        x.flags.flywheel = (s.entry n m).flags.flywheel := by
      obtain rfl | ⟨-, q, r, rfl⟩ := through <;> exact ⟨rfl, rfl, rfl⟩
    refine ⟨state, closeStamp, by rw [mflags, flagged.1], by rw [mflags, flagged.2.1], by rw [mflags, flagged.2.2],
      mhands.slotHands, fun sound => ?_⟩
    have ends := State.openSegment_ends hb' hj' Firing.plain opened' mbody' layer next
    rw [← hv] at ends
    exact ((ends.before first adjusts).ended (sound.openOwn n)).segmentEnds (first.moves.trans onward.moves) pool integ
      recorder
  case context =>
    intro c hc
    rw [context] at hc
    have free := State.freeContext_free hc
    obtain ⟨owner, momentary, histogram, acc⟩ := State.openSegment_claims hb' hj' hc
    rw [← hv, ← pool, second] at owner
    rw [← hv, ← pool] at momentary histogram acc
    refine ⟨?_, owner, momentary, histogram, acc, fun sound => ?_⟩
    · have before := free
      rw [hu, State.openSegment_free ha hi] at before
      exact before.1
    · have state := State.openSegment_claimed_state hb' hj' hc
        (.inr ((first.own (sound.openOwn n)).not_free free))
      rwa [← hv, ← pool, opensPaused] at state

end

end Sys2Proof.Machine

namespace Sys2Proof.Machine

/-! ### The two clauses of a START CUE, assembled -/

/-- R90 to R94: a START CUE that matches one docket. -/
theorem State.takeCue_one {s t : State} {n : Svc} {id : BitVec 16} {k : Slot} {b : Body}
    (only : s.cueSlots n id .start = [k]) (enabled : (s.sheetOf n).enable = true) (hb : (s.entry n k).body = some b)
    (ht : t = s.takeCue n id .start) :
    ∃ u, u = s.openSegment n k Firing.plain ∧ (s.entry n k).state ≠ .opened ∧ t.sched = u.sched ∧ t.pool = u.pool ∧
      t.integ = u.integ ∧ t.recorder = u.recorder ∧ t.feed = s.feed ∧ t.caption[n].state = s.caption[n].state ∧
      InForce n t ∧ CaptionCondsFollow n s t ∧ (∀ c : SvcCond, c ∉ captionConds → t.raises n c = u.raises n c) ∧
      t.entry n k =
        ((s.entry n k).opening ((s.sheetOf n).snapshot b) s.freeContext (s.opensPaused n b) Firing.plain
          s.feed[n].time).hand s.carries (.standing .opened (s.entry n k).posting) := by
  have ho : (s.entry n k).state ≠ .opened := by
    have armed : (s.entry n k).state = .armed := State.mem_cueSlots_start (id := id) (by rw [only]; exact List.mem_cons_self)
    rw [armed]
    exact nofun
  obtain ⟨u, hu⟩ : ∃ u, u = s.openSegment n k Firing.plain := ⟨_, rfl⟩
  have taken : t = u.refreshRequirement n := by rw [ht, State.takeCue_opens only enabled, hu]
  have caption : u.caption = s.caption := by simp [hu]
  have conds : CondsKept segmentConds s.panel u.panel := by
    rw [hu]
    exact (State.openSegment_conds (List.Subset.refl _) s n k _).mpr (by simp)
  have sched : t.sched = u.sched := by simp [taken]
  refine ⟨u, hu, ho, sched, by simp [taken], by simp [taken], by simp [taken], by simp [taken, hu],
    by simp [taken, State.refreshRequirement, caption], taken ▸ State.refreshRequirement_inForce u n,
    taken ▸ (State.refreshRequirement_follow u n).of_kept conds (by decide),
    fun c other => taken ▸ State.refreshRequirement_raises u n other, ?_⟩
  rw [State.entry_of_sched sched, hu]
  exact State.openSegment_own hb ho

/-- R88, R94: a START CUE that matches one docket of each layer. -/
theorem State.takeCue_two {s t : State} {n : Svc} {id : BitVec 16} {i j : Slot} {a b : Body}
    (only : s.cueSlots n id .start = [i, j]) (enabled : (s.sheetOf n).enable = true)
    (ht : t = s.takeCue n id .start) (ha : (s.entry n i).body = some a) (hb : (s.entry n j).body = some b)
    (layers : a.cls.layer ≠ b.cls.layer) :
    t.sched[n].unmatched = s.sched[n].unmatched ∧ t.feed = s.feed ∧ InForce n t ∧ t.caption[n].source = .inner ∧
      CaptionCondsFollow n s t ∧ ((t.entry n i).context = none ↔ s.freeCount = 0) ∧
      ((t.entry n j).context = none ↔ s.freeCount ≤ 1) ∧
      t.raises n .meterShortage = s.raises n .meterShortage + BitVec.ofNat 16 (2 - s.freeCount) ∧
      CueOpened n i a s t ∧ CueOpened n j b s t := by
  have armed : ∀ k ∈ [i, j], (s.entry n k).state ≠ .opened := fun k hk => by
    rw [State.mem_cueSlots_start (id := id) (only ▸ hk)]
    exact nofun
  have hi := armed i List.mem_cons_self
  have hj := armed j (List.mem_cons_of_mem i List.mem_cons_self)
  have other : j ≠ i := by
    rintro rfl
    rw [ha] at hb
    exact layers (Option.some.inj hb ▸ rfl)
  obtain ⟨u, hu⟩ : ∃ u, u = s.openSegment n i Firing.plain := ⟨_, rfl⟩
  obtain ⟨v, hv⟩ : ∃ v, v = u.openSegment n j Firing.plain := ⟨_, rfl⟩
  have taken : t = v.refreshRequirement n := by
    rw [ht, State.takeCue_matched enabled (by rw [only]; exact nofun), only, hv, hu]
    rfl
  have second := State.openings_second ha hj other hu
  have hb' : (u.entry n j).body = some b := second.symm ▸ hb
  have hj' : (u.entry n j).state ≠ .opened := second.symm ▸ hj
  have sched : t.sched = v.sched := by simp [taken]
  have pool : t.pool = v.pool := by simp [taken]
  have integ : t.integ = v.integ := by simp [taken]
  have recorder : t.recorder = v.recorder := by simp [taken]
  have feed : t.feed = s.feed := by simp [taken, hv, hu]
  have first := State.openings_cueOpened_first ha hi hb hj other layers hu hv sched pool integ recorder
  have next := State.openings_cueOpened_second ha hi hb hj other layers hu hv sched pool integ recorder
  have inForce : InForce n t := taken ▸ State.refreshRequirement_inForce v n
  have free : u.freeCount = s.freeCount - 1 := State.freeCount_claimed (by rw [hu]; exact State.openSegment_free ha hi)
  have counts := State.openSegment_counts ha hi
  have counts' := State.openSegment_counts hb' hj'
  rw [← hu] at counts
  rw [← hv] at counts'
  refine ⟨?_, feed, inForce, ?_, ?_, ?_, ?_, ?_, first, next⟩
  · rw [sched, counts'.1, counts.1]
  · have isOpen : ∃ k, t.sched[n].openInner = some k := by
      cases h : a.cls.layer with
      | inner =>
        have slot := first.openSlot
        rw [h] at slot
        exact ⟨i, slot⟩
      | outer =>
        cases h' : b.cls.layer with
        | inner =>
          have slot := next.openSlot
          rw [h'] at slot
          exact ⟨j, slot⟩
        | outer => exact absurd (h.trans h'.symm) layers
    obtain ⟨k, isOpen⟩ := isOpen
    have sheet : t.sheetOf n = s.sheetOf n := by simp [taken, hv, hu, State.sheetOf]
    exact ((inForce.2 (by rw [sheet, enabled])).1 k isOpen).2
  · rw [taken]
    refine (State.refreshRequirement_follow v n).of_kept (C := segmentConds) ?_ (by decide)
    rw [hv, State.openSegment_conds (List.Subset.refl _), hu, State.openSegment_conds (List.Subset.refl _)]
    simp
  · have context := (State.openings_first ha hi hb hj other layers hu hv).2.2.1.docket.1
    obtain ⟨-, -, -, -, -, -, -, -, claimed, -⟩ := Entry.opened_fields (State.openSegment_own ha hi)
    rw [State.entry_of_sched sched, context, hu, claimed, s.freeContext_none]
  · obtain ⟨-, -, -, -, -, -, -, -, claimed, -⟩ := Entry.opened_fields (State.openSegment_own hb' hj')
    rw [State.entry_of_sched sched, hv, claimed, u.freeContext_none, free]
    omega
  · rw [taken, State.refreshRequirement_raises v n (by decide), counts'.2, counts.2, free]
    exact shortages_of_two _ _

/-- Settles O18: one opening is read part by part (`State.openSegment_own`, `State.openSegment_closesNext`,
`State.openSegment_context`); a cue of two layers makes two, each of which leaves the other's docket standing
(`State.openSegment_beside`). -/
theorem cueOpens : Obligations.CueOpens := by
  refine ⟨fun s n id k b power only enabled hb => ?_, fun s n id i j a b power only enabled ha hb layers => ?_⟩
  · obtain ⟨t, ht⟩ : ∃ t, t = s.takeCue n id .start := ⟨_, rfl⟩
    obtain ⟨u, hu, ho, sched, pool, integ, recorder, feed, caption, inForce, follow, raises, own⟩ :=
      State.takeCue_one only enabled hb ht
    obtain ⟨standing, posting, body, openStamp, snapshot, counted, mismatches, paused, context, flags, hands⟩ :=
      Entry.opened_fields own
    have counts := State.openSegment_counts hb ho
    rw [← hu] at counts
    have isNone : (t.entry n k).context = none ↔ s.freeCount = 0 := by rw [context, s.freeContext_none]
    have entry : ∀ j, t.entry n j = (s.openSegment n k Firing.plain).entry n j := by
      rw [← hu]
      exact State.entry_of_sched sched n
    refine ⟨t, ?_, standing, posting, body.trans hb, openStamp, hands.slotHands, snapshot, counted, mismatches, ?_, ?_, feed,
      caption, inForce, follow, fun c hc => ?_, isNone, fun short => ⟨?_, ?_⟩, fun room => ?_,
      fun j o _ hj jbody layer next hs => ?_, fun sound => ⟨?_, paused, fun c hc apart => ?_, fun j o inner hj outer shut jbody => ?_⟩⟩
    · rw [exec_effectOf _ power (by simp), ht]
      rfl
    · rw [sched, hu, State.openSegment_openSlot hb ho, if_pos rfl]
    · rw [sched, counts.1]
    · rw [context] at hc
      rw [pool, hu]
      exact ⟨State.freeContext_free hc, State.openSegment_claims hb ho hc⟩
    · rw [flags, s.freeContext_isNone, short]
      simp
    · rw [raises _ (by decide), counts.2, if_pos short]
    · rw [raises _ (by decide), counts.2, if_neg (by omega)]
      simp
    · exact State.openSegment_closesNext hb ho (sched.trans (by rw [hu])) (pool.trans (by rw [hu])) (integ.trans (by rw [hu]))
        (recorder.trans (by rw [hu])) hj jbody layer next hs
    · rw [flags, s.freeContext_isNone]
      rfl
    · rw [context] at hc
      rw [pool, hu]
      refine State.openSegment_claimed_state hb ho hc ?_
      rcases apart with outer | shut | queue
      · exact .inl outer
      · refine .inr fun j acts => ?_
        obtain ⟨opened, o, jbody, outer⟩ := Entry.standsOpen_iff.mp acts.1
        obtain ⟨-, -, -, stands, -⟩ := sound n
        obtain ⟨p, hp, isSome⟩ := stands j opened
        rw [jbody] at hp
        rw [← Option.some.inj hp, outer, show s.sched[n].openSlot .outer = none from shut] at isSome
        exact nomatch isSome
      · exact .inr ((queue.openOwn n).not_free (State.freeContext_free hc))
    · have quiet : s.nextEnders n b.cls.layer = [] := by
        rw [inner]
        exact State.nextEnders_nil sound shut
      rw [entry, pool, hu]
      exact ⟨State.openSegment_includes hb ho quiet hj jbody, State.openSegment_pauses hb ho inner quiet hj jbody outer⟩
  · obtain ⟨t, ht⟩ : ∃ t, t = s.takeCue n id .start := ⟨_, rfl⟩
    obtain ⟨unmatched, feed, inForce, source, follow, firstNone, secondNone, raises, first, second⟩ :=
      State.takeCue_two only enabled ht ha hb layers
    refine ⟨t, ?_, unmatched, feed, inForce, source, follow, firstNone, secondNone, raises, fun k o which => ?_⟩
    · rw [exec_effectOf _ power (by simp), ht]
      rfl
    · have opened : CueOpened n k o s t := by
        rcases which with ⟨rfl, rfl⟩ | ⟨rfl, rfl⟩
        · exact first
        · exact second
      obtain ⟨standing, posting, body, openStamp, hands, openSlot, snapshot, counted, paused, flags, closes, context⟩ := opened
      exact ⟨standing, posting, body, openStamp, hands, openSlot, snapshot, counted, paused, flags,
        fun m p _ => closes m p, context⟩

end Sys2Proof.Machine

namespace Sys2Proof.Machine

/-! ### The boundaries of one posting already passed (R84, R87, R88) -/

theorem insertBoundary_head {x : Boundary} {xs : List Boundary} (first : ∀ y ∈ xs, x.precedes y) :
    insertBoundary x xs = x :: xs := by
  cases xs with
  | nil => rfl
  | cons y ys =>
    have later : ¬ y.before x = true :=
      mt (Boundary.before_iff y x).mp (Boundary.precedes_asymm (first y List.mem_cons_self))
    unfold insertBoundary
    rw [if_neg later]

theorem sortBoundaries_of_sorted {xs : List Boundary} (sorted : xs.Pairwise Boundary.precedes) : sortBoundaries xs = xs := by
  induction xs with
  | nil => rfl
  | cons x xs ih =>
    obtain ⟨first, rest⟩ := List.pairwise_cons.mp sorted
    unfold sortBoundaries
    rw [ih rest, insertBoundary_head first]

/-- R85, R88: the boundaries of an accepted body, in their order. -/
theorem Body.boundaries_eq (b : Body) (k : Slot) :
    b.boundaries k =
      (if b.startsOnCue then [⟨b.firstStart, .arm, k⟩, ⟨b.lastStart, .latest, k⟩] else [⟨b.lastStart, .start, k⟩]) ++
        [b.lastBoundary k] := by
  unfold Body.boundaries Body.startsOnCue Body.firstStart Body.lastStart Body.lastBoundary Body.endStamp
  cases b.start <;> cases b.finish <;> rfl

theorem Body.boundaries_sorted {b : Body} (k : Slot) (starts : b.firstStart ≤ b.lastStart) (ends : b.lastStart < b.endStamp) :
    (b.boundaries k).Pairwise Boundary.precedes := by
  have last : ∀ kind, Boundary.precedes ⟨b.lastStart, kind, k⟩ (b.lastBoundary k) := fun _ => .inl ends
  have arm : Boundary.precedes ⟨b.firstStart, .arm, k⟩ (b.lastBoundary k) := .inl (starts.trans_lt ends)
  have latest : Boundary.precedes ⟨b.firstStart, .arm, k⟩ ⟨b.lastStart, .latest, k⟩ := by
    rcases starts.lt_or_eq with less | same
    · exact .inl less
    · exact .inr ⟨same, .inl Nat.one_lt_two⟩
  rw [Body.boundaries_eq]
  cases b.startsOnCue
  · simpa using last .start
  · simpa using ⟨⟨latest, arm⟩, last .latest⟩

section
variable {s : State} {n : Svc} {k : Slot} {b : Body} {p : Nat → Bool} {f : Firing}

/-- R88: the boundaries of one docket that have passed stand in their order. -/
theorem State.boundariesOf_one (hb : (s.entry n k).body = some b) (starts : b.firstStart ≤ b.lastStart)
    (ends : b.lastStart < b.endStamp) :
    s.boundariesOf n [k] p = (b.boundaries k).filter fun x => p x.stamp := by
  unfold State.boundariesOf
  rw [List.flatMap_cons, List.flatMap_nil, List.append_nil, hb]
  exact sortBoundaries_of_sorted ((Body.boundaries_sorted k starts ends).filter _)

/-- R87: an OPEN docket's last boundary closes it. -/
theorem State.fireBoundary_last (ho : (s.entry n k).state = .opened) (hb : (s.entry n k).body = some b)
    (plain : f.cueMissed = false) :
    s.fireBoundary n f (b.lastBoundary k) = s.closeSegment n k (f.closing b).flags := by
  unfold State.fireBoundary Firing.closing Body.endsOnCue Body.lastBoundary
  cases finish : b.finish with
  | atStamp t => simp [ho, ← plain]
  | onCue id c => simp [ho, hb, Body.isOnNext, finish]
  | onNext c => simp [ho, hb, Body.isOnNext, finish]

/-- R84, R87: where the last start of a PENDING docket has passed it arms where it starts on a cue, opens, and closes where its end
has passed. -/
theorem State.passed_opens (hb : (s.entry n k).body = some b) (pending : (s.entry n k).state = .pending)
    (starts : b.firstStart ≤ b.lastStart) (ends : b.lastStart < b.endStamp) (first : p b.firstStart = true)
    (last : p b.lastStart = true) (plain : f.cueMissed = false) :
    ∃ u, Onward n s u ∧ (∀ j, j ≠ k → u.entry n j = s.entry n j) ∧ u.entry n k = (s.entry n k).readied s.carries b ∧
      let v := u.openSegment n k (f.opening b)
      State.fired n f (s.boundariesOf n [k] p) s =
        if p b.endStamp then v.closeSegment n k (f.closing b).flags else v := by
  have closes : ∀ u : State, (u.entry n k).body = some b → (u.entry n k).state ≠ .opened →
      State.fired n f ([b.lastBoundary k].filter fun x => p x.stamp) (u.openSegment n k (f.opening b)) =
        if p b.endStamp then (u.openSegment n k (f.opening b)).closeSegment n k (f.closing b).flags
        else u.openSegment n k (f.opening b) := fun u body waits => by
    have own := State.openSegment_entry_own body waits (f.opening b)
    rw [List.filter_cons, List.filter_nil]
    show State.fired n f (if p b.endStamp then _ else _) _ = _
    split
    · exact State.fireBoundary_last (by rw [own]; simp [Entry.opening]) (by rw [own]; simpa [Entry.opening] using body) plain
    · rfl
  rw [State.boundariesOf_one hb starts ends, Body.boundaries_eq, List.filter_append]
  cases onCue : b.startsOnCue with
  | false =>
    have readied : (s.entry n k).readied s.carries b = s.entry n k :=
      if_neg fun h => by rw [onCue] at h; exact nomatch h.2
    have opening : f.opening b = f := by rw [Firing.opening, onCue, ← plain]
    refine ⟨s, .refl n s, fun _ _ => rfl, readied.symm, ?_⟩
    have due : ([⟨b.lastStart, .start, k⟩] : List Boundary).filter (fun x => p x.stamp) = [⟨b.lastStart, .start, k⟩] := by
      simp [last]
    have opens : s.fireBoundary n f ⟨b.lastStart, .start, k⟩ = s.openSegment n k (f.opening b) := by
      rw [opening]
      exact State.fireBoundary_start rfl pending f
    rw [if_neg nofun, due, State.fired_append, State.fired_cons, opens]
    exact closes s hb (by rw [pending]; exact nofun)
  | true =>
    obtain ⟨u, hu⟩ : ∃ u, u = s.fireBoundary n f ⟨b.firstStart, .arm, k⟩ := ⟨_, rfl⟩
    have readied : (s.entry n k).readied s.carries b = (s.entry n k).arming s.carries := if_pos ⟨pending, onCue⟩
    have own : u.entry n k = (s.entry n k).arming s.carries := by
      rw [hu]
      exact State.fireBoundary_armed (b.arm_mem k onCue).1 rfl pending
    have armed : (u.entry n k).state = .armed := by
      rw [own]
      simp [Entry.arming]
    have body : (u.entry n k).body = some b := by
      rw [own]
      simpa [Entry.arming] using hb
    have opening : f.opening b = { f with cueMissed := true } := by rw [Firing.opening, onCue]
    refine ⟨u, hu ▸ s.fireBoundary_onward n f _, fun j other => ?_, own.trans readied.symm, ?_⟩
    · rw [hu, State.fireBoundary_arm rfl pending, State.writeStanding_entry, if_neg other, State.modEntry_get, if_neg other]
    · have due : ([⟨b.firstStart, .arm, k⟩, ⟨b.lastStart, .latest, k⟩] : List Boundary).filter (fun x => p x.stamp) =
          [⟨b.firstStart, .arm, k⟩, ⟨b.lastStart, .latest, k⟩] := by
        simp [first, last]
      have opens : u.fireBoundary n f ⟨b.lastStart, .latest, k⟩ = u.openSegment n k (f.opening b) := by
        rw [opening]
        exact State.fireBoundary_latest rfl armed f
      rw [if_pos rfl, due, State.fired_append, State.fired_cons, State.fired_cons, ← hu, opens]
      exact closes u body (by rw [armed]; exact nofun)

end

/-! ### What a posting's own docket keeps of its acceptance -/

theorem Entry.hand_validating (carries : Bool) (w : SlotContent) (e : Entry) :
    (e.hand carries w).validating = e.validating := by
  obtain ⟨ws, handed, same⟩ := e.hand_cases carries w
  rw [same]

/-- What a docket keeps through arming, opening and closing. -/
structure Entry.SamePosting (e e' : Entry) : Prop where
  posting : e'.posting = e.posting
  body : e'.body = e.body
  validating : e'.validating = e.validating

theorem Entry.SamePosting.trans {e e' e'' : Entry} (h : e.SamePosting e') (g : e'.SamePosting e'') : e.SamePosting e'' :=
  ⟨g.posting.trans h.posting, g.body.trans h.body, g.validating.trans h.validating⟩

theorem Entry.hand_samePosting (carries : Bool) (w : SlotContent) (e : Entry) : e.SamePosting (e.hand carries w) :=
  ⟨by simp, by simp, e.hand_validating carries w⟩

theorem Entry.readied_samePosting (carries : Bool) (b : Body) (e : Entry) : e.SamePosting (e.readied carries b) := by
  unfold Entry.readied
  split
  · exact .trans (e' := { e with state := .armed }) ⟨rfl, rfl, rfl⟩ (Entry.hand_samePosting ..)
  · exact ⟨rfl, rfl, rfl⟩

theorem Entry.OpensWith.samePosting {carries : Bool} {now : Nat} {b : Body} {f : Firing} {e o : Entry}
    (h : e.OpensWith carries now b f o) : e.SamePosting o ∧ o.tally.counted = 0 := by
  obtain ⟨sn, ctx, paused, rfl⟩ := h
  refine ⟨.trans (e' := e.opening sn ctx paused (f.opening b) now) ⟨rfl, rfl, rfl⟩ (Entry.hand_samePosting ..), ?_⟩
  rw [Entry.hand_tally]
  rfl

theorem Entry.closedAt_samePosting (carries : Bool) (now : Nat) (add : VerdictFlags) (e : Entry) :
    e.SamePosting (e.closedAt carries now add) ∧ (e.closedAt carries now add).tally.counted = e.tally.counted := by
  obtain ⟨body, posting, -⟩ := e.closedAt_fields carries now add
  refine ⟨⟨posting, body, ?_⟩, by rw [Entry.closedAt, Entry.announced_tally]⟩
  unfold Entry.closedAt Entry.announced
  (repeat' split) <;> simp [Entry.hand_validating, Entry.delivered]

end Sys2Proof.Machine

namespace Sys2Proof.Machine

/-! ### The checks of a posting's body (R82, R83) -/

theorem ofLe_lt (b : List Byte) : ofLe b < 256 ^ b.length := by
  induction b with
  | nil => simp [ofLe]
  | cons x xs ih =>
    have byte := x.isLt
    have step : 256 ^ (xs.length + 1) = 256 * 256 ^ xs.length := by rw [Nat.pow_succ, Nat.mul_comm]
    unfold ofLe
    rw [List.length_cons, step]
    omega

theorem field_lt (b : List Byte) (o w : Nat) : field b o w < 256 ^ w := by
  have short : ((b.drop o).take w).length ≤ w := List.length_take_le ..
  exact (ofLe_lt _).trans_le (Nat.pow_le_pow_right (by decide) short)

theorem bitOf_eq (v place : Nat) : bitOf v place = v.testBit place := (Nat.testBit_eq_decide_div_mod_eq ..).symm

/-- The class of a class code (R203). -/
theorem parseClass_iff (v : Nat) (c : SegClass) : parseClass v = some c ↔ c.code = v := by
  unfold parseClass
  split
  · cases c <;> simp [SegClass.code]
  · cases c <;> simp [SegClass.code]
  · cases c <;> simp [SegClass.code]
  · cases c <;> simp [SegClass.code]
  · next h1 h2 h3 h4 =>
    simp only [reduceCtorEq, false_iff]
    rintro rfl
    cases c
    · exact h1 rfl
    · exact h2 rfl
    · exact h3 rfl
    · exact h4 rfl

theorem parseClass_isSome (v : Nat) : (∃ c, parseClass v = some c) ↔ 1 ≤ v ∧ v ≤ 4 := by
  simp only [parseClass_iff]
  constructor
  · rintro ⟨c, rfl⟩
    cases c <;> decide
  · rintro ⟨low, high⟩
    obtain rfl | rfl | rfl | rfl : v = 1 ∨ v = 2 ∨ v = 3 ∨ v = 4 := by omega
    · exact ⟨.programme, rfl⟩
    · exact ⟨.continuity, rfl⟩
    · exact ⟨.commercial, rfl⟩
    · exact ⟨.promotion, rfl⟩

theorem SegClass.layer_eq (c : SegClass) : c.layer = if c.code ≤ 2 then .outer else .inner := by
  cases c <;> rfl

/-- The last start of a body as its fields hold it. -/
def lastField (bytes : List Byte) : Nat := if field bytes 9 1 = 1 then stampField bytes 16 else stampField bytes 24

/-- The start mode that a body's fields hold (R203). -/
def startOf (bytes : List Byte) : StartMode :=
  if field bytes 9 1 = 1 then .atStamp (stampField bytes 16)
  else .onCue (BitVec.ofNat 16 (field bytes 12 2)) (stampField bytes 16) (lastField bytes)

/-- The end mode that a body's fields hold (R203). -/
def finishOf (bytes : List Byte) : EndMode :=
  if field bytes 10 1 = 1 then .atStamp (stampField bytes 32)
  else if field bytes 10 1 = 2 then .onCue (BitVec.ofNat 16 (field bytes 14 2)) (stampField bytes 32)
  else .onNext (stampField bytes 32)

theorem parseStart_eq (bytes : List Byte) :
    parseStart bytes = if 1 ≤ field bytes 9 1 ∧ field bytes 9 1 ≤ 2 then some (startOf bytes) else none := by
  unfold parseStart startOf lastField
  split
  · next h => simp [h]
  · next h => simp [h]
  · next h1 h2 =>
    rw [if_neg]
    intro mode
    have : field bytes 9 1 = 1 ∨ field bytes 9 1 = 2 := by omega
    rcases this with h | h
    · exact h1 h
    · exact h2 h

theorem parseEnd_eq (bytes : List Byte) :
    parseEnd bytes = if 1 ≤ field bytes 10 1 ∧ field bytes 10 1 ≤ 3 then some (finishOf bytes) else none := by
  unfold parseEnd finishOf
  split
  · next h => simp [h]
  · next h => simp [h]
  · next h => simp [h]
  · next h1 h2 h3 =>
    rw [if_neg]
    intro mode
    have : field bytes 10 1 = 1 ∨ field bytes 10 1 = 2 ∨ field bytes 10 1 = 3 := by omega
    rcases this with h | h | h
    · exact h1 h
    · exact h2 h
    · exact h3 h

section
variable {bytes : List Byte} {c : SegClass}

/-- The body taken of the fields, of a class. -/
def bodyOf (bytes : List Byte) (c : SegClass) : Body := parseBody bytes c (startOf bytes) (finishOf bytes)

theorem bodyOf_firstStart : (bodyOf bytes c).firstStart = stampField bytes 16 := by
  unfold bodyOf parseBody startOf Body.firstStart
  dsimp only
  by_cases at1 : field bytes 9 1 = 1 <;> simp [at1]

theorem bodyOf_lastStart : (bodyOf bytes c).lastStart = lastField bytes := by
  unfold bodyOf parseBody startOf Body.lastStart lastField
  dsimp only
  by_cases at1 : field bytes 9 1 = 1 <;> simp [at1]

theorem bodyOf_endStamp : (bodyOf bytes c).endStamp = stampField bytes 32 := by
  unfold bodyOf parseBody finishOf Body.endStamp
  dsimp only
  by_cases end1 : field bytes 10 1 = 1
  · simp [end1]
  · by_cases end2 : field bytes 10 1 = 2
    · simp [end2]
    · simp [end1, end2]

theorem bodyOf_isOnNext (mode : 1 ≤ field bytes 10 1 ∧ field bytes 10 1 ≤ 3) :
    (bodyOf bytes c).isOnNext = true ↔ field bytes 10 1 = 3 := by
  unfold bodyOf parseBody finishOf Body.isOnNext
  dsimp only
  by_cases end1 : field bytes 10 1 = 1
  · simp [end1]
  · by_cases end2 : field bytes 10 1 = 2
    · simp [end2]
    · simp only [end1, end2, if_false, true_iff]
      omega

/-- R82 check 4 of the fields. -/
theorem bodyOf_badWindow :
    (bodyOf bytes c).badWindow = true ↔ lastField bytes < stampField bytes 16 ∨ stampField bytes 32 ≤ lastField bytes := by
  unfold Body.badWindow
  rw [bodyOf_endStamp, bodyOf_lastStart, Bool.or_eq_true, decide_eq_true_iff]
  refine or_congr_left ?_
  unfold bodyOf parseBody startOf lastField
  dsimp only
  by_cases at1 : field bytes 9 1 = 1 <;> simp [at1]

/-- What a body's fields hold besides its modes. -/
theorem bodyOf_iff (b : Body) :
    b = bodyOf bytes c ↔
      b.segId.toNat = field bytes 4 4 ∧ b.cls = c ∧ b.start = startOf bytes ∧ b.finish = finishOf bytes ∧
      b.includeInner = (field bytes 11 1).testBit 0 ∧
      b.loudness =
        (if (field bytes 11 1).testBit 1 then
          some (max (-9999) (min 3999 (fieldInt16 bytes 40)), max 0 (min 2000 (fieldInt16 bytes 42)))
        else none) ∧
      b.captions =
        (if (field bytes 11 1).testBit 2 then some (decide (field bytes 44 1 ≠ 0), min 1000 (field bytes 46 2))
        else none) := by
  have segId : b.segId = BitVec.ofNat 32 (field bytes 4 4) ↔ b.segId.toNat = field bytes 4 4 := by
    have small : field bytes 4 4 < 2 ^ 32 := field_lt bytes 4 4
    rw [← BitVec.toNat_inj, BitVec.toNat_ofNat, Nat.mod_eq_of_lt small]
  have loudness : parseLoudness bytes =
      if (field bytes 11 1).testBit 1 then
        some (max (-9999) (min 3999 (fieldInt16 bytes 40)), max 0 (min 2000 (fieldInt16 bytes 42)))
      else none := by
    unfold parseLoudness
    rw [bitOf_eq, clampInt_eq_max_min (by decide), clampInt_eq_max_min (by decide)]
    rfl
  have captions : parseCaptions bytes =
      if (field bytes 11 1).testBit 2 then some (decide (field bytes 44 1 ≠ 0), min 1000 (field bytes 46 2)) else none := by
    unfold parseCaptions
    rw [bitOf_eq]
  rw [← segId, ← loudness, ← captions, ← bitOf_eq]
  unfold bodyOf parseBody
  cases b
  simp

end

end Sys2Proof.Machine

namespace Sys2Proof.Machine

/-! ### The order of the checks (R82) -/

/-- R83: the body of a posting overlaps the docket of an entry. -/
theorem Entry.overlaps_iff (e : Entry) (b : Body) :
    e.overlaps b = true ↔ ∃ c, e.body = some c ∧ c.cls.layer = b.cls.layer ∧
      ((e.state = .pending ∨ e.state = .armed ∨ e.state = .opened) ∧
          c.firstStart < (if b.isOnNext = true ∧ b.firstStart < c.firstStart then c.firstStart else b.endStamp) ∧
          b.firstStart < (if c.isOnNext = true ∧ c.firstStart < b.firstStart then b.firstStart else c.endStamp) ∨
        e.state = .opened ∧ b.firstStart ≤ c.firstStart) := by
  unfold Entry.overlaps Body.meets Body.endAgainst
  cases body : e.body with
  | none => simp
  | some c =>
    simp only [Bool.and_eq_true, Bool.or_eq_true, decide_eq_true_eq, Option.some.injEq, exists_eq_left', or_assoc]
    refine and_congr_right fun _ => or_congr_left (and_congr_right fun _ => and_comm)

/-- A value that the checks decide in their order is told by which of them fails first. -/
theorem checks_in_order {v : RefusalCause ⊕ Body} {enabled : Bool} {goodClass goodMode window long late overlap : Prop}
    {holds : Body → Prop}
    (outcome : enabled = false ∧ v = .inl .serviceDisabled ∨
      enabled = true ∧ (¬ goodClass ∧ v = .inl .badClass ∨
        goodClass ∧ (¬ goodMode ∧ v = .inl .badMode ∨
          goodMode ∧ (window ∧ v = .inl .badWindow ∨
            ¬ window ∧ (long ∧ v = .inl .tooLong ∨
              ¬ long ∧ (late ∧ v = .inl .tooLate ∨
                ¬ late ∧ (overlap ∧ v = .inl .overlap ∨
                  ¬ overlap ∧ ∃ b, v = .inr b ∧ ∀ c, holds c ↔ c = b))))))) :
    (v = .inl .serviceDisabled ↔ enabled = false) ∧ (v = .inl .badClass ↔ enabled = true ∧ ¬ goodClass) ∧
      (v = .inl .badMode ↔ enabled = true ∧ goodClass ∧ ¬ goodMode) ∧
      (v = .inl .badWindow ↔ enabled = true ∧ goodClass ∧ goodMode ∧ window) ∧
      (v = .inl .tooLong ↔ enabled = true ∧ goodClass ∧ goodMode ∧ ¬ window ∧ long) ∧
      (v = .inl .tooLate ↔ enabled = true ∧ goodClass ∧ goodMode ∧ ¬ window ∧ ¬ long ∧ late) ∧
      (v = .inl .overlap ↔ enabled = true ∧ goodClass ∧ goodMode ∧ ¬ window ∧ ¬ long ∧ ¬ late ∧ overlap) ∧
      ∀ b, v = .inr b ↔
        enabled = true ∧ goodClass ∧ goodMode ∧ ¬ window ∧ ¬ long ∧ ¬ late ∧ ¬ overlap ∧ holds b := by
  rcases outcome with ⟨h1, rfl⟩ | ⟨h1, ⟨h2, rfl⟩ | ⟨h2, ⟨h3, rfl⟩ | ⟨h3, ⟨h4, rfl⟩ | ⟨h4, ⟨h5, rfl⟩ | ⟨h5, ⟨h6, rfl⟩ |
    ⟨h6, ⟨h7, rfl⟩ | ⟨h7, b, rfl, only⟩⟩⟩⟩⟩⟩⟩
  case inr.inr.inr.inr.inr.inr.inr => simp [h1, h2, h3, h4, h5, h6, h7, only, eq_comm]
  all_goals simp [*]

section
variable (s : State) (n : Svc) (bytes : List Byte)

/-- R82, R83: what the seven checks make of a posting's fields. -/
theorem State.validate_outcome :
    (s.sheetOf n).enable = false ∧ s.validate n bytes = .inl .serviceDisabled ∨
      (s.sheetOf n).enable = true ∧ (¬ (1 ≤ field bytes 8 1 ∧ field bytes 8 1 ≤ 4) ∧ s.validate n bytes = .inl .badClass ∨
        (∃ c : SegClass, c.code = field bytes 8 1 ∧
          (¬ (1 ≤ field bytes 9 1 ∧ field bytes 9 1 ≤ 2 ∧ 1 ≤ field bytes 10 1 ∧ field bytes 10 1 ≤ 3) ∧
              s.validate n bytes = .inl .badMode ∨
            (1 ≤ field bytes 9 1 ∧ field bytes 9 1 ≤ 2 ∧ 1 ≤ field bytes 10 1 ∧ field bytes 10 1 ≤ 3) ∧
              s.validate n bytes =
                if (bodyOf bytes c).badWindow then .inl .badWindow
                else if (bodyOf bytes c).tooLong (s.sheetOf n).rate then .inl .tooLong
                else if s.tooLate n (bodyOf bytes c) then .inl .tooLate
                else if allSlots.any fun k => (s.entry n k).overlaps (bodyOf bytes c) then .inl .overlap
                else .inr (bodyOf bytes c)))) := by
  unfold State.validate
  cases enabled : (s.sheetOf n).enable with
  | false => exact .inl ⟨rfl, rfl⟩
  | true =>
    right
    refine ⟨rfl, ?_⟩
    rw [if_pos rfl]
    cases code : parseClass (field bytes 8 1) with
    | none =>
      left
      refine ⟨fun good => ?_, rfl⟩
      obtain ⟨c, some⟩ := (parseClass_isSome _).mpr good
      rw [code] at some
      exact nomatch some
    | some c =>
      right
      refine ⟨c, (parseClass_iff _ c).mp code, ?_⟩
      rw [parseStart_eq, parseEnd_eq]
      by_cases start : 1 ≤ field bytes 9 1 ∧ field bytes 9 1 ≤ 2
      · by_cases finish : 1 ≤ field bytes 10 1 ∧ field bytes 10 1 ≤ 3
        · right
          rw [if_pos start, if_pos finish]
          exact ⟨⟨start.1, start.2, finish⟩, rfl⟩
        · left
          rw [if_pos start, if_neg finish]
          exact ⟨fun good => finish good.2.2, rfl⟩
      · left
        rw [if_neg start]
        exact ⟨fun good => start ⟨good.1, good.2.1⟩, rfl⟩

/-- R83: the fields of a posting overlap the docket of some slot. -/
theorem State.overlaps_fields {c : SegClass} (code : c.code = field bytes 8 1)
    (mode : 1 ≤ field bytes 10 1 ∧ field bytes 10 1 ≤ 3) :
    (allSlots.any fun k => (s.entry n k).overlaps (bodyOf bytes c)) = true ↔
      ∃ (j : Slot) (d : Body), (s.entry n j).body = some d ∧
        d.cls.layer = (if field bytes 8 1 ≤ 2 then .outer else .inner) ∧
        (((s.entry n j).state = .pending ∨ (s.entry n j).state = .armed ∨ (s.entry n j).state = .opened) ∧
            d.firstStart <
              (if field bytes 10 1 = 3 ∧ stampField bytes 16 < d.firstStart then d.firstStart else stampField bytes 32) ∧
            stampField bytes 16 <
              (if d.isOnNext = true ∧ d.firstStart < stampField bytes 16 then stampField bytes 16 else d.endStamp) ∨
          (s.entry n j).state = .opened ∧ stampField bytes 16 ≤ d.firstStart) := by
  have layer : (bodyOf bytes c).cls.layer = if field bytes 8 1 ≤ 2 then .outer else .inner := by
    rw [← code]
    exact c.layer_eq
  simp only [List.any_eq_true, mem_allSlots, true_and, Entry.overlaps_iff, bodyOf_isOnNext mode, bodyOf_firstStart,
    bodyOf_endStamp, layer]

/-- R82: the causes of refusal in their order, and the body taken of the fields. -/
theorem State.validate_checks :
    let sh := s.sheetOf n
    let goodClass := 1 ≤ field bytes 8 1 ∧ field bytes 8 1 ≤ 4
    let goodMode := 1 ≤ field bytes 9 1 ∧ field bytes 9 1 ≤ 2 ∧ 1 ≤ field bytes 10 1 ∧ field bytes 10 1 ≤ 3
    let badWindow := lastField bytes < stampField bytes 16 ∨ stampField bytes 32 ≤ lastField bytes
    let tooLong := stampField bytes 16 + 86400 * sh.rate < stampField bytes 32
    let tooLate := s.feed[n].lock = .locked ∧ lastField bytes + sh.lateAllowance < s.feed[n].time
    let overlap := ∃ (j : Slot) (d : Body), (s.entry n j).body = some d ∧
      d.cls.layer = (if field bytes 8 1 ≤ 2 then .outer else .inner) ∧
      (((s.entry n j).state = .pending ∨ (s.entry n j).state = .armed ∨ (s.entry n j).state = .opened) ∧
          d.firstStart <
            (if field bytes 10 1 = 3 ∧ stampField bytes 16 < d.firstStart then d.firstStart else stampField bytes 32) ∧
          stampField bytes 16 <
            (if d.isOnNext = true ∧ d.firstStart < stampField bytes 16 then stampField bytes 16 else d.endStamp) ∨
        (s.entry n j).state = .opened ∧ stampField bytes 16 ≤ d.firstStart)
    sh.enable = false ∧ s.validate n bytes = .inl .serviceDisabled ∨
      sh.enable = true ∧ (¬ goodClass ∧ s.validate n bytes = .inl .badClass ∨
        goodClass ∧ (¬ goodMode ∧ s.validate n bytes = .inl .badMode ∨
          goodMode ∧ (badWindow ∧ s.validate n bytes = .inl .badWindow ∨
            ¬ badWindow ∧ (tooLong ∧ s.validate n bytes = .inl .tooLong ∨
              ¬ tooLong ∧ (tooLate ∧ s.validate n bytes = .inl .tooLate ∨
                ¬ tooLate ∧ (overlap ∧ s.validate n bytes = .inl .overlap ∨
                  ¬ overlap ∧ ∃ b, s.validate n bytes = .inr b ∧ ∃ c : SegClass, c.code = field bytes 8 1 ∧
                    b = bodyOf bytes c)))))) := by
  intro sh goodClass goodMode badWindow tooLong tooLate overlap
  rcases s.validate_outcome n bytes with off | ⟨on, bad | ⟨c, code, outcome⟩⟩
  · exact .inl off
  · exact .inr ⟨on, .inl bad⟩
  · have good : goodClass := (parseClass_isSome _).mp ⟨c, (parseClass_iff _ c).mpr code⟩
    refine .inr ⟨on, .inr ⟨good, ?_⟩⟩
    rcases outcome with bad | ⟨mode, outcome⟩
    · exact .inl bad
    · refine .inr ⟨mode, ?_⟩
      rw [outcome]
      have window : (bodyOf bytes c).badWindow = true ↔ badWindow := bodyOf_badWindow
      have long : (bodyOf bytes c).tooLong (s.sheetOf n).rate = true ↔ tooLong := by
        unfold Body.tooLong
        rw [bodyOf_firstStart, bodyOf_endStamp, decide_eq_true_iff]
      have late : s.tooLate n (bodyOf bytes c) = true ↔ tooLate := by
        unfold State.tooLate
        rw [bodyOf_lastStart, Bool.and_eq_true, decide_eq_true_iff, decide_eq_true_iff]
      have meets := s.overlaps_fields n bytes code mode.2.2
      by_cases h4 : badWindow
      · exact .inl ⟨h4, if_pos (window.mpr h4)⟩
      · rw [if_neg (mt window.mp h4)]
        refine .inr ⟨h4, ?_⟩
        by_cases h5 : tooLong
        · exact .inl ⟨h5, if_pos (long.mpr h5)⟩
        · rw [if_neg (mt long.mp h5)]
          refine .inr ⟨h5, ?_⟩
          by_cases h6 : tooLate
          · exact .inl ⟨h6, if_pos (late.mpr h6)⟩
          · rw [if_neg (mt late.mp h6)]
            refine .inr ⟨h6, ?_⟩
            by_cases h7 : overlap
            · exact .inl ⟨h7, if_pos (meets.mpr h7)⟩
            · rw [if_neg (mt meets.mp h7)]
              exact .inr ⟨h7, _, rfl, c, code, rfl⟩

end

end Sys2Proof.Machine

namespace Sys2Proof.Machine

/-! ### A posting settled (R82, R84) -/

section
variable {s : State} {n : Svc} {k : Slot} {p : BitVec 16} {b : Body} {bytes : List Byte}

theorem State.carries_of_linked (link : s.isLinked = true) : s.carries = true := by
  have linked : s.ctl.link = .linked := of_decide_eq_true link
  simp [State.carries, linked]

/-- R84: the state in which an accepted posting stands PENDING. -/
def State.accepted (s : State) (n : Svc) (k : Slot) (p : BitVec 16) (b : Body) : State :=
  (s.modEntry n k (Entry.accept p b)).writeStanding n k

theorem State.accepted_entry (s : State) (n : Svc) (k : Slot) (p : BitVec 16) (b : Body) (j : Slot) :
    (s.accepted n k p b).entry n j =
      if j = k then ((s.entry n k).accept p b).hand s.carries (.standing .pending p) else s.entry n j := by
  unfold State.accepted
  rw [State.writeStanding_entry, State.modEntry_get, State.modEntry_get, if_pos rfl]
  split <;> rfl

theorem State.accepted_onward (s : State) (n : Svc) (k : Slot) (p : BitVec 16) (b : Body) :
    Onward n s (s.accepted n k p b) where
  ctl := by simp [State.accepted]
  feed := by simp [State.accepted]
  sheet := by simp [State.accepted]
  moves := by
    have pool : (s.accepted n k p b).pool = s.pool := by simp [State.accepted]
    rw [pool]
    exact .refl _
  logs := .of_same (by simp [State.accepted]) (by simp [State.accepted])
  own own := by
    have pool : (s.accepted n k p b).pool = s.pool := by simp [State.accepted]
    intro j x opened held
    rw [State.accepted_entry] at opened held ⊢
    rw [pool]
    by_cases same : j = k
    · rw [if_pos same, Entry.hand_state] at opened
      exact nomatch opened
    · rw [if_neg same] at opened held ⊢
      exact own j x opened held

/-- R84: the entry of an accepted posting. -/
theorem Entry.accept_fields (p : BitVec 16) (b : Body) (carries : Bool) (e : Entry) :
    let a := (e.accept p b).hand carries (.standing .pending p)
    a.state = .pending ∧ a.posting = p ∧ a.body = some b ∧ a.flags = VerdictFlags.none ∧ a.validating = none ∧
      e.Hands carries [.standing .pending p] a := by
  intro a
  have cleared : e.Hands carries [] (e.accept p b) := .of_same carries rfl rfl rfl
  refine ⟨by simp [a, Entry.accept], by simp [a, Entry.accept], by simp [a, Entry.accept], ?_, ?_,
    cleared.trans (Entry.hand_hands carries _ _)⟩
  · rw [show a.flags = (e.accept p b).flags from Entry.hand_flags ..]
    rfl
  · rw [show a.validating = (e.accept p b).validating from Entry.hand_validating ..]
    rfl

/-- R82: the entry of a refused posting, with its cause and its standing handed. -/
theorem State.settlePosting_refuses (s : State) (n : Svc) (k : Slot) (p : BitVec 16) (c : RefusalCause) :
    let t := s.settlePosting n k p (.inl c)
    (t.entry n k).state = .refused ∧ (t.entry n k).posting = p ∧ (t.entry n k).body = none ∧
      (t.entry n k).validating = none ∧ t.panel = s.panel ∧ SlotHands n k [.cause c, .standing .refused p] s t := by
  intro t
  have entry : t.entry n k =
      (((s.entry n k).refuse p).hand s.carries (.cause c)).hand s.carries (.standing .refused p) := by
    have carries : ∀ u : State, ((u.modEntry n k (Entry.refuse p)).pushWrite n k (.cause c)).carries = u.carries := fun u => by
      unfold State.carries
      rw [show ((u.modEntry n k (Entry.refuse p)).pushWrite n k (.cause c)).ctl = u.ctl by simp]
    show ((((s.modEntry n k (Entry.refuse p)).pushWrite n k (.cause c)).writeStanding n k).entry n k) = _
    rw [State.writeStanding_entry, if_pos rfl, carries, State.pushWrite_entry, if_pos rfl, State.modEntry_entry,
      Entry.hand_state, Entry.hand_posting]
    rfl
  have hands : (s.entry n k).Hands s.carries ([] ++ [.cause c] ++ [.standing .refused p]) (t.entry n k) := by
    have cleared : (s.entry n k).Hands s.carries [] ((s.entry n k).refuse p) := .of_same s.carries rfl rfl rfl
    rw [entry]
    exact (cleared.trans (Entry.hand_hands s.carries _ _)).trans (Entry.hand_hands s.carries _ _)
  refine ⟨?_, ?_, ?_, ?_, by simp [t, State.settlePosting], hands.slotHands⟩ <;> rw [entry]
  · simp [Entry.refuse]
  · simp [Entry.refuse]
  · simp only [Entry.hand_body]
    rfl
  · simp only [Entry.hand_validating]
    rfl

/-- R84, R89: what of an accepted posting has passed fires, but in SEEKING. -/
theorem State.firePassed_fires (timed : s.feed[n].lock ≠ .seeking) :
    s.firePassed n k =
      (State.fired n ⟨true, false, false⟩ (s.boundariesOf n [k] fun u => decide (u ≤ s.feed[n].time)) s).refreshRequirement
        n := by
  unfold State.firePassed
  rw [if_neg timed]
  rfl

/-- R84: a posting none of whose boundaries has passed, or in SEEKING, stands as it was accepted. -/
theorem State.firePassed_waits (hb : (s.entry n k).body = some b) (pending : (s.entry n k).state = .pending)
    (future : s.feed[n].lock = .seeking ∨ ∀ x ∈ b.boundaries k, s.feed[n].time < x.stamp) :
    (s.firePassed n k).entry n k = s.entry n k := by
  by_cases seeking : s.feed[n].lock = .seeking
  · unfold State.firePassed
    rw [if_pos seeking]
  · have later := future.resolve_left seeking
    have first : s.feed[n].time < b.firstStart := by
      cases onCue : b.startsOnCue with
      | true => exact later _ (b.arm_mem k onCue).1
      | false =>
        obtain ⟨mem, same⟩ := b.start_mem k onCue
        exact same ▸ later _ mem
    have sched : ∀ u : State, (u.refreshRequirement n).sched = u.sched := by simp
    rw [State.firePassed_fires seeking, State.entry_of_sched (sched _)]
    exact State.event_waits hb (.inl ⟨pending, by simpa using first⟩) (List.Subset.refl _)

/-- R84: a posting whose first start has passed and whose last one has not is ARMED. -/
theorem State.firePassed_arms (hb : (s.entry n k).body = some b) (pending : (s.entry n k).state = .pending)
    (timed : s.feed[n].lock ≠ .seeking) (first : b.firstStart ≤ s.feed[n].time) (last : s.feed[n].time < b.lastStart) :
    (s.firePassed n k).entry n k = (s.entry n k).arming s.carries := by
  have sched : ∀ u : State, (u.refreshRequirement n).sched = u.sched := by simp
  rw [State.firePassed_fires timed, State.entry_of_sched (sched _)]
  exact State.event_arms hb List.mem_cons_self (List.nodup_singleton k) pending (by simpa using first) (by simpa using last)

/-- R84, R87, R91, R96, R97: a posting whose last start has passed opens, each boundary LATE, and closes where its end has passed. -/
theorem State.firePassed_opens {t : State} (hb : (s.entry n k).body = some b) (pending : (s.entry n k).state = .pending)
    (timed : s.feed[n].lock ≠ .seeking) (starts : b.firstStart ≤ b.lastStart) (ends : b.lastStart < b.endStamp)
    (last : b.lastStart ≤ s.feed[n].time) (ht : t = s.firePassed n k) :
    (s.entry n k).Opened s.carries s.feed[n].time b ⟨true, false, false⟩ (b.endStamp ≤ s.feed[n].time) (t.entry n k) ∧
      (s.entry n k).SamePosting (t.entry n k) ∧ (t.entry n k).tally.counted = 0 ∧
      (s.feed[n].time < b.endStamp → (t.entry n k).state = .opened) ∧
      (b.endStamp ≤ s.feed[n].time →
        ((t.entry n k).state = .closing ∨ (t.entry n k).state = .closed) ∧
        (t.entry n k).closeStamp = some s.feed[n].time ∧
        (OpenOwn n s → ∀ x : CtxId, (t.entry n k).context = some x →
          t.pool[x].state = .closing ∧ x ∈ t.integ.queue ∧
          t.pool[x].figures = some ((s.sheetOf n).closeFigures b.cls))) ∧
      ∀ (j : Slot) (o : Body), j ≠ k → (s.entry n j).state = .opened → (s.entry n j).body = some o →
        o.cls.layer = b.cls.layer → o.isOnNext = true → (s.entry n j).snapshot.isSome = true →
        (t.entry n j).state = (if (s.entry n j).context.isNone && s.carries then .closed else .closing) ∧
        (t.entry n j).closeStamp = some s.feed[n].time ∧ (t.entry n j).flags = (s.entry n j).flags.union .ofLate ∧
        SlotHands n j (closeWrites n j t) s t ∧ (OpenOwn n s → SegmentEnds n j o (s.sheetOf n) s t) := by
  obtain ⟨u, onward, others, own, fires⟩ := State.passed_opens (p := fun v => decide (v ≤ s.feed[n].time))
    (f := ⟨true, false, false⟩) hb pending starts ends (by simpa using starts.trans last) (by simpa using last) rfl
  obtain ⟨v, hv⟩ : ∃ v, v = u.openSegment n k (Firing.opening ⟨true, false, false⟩ b) := ⟨_, rfl⟩
  obtain ⟨w, hw⟩ : ∃ w, w = State.fired n ⟨true, false, false⟩ (s.boundariesOf n [k] fun u => decide (u ≤ s.feed[n].time)) s :=
    ⟨_, rfl⟩
  have taken : t = w.refreshRequirement n := by rw [ht, State.firePassed_fires timed, hw]
  have sched : t.sched = w.sched := by simp [taken]
  have pool : t.pool = w.pool := by simp [taken]
  have integ : t.integ = w.integ := by simp [taken]
  have recorder : t.recorder = w.recorder := by simp [taken]
  have entry := State.entry_of_sched sched n
  dsimp only at fires
  rw [← hw, ← hv] at fires
  have body : (u.entry n k).body = some b := by
    rw [own]
    exact ((s.entry n k).readied_samePosting s.carries b).body.trans hb
  have waits : (u.entry n k).state ≠ .opened := by
    rw [own]
    unfold Entry.readied
    split
    · simp [Entry.arming]
    · rw [pending]
      exact nofun
  have opens : ((s.entry n k).readied s.carries b).OpensWith s.carries s.feed[n].time b ⟨true, false, false⟩ (v.entry n k) := by
    rw [hv, State.openSegment_entry_own body waits, own, onward.carries, onward.feed]
    exact ⟨_, _, _, rfl⟩
  obtain ⟨opened, vbody⟩ := opens.opened
  have hv' : (v.entry n k).body = some b := by rw [vbody, ← own, body]
  have onward' : Onward n u v := hv ▸ State.openSegment_onward body waits _
  have through : Onward n s v := onward.trans onward'
  have closing : b.endStamp ≤ s.feed[n].time → w = v.closeSegment n k (Firing.closing ⟨true, false, false⟩ b).flags :=
    fun due => by rw [fires, if_pos (by simpa using due)]
  have stays : s.feed[n].time < b.endStamp → w = v := fun future => by rw [fires, if_neg (by simpa using future)]
  have onward'' : Onward n v w := by
    rw [fires]
    split
    · exact v.closeSegment_onward n k _
    · exact .refl n v
  have same : (s.entry n k).SamePosting (v.entry n k) := ((s.entry n k).readied_samePosting s.carries b).trans opens.samePosting.1
  have closed : b.endStamp ≤ s.feed[n].time →
      t.entry n k = (v.entry n k).closedAt s.carries s.feed[n].time (Firing.closing ⟨true, false, false⟩ b).flags := fun due => by
    rw [entry, closing due, State.closeSegment_entry_own opened hv', through.carries, through.feed]
  refine ⟨?_, ?_, ?_, fun future => ?_, fun due => ?_, fun j o other hj jbody layer next hs => ?_⟩
  · by_cases due : b.endStamp ≤ s.feed[n].time
    · rw [closed due]
      exact opens.thenEnded (Entry.Retouched.ended (.refl _) opened _ _ b _) (.inl due)
    · rw [entry, stays (Nat.lt_of_not_le due)]
      exact opens.thenStayed (Entry.Retouched.stayed (.refl _) opened _) due
  · by_cases due : b.endStamp ≤ s.feed[n].time
    · rw [closed due]
      exact same.trans ((v.entry n k).closedAt_samePosting _ _ _).1
    · rw [entry, stays (Nat.lt_of_not_le due)]
      exact same
  · by_cases due : b.endStamp ≤ s.feed[n].time
    · rw [closed due, ((v.entry n k).closedAt_samePosting _ _ _).2]
      exact opens.samePosting.2
    · rw [entry, stays (Nat.lt_of_not_le due)]
      exact opens.samePosting.2
  · rw [entry, stays future]
    exact opened
  · obtain ⟨-, -, -, context, -, closeStamp, -⟩ :=
      (v.entry n k).closedAt_fields s.carries s.feed[n].time (Firing.closing ⟨true, false, false⟩ b).flags
    rw [closed due]
    refine ⟨Entry.closedAt_state .., closeStamp, fun ownAll x hx => ?_⟩
    rw [context] at hx
    obtain ⟨state, figures, q, joined⟩ := (State.closeSegment_ended opened hv' (through.own ownAll)
      (Firing.closing ⟨true, false, false⟩ b).flags).context x hx
    rw [← closing due] at state figures joined
    rw [through.sheetOf] at figures
    rw [pool, integ]
    exact ⟨state, joined.subset (by simp), figures⟩
  · have was : u.entry n j = s.entry n j := others j other
    have ujo : (u.entry n j).state = .opened := was.symm ▸ hj
    have ujb : (u.entry n j).body = some o := was.symm ▸ jbody
    obtain ⟨a, eased, jclosed⟩ := State.openSegment_closed body waits (Firing.opening ⟨true, false, false⟩ b)
      (j := j) ⟨ujo, o, ujb, layer, next⟩
    rw [← hv, onward.carries, onward.feed] at jclosed
    rw [was] at eased
    have final : t.entry n j = a.closedAt s.carries s.feed[n].time .ofLate := by
      have vj : v.entry n j = a.closedAt s.carries s.feed[n].time .ofLate := jclosed
      have ended : (v.entry n j).state ≠ .opened := by
        rw [vj]
        exact Entry.closedAt_not_open _ _ _ _
      rw [entry, ← vj, fires]
      split
      · exact (v.closeSegment_eases _ n other).eq_of_not_open ended
      · rfl
    obtain ⟨-, ebody, esnapshot, econtext, eflags, -⟩ := eased.fields
    obtain ⟨-, -, -, -, -, closeStamp, flags⟩ := a.closedAt_fields s.carries s.feed[n].time .ofLate
    have standing := Entry.closedAt_standing (e := a) (carries := s.carries) s.feed[n].time .ofLate
      (by rw [ebody, jbody]; rfl) (by rw [esnapshot]; exact hs)
    have hands := (eased.hands s.carries).trans (a.closedAt_hands s.carries s.feed[n].time .ofLate)
    rw [← final] at standing closeStamp flags hands
    refine ⟨by rw [standing, econtext], closeStamp, by rw [flags, eflags], hands.slotHands, fun ownAll => ?_⟩
    have ends := State.openSegment_ends body waits (Firing.opening ⟨true, false, false⟩ b) ujo ujb layer next
    rw [← hv] at ends
    have ended := ((ends.before onward (.inl was)).ended ownAll).after onward''
    exact ended.segmentEnds (through.moves.trans onward''.moves) pool integ recorder

end

end Sys2Proof.Machine

namespace Sys2Proof.Machine

section
variable {s t : State} {n : Svc} {k : Slot} {p : BitVec 16} {b : Body} {bytes : List Byte}

/-- R82 check 4: an accepted body starts in order and ends behind its last start. -/
theorem State.validate_window (accepts : s.validate n bytes = .inr b) :
    b.firstStart ≤ b.lastStart ∧ b.lastStart < b.endStamp := by
  rcases s.validate_checks n bytes with ⟨-, h⟩ | ⟨-, ⟨-, h⟩ | ⟨-, ⟨-, h⟩ | ⟨-, ⟨-, h⟩ | ⟨window, ⟨-, h⟩ | ⟨-, ⟨-, h⟩ |
    ⟨-, ⟨-, h⟩ | ⟨-, d, h, c, -, rfl⟩⟩⟩⟩⟩⟩⟩
  case inr.inr.inr.inr.inr.inr.inr =>
    obtain rfl : bodyOf bytes c = b := Sum.inr.inj (h.symm.trans accepts)
    rw [bodyOf_firstStart, bodyOf_lastStart, bodyOf_endStamp]
    obtain ⟨late, early⟩ := not_or.mp window
    exact ⟨Nat.le_of_not_lt late, Nat.lt_of_not_le early⟩
  all_goals rw [h] at accepts; exact nomatch accepts

theorem SlotHands.contents {ws : List SlotContent} (h : SlotHands n k ws s t) (carries : s.carries = true)
    (kept : (s.entry n k).dropped = false) :
    (t.entry n k).writes.map SlotWrite.content = (s.entry n k).writes.map SlotWrite.content ++ ws := by
  have writes := h.1
  rwa [if_pos ⟨carries, kept⟩] at writes

/-- R82: POSTING_VALIDATION of a posting under validation. -/
theorem State.validatePosting_linked (link : s.isLinked = true) (validating : (s.entry n k).validating = some p) :
    s.validatePosting n k bytes = s.accessDone.settlePosting n k p (s.validate n bytes) := by
  unfold State.validatePosting
  rw [validating]
  exact if_pos link

/-- What has ended from a state has ended from one before that holds the same. -/
theorem SegmentEnds.of_same {u : State} {sh : Sheet} {j : Slot} {o : Body} (h : SegmentEnds n j o sh u t)
    (entry : u.entry n j = s.entry n j) (pool : u.pool = s.pool) (integ : u.integ = s.integ)
    (recorder : u.recorder = s.recorder) : SegmentEnds n j o sh s t := by
  unfold SegmentEnds at *
  rwa [entry, pool, integ, recorder] at h

/-- R84, R87, R96, R97: an accepted posting whose last start has passed. -/
theorem State.settlePosting_opens (carries : s.carries = true) (timed : s.feed[n].lock ≠ .seeking)
    (starts : b.firstStart ≤ b.lastStart) (ends : b.lastStart < b.endStamp) (last : b.lastStart ≤ s.feed[n].time)
    (ht : t = s.settlePosting n k p (.inr b)) :
    let arm : List SlotContent := if b.startsOnCue = true then [.standing .armed p] else []
    (t.entry n k).posting = p ∧ (t.entry n k).body = some b ∧ (t.entry n k).validating = none ∧
      (t.entry n k).openStamp = some s.feed[n].time ∧ (t.entry n k).flags.late = true ∧
      (t.entry n k).flags.flywheel = false ∧ (t.entry n k).tally.counted = 0 ∧
      ((t.entry n k).flags.cueMissed = true ↔
        b.startsOnCue = true ∨ b.endStamp ≤ s.feed[n].time ∧ b.endsOnCue = true) ∧
      (s.feed[n].time < b.endStamp → (t.entry n k).state = .opened) ∧
      SlotHands n k
        ([.standing .pending p] ++ arm ++ [.standing .opened p] ++
          if b.endStamp ≤ s.feed[n].time then closeWrites n k t else []) s t ∧
      (∀ (j : Slot) (o : Body), j ≠ k → (s.entry n j).state = .opened → (s.entry n j).body = some o →
        o.cls.layer = b.cls.layer → o.isOnNext = true → (s.entry n j).snapshot.isSome = true →
        (t.entry n j).state = (if (s.entry n j).context.isNone then .closed else .closing) ∧
        (t.entry n j).closeStamp = some s.feed[n].time ∧ (t.entry n j).flags = (s.entry n j).flags.union .ofLate ∧
        SlotHands n j (closeWrites n j t) s t ∧ (QueueSound s → SegmentEnds n j o (s.sheetOf n) s t)) ∧
      (b.endStamp ≤ s.feed[n].time →
        ((t.entry n k).state = .closing ∨ (t.entry n k).state = .closed) ∧
        (t.entry n k).closeStamp = some s.feed[n].time ∧
        (QueueSound s → ∀ x : CtxId, (t.entry n k).context = some x →
          t.pool[x].state = .closing ∧ x ∈ t.integ.queue ∧
          t.pool[x].figures = some ((s.sheetOf n).closeFigures b.cls))) := by
  intro arm
  obtain ⟨a, ha⟩ : ∃ a, a = s.accepted n k p b := ⟨_, rfl⟩
  have fires : t = a.firePassed n k := by rw [ht, ha]; rfl
  have own : a.entry n k = ((s.entry n k).accept p b).hand s.carries (.standing .pending p) := by
    rw [ha, State.accepted_entry, if_pos rfl]
  obtain ⟨pending, posting, body, flags, unvalidated, hands⟩ := (s.entry n k).accept_fields p b s.carries
  rw [← own] at pending posting body flags unvalidated hands
  have onward : Onward n s a := ha ▸ State.accepted_onward ..
  have feed : a.feed = s.feed := onward.feed
  obtain ⟨opened, same, counted, isOpen, closed, others⟩ := State.firePassed_opens body pending (by rw [feed]; exact timed)
    starts ends (by rw [feed]; exact last) fires
  rw [onward.carries, feed] at opened
  rw [feed] at isOpen closed others
  have armed : (a.entry n k).armWrites b = arm := by
    unfold Entry.armWrites
    rw [pending, posting]
    simp [arm]
  refine ⟨by rw [same.posting, posting], by rw [same.body, body], by rw [same.validating, unvalidated], opened.openStamp, ?_,
    ?_, counted, ?_, isOpen, ?_, fun j o other hj jbody layer next hs => ?_, fun due => ?_⟩
  · rw [opened.late]
    exact .inr rfl
  · rw [Bool.eq_false_iff, ne_eq, opened.flywheel, flags]
    simp [VerdictFlags.none]
  · rw [opened.cueMissed, flags]
    exact or_iff_right nofun
  · have later := opened.hands
    rw [armed, posting] at later
    have all := hands.trans later
    refine Entry.Hands.slotHands ?_
    by_cases due : b.endStamp ≤ s.feed[n].time
    · have shut : (t.entry n k).state ≠ .opened := by
        rcases (closed due).1 with h | h <;> rw [h] <;> exact nofun
      rw [if_neg shut] at all
      rw [if_pos due, closeWrites_eq]
      simpa using all
    · rw [if_pos (isOpen (Nat.lt_of_not_le due))] at all
      rw [if_neg due]
      simpa using all
  · have jsame : a.entry n j = s.entry n j := by rw [ha, State.accepted_entry, if_neg other]
    obtain ⟨state, closeStamp, jflags, jhands, jends⟩ := others j o other (by rw [jsame]; exact hj)
      (by rw [jsame]; exact jbody) layer next (by rw [jsame]; exact hs)
    unfold SlotHands at jhands
    rw [onward.carries, jsame] at jhands
    rw [onward.carries, jsame, carries, Bool.and_true] at state
    rw [jsame] at jflags
    refine ⟨state, closeStamp, jflags, jhands, fun sound => ?_⟩
    have ended := jends (onward.own (sound.openOwn n))
    rw [onward.sheetOf] at ended
    exact ended.of_same jsame (by simp [ha, State.accepted]) (by simp [ha, State.accepted]) (by simp [ha, State.accepted])
  · obtain ⟨state, closeStamp, context⟩ := closed due
    refine ⟨state, closeStamp, fun sound => ?_⟩
    have ended := context (onward.own (sound.openOwn n))
    rw [onward.sheetOf] at ended
    exact ended

/-- R84: an accepted posting whose first start has passed alone. -/
theorem State.settlePosting_arms (timed : s.feed[n].lock ≠ .seeking) (first : b.firstStart ≤ s.feed[n].time)
    (last : s.feed[n].time < b.lastStart) (ht : t = s.settlePosting n k p (.inr b)) :
    (t.entry n k).state = .armed ∧ (t.entry n k).posting = p ∧ (t.entry n k).body = some b ∧
      (t.entry n k).validating = none ∧ (t.entry n k).flags = VerdictFlags.none ∧
      SlotHands n k [.standing .pending p, .standing .armed p] s t := by
  obtain ⟨a, ha⟩ : ∃ a, a = s.accepted n k p b := ⟨_, rfl⟩
  have fires : t = a.firePassed n k := by rw [ht, ha]; rfl
  have own : a.entry n k = ((s.entry n k).accept p b).hand s.carries (.standing .pending p) := by
    rw [ha, State.accepted_entry, if_pos rfl]
  obtain ⟨pending, posting, body, flags, unvalidated, hands⟩ := (s.entry n k).accept_fields p b s.carries
  rw [← own] at pending posting body flags unvalidated hands
  have onward : Onward n s a := ha ▸ State.accepted_onward ..
  have feed : a.feed = s.feed := onward.feed
  have armed := State.firePassed_arms body pending (by rw [feed]; exact timed) (by rw [feed]; exact first)
    (by rw [feed]; exact last)
  rw [← fires, onward.carries] at armed
  have handed := hands.trans (Entry.arming_hands s.carries (a.entry n k))
  rw [← armed, posting] at handed
  refine ⟨?_, ?_, ?_, ?_, ?_, handed.slotHands⟩ <;> rw [armed]
  · simp [Entry.arming]
  · simpa [Entry.arming] using posting
  · simpa [Entry.arming] using body
  · unfold Entry.arming
    rw [Entry.hand_validating]
    exact unvalidated
  · simpa [Entry.arming] using flags

/-- R84: an accepted posting none of whose boundaries has passed, or in SEEKING. -/
theorem State.settlePosting_waits
    (future : s.feed[n].lock = .seeking ∨ ∀ x ∈ b.boundaries k, s.feed[n].time < x.stamp)
    (ht : t = s.settlePosting n k p (.inr b)) :
    (t.entry n k).state = .pending ∧ (t.entry n k).posting = p ∧ (t.entry n k).body = some b ∧
      (t.entry n k).flags = VerdictFlags.none ∧ (t.entry n k).validating = none ∧
      SlotHands n k [.standing .pending p] s t := by
  obtain ⟨a, ha⟩ : ∃ a, a = s.accepted n k p b := ⟨_, rfl⟩
  have fires : t = a.firePassed n k := by rw [ht, ha]; rfl
  have own : a.entry n k = ((s.entry n k).accept p b).hand s.carries (.standing .pending p) := by
    rw [ha, State.accepted_entry, if_pos rfl]
  obtain ⟨pending, posting, body, flags, unvalidated, hands⟩ := (s.entry n k).accept_fields p b s.carries
  rw [← own] at pending posting body flags unvalidated hands
  have feed : a.feed = s.feed := (ha ▸ State.accepted_onward .. : Onward n s a).feed
  have same := State.firePassed_waits body pending (by rw [feed]; exact future)
  rw [← fires] at same
  rw [← same] at pending posting body flags unvalidated hands
  exact ⟨pending, posting, body, flags, unvalidated, hands.slotHands⟩

end

/-- Settles O24: the checks go in their order (`State.validate_checks`); a posting whose last start has passed goes through its
boundaries one after the other (`State.passed_opens`). -/
theorem postingValidation : Obligations.PostingValidation := by
  refine ⟨fun s n k bytes p power link validating => ?_, fun s n bytes => ?_, fun s n k bytes power unlinked carries some => ?_,
    fun s n k bytes power idle => ?_⟩
  · obtain ⟨t, ht⟩ : ∃ t, t = s.accessDone.settlePosting n k p (s.validate n bytes) := ⟨_, rfl⟩
    have carries : s.carries = true := State.carries_of_linked link
    refine ⟨t, ?_, fun c refused => ?_, fun b accepts future => ?_, fun b accepts timed first => ?_⟩
    · rw [exec_effectOf _ power (by simp), ht]
      exact congrArg _ (State.validatePosting_linked link validating)
    · rw [refused] at ht
      obtain ⟨state, posting, body, unvalidated, panel, hands⟩ := s.accessDone.settlePosting_refuses n k p c
      rw [← ht] at state posting body unvalidated panel hands
      exact ⟨state, posting, body, unvalidated, panel, hands.contents carries⟩
    · rw [accepts] at ht
      obtain ⟨pending, posting, body, flags, unvalidated, hands⟩ := State.settlePosting_waits (s := s.accessDone) future ht
      exact ⟨pending, posting, body, flags, unvalidated, hands.contents carries⟩
    · intro cued cuedEnd arm
      rw [accepts] at ht
      obtain ⟨starts, ends⟩ := State.validate_window accepts
      by_cases last : b.lastStart ≤ s.feed[n].time
      · obtain ⟨posting, body, unvalidated, openStamp, late, flywheel, counted, missed, isOpen, hands, others, closed⟩ :=
          State.settlePosting_opens (s := s.accessDone) carries timed starts ends last ht
        have armed : (if b.startsOnCue = true then [SlotContent.standing .armed p] else []) = arm := by
          unfold Body.startsOnCue
          cases start : b.start <;> simp [arm, start]
        rw [armed] at hands
        rw [Body.startsOnCue_iff, Body.endsOnCue_iff] at missed
        exact ⟨posting, body, unvalidated, fun future => absurd last (Nat.not_le_of_lt future),
          fun _ => ⟨openStamp, late, flywheel, counted, missed, isOpen, hands, others, closed⟩⟩
      · obtain ⟨state, posting, body, unvalidated, flags, hands⟩ :=
          State.settlePosting_arms (s := s.accessDone) timed first (Nat.lt_of_not_le last) ht
        exact ⟨posting, body, unvalidated, fun _ => ⟨state, flags, hands⟩, fun passed => absurd passed last⟩
  · intro sh cls startMode endMode first last stop goodClass goodMode badWindow tooLong tooLate overlap
    refine checks_in_order ?_
    rcases s.validate_checks n bytes with h | ⟨h1, h | ⟨h2, h | ⟨h3, h | ⟨h4, h | ⟨h5, h | ⟨h6, h | ⟨h7, b, h, c, code, hb⟩⟩⟩⟩⟩⟩⟩
    · exact .inl h
    · exact .inr ⟨h1, .inl h⟩
    · exact .inr ⟨h1, .inr ⟨h2, .inl h⟩⟩
    · exact .inr ⟨h1, .inr ⟨h2, .inr ⟨h3, .inl h⟩⟩⟩
    · exact .inr ⟨h1, .inr ⟨h2, .inr ⟨h3, .inr ⟨h4, .inl h⟩⟩⟩⟩
    · exact .inr ⟨h1, .inr ⟨h2, .inr ⟨h3, .inr ⟨h4, .inr ⟨h5, .inl h⟩⟩⟩⟩⟩
    · exact .inr ⟨h1, .inr ⟨h2, .inr ⟨h3, .inr ⟨h4, .inr ⟨h5, .inr ⟨h6, .inl h⟩⟩⟩⟩⟩⟩
    · refine .inr ⟨h1, .inr ⟨h2, .inr ⟨h3, .inr ⟨h4, .inr ⟨h5, .inr ⟨h6, .inr ⟨h7, b, h, fun d => ?_⟩⟩⟩⟩⟩⟩⟩
      have codes : d.cls = c ↔ d.cls.code = cls := by
        rw [← (parseClass_iff cls d.cls), (parseClass_iff cls c).mpr code, Option.some.injEq, eq_comm]
      rw [hb, bodyOf_iff, codes]
      rfl
  · rw [exec_effectOf _ power (by simp)]
    refine congrArg _ ?_
    show s.validatePosting n k bytes = _
    obtain ⟨p, validating⟩ := Option.isSome_iff_exists.mp some
    unfold State.validatePosting
    rw [validating]
    dsimp only
    rw [if_neg (by rw [unlinked]; exact nofun), if_pos carries]
    rfl
  · rw [exec_effectOf _ power (by simp)]
    refine congrArg _ ?_
    show s.validatePosting n k bytes = _
    unfold State.validatePosting
    cases validating : (s.entry n k).validating with
    | none => rfl
    | some p =>
      have dark : s.carries = false := idle.resolve_left (by rw [validating]; exact nofun)
      have unlinked : s.isLinked = false := by
        cases link : s.isLinked with
        | false => rfl
        | true =>
          rw [State.carries_of_linked link] at dark
          exact nomatch dark
      dsimp only
      rw [if_neg (by rw [unlinked]; exact nofun), if_neg (by rw [dark]; exact nofun)]

end Sys2Proof.Machine

namespace Sys2Proof.Machine

/-! ### Panels and queues outside LINKED (R165, R169, R171) -/

/-- From s to t neither the queued writes, nor the Alert Unit, nor any timer or owed entry has changed. -/
structure Hushed (s t : State) : Prop where
  ctl : t.ctl = s.ctl
  live : t.live = s.live
  header : t.header = s.header
  alert : t.alert = s.alert
  cond : ∀ r, (t.cond r).timer = (s.cond r).timer ∧ (t.cond r).owed = (s.cond r).owed

theorem Hushed.refl (s : State) : Hushed s s := ⟨rfl, rfl, rfl, rfl, fun _ => ⟨rfl, rfl⟩⟩

section
variable {s t u : State}

theorem Hushed.trans (h : Hushed s t) (g : Hushed t u) : Hushed s u where
  ctl := g.ctl.trans h.ctl
  live := g.live.trans h.live
  header := g.header.trans h.header
  alert := g.alert.trans h.alert
  cond r := ⟨(g.cond r).1.trans (h.cond r).1, (g.cond r).2.trans (h.cond r).2⟩

theorem Hushed.isLinked (h : Hushed s t) : t.isLinked = s.isLinked := by simp only [State.isLinked, h.ctl]

theorem State.cond_of_panels (panel : t.panel = s.panel) (device : t.devPanel = s.devPanel) (r : CondRef) :
    t.cond r = s.cond r := by
  cases r <;> simp only [State.cond, panel, device]

/-- An operation that leaves the controller, the queues, the panels and the Alert Unit alone. -/
theorem Hushed.of_touches {T : List Part} (h : Touches T s t)
    (apart : ∀ p ∈ [Part.ctl, .live, .header, .alert, .panel, .devPanel], p ∉ T) : Hushed s t where
  ctl := h .ctl (apart _ (by decide))
  live := h .live (apart _ (by decide))
  header := h .header (apart _ (by decide))
  alert := h .alert (apart _ (by decide))
  cond r := by
    rw [State.cond_of_panels (h .panel (apart _ (by decide))) (h .devPanel (apart _ (by decide)))]
    exact ⟨rfl, rfl⟩

/-- R171: a change of an entry outside LINKED is written by nobody. -/
theorem State.changeCond_hushed (unlinked : s.isLinked = false) (n : Svc) (c : SvcCond) {f : CondEntry → CondEntry}
    (spares : ∀ e : CondEntry, (f e).timer = e.timer ∧ (f e).owed = e.owed) :
    Hushed s (s.changeCond (.service n c) f) := by
  rw [State.changeCond_unlinked unlinked]
  refine ⟨rfl, rfl, rfl, rfl, fun r => ?_⟩
  rw [State.modCond_get]
  split
  · exact spares _
  · exact ⟨rfl, rfl⟩

theorem State.raise_hushed (unlinked : s.isLinked = false) (n : Svc) (c : SvcCond) : Hushed s (s.raise n c) := by
  rw [State.raise_unlinked unlinked, ← State.changeCond_unlinked unlinked]
  exact State.changeCond_hushed unlinked n c fun _ => ⟨rfl, rfl⟩

theorem State.setLive_hushed (unlinked : s.isLinked = false) (n : Svc) (c : SvcCond) (live : Bool) :
    Hushed s (s.setLive n c live) := by
  have changed := State.changeCond_hushed unlinked n c (f := fun e => { e with live := live }) fun _ => ⟨rfl, rfl⟩
  unfold State.setLive
  split
  · exact .refl s
  · split
    · exact changed.trans (State.raise_hushed (changed.isLinked.trans unlinked) n c)
    · exact changed

theorem State.raiseVerdict_hushed (unlinked : s.isLinked = false) (n : Svc) (v : Verdict) : Hushed s (s.raiseVerdict n v) := by
  have loud : Hushed s (if v.loudness.fails then s.raise n .loudnessFail else s) := by
    split
    · exact State.raise_hushed unlinked n _
    · exact .refl s
  unfold State.raiseVerdict
  dsimp only
  split
  · exact loud.trans (State.raise_hushed (loud.isLinked.trans unlinked) n _)
  · exact loud

theorem State.pushWrite_hushed (s : State) (n : Svc) (k : Slot) (w : SlotContent) : Hushed s (s.pushWrite n k w) :=
  .of_touches (s.pushWrite_touches n k w) (by decide)

theorem State.modEntry_hushed (s : State) (n : Svc) (k : Slot) (f : Entry → Entry) : Hushed s (s.modEntry n k f) :=
  .of_touches (s.modEntry_touches n k f) (by decide)

theorem State.modSched_hushed (s : State) (n : Svc) (f : Sched → Sched) : Hushed s (s.modSched n f) :=
  .of_touches (s.modSched_touches n f) (by decide)

theorem State.deliverVerdict_hushed (unlinked : s.isLinked = false) (n : Svc) (k : Slot) (v : Verdict) :
    Hushed s (s.deliverVerdict n k v) := by
  have handed : Hushed s
      (((s.pushWrite n k (.verdict v)).modEntry n k fun e => { e with state := .closed }).writeStanding n k) :=
    ((s.pushWrite_hushed n k _).trans (State.modEntry_hushed _ n k _)).trans (State.pushWrite_hushed _ n k _)
  exact (handed.trans (State.raiseVerdict_hushed (handed.isLinked.trans unlinked) n v)).trans (State.modSched_hushed _ n _)

theorem State.announceClose_hushed (unlinked : s.isLinked = false) (n : Svc) (k : Slot) (metered : Bool) :
    Hushed s (s.announceClose n k metered) := by
  unfold State.announceClose State.finishVerdict
  split
  · exact s.pushWrite_hushed n k _
  split
  · split
    · exact State.deliverVerdict_hushed unlinked n k _
    · exact .refl s
  · exact .refl s

theorem State.afterLeaving_touches (s : State) (n : Svc) (k : Slot) (b : Body) (e : Entry) (add : VerdictFlags) :
    Touches [.sched, .pool, .integ] s (s.afterLeaving n k b e add) := by
  unfold State.afterLeaving
  dsimp only
  split <;> simp

/-- R96: a close outside LINKED. -/
theorem State.closeSegment_hushed (unlinked : s.isLinked = false) (n : Svc) (k : Slot) (add : VerdictFlags) :
    Hushed s (s.closeSegment n k add) := by
  by_cases ho : (s.entry n k).state = .opened
  · cases hb : (s.entry n k).body with
    | none => rw [State.closeSegment_idle (.inr hb)]; exact .refl s
    | some b =>
      rw [State.closeSegment_open ho hb]
      have left : Hushed s ((s.afterLeaving n k b (s.entry n k) add).markEnd n k b) :=
        .trans (.of_touches (s.afterLeaving_touches n k b _ add) (by decide))
          (.of_touches (State.markEnd_touches _ n k b) (by decide))
      exact left.trans (State.announceClose_hushed (left.isLinked.trans unlinked) n k _)
  · rw [State.closeSegment_idle (.inl ho)]
    exact .refl s

theorem State.judgeCaptions_hushed (unlinked : s.isLinked = false) (n : Svc) : Hushed s (s.judgeCaptions n) := by
  have given (b : Bool) (live : Bool) (c : SvcCond) {v : State} (h : Hushed s v) :
      Hushed s (if b then v.setLive n c live else v) ∧ Hushed s (if b then v else v.setLive n c live) := by
    have set := h.trans (State.setLive_hushed (h.isLinked.trans unlinked) n c live)
    cases b
    · exact ⟨h, set⟩
    · exact ⟨set, h⟩
  have cleared := (given (s.caption[n].required && decide (s.caption[n].state = .lost)) false .captionLoss (.refl s)).2
  have idle := cleared.trans (State.setLive_hushed (cleared.isLinked.trans unlinked) n .captionIdle
    (s.caption[n].required && decide (s.caption[n].state = .idle)))
  exact (given _ true .captionLoss idle).1

theorem State.refreshRequirement_hushed (unlinked : s.isLinked = false) (n : Svc) : Hushed s (s.refreshRequirement n) := by
  unfold State.refreshRequirement
  have required := Hushed.of_touches
    (s.modCaption_touches n fun c => { c with required := (s.requirement n).1, source := (s.requirement n).2 }) (by decide)
  exact required.trans (State.judgeCaptions_hushed (required.isLinked.trans unlinked) n)

theorem State.closeLayers_hushed (unlinked : s.isLinked = false) (n : Svc) (add : VerdictFlags) :
    Hushed s (s.closeLayers n add) :=
  State.closeLayers_keeps (P := Hushed s)
    (fun _ k h => h.trans (State.closeSegment_hushed (h.isLinked.trans unlinked) n k add)) (.refl s)

theorem State.closeOpen_hushed (unlinked : s.isLinked = false) (n : Svc) (add : VerdictFlags) :
    Hushed s (s.closeOpen n add) := by
  have closed := State.closeLayers_hushed unlinked n add
  exact closed.trans (State.refreshRequirement_hushed (closed.isLinked.trans unlinked) n)

theorem State.emptyDockets_hushed (unlinked : s.isLinked = false) (n : Svc) : Hushed s (s.emptyDockets n) := by
  unfold State.emptyDockets
  refine (s.modSched_hushed n _).trans (State.refreshRequirement_hushed ?_ n)
  rw [(s.modSched_hushed n _).isLinked, unlinked]

theorem State.schedUnlink_hushed (unlinked : s.isLinked = false) (n : Svc) : Hushed s (s.schedUnlink n) :=
  ((State.closeOpen_hushed unlinked n _).trans (.of_touches (State.forgetWaiting_touches _ n) (by decide))).trans
    (.of_touches (State.modEntriesWhere_touches _ n _ _) (by decide))

theorem State.schedFault_hushed (unlinked : s.isLinked = false) (n : Svc) : Hushed s (s.schedFault n) := by
  have closed := State.closeOpen_hushed unlinked n .ofUnlinkClose
  exact closed.trans (State.emptyDockets_hushed (closed.isLinked.trans unlinked) n)

theorem Hushed.foldl {f : State → Svc → State} (quiet : ∀ u : State, u.isLinked = false → ∀ n, Hushed u (f u n))
    (unlinked : s.isLinked = false) (ns : List Svc) : Hushed s (ns.foldl f s) :=
  foldl_keeps (Hushed s) f (fun u n h => h.trans (quiet u (h.isLinked.trans unlinked) n)) ns s (.refl s)

end

end Sys2Proof.Machine

namespace Sys2Proof.Machine

/-! ### The services' Schedulers at an unlink, one after the other (R101, R102) -/

/-- In a fold over the services stands each service's own step, and the steps before and after it leave its lane as it was. -/
theorem Aside.of_fold {f : State → Svc → State} (aside : ∀ (u : State) {m n : Svc}, n ≠ m → Aside n u (f u m))
    (s : State) (n : Svc) : ∃ u, Aside n s u ∧ Aside n (f u n) (allServices.foldl f s) := by
  have others (ms : List Svc) (hn : n ∉ ms) (u : State) : Aside n u (ms.foldl f u) := by
    induction ms generalizing u with
    | nil => exact .refl n u
    | cons m ms ih =>
      exact (aside u (List.ne_of_not_mem_cons hn)).trans (ih (List.not_mem_of_not_mem_cons hn) _)
  obtain ⟨before, after, split⟩ := List.append_of_mem (mem_allServices n)
  have nodup := allServices_nodup
  rw [split, List.nodup_append] at nodup
  obtain ⟨-, tail, apart⟩ := nodup
  refine ⟨before.foldl f s, others before (fun hn => apart n hn n List.mem_cons_self rfl) s, ?_⟩
  rw [split, List.foldl_append, List.foldl_cons]
  exact others after (List.nodup_cons.mp tail).1 _

theorem State.closeOpen_eq (s : State) (n : Svc) (add : VerdictFlags) :
    s.closeOpen n add = (s.closeLayers n add).refreshRequirement n := rfl

theorem State.closeOpen_parts (s : State) (n : Svc) (add : VerdictFlags) :
    (s.closeOpen n add).sched = (s.closeLayers n add).sched ∧ (s.closeOpen n add).pool = (s.closeLayers n add).pool ∧
      (s.closeOpen n add).integ = (s.closeLayers n add).integ ∧
      (s.closeOpen n add).recorder = (s.closeLayers n add).recorder := by
  rw [State.closeOpen_eq]
  simp

section
variable {s t : State} {m n : Svc} {add : VerdictFlags}

theorem OpenOwn.closeLayers_all (own : ∀ m, OpenOwn m s) (n : Svc) (add : VerdictFlags) (m : Svc) :
    OpenOwn m (s.closeLayers n add) :=
  State.closeLayers_keeps (P := fun u : State => ∀ m, OpenOwn m u) (fun _ k h => OpenOwn.closeSegment_all h n k add) own m

/-- From s to t the OPEN segments of service m have closed, and its dockets have then changed without one that opens. -/
structure ClosesAll (m : Svc) (add : VerdictFlags) (s t : State) : Prop where
  others : OthersSame m s t
  ctl : t.ctl = s.ctl
  pool : t.pool = (s.closeLayers m add).pool
  integ : t.integ = (s.closeLayers m add).integ
  recorder : t.recorder = (s.closeLayers m add).recorder
  opens : ∀ k, (t.entry m k).state = .opened →
    ((s.closeLayers m add).entry m k).state = .opened ∧
      (t.entry m k).context = ((s.closeLayers m add).entry m k).context ∧
      (t.entry m k).posting = ((s.closeLayers m add).entry m k).posting

/-- R53: the closes of one service, seen from another's lane. -/
theorem ClosesAll.aside (h : ClosesAll m add s t) (other : n ≠ m) : Aside n s t := by
  obtain ⟨feed, meter, caption, sched, -, recorder, panel, sheet, -⟩ := h.others n other
  have closing := (s.closeLayers_closing m add 0).onward
  refine ⟨by simp only [State.carries, h.ctl], feed, meter, caption, sched, recorder, panel, sheet,
    by rw [h.pool]; exact closing.moves, by rw [h.integ]; exact closing.logs.queue, fun own j => ?_⟩
  have closed := OpenOwn.closeLayers_all own m add
  by_cases same : j = m
  · subst same
    intro k x ho hx
    obtain ⟨ho', context, posting⟩ := h.opens k ho
    rw [h.pool, posting]
    exact closed j k x ho' (context ▸ hx)
  · obtain ⟨-, -, -, schedT, -⟩ := h.others j same
    obtain ⟨-, -, -, schedC, -⟩ : _ := State.closeLayers_keeps (P := OthersSame m s)
      (fun u k g => (State.closeSegment_other s u m k add).mpr g)
      (fun _ _ => ⟨rfl, rfl, rfl, rfl, rfl, rfl, rfl, rfl, rfl⟩) j same
    refine (closed j).of_runsOn (schedT.trans schedC.symm) fun _ c _ _ => ?_
    rw [h.pool]
    exact .refl _

/-- R53, R150: the segment of an OPEN docket ends in its service's closes among those of the others. -/
theorem ClosesAll.segmentEnds {u v : State} (before : Aside n s u) (h : ClosesAll n add u v) (after : Aside n v t)
    (own : ∀ m, OpenOwn m s) {k : Slot} {b : Body} (ho : (s.entry n k).state = .opened) (hb : (s.entry n k).body = some b) :
    SegmentEnds n k b (s.sheetOf n) s t := by
  have entry : u.entry n k = s.entry n k := before.entry k
  obtain ⟨-, -, -, ended⟩ := State.closeLayers_closes (s := u) (n := n) (j := k) add (entry ▸ ho) (entry ▸ hb)
  obtain ⟨context, mark, -⟩ := ended (before.own own n)
  rw [entry, before.sheetOf, ← h.pool, ← h.integ] at context
  rw [entry] at mark
  refine ⟨fun x hx running => ?_, fun last hl => ?_⟩
  · obtain ⟨closing, figures, q, joined⟩ := context x hx
    have stays : t.pool[x] = v.pool[x] :=
      (after.moves x (by rw [closing]; decide)).resolve_right fun moved => moved.1 closing
    have through : PoolMoves s.pool v.pool := before.moves.trans (by
      rw [h.pool]
      exact (u.closeLayers_closing n add k).onward.moves)
    obtain ⟨histogram, momentary⟩ := (through x).counts (by rcases running with h | h <;> rw [h] <;> decide)
    obtain ⟨q₀, hq₀⟩ := before.queue
    obtain ⟨q₁, hq₁⟩ := joined
    obtain ⟨q₂, hq₂⟩ := after.queue
    have queue : t.integ.queue = s.integ.queue ++ (q₀ ++ q ++ x :: (q₁ ++ q₂)) := by
      rw [← hq₂, ← hq₁, ← hq₀]
      simp
    rw [queue, stays]
    exact ⟨closing, by simp, by simp, figures, histogram, momentary⟩
  · have taken := mark last hl
    unfold MarkTaken at taken
    rwa [before.recorder, ← h.recorder, ← after.recorder] at taken

end

/-! ### A service's Scheduler at the entry to UNLINKING (R101) -/

/-- What the entry to UNLINKING leaves of a docket that has closed or was never OPEN. -/
def Entry.unlinking (e : Entry) : Entry := if e.forget.handed then e.forget else e.forget.rehandOnce

section
variable (s : State) (n : Svc)

theorem State.schedUnlink_entry (k : Slot) :
    (s.schedUnlink n).entry n k = ((s.closeLayers n .ofUnlinkClose).entry n k).unlinking := by
  unfold State.schedUnlink State.forgetWaiting Entry.unlinking
  rw [State.modEntriesWhere_entry, State.modEntriesWhere_entry, if_pos rfl,
    State.entry_of_sched (s.closeOpen_parts n .ofUnlinkClose).1]
  cases ((s.closeLayers n .ofUnlinkClose).entry n k).forget.handed <;> rfl

theorem State.modEntriesWhere_openSlot (p : Entry → Bool) (f : Entry → Entry) (l : Layer) :
    (s.modEntriesWhere n p f).sched[n].openSlot l = s.sched[n].openSlot l := by
  obtain ⟨inner, outer⟩ := s.modEntriesWhere_open n p f
  cases l
  · exact outer
  · exact inner

theorem State.schedUnlink_openSlot (l : Layer) :
    (s.schedUnlink n).sched[n].openSlot l = (s.closeLayers n .ofUnlinkClose).sched[n].openSlot l := by
  unfold State.schedUnlink State.forgetWaiting
  rw [State.modEntriesWhere_openSlot, State.modEntriesWhere_openSlot,
    State.openSlot_of_sched (s.closeOpen_parts n .ofUnlinkClose).1]

theorem Entry.rehandOnce_fields (e : Entry) : e.rehandOnce = { e with handed := e.handed || !e.writes.isEmpty } := by
  unfold Entry.rehandOnce
  split
  · next none => rw [none, Bool.not_true, Bool.or_false]
  · next some => rw [Bool.eq_false_iff.mpr some, Bool.not_false, Bool.or_true]

theorem Entry.unlinking_eq (e : Entry) :
    e.unlinking = { e.forget with handed := e.forget.handed || !e.forget.writes.isEmpty } := by
  unfold Entry.unlinking
  split
  · next handed =>
    rw [handed, Bool.true_or, ← handed]
  · exact Entry.rehandOnce_fields _

theorem Entry.unlinking_waiting {e : Entry} (waits : e.state = .pending ∨ e.state = .armed) :
    e.unlinking = { e.cleared with handed := e.handed || !e.writes.isEmpty } := by
  rw [Entry.unlinking_eq, Entry.forget, if_pos waits]
  rfl

theorem Entry.unlinking_other {e : Entry} (waits : ¬ (e.state = .pending ∨ e.state = .armed)) :
    e.unlinking = { e with handed := e.handed || !e.writes.isEmpty } := by
  rw [Entry.unlinking_eq, Entry.forget, if_neg waits]

theorem State.schedUnlink_closesAll : ClosesAll n .ofUnlinkClose s (s.schedUnlink n) := by
  obtain ⟨-, pool, integ, recorder⟩ := s.closeOpen_parts n .ofUnlinkClose
  refine ⟨s.schedUnlink_others n, by simp, ?_, ?_, ?_, fun k ho => ?_⟩
  · rw [← pool]; simp [State.schedUnlink]
  · rw [← integ]; simp [State.schedUnlink]
  · rw [← recorder]; simp [State.schedUnlink]
  · rw [State.schedUnlink_entry] at ho ⊢
    generalize (s.closeLayers n .ofUnlinkClose).entry n k = e at ho ⊢
    by_cases waits : e.state = .pending ∨ e.state = .armed
    · rw [Entry.unlinking_waiting waits] at ho
      simp [Entry.cleared, Entry.fresh] at ho
    · rw [Entry.unlinking_other waits] at ho ⊢
      exact ⟨ho, rfl, rfl⟩

/-- R90, R96: no close counts a cue. -/
theorem State.closeSegment_unmatched (k : Slot) (add : VerdictFlags) :
    (s.closeSegment n k add).sched[n].unmatched = s.sched[n].unmatched := by
  by_cases ho : (s.entry n k).state = .opened
  · cases hb : (s.entry n k).body with
    | none => rw [State.closeSegment_idle (.inr hb)]
    | some b =>
      have scheduler := State.closeSegment_sched ho hb add
      dsimp only at scheduler
      rw [scheduler]
      exact (s.sched[n].setOpen_fields b.cls.layer (s.leftOpen n b.cls.layer k)).2.1
  · rw [State.closeSegment_idle (.inl ho)]

theorem State.schedFault_sched : (s.schedFault n).sched[n] = { Sched.reset with unmatched := s.sched[n].unmatched } := by
  have unmatched : (s.closeOpen n .ofUnlinkClose).sched[n].unmatched = s.sched[n].unmatched := by
    rw [(s.closeOpen_parts n .ofUnlinkClose).1]
    exact State.closeLayers_keeps (P := fun u : State => u.sched[n].unmatched = s.sched[n].unmatched) (fun u k h => by
      rw [← h]; exact u.closeSegment_unmatched n k _) rfl
  unfold State.schedFault
  rw [State.emptyDockets_sched, if_pos rfl, Sched.emptied, unmatched]

theorem State.schedFault_closesAll : ClosesAll n .ofUnlinkClose s (s.schedFault n) := by
  obtain ⟨-, pool, integ, recorder⟩ := s.closeOpen_parts n .ofUnlinkClose
  refine ⟨s.schedFault_others n, by simp, ?_, ?_, ?_, fun k ho => ?_⟩
  · rw [← pool]; simp [State.schedFault]
  · rw [← integ]; simp [State.schedFault]
  · rw [← recorder]; simp [State.schedFault]
  · unfold State.entry at ho
    rw [State.schedFault_sched] at ho
    simp [Sched.reset, Entry.fresh] at ho

end

end Sys2Proof.Machine

namespace Sys2Proof.Machine

/-! ### The dockets at the entry to UNLINKING (R101) -/

/-- R96, R101: what the entry to UNLINKING leaves of an OPEN docket. -/
theorem Entry.Adjusts.unlinks {e a : Entry} (h : e.Adjusts a) (hb : e.body.isSome = true) (hs : e.snapshot.isSome = true)
    (now : Nat) :
    let e' := (a.closedAt true now .ofUnlinkClose).unlinking
    e'.state = (if e.context.isSome then .closing else .closed) ∧ e'.flags.unlinkClose = true ∧
      e'.closeStamp = some now ∧
      e'.writes.map SlotWrite.content =
        e.writes.map SlotWrite.content ++ if e.dropped then [] else e'.closeWrites := by
  intro e'
  obtain ⟨-, -, -, -, -, closeStamp, flags⟩ :=
    Entry.closedAt_fields (e := a) (carries := true) (now := now) (add := .ofUnlinkClose)
  have standing := Entry.closedAt_standing (carries := true) (e := a) now .ofUnlinkClose
  have hands := (h.hands true).trans (a.closedAt_hands true now .ofUnlinkClose)
  have shut := a.closedAt_state true now .ofUnlinkClose
  have same : a.body = e.body ∧ a.snapshot = e.snapshot ∧ a.context = e.context := by
    obtain rfl | ⟨-, p, q, rfl⟩ := h <;> exact ⟨rfl, rfl, rfl⟩
  rw [same.1, same.2.1, same.2.2] at standing
  obtain ⟨c, hc⟩ : ∃ c, c = a.closedAt true now .ofUnlinkClose := ⟨_, rfl⟩
  rw [← hc] at closeStamp flags standing hands shut
  have unlinked : e' = { c with handed := c.handed || !c.writes.isEmpty } := by
    rw [hc]
    exact Entry.unlinking_other (by rw [← hc]; rcases shut with h | h <;> rw [h] <;> decide)
  have contents := hands.contents
  rw [unlinked]
  refine ⟨?_, ?_, closeStamp, ?_⟩
  · rw [standing hb hs]
    cases e.context <;> rfl
  · change c.flags.unlinkClose = true
    rw [flags]
    exact Bool.or_true _
  · refine contents.trans (congrArg _ ?_)
    unfold Entry.sent
    cases e.dropped <;> rfl

/-- R101: what stands of a slot's writes is handed, one time. -/
theorem Entry.unlinking_not_waiting (e : Entry) : e.unlinking.state ≠ .pending ∧ e.unlinking.state ≠ .armed := by
  by_cases waits : e.state = .pending ∨ e.state = .armed
  · rw [Entry.unlinking_waiting waits]
    exact ⟨nofun, nofun⟩
  · rw [Entry.unlinking_other waits]
    exact not_or.mp waits

/-- The Schedulers of all services at the entry to UNLINKING. -/
def State.unlinkDockets (s : State) : State := allServices.foldl (fun s n => s.schedUnlink n) s

section
variable {s : State} (n : Svc)

theorem State.schedUnlink_aside (u : State) {m n : Svc} (other : n ≠ m) : Aside n u (u.schedUnlink m) :=
  (u.schedUnlink_closesAll m).aside other

theorem State.unlinkDockets_hushed (unlinked : s.isLinked = false) : Hushed s s.unlinkDockets :=
  .foldl (fun _ unlinked n => State.schedUnlink_hushed unlinked n) unlinked allServices

theorem State.unlinkDockets_entry (k : Slot) :
    ∃ u, Aside n s u ∧ s.unlinkDockets.entry n k = ((u.closeLayers n .ofUnlinkClose).entry n k).unlinking := by
  obtain ⟨u, before, after⟩ := Aside.of_fold State.schedUnlink_aside s n
  exact ⟨u, before, (after.entry k).trans (u.schedUnlink_entry n k)⟩

theorem State.unlinkDockets_not_waiting (k : Slot) :
    (s.unlinkDockets.entry n k).state ≠ .pending ∧ (s.unlinkDockets.entry n k).state ≠ .armed := by
  obtain ⟨u, -, own⟩ := State.unlinkDockets_entry (s := s) n k
  rw [own]
  exact Entry.unlinking_not_waiting _

/-- R101: a waiting docket is forgotten, its writes handed. -/
theorem State.unlinkDockets_waiting {k : Slot} (waits : (s.entry n k).state = .pending ∨ (s.entry n k).state = .armed) :
    s.unlinkDockets.entry n k =
      { (s.entry n k).cleared with handed := (s.entry n k).handed || !(s.entry n k).writes.isEmpty } := by
  obtain ⟨u, before, own⟩ := State.unlinkDockets_entry (s := s) n k
  have shut : (u.entry n k).state ≠ .opened := by
    rw [before.entry]
    rcases waits with h | h <;> rw [h] <;> decide
  have kept : (u.closeLayers n .ofUnlinkClose).entry n k = s.entry n k := by
    rw [← before.entry]
    rcases (u.closeLayers_closing n .ofUnlinkClose k).entry with adjusted | ⟨-, -, ho, -⟩
    · exact adjusted.eq_of_not_open shut
    · exact absurd ho shut
  rw [own, kept, Entry.unlinking_waiting waits]

/-- R101: no segment stays open. -/
theorem State.unlinkDockets_openSlot (sound : OpenSlotsStand n s) (l : Layer) :
    s.unlinkDockets.sched[n].openSlot l = none := by
  obtain ⟨u, before, after⟩ := Aside.of_fold State.schedUnlink_aside s n
  rw [← State.closeLayers_openSlot .ofUnlinkClose (sound.aside before) l, ← u.schedUnlink_openSlot n l]
  exact congrArg (Sched.openSlot · l) after.sched

/-- R96, R101: an OPEN docket closes with UNLINK_CLOSE. -/
theorem State.unlinkDockets_open (carries : s.carries = true) {k : Slot} (ho : (s.entry n k).state = .opened)
    (hb : (s.entry n k).body.isSome = true) (hs : (s.entry n k).snapshot.isSome = true) :
    let t := s.unlinkDockets
    (t.entry n k).state = (if (s.entry n k).context.isSome then .closing else .closed) ∧
      (t.entry n k).flags.unlinkClose = true ∧ (t.entry n k).closeStamp = some s.feed[n].time ∧
      (t.entry n k).writes.map SlotWrite.content =
        (s.entry n k).writes.map SlotWrite.content ++ if (s.entry n k).dropped then [] else closeWrites n k t := by
  intro t
  obtain ⟨b, body⟩ := Option.isSome_iff_exists.mp hb
  obtain ⟨u, before, own⟩ := State.unlinkDockets_entry (s := s) n k
  obtain ⟨a, adjusts, closed, -⟩ := State.closeLayers_closes (s := u) (n := n) (j := k) .ofUnlinkClose
    (by rw [before.entry]; exact ho) (by rw [before.entry]; exact body)
  rw [closed, before.carries, carries, before.feed] at own
  rw [before.entry] at adjusts
  rw [closeWrites_eq, show t.entry n k = _ from own]
  exact adjusts.unlinks hb hs _

theorem State.unlinkDockets_segmentEnds (own : ∀ m, OpenOwn m s) {k : Slot} {b : Body}
    (ho : (s.entry n k).state = .opened) (hb : (s.entry n k).body = some b) :
    SegmentEnds n k b (s.sheetOf n) s s.unlinkDockets := by
  obtain ⟨u, before, after⟩ := Aside.of_fold State.schedUnlink_aside s n
  exact (u.schedUnlink_closesAll n).segmentEnds before after own ho hb

end

end Sys2Proof.Machine

namespace Sys2Proof.Machine

/-! ### What the alert in progress hands (R168 step 2, R171) -/

/-- Two entries that differ in their timer and their owed write alone. -/
def CondEntry.SameFields (e e' : CondEntry) : Prop := ∃ timer owed, e' = { e with timer := timer, owed := owed }

theorem CondEntry.SameFields.refl (e : CondEntry) : e.SameFields e := ⟨_, _, rfl⟩

theorem CondEntry.SameFields.trans {e e' e'' : CondEntry} (h : e.SameFields e') (g : e'.SameFields e'') :
    e.SameFields e'' := by
  obtain ⟨_, _, rfl⟩ := h
  obtain ⟨timer, owed, rfl⟩ := g
  exact ⟨timer, owed, rfl⟩

/-- R171: the fields of an entry's write, which neither its timer nor its owed write is among. -/
theorem State.entryPieces_congr {s t : State} {r : CondRef} (base : t.ctl.base = s.ctl.base)
    (priority : t.priority r = s.priority r) (cond : (s.cond r).SameFields (t.cond r)) :
    t.entryPieces r = s.entryPieces r := by
  obtain ⟨timer, owed, cond⟩ := cond
  simp only [State.entryPieces, State.area, base, priority, cond]

theorem State.priority_congr {s t : State} (device : t.devPriority = s.devPriority) (sheet : t.sheet = s.sheet)
    (r : CondRef) : t.priority r = s.priority r := by
  cases r <;> simp only [State.priority, State.sheetOf, device, sheet]

theorem State.handCause_cond (s : State) (r : CondRef) : s.handCause.cond r = s.cond r := by
  cases r <;> rfl

theorem State.handAlert_cond (s : State) (r : CondRef) : (s.cond r).SameFields (s.handAlert.cond r) := by
  unfold State.handAlert
  rw [State.handCause_cond]
  refine foldl_keeps (fun u : State => (s.cond r).SameFields (u.cond r)) _ (fun u q h => h.trans ?_) allConds s (.refl _)
  rw [State.retryEntry_get]
  split
  · exact ⟨_, _, rfl⟩
  · exact .refl _

section
variable (s : State) {f : Ctl → Ctl} (link : ∀ c, (f c).link = c.link)
include link

/-! What is handed does not depend on the controller's readback. -/

theorem State.modCtl_isLinked : (s.modCtl f).isLinked = s.isLinked := by
  simp only [State.isLinked, State.modCtl, link]

theorem State.handCause_modCtl : (s.modCtl f).handCause = s.handCause.modCtl f := by
  have linked := s.modCtl_isLinked link
  simp only [State.handCause, State.handedHeader, State.causeReady, linked]
  rfl

theorem State.queueEntry_modCtl (r : CondRef) : (s.modCtl f).queueEntry r = (s.queueEntry r).modCtl f := by
  have linked := s.modCtl_isLinked link
  unfold State.queueEntry
  rw [linked]
  split
  · cases r with
    | device c =>
      simp only [State.handedHeader, State.causeReady, linked]
      rfl
    | service n c => rfl
  · rfl

theorem State.retryEntry_modCtl (r : CondRef) : (s.modCtl f).retryEntry r = (s.retryEntry r).modCtl f := by
  unfold State.retryEntry
  rw [s.modCtl_isLinked link, State.modCtl_cond, show (s.modCtl f).alert = s.alert from rfl]
  split
  · have mod : (s.modCtl f).modCond r (fun e => CondEntry.touched (s.modCtl f).isLinked (id e)) =
        (s.modCond r fun e => CondEntry.touched s.isLinked (id e)).modCtl f := by
      rw [s.modCtl_isLinked link]
      cases r <;> rfl
    unfold State.changeCond
    rw [mod]
    exact State.queueEntry_modCtl _ link r
  · rfl

theorem State.handAlert_modCtl : (s.modCtl f).handAlert = s.handAlert.modCtl f := by
  have folded (rs : List CondRef) (u : State) :
      rs.foldl State.retryEntry (u.modCtl f) = (rs.foldl State.retryEntry u).modCtl f := by
    induction rs generalizing u with
    | nil => rfl
    | cons r rs ih => rw [List.foldl_cons, List.foldl_cons, u.retryEntry_modCtl link, ih]
  unfold State.handAlert
  rw [folded, State.handCause_modCtl _ link]

end

/-! ### The queued writes at the entry to UNLINKING (R165, R169, R171, R197) -/

theorem State.stopReminders_cond (s : State) (r : CondRef) :
    s.stopReminders.cond r = { s.cond r with timer := none } := by
  have fold := foldl_at (fun (u : State) (q : CondRef) => u.cond q) (fun e => { e with timer := none })
    (fun u q => u.modCond q fun e => { e with timer := none })
    (fun u q => (u.modCond_get q q _).trans (if_pos rfl))
    (fun u q p h => (u.modCond_get q p _).trans (if_neg h)) r allConds s allConds_nodup
  rw [if_pos (mem_allConds r)] at fold
  exact fold

/-- A change of every live block, each by a function of its own. -/
theorem State.modLives_live (g : Svc → LiveWrite → LiveWrite) (s : State) (n : Svc) :
    (allServices.foldl (fun t m => t.modLive m (g m)) s).live[n] = g n s.live[n] := by
  have fold := foldl_at (fun (u : State) (m : Svc) => (m, u.live[m])) (fun x => (x.1, g x.1 x.2))
    (fun u m => u.modLive m (g m)) (fun u m => by simp [State.modLive]) (fun u m k h => by simp [State.modLive, h])
    n allServices s allServices_nodup
  rw [if_pos (mem_allServices n)] at fold
  exact congrArg Prod.snd fold

theorem State.modLives_frame (g : Svc → LiveWrite → LiveWrite) (s : State) :
    (allServices.foldl (fun t m => t.modLive m (g m)) s) =
      { s with live := (allServices.foldl (fun t m => t.modLive m (g m)) s).live } :=
  foldl_keeps (fun u : State => u = { s with live := u.live }) _ (fun u m h => by
    rw [h]
    rfl) allServices s rfl

theorem State.modLives_cond (g : Svc → LiveWrite → LiveWrite) (s : State) (r : CondRef) :
    (allServices.foldl (fun t m => t.modLive m (g m)) s).cond r = s.cond r :=
  foldl_same (fun u : State => u.cond r) _ (fun u m => by cases r <;> rfl) allServices s

section
variable (s : State)

theorem State.stopWrites_live (n : Svc) :
    s.stopWrites.live[n] = { s.live[n] with queue := s.live[n].queue.filterMap (LiveItem.carry s n) } := by
  rw [← s.modLives_live (fun m l => { l with queue := l.queue.filterMap (LiveItem.carry s m) }) n]
  unfold State.stopWrites
  simp

theorem State.stopWrites_header : s.stopWrites.header = s.header.flatMap (HeaderItem.carry s) := by
  have kept := congrArg State.header
    (s.modLives_frame fun m l => { l with queue := l.queue.filterMap (LiveItem.carry s m) })
  unfold State.stopWrites
  simp only [State.dropOwed_frame, State.modHeader]
  exact congrArg (List.flatMap (HeaderItem.carry s)) kept

theorem State.stopWrites_cond (r : CondRef) : s.stopWrites.cond r = { s.cond r with owed := false } := by
  have same (u : State) (f : List HeaderItem → List HeaderItem) : (u.modHeader f).cond r = u.cond r := by cases r <;> rfl
  unfold State.stopWrites
  rw [State.dropOwed_cond, same, State.modLives_cond fun m l => { l with queue := l.queue.filterMap (LiveItem.carry s m) }]

end

/-- The state whose queued writes the entry to UNLINKING takes over: its entries hold the fields that they had. -/
def State.stopped (s : State) : State := (s.handAlert.modCtl fun c => { c with link := .unlinking }).stopReminders

/-- The part at the entry to UNLINKING, before its Schedulers and its Mover act: the writes that go on, no timer, no owed
entry and no alert in progress. -/
def State.hushedAt (s : State) : State := s.stopped.stopWrites.dropAlert

section
variable (s : State)

theorem State.hushedAt_touches :
    Touches [.ctl, .panel, .devPanel, .live, .header, .alert] s s.hushedAt := by
  simp [State.hushedAt, State.stopped]

theorem State.hushedAt_ctl : s.hushedAt.ctl = { s.ctl with link := .unlinking } := by
  have kept : s.hushedAt.ctl = (s.handAlert.modCtl fun c => { c with link := .unlinking }).ctl := by
    simp [State.hushedAt, State.stopped]
  have handed : s.handAlert.ctl = s.ctl := by simp
  rw [kept, ← handed]
  rfl

theorem State.hushedAt_cond (r : CondRef) : (s.hushedAt.cond r).timer = none ∧ (s.hushedAt.cond r).owed = false := by
  have dropped (u : State) : u.dropAlert.cond r = u.cond r := by cases r <;> rfl
  unfold State.hushedAt State.stopped
  rw [dropped, State.stopWrites_cond, State.stopReminders_cond]
  exact ⟨rfl, rfl⟩

theorem State.stopped_touches : Touches [.ctl, .panel, .devPanel, .live, .header] s s.stopped := by
  simp [State.stopped]

theorem State.stopped_ctl : s.stopped.ctl = { s.ctl with link := .unlinking } := by
  have kept : s.stopped.ctl = (s.handAlert.modCtl fun c => { c with link := .unlinking }).ctl := by simp [State.stopped]
  have handed : s.handAlert.ctl = s.ctl := by simp
  rw [kept, ← handed]
  rfl

theorem State.stopped_entryPieces (r : CondRef) : s.stopped.entryPieces r = s.entryPieces r := by
  have touches := s.stopped_touches
  refine State.entryPieces_congr (by rw [State.stopped_ctl])
    (State.priority_congr (touches .devPriority (by decide)) (touches .sheet (by decide)) r) ((s.handAlert_cond r).trans ?_)
  unfold State.stopped
  rw [State.stopReminders_cond, State.modCtl_cond]
  exact ⟨_, _, rfl⟩

theorem State.stopped_queues : s.stopped.live = s.handAlert.live ∧ s.stopped.header = s.handAlert.header := by
  have kept (u : State) : u.stopReminders.live = u.live ∧ u.stopReminders.header = u.header := by simp
  unfold State.stopped
  rw [(kept _).1, (kept _).2]
  generalize s.handAlert = u
  exact ⟨rfl, rfl⟩

theorem State.hushedAt_live (n : Svc) :
    s.hushedAt.live[n] =
      { s.handAlert.live[n] with queue := s.handAlert.live[n].queue.filterMap (LiveItem.carry s.stopped n) } := by
  have kept (u : State) : u.dropAlert.live = u.live := rfl
  unfold State.hushedAt
  rw [kept, ← s.stopped_queues.1]
  exact s.stopped.stopWrites_live n

theorem State.hushedAt_header : s.hushedAt.header = s.handAlert.header.flatMap (HeaderItem.carry s.stopped) := by
  have kept (u : State) : u.dropAlert.header = u.header := rfl
  unfold State.hushedAt
  rw [kept, ← s.stopped_queues.2]
  exact s.stopped.stopWrites_header

/-- R168 step 2: the cause of the alert in progress, under the number after the last one used. -/
theorem State.stopped_alertPieces :
    s.stopped.alertPieces =
      match s.alert.progress with
      | none => []
      | some a =>
        [⟨s.area 64,
          le 2 (s.alert.number + 1).toNat ++ le 1 a.level ++ le 1 (panelCode a.cause) ++ le 1 (indexCode a.cause) ++
            [0, 0, 0]⟩] := by
  have alert : s.stopped.alert = s.alert := s.stopped_touches .alert (by decide)
  unfold State.alertPieces State.causePiece State.area
  rw [s.stopped_ctl, alert]
  cases s.alert.progress <;> rfl

end

end Sys2Proof.Machine

namespace Sys2Proof.Machine

/-! ### The Mover at an unlink (R157) -/

/-- R149, R157: the record of a fill that an unlink closes. -/
def Extent.unlinked (e : Extent) : Extent := { e with state := .full, cause := some .unlink }

/-- R157: a recorder once its fill has closed with cause UNLINK. -/
def Recorder.unlinked (r : Recorder) : Recorder :=
  { r with state := .ready, current := none, cursor := none, boundary := false, owed := none }

section
variable (s : State) (n : Svc)

theorem State.closeRecord_extents (x : ExtId) (c : CloseCause) (y : ExtId) :
    (s.closeRecord n x c).extents[y] =
      if y = x then { s.extents[y] with state := .full, cause := some c } else s.extents[y] := by
  unfold State.closeRecord
  simp only [State.modExtent, State.modRecorder, upd_get]

theorem State.closeRecord_recorder (x : ExtId) (c : CloseCause) (m : Svc) :
    (s.closeRecord n x c).recorder[m] =
      if m = n then { s.recorder[m] with state := .ready, current := none, boundary := false } else s.recorder[m] := by
  unfold State.closeRecord
  simp only [State.modExtent, State.modRecorder, upd_get]

theorem State.unlinkRecorder_extents (y : ExtId) :
    (s.unlinkRecorder n).extents[y] =
      if s.recorder[n].current = some y then s.extents[y].unlinked else s.extents[y] := by
  have shut : (s.unlinkRecorder n).extents = (s.closeCurrent n).extents := rfl
  rw [shut]
  unfold State.closeCurrent
  cases h : s.recorder[n].current with
  | none => rw [if_neg nofun]
  | some x =>
    dsimp only
    rw [State.closeRecord_extents]
    simp only [Option.some.injEq, eq_comm (a := y)]
    rfl

theorem State.unlinkRecorder_recorder (m : Svc) :
    (s.unlinkRecorder n).recorder[m] = if m = n then s.recorder[m].unlinked else s.recorder[m] := by
  have closed : (s.closeCurrent n).recorder[m] = s.recorder[m] ∨
      m = n ∧
        (s.closeCurrent n).recorder[m] = { s.recorder[m] with state := .ready, current := none, boundary := false } := by
    unfold State.closeCurrent
    split
    · rw [State.closeRecord_recorder]
      split
      · next same => exact .inr ⟨same, rfl⟩
      · exact .inl rfl
    · exact .inl rfl
  unfold State.unlinkRecorder
  rw [State.modRecorder_recorder, upd_get]
  split
  · rcases closed with same | ⟨-, same⟩ <;> rw [same] <;> rfl
  · next other =>
    rcases closed with same | ⟨same, -⟩
    · exact same
    · exact absurd same other

/-- R157: what the close of a service's fill changes: its record, its recorder, and the updates handed. -/
theorem State.unlinkFill_parts :
    (s.unlinkFill n).extents = (s.unlinkRecorder n).extents ∧ (s.unlinkFill n).recorder = (s.unlinkRecorder n).recorder ∧
      ∃ us, (s.unlinkFill n).mover = { s.mover with updates := s.mover.updates ++ us } := by
  have handed (u : State) (x : Option ExtId) :
      (u.handFor x).extents = u.extents ∧ (u.handFor x).recorder = u.recorder ∧
        ∃ us, (u.handFor x).mover = { u.mover with updates := u.mover.updates ++ us } := by
    cases x with
    | none => exact ⟨rfl, rfl, [], by simp [State.handFor]⟩
    | some x => exact ⟨rfl, rfl, _, rfl⟩
  have retried (u : State) (x : Option ExtId) :
      (u.retryOwed x).extents = u.extents ∧ (u.retryOwed x).recorder = u.recorder ∧
        ∃ us, (u.retryOwed x).mover = { u.mover with updates := u.mover.updates ++ us } := by
    cases x with
    | none => exact ⟨rfl, rfl, [], by simp [State.retryOwed]⟩
    | some x =>
      unfold State.retryOwed
      dsimp only
      split
      · exact ⟨rfl, rfl, [], by simp⟩
      · exact ⟨rfl, rfl, _, rfl⟩
  obtain ⟨extents, recorder, us, mover⟩ := handed (s.unlinkRecorder n) s.recorder[n].current
  obtain ⟨extents', recorder', us', mover'⟩ :=
    retried ((s.unlinkRecorder n).handFor s.recorder[n].current) s.recorder[n].owed
  have kept : (s.unlinkRecorder n).mover = s.mover := by simp
  refine ⟨extents'.trans extents, recorder'.trans recorder, us ++ us', mover'.trans ?_⟩
  rw [mover, kept, List.append_assoc]

/-- R147, R157: the update of a fill that an unlink closes is handed from its record. -/
theorem State.unlinkFill_hands {x : ExtId} (current : s.recorder[n].current = some x) :
    ⟨x, (s.unlinkFill n).extents[x], false⟩ ∈ (s.unlinkFill n).mover.updates := by
  have retried (u : State) (y : Option ExtId) (w : DescUpdate) (hw : w ∈ u.mover.updates) :
      w ∈ (u.retryOwed y).mover.updates := by
    unfold State.retryOwed
    split
    · split
      · exact hw
      · exact List.mem_append_left _ hw
    · exact hw
  rw [(s.unlinkFill_parts n).1]
  unfold State.unlinkFill
  rw [current]
  exact retried _ _ _ (List.mem_append_right _ List.mem_cons_self)

end

/-- In a fold over the services that closes their fills, the close of a service finds its recorder as it was and its extents as
they were or already closed. -/
theorem fills_at {f : State → Svc → State}
    (extents : ∀ (u : State) (m : Svc) (y : ExtId),
      (f u m).extents[y] = if u.recorder[m].current = some y then u.extents[y].unlinked else u.extents[y])
    (recorder : ∀ (u : State) (m k : Svc), k ≠ m → (f u m).recorder[k] = u.recorder[k]) (s : State) (n : Svc) :
    ∃ (u : State) (after : List Svc), allServices.foldl f s = after.foldl f (f u n) ∧ n ∉ after ∧
      u.recorder[n] = s.recorder[n] ∧
      ∀ x : ExtId, u.extents[x] = s.extents[x] ∨ u.extents[x] = s.extents[x].unlinked := by
  have run (ms : List Svc) (hn : n ∉ ms) (u : State) :
      (ms.foldl f u).recorder[n] = u.recorder[n] ∧
        ∀ x : ExtId, (ms.foldl f u).extents[x] = u.extents[x] ∨ (ms.foldl f u).extents[x] = u.extents[x].unlinked := by
    induction ms generalizing u with
    | nil => exact ⟨rfl, fun _ => .inl rfl⟩
    | cons m ms ih =>
      obtain ⟨same, shut⟩ := ih (List.not_mem_of_not_mem_cons hn) (f u m)
      rw [List.foldl_cons]
      refine ⟨same.trans (recorder u m n (List.ne_of_not_mem_cons hn)), fun x => ?_⟩
      have step := shut x
      rw [extents] at step
      split at step
      · exact .inr (step.elim id id)
      · exact step
  obtain ⟨before, after, split⟩ := List.append_of_mem (mem_allServices n)
  have nodup := allServices_nodup
  rw [split, List.nodup_append] at nodup
  obtain ⟨-, tail, apart⟩ := nodup
  obtain ⟨same, shut⟩ := run before (fun hn => apart n hn n List.mem_cons_self rfl) s
  refine ⟨before.foldl f s, after, ?_, (List.nodup_cons.mp tail).1, same, shut⟩
  rw [split, List.foldl_append, List.foldl_cons]

section
variable (s : State)

/-- The part whose fills close: no turn, no re-test, and a read in flight is late. -/
def State.turnless : State := s.modMover fun m => { m with work := .idle, retests := [], late := m.work.reading }

theorem State.unlinkFills_eq : s.unlinkFills = allServices.foldl (fun s n => s.unlinkFill n) s.turnless := rfl

theorem State.unlinkFills_mover :
    ∃ us, s.unlinkFills.mover =
      { s.mover with work := .idle, retests := [], late := s.mover.work.reading, updates := s.mover.updates ++ us } := by
  rw [State.unlinkFills_eq]
  refine foldl_keeps (fun u : State => ∃ us, u.mover = { s.mover with
    work := .idle, retests := [], late := s.mover.work.reading, updates := s.mover.updates ++ us }) _ (fun u n h => ?_)
    allServices s.turnless ⟨[], by simp [State.turnless]⟩
  obtain ⟨us, h⟩ := h
  obtain ⟨-, -, vs, step⟩ := u.unlinkFill_parts n
  exact ⟨us ++ vs, by rw [step, h, List.append_assoc]⟩

theorem State.unlinkFills_recorder (n : Svc) : s.unlinkFills.recorder[n] = s.recorder[n].unlinked := by
  have fold := foldl_at (fun (u : State) (m : Svc) => u.recorder[m]) Recorder.unlinked (fun u m => u.unlinkFill m)
    (fun u m => by rw [(u.unlinkFill_parts m).2.1, State.unlinkRecorder_recorder, if_pos rfl])
    (fun u m k h => by rw [(u.unlinkFill_parts m).2.1, State.unlinkRecorder_recorder, if_neg h])
    n allServices s.turnless allServices_nodup
  rw [if_pos (mem_allServices n)] at fold
  exact fold

theorem State.unlinkFill_extents (u : State) (m : Svc) (y : ExtId) :
    (u.unlinkFill m).extents[y] =
      if u.recorder[m].current = some y then u.extents[y].unlinked else u.extents[y] := by
  rw [(u.unlinkFill_parts m).1, State.unlinkRecorder_extents]

/-- R157: the record of a current fill closes, and its update is handed. -/
theorem State.unlinkFills_current {n : Svc} {x : ExtId} (current : s.recorder[n].current = some x) :
    s.unlinkFills.extents[x] = s.extents[x].unlinked ∧
      ⟨x, s.unlinkFills.extents[x], false⟩ ∈ s.unlinkFills.mover.updates := by
  obtain ⟨u, after, run, -, recorder, extents⟩ := fills_at (f := fun u m => u.unlinkFill m) State.unlinkFill_extents
    (fun u m k h => by rw [(u.unlinkFill_parts m).2.1, State.unlinkRecorder_recorder, if_neg h]) s.turnless n
  have current' : u.recorder[n].current = some x := by rw [recorder]; exact current
  have shut : (u.unlinkFill n).extents[x] = s.extents[x].unlinked := by
    rw [State.unlinkFill_extents, if_pos current']
    rcases extents x with same | same <;> rw [same] <;> rfl
  have handed := u.unlinkFill_hands n current'
  rw [shut] at handed
  have kept := foldl_keeps
    (fun v : State => v.extents[x] = s.extents[x].unlinked ∧
      (⟨x, s.extents[x].unlinked, false⟩ : DescUpdate) ∈ v.mover.updates)
    (fun v m => v.unlinkFill m) (fun v m h => by
      obtain ⟨-, -, us, mover⟩ := v.unlinkFill_parts m
      refine ⟨?_, by rw [mover]; exact List.mem_append_left us h.2⟩
      rw [State.unlinkFill_extents, h.1]
      split <;> rfl) after _ ⟨shut, handed⟩
  rw [State.unlinkFills_eq, run]
  obtain ⟨closed, update⟩ := kept
  exact ⟨closed, by rw [closed]; exact update⟩

theorem State.moverUnlink_fills (turn : ∀ n, s.mover.work ≠ .unitWrite n) : s.moverUnlink = s.unlinkFills := by
  unfold State.moverUnlink
  split
  · next n work => exact absurd work (turn n)
  all_goals rfl

/-- R150: no mark request is lost or taken by the Mover's part of an unlink. -/
theorem State.moverUnlink_marks (n : Svc) :
    s.moverUnlink.recorder[n].marks = s.recorder[n].marks ∧
      s.moverUnlink.recorder[n].lostMarks = s.recorder[n].lostMarks := by
  by_cases turn : ∀ n, s.mover.work ≠ .unitWrite n
  · rw [s.moverUnlink_fills turn, State.unlinkFills_recorder]
    exact ⟨rfl, rfl⟩
  · obtain ⟨m, work⟩ := not_forall_not.mp turn
    unfold State.moverUnlink
    rw [work]
    exact ⟨rfl, rfl⟩

theorem State.moverFault_recorder (n : Svc) : s.moverFault.recorder[n] = s.recorder[n].unlinked := by
  have fold := foldl_at (fun (u : State) (m : Svc) => u.recorder[m]) Recorder.unlinked (fun u m => u.unlinkRecorder m)
    (fun u m => by rw [State.unlinkRecorder_recorder, if_pos rfl])
    (fun u m k h => by rw [State.unlinkRecorder_recorder, if_neg h]) n allServices s allServices_nodup
  rw [if_pos (mem_allServices n)] at fold
  exact fold

/-- R157, R199: the record of a current fill closes at a fault unlink too. -/
theorem State.moverFault_current {n : Svc} {x : ExtId} (current : s.recorder[n].current = some x) :
    s.moverFault.extents[x] = s.extents[x].unlinked := by
  obtain ⟨u, after, run, -, recorder, extents⟩ := fills_at (f := fun u m => u.unlinkRecorder m)
    (fun u m y => u.unlinkRecorder_extents m y)
    (fun u m k h => by rw [State.unlinkRecorder_recorder, if_neg h]) s n
  have shut : (u.unlinkRecorder n).extents[x] = s.extents[x].unlinked := by
    rw [State.unlinkRecorder_extents, if_pos (recorder ▸ current)]
    rcases extents x with same | same
    · rw [same]
    · rw [same]; rfl
  have moved (v : State) (f : Mover → Mover) : (v.modMover f).extents = v.extents := rfl
  unfold State.moverFault
  rw [moved, run]
  exact foldl_keeps (fun v : State => v.extents[x] = s.extents[x].unlinked) _ (fun v m h => by
    rw [State.unlinkRecorder_extents, h]
    split <;> rfl) after _ shut

end

/-- What has ended stays ended while the contexts, the integration queue and the mark requests stand. -/
theorem SegmentEnds.of_after {n : Svc} {k : Slot} {b : Body} {sh : Sheet} {s t u : State} (h : SegmentEnds n k b sh s t)
    (pool : u.pool = t.pool) (integ : u.integ = t.integ)
    (marks : u.recorder[n].marks = t.recorder[n].marks ∧ u.recorder[n].lostMarks = t.recorder[n].lostMarks) :
    SegmentEnds n k b sh s u := by
  unfold SegmentEnds at *
  rwa [pool, integ, marks.1, marks.2]

end Sys2Proof.Machine

namespace Sys2Proof.Machine

/-! ### Queued writes that land together (R196) -/

theorem Memory.writePieces_append (m : Memory) (ps qs : List Piece) :
    m.writePieces (ps ++ qs) = (m.writePieces ps).writePieces qs := by
  induction ps generalizing m with
  | nil => rfl
  | cons p ps ih => exact ih _

theorem SameOutside.of_writePieces {ps : List Piece} {s t : State} (host : t.host = s.host.writePieces ps) :
    SameOutside ps s t := fun a h => by
  unfold State.byte
  rw [host]
  exact Memory.read_writePieces_outside ps s.host a h

/-- R171, R196: what a queued write puts into host memory depends on the panels, the sheets, the controller and the Alert Unit
alone. -/
theorem Touches.pieces {T : List Part} {s t : State} (h : Touches T s t)
    (apart : ∀ p ∈ [Part.ctl, .panel, .devPanel, .devPriority, .sheet, .alert], p ∉ T) :
    t.itemPieces = s.itemPieces ∧ t.headerPieces = s.headerPieces := by
  have ctl : t.ctl = s.ctl := h .ctl (apart _ (by decide))
  have alert : t.alert = s.alert := h .alert (apart _ (by decide))
  have entry (r : CondRef) : t.entryPieces r = s.entryPieces r := by
    refine State.entryPieces_congr (by rw [ctl]) (State.priority_congr (h .devPriority (apart _ (by decide)))
      (h .sheet (apart _ (by decide))) r) ?_
    rw [State.cond_of_panels (h .panel (apart _ (by decide))) (h .devPanel (apart _ (by decide)))]
    exact .refl _
  refine ⟨?_, ?_⟩
  · funext n i
    cases i <;> simp only [State.itemPieces, entry, State.countPiece, State.area, ctl]
  · funext i
    cases i <;>
      simp only [State.headerPieces, entry, State.commitPiece, State.alertPieces, State.causePiece, State.area, ctl, alert]

/-- A queue of a live block after its first k writes have completed (R196, R204). -/
def LiveWrite.after (k : Nat) (l : LiveWrite) : LiveWrite :=
  { l with queue := (l.queue.take k).filter LiveItem.isMark ++ l.queue.drop k }

/-- The first writes queued for each live block of a list of services complete. -/
def State.landLives (len : Svc → LiveWrite → Nat) (ms : List Svc) (s : State) : State :=
  ms.foldl (fun u n => u.landLive n (len n u.live[n])) s

theorem State.landLives_touches (len : Svc → LiveWrite → Nat) (ms : List Svc) (s : State) :
    Touches [.host, .live] s (s.landLives len ms) :=
  foldl_keeps (Touches [.host, .live] s) _
    (fun u n h => (State.landLive_touch [.host, .live] s u n _ (by decide)).mpr h) ms s (.refl _ s)

/-- R196: the writes of different live blocks do not meet each other's queues. -/
theorem State.landLives_parts (len : Svc → LiveWrite → Nat) :
    ∀ (ms : List Svc) (s : State), ms.Nodup →
      (s.landLives len ms).host = s.host.writePieces (ms.flatMap fun n => s.livePrefix n (len n s.live[n])) ∧
      ∀ n : Svc, (s.landLives len ms).live[n] = if n ∈ ms then s.live[n].after (len n s.live[n]) else s.live[n]
  | [], _, _ => ⟨rfl, fun _ => (if_neg List.not_mem_nil).symm⟩
  | m :: ms, s, distinct => by
    obtain ⟨apart, distinct⟩ := List.nodup_cons.mp distinct
    obtain ⟨u, hu⟩ : ∃ u, u = s.landLive m (len m s.live[m]) := ⟨_, rfl⟩
    have run : s.landLives len (m :: ms) = u.landLives len ms := by rw [hu]; rfl
    have live (n : Svc) : u.live[n] = if n = m then s.live[n].after (len m s.live[m]) else s.live[n] := by
      rw [hu]
      exact s.landLive_live m n _
    have items : u.itemPieces = s.itemPieces := by
      rw [hu]
      exact ((s.landLive_touches m _).pieces (by decide)).1
    obtain ⟨host, lives⟩ := State.landLives_parts len ms u distinct
    rw [run]
    refine ⟨?_, fun n => ?_⟩
    · have behind : (ms.flatMap fun n => u.livePrefix n (len n u.live[n])) =
          ms.flatMap fun n => s.livePrefix n (len n s.live[n]) :=
        List.flatMap_congr fun n hn => by
          unfold State.livePrefix
          rw [live, if_neg (ne_of_mem_of_not_mem hn apart), items]
      rw [host, behind, List.flatMap_cons, Memory.writePieces_append, hu, State.landLive_host]
    · rw [lives, live]
      by_cases same : n = m
      · subst same
        rw [if_neg apart, if_pos rfl, if_pos List.mem_cons_self]
      · simp only [List.mem_cons, same, false_or, if_false]

/-- Some writes queued for every live block, and then some of those queued for the header, complete. -/
def State.landAll (len : Svc → LiveWrite → Nat) (k : Nat) (s : State) : State := (s.landLives len allServices).landHeader k

/-- The pieces of the writes that then land. -/
def State.landPieces (len : Svc → LiveWrite → Nat) (k : Nat) (s : State) : List Piece :=
  (allServices.flatMap fun n => s.livePrefix n (len n s.live[n])) ++ (s.header.take k).flatMap s.headerPieces

section
variable (s : State) (len : Svc → LiveWrite → Nat) (k : Nat)

theorem State.landAll_touches : Touches [.host, .live, .header] s (s.landAll len k) :=
  (State.landHeader_touch _ _ _ k (by decide)).mpr ((s.landLives_touches len allServices).mono (by decide))

theorem State.landAll_host : (s.landAll len k).host = s.host.writePieces (s.landPieces len k) := by
  have touches := s.landLives_touches len allServices
  have header : (s.landLives len allServices).header = s.header := touches .header (by decide)
  unfold State.landAll State.landPieces
  rw [State.landHeader_host, (State.landLives_parts len allServices s allServices_nodup).1, header,
    (touches.pieces (by decide)).2, Memory.writePieces_append]

theorem State.landAll_live (n : Svc) : (s.landAll len k).live[n] = s.live[n].after (len n s.live[n]) := by
  have kept : (s.landAll len k).live = (s.landLives len allServices).live := by simp [State.landAll]
  rw [kept, (State.landLives_parts len allServices s allServices_nodup).2, if_pos (mem_allServices n)]

theorem State.landAll_header : (s.landAll len k).header = s.header.drop k := by
  have header : (s.landLives len allServices).header = s.header := s.landLives_touches len allServices .header (by decide)
  unfold State.landAll
  rw [State.landHeader_header, header]

end

end Sys2Proof.Machine

namespace Sys2Proof.Machine

/-! ### The end of an unlink (R101, R116, R196, R197) -/

section
variable {s : State}

theorem State.handAlert_unlinked (unlinked : s.isLinked = false) : s.handAlert = s := by
  have kept (rs : List CondRef) : rs.foldl State.retryEntry s = s := by
    induction rs with
    | nil => rfl
    | cons r rs ih =>
      have same : s.retryEntry r = s := by
        unfold State.retryEntry
        rw [unlinked]
        rfl
      rw [List.foldl_cons, same, ih]
  unfold State.handAlert
  rw [kept]
  simp only [State.handCause, State.handedHeader, State.causeReady, unlinked, Bool.false_and, Bool.false_eq_true, if_false]
  rfl

theorem State.handCause_unlinked (unlinked : s.isLinked = false) : s.handCause = s := by
  simp only [State.handCause, State.handedHeader, State.causeReady, unlinked, Bool.false_and, Bool.false_eq_true, if_false]
  rfl

theorem State.isLinked_of_unlinking (unlinking : s.ctl.link = .unlinking) : s.isLinked = false := by
  unfold State.isLinked
  rw [unlinking]
  rfl

theorem State.carries_of_unlinking (unlinking : s.ctl.link = .unlinking) : s.carries = true := by
  unfold State.carries
  rw [unlinking]
  rfl

theorem State.headerFree_unlinked (unlinked : s.isLinked = false) : s.headerFree = s.header.length := by
  unfold State.headerFree
  rw [unlinked]
  rfl

theorem State.landQueues_eq (s : State) : s.landQueues = (s.landLives (fun _ l => l.queue.length) allServices).landHeader
    (s.landLives (fun _ l => l.queue.length) allServices).headerFree := rfl

/-- R196: while UNLINKING every queued write can land. -/
theorem State.landQueues_unlinked (unlinked : s.isLinked = false) :
    s.landQueues = s.landAll (fun _ l => l.queue.length) s.header.length := by
  have touches := s.landLives_touches (fun _ l => l.queue.length) allServices
  have free : (s.landLives (fun _ l => l.queue.length) allServices).headerFree = s.header.length := by
    rw [State.headerFree_unlinked ((State.isLinked_of_ctl (touches .ctl (by decide))).trans unlinked),
      touches .header (by decide)]
  rw [State.landQueues_eq, free]
  rfl

theorem State.silentPieces_unlinking (unlinking : s.ctl.link = .unlinking) :
    s.silentPieces = s.landPieces (fun _ l => l.queue.length) s.header.length := by
  have unlinked := State.isLinked_of_unlinking unlinking
  unfold State.silentPieces
  rw [if_pos (State.carries_of_unlinking unlinking), State.handAlert_unlinked unlinked]
  dsimp only
  rw [State.headerFree_unlinked unlinked]
  rfl

/-- A queue without a write puts nothing into host memory. -/
theorem State.livePrefix_idle (s : State) (n : Svc) (k : Nat) (idle : hasWrite s.live[n].queue = false) :
    s.livePrefix n k = [] := by
  refine List.flatMap_eq_nil_iff.mpr fun i hi => ?_
  have ends := List.any_eq_false.mp idle i (List.mem_of_mem_take hi)
  cases i with
  | mark w => rfl
  | fields p => exact absurd rfl ends
  | entry c part due => exact absurd rfl ends
  | count v => exact absurd rfl ends
  | late c ps => exact absurd rfl ends

/-- R196: the writes still in flight land at the completion of an unlink. -/
theorem State.settle_unlinking (unlinking : s.ctl.link = .unlinking) :
    s.settle.host = s.host.writePieces s.silentPieces ∧ s.settle.header = [] ∧
      s.settle.ctl.base = s.ctl.base ∧ s.settle.sched = s.sched := by
  have unlinked := State.isLinked_of_unlinking unlinking
  have settled : s.settle = if s.silentWrites then s.landQueues.accessDone.trimWaits.handCause else s := by
    unfold State.settle State.settleQueues
    rw [if_pos (State.carries_of_unlinking unlinking), State.handAlert_unlinked unlinked]
  rw [settled, State.silentPieces_unlinking unlinking]
  by_cases silent : s.silentWrites = true
  · obtain ⟨l, hl⟩ : ∃ l, l = s.landAll (fun _ l => l.queue.length) s.header.length := ⟨_, rfl⟩
    have touches := s.landAll_touches (fun _ l => l.queue.length) s.header.length
    have host := s.landAll_host (fun _ l => l.queue.length) s.header.length
    have header := s.landAll_header (fun _ l => l.queue.length) s.header.length
    rw [← hl] at touches host header
    have ctl : l.ctl = s.ctl := touches .ctl (by decide)
    have still : l.accessDone.trimWaits.isLinked = false := (State.isLinked_of_ctl ctl).trans unlinked
    rw [if_pos silent, State.landQueues_unlinked unlinked, ← hl, State.handCause_unlinked still]
    refine ⟨host, ?_, (congrArg Ctl.base ctl : _), touches .sched (by decide)⟩
    rw [List.drop_length] at header
    exact header
  · rw [if_neg silent]
    obtain ⟨lives, headers⟩ := Bool.or_eq_false_iff.mp (Bool.eq_false_iff.mpr silent)
    have none : s.header = [] := by
      have free := of_decide_eq_false headers
      rw [State.headerFree_unlinked unlinked] at free
      exact List.length_eq_zero_iff.mp (Nat.eq_zero_of_not_pos free)
    have nothing : s.landPieces (fun _ l => l.queue.length) s.header.length = [] := by
      unfold State.landPieces
      rw [none, List.flatMap_eq_nil_iff.mpr fun n hn => s.livePrefix_idle n _ (by
        simpa using List.any_eq_false.mp lives n hn)]
      rfl
    rw [nothing]
    exact ⟨rfl, none, rfl, rfl⟩

theorem State.completeUnlink_ready (ready : s.unlinkReady = true) :
    s.completeUnlink = s.settle.emptyAll.modCtl fun c => { c with link := .unlinked } := if_pos ready

theorem State.unlinkReady_iff :
    s.unlinkReady = true ↔ s.ctl.link = .unlinking ∧
      (∀ (n : Svc) (k : Slot), (s.entry n k).state ≠ .closing ∧ (s.entry n k).writes = []) ∧
      s.mover.work = .idle ∧ s.mover.updates = [] := by
  have slots : ∀ k : Slot, k ∈ allSlots := mem_allSlots
  simp only [State.unlinkReady, State.schedDone, State.moverDone, Bool.and_eq_true, decide_eq_true_eq, List.all_eq_true,
    List.isEmpty_iff]
  constructor
  · rintro ⟨⟨link, done⟩, work, updates⟩
    exact ⟨link, fun n k => done n (mem_allServices n) k (slots k), work, updates⟩
  · rintro ⟨link, done, work, updates⟩
    exact ⟨⟨link, fun n _ k _ => done n k⟩, work, updates⟩

theorem State.emptyAll_header (s : State) : s.emptyAll.header = s.header :=
  foldl_same State.header _ (fun u n => by simp) allServices s

/-- R101, R116, R197: the end of an unlink. -/
theorem State.completeUnlink_done (ready : s.unlinkReady = true) :
    let t := s.completeUnlink
    t.ctl.link = .unlinked ∧ t.ctl.base = s.ctl.base ∧ t.header = [] ∧
      t.host = s.host.writePieces s.silentPieces ∧ SameOutside s.silentPieces s t ∧
      ∀ n : Svc, t.sched[n] = { Sched.reset with unmatched := s.sched[n].unmatched } := by
  obtain ⟨unlinking, -⟩ := State.unlinkReady_iff.mp ready
  obtain ⟨host, header, base, sched⟩ := State.settle_unlinking unlinking
  obtain ⟨emptyHost, emptyCtl⟩ := s.settle.emptyAll_kept
  have emptyHeader := s.settle.emptyAll_header
  have emptySched := s.settle.emptyAll_sched
  rw [State.completeUnlink_ready ready]
  obtain ⟨e, he⟩ : ∃ e, e = s.settle.emptyAll := ⟨_, rfl⟩
  rw [← he] at emptyHost emptyCtl emptyHeader emptySched ⊢
  have lands : e.host = s.host.writePieces s.silentPieces := emptyHost.trans host
  refine ⟨rfl, ?_, emptyHeader.trans header, lands, .of_writePieces lands, fun n => ?_⟩
  · rw [← base, ← emptyCtl]
    rfl
  · refine (emptySched n).trans ?_
    rw [sched]
    rfl

end

end Sys2Proof.Machine

namespace Sys2Proof.Machine

/-! ### UNLINK from LINKED (R194, R197) -/

section
variable {s : State} (linked : s.isLinked = true)

/-- R194: the readback of an accepted UNLINK. -/
def State.unlinkTaken (s : State) : State := s.setReadback codeUnlink .accepted

include linked

theorem State.commandUnlink_linked : s.commandUnlink = s.unlinkTaken.beginUnlink := by
  have link : s.ctl.link = .linked := of_decide_eq_true linked
  have result : s.unlinkResult = .accepted := by
    unfold State.unlinkResult
    rw [link]
  unfold State.commandUnlink
  rw [result]
  exact if_pos rfl

omit linked in
theorem State.unlinkTaken_handAlert :
    s.unlinkTaken.handAlert = s.handAlert.setReadback codeUnlink .accepted := by
  unfold State.unlinkTaken State.setReadback
  exact s.handAlert_modCtl (f := fun c => { c with cmd := codeUnlink, result := .accepted }) fun _ => rfl

omit linked in
theorem State.unlinkTaken_queues :
    s.unlinkTaken.handAlert.live = s.handAlert.live ∧ s.unlinkTaken.handAlert.header = s.handAlert.header := by
  have kept (u : State) (code : Byte) (r : CmdResult) :
      (u.setReadback code r).live = u.live ∧ (u.setReadback code r).header = u.header := ⟨rfl, rfl⟩
  rw [State.unlinkTaken_handAlert]
  exact kept _ _ _

end

theorem State.queueEntry_count (s : State) (r : CondRef) (n : Svc) :
    (s.queueEntry r).live[n].count = s.live[n].count := by
  unfold State.queueEntry
  split
  · cases r with
    | device c => rfl
    | service m c =>
      simp only [State.modLive, upd_get]
      split <;> rfl
  · rfl

theorem State.retryEntry_count (s : State) (r : CondRef) (n : Svc) :
    (s.retryEntry r).live[n].count = s.live[n].count := by
  have cond (f : CondEntry → CondEntry) : (s.modCond r f).live[n].count = s.live[n].count := by cases r <;> rfl
  unfold State.retryEntry State.changeCond
  split
  · rw [State.queueEntry_count, cond]
  · rfl

/-- R171: the entries that an alert hands again count no write of a live block. -/
theorem State.handAlert_count (s : State) (n : Svc) : s.handAlert.live[n].count = s.live[n].count := by
  have handed (u : State) : u.handCause.live[n].count = u.live[n].count := rfl
  unfold State.handAlert
  rw [handed]
  exact foldl_same (fun u : State => u.live[n].count) _ (fun u r => u.retryEntry_count r n) allConds s

/-- The state at the entry to UNLINKING, before the Schedulers and the Mover act. -/
def State.unlinkEntry (s : State) : State := s.unlinkTaken.hushedAt

section
variable (s : State)

theorem State.unlinkEntry_touches : Touches [.ctl, .panel, .devPanel, .live, .header, .alert] s s.unlinkEntry :=
  (State.setReadback_touches s codeUnlink .accepted |>.mono (by decide)).trans (s.unlinkTaken.hushedAt_touches)

theorem State.unlinkEntry_ctl :
    s.unlinkEntry.ctl = { s.ctl with cmd := 2, result := .accepted, link := .unlinking } := by
  unfold State.unlinkEntry
  rw [State.hushedAt_ctl]
  rfl

theorem State.unlinkEntry_unlinked : s.unlinkEntry.isLinked = false := by
  apply State.isLinked_of_unlinking
  rw [State.unlinkEntry_ctl]

theorem State.unlinkTaken_stopped_entryPieces (r : CondRef) : s.unlinkTaken.stopped.entryPieces r = s.entryPieces r := by
  rw [State.stopped_entryPieces]
  cases r <;> rfl

theorem State.unlinkEntry_live (n : Svc) :
    s.unlinkEntry.live[n] =
      { s.live[n] with
        queue := s.handAlert.live[n].queue.filterMap fun i =>
          match i with
          | .entry c _ _ => some (.late c (s.entryPieces (.service n c)))
          | .mark _ => none
          | .fields p => some (.fields p)
          | .count v => some (.count v)
          | .late c ps => some (.late c ps) } := by
  have carried : LiveItem.carry s.unlinkTaken.stopped n = fun i =>
      match i with
      | .entry c _ _ => some (.late c (s.entryPieces (.service n c)))
      | .mark _ => none
      | .fields p => some (.fields p)
      | .count v => some (.count v)
      | .late c ps => some (.late c ps) := by
    funext i
    cases i <;> simp only [LiveItem.carry, State.unlinkTaken_stopped_entryPieces]
  unfold State.unlinkEntry
  rw [State.hushedAt_live, State.unlinkTaken_queues.1, carried]
  simp only [s.handAlert_count n]

theorem State.unlinkEntry_header :
    s.unlinkEntry.header =
      s.handAlert.header.flatMap fun i =>
        match i with
        | .entry c => [.late c (s.entryPieces (.device c))]
        | .commit v => [.commit v]
        | .late c ps => [.late c ps]
        | .cause p => [.cause p]
        | .alert =>
          match s.alert.progress with
          | none => []
          | some a =>
            [.cause ⟨s.area 64,
              le 2 (s.alert.number + 1).toNat ++ le 1 a.level ++ le 1 (panelCode a.cause) ++ le 1 (indexCode a.cause) ++
                [0, 0, 0]⟩] := by
  unfold State.unlinkEntry
  rw [State.hushedAt_header, State.unlinkTaken_queues.2]
  refine List.flatMap_congr fun i _ => ?_
  cases i with
  | entry c => simp only [HeaderItem.carry, State.unlinkTaken_stopped_entryPieces]
  | commit v => rfl
  | late c ps => rfl
  | cause p => rfl
  | alert =>
    have alert : s.unlinkTaken.alert = s.alert := rfl
    have area : s.unlinkTaken.area 64 = s.area 64 := rfl
    simp only [HeaderItem.carry, State.stopped_alertPieces, alert, area]
    cases s.alert.progress <;> rfl

theorem State.unlinkEntry_alert :
    s.unlinkEntry.alert.progress = none ∧ s.unlinkEntry.alert.sent = s.alert.sent := by
  have dropped (u : State) : u.dropAlert.alert = { u.alert with progress := none, abandoned := false } := rfl
  have stops (u : State) : u.stopWrites.alert = u.alert := by simp
  have taken : s.unlinkTaken.alert = s.alert := rfl
  unfold State.unlinkEntry State.hushedAt
  rw [dropped, stops, s.unlinkTaken.stopped_touches .alert (by decide), taken]
  exact ⟨rfl, rfl⟩

end

end Sys2Proof.Machine

namespace Sys2Proof.Machine

/-! ### What the Schedulers' part of an unlink leaves to the Mover (R150, R157) -/

/-- No close of a segment opens or ends a fill. -/
theorem State.closeSegment_current (s : State) (m : Svc) (k : Slot) (add : VerdictFlags) (n : Svc) :
    (s.closeSegment m k add).recorder[n].current = s.recorder[n].current := by
  by_cases same : n = m
  · subst same
    by_cases ho : (s.entry n k).state = .opened
    · cases hb : (s.entry n k).body with
      | none => rw [State.closeSegment_idle (.inr hb)]
      | some b =>
        rw [State.closeSegment_recorder ho hb]
        split
        · rfl
        · unfold Recorder.asked
          split <;> rfl
    · rw [State.closeSegment_idle (.inl ho)]
  · obtain ⟨-, -, -, -, -, recorder, -⟩ := s.closeSegment_others m k add n same
    rw [recorder]

theorem ClosesAll.current {m : Svc} {add : VerdictFlags} {s t : State} (h : ClosesAll m add s t) (n : Svc) :
    t.recorder[n].current = s.recorder[n].current := by
  rw [h.recorder]
  exact State.closeLayers_keeps (P := fun u : State => u.recorder[n].current = s.recorder[n].current)
    (fun u k h => (u.closeSegment_current m k add n).trans h) rfl

/-- The parts of the state that segments which close change. -/
abbrev closedParts : List Part := [.sched, .pool, .integ, .recorder, .panel, .alert, .live, .caption]

theorem State.unlinkDockets_touches (s : State) : Touches closedParts s s.unlinkDockets :=
  foldl_keeps (Touches closedParts s) _
    (fun u n h => (State.schedUnlink_touch closedParts s u n (List.Subset.refl _)).mpr h) allServices s (.refl _ s)

theorem State.unlinkDockets_current (s : State) (n : Svc) :
    s.unlinkDockets.recorder[n].current = s.recorder[n].current :=
  foldl_same (fun u : State => u.recorder[n].current) (fun u m => u.schedUnlink m)
    (fun u m => (u.schedUnlink_closesAll m).current n) allServices s

/-! ### UNLINK and UNLINK_COMPLETE (R101, R194, R197) -/

section
variable {s : State} (linked : s.isLinked = true)
include linked

theorem State.commandUnlink_eq : s.commandUnlink = s.unlinkEntry.unlinkDockets.moverUnlink :=
  State.commandUnlink_linked linked

/-- R165, R169, R197: what the entry leaves of the queued writes, the timers and the Alert Unit. -/
theorem State.commandUnlink_hushed : Hushed s.unlinkEntry s.commandUnlink := by
  rw [State.commandUnlink_eq linked]
  exact (State.unlinkDockets_hushed s.unlinkEntry_unlinked).trans (.of_touches (State.moverUnlink_touches _) (by decide))

theorem State.commandUnlink_conds (r : CondRef) :
    (s.commandUnlink.cond r).timer = none ∧ (s.commandUnlink.cond r).owed = false := by
  obtain ⟨timer, owed⟩ := (State.commandUnlink_hushed linked).cond r
  rw [timer, owed]
  exact s.unlinkTaken.hushedAt_cond r

/-- What the Schedulers have made of the dockets and the contexts stands at the end of the entry. -/
theorem State.commandUnlink_dockets :
    s.commandUnlink.sched = s.unlinkEntry.unlinkDockets.sched ∧ s.commandUnlink.pool = s.unlinkEntry.unlinkDockets.pool ∧
      s.commandUnlink.integ = s.unlinkEntry.unlinkDockets.integ := by
  rw [State.commandUnlink_eq linked]
  simp

omit linked in
theorem State.unlinkEntry_entry (n : Svc) (k : Slot) : s.unlinkEntry.entry n k = s.entry n k :=
  State.entry_of_sched (s.unlinkEntry_touches .sched (by decide)) n k

omit linked in
theorem State.unlinkEntry_carries : s.unlinkEntry.carries = true := by
  apply State.carries_of_unlinking
  rw [State.unlinkEntry_ctl]

theorem State.dropped_of_linked (sound : DocketsSound s) (n : Svc) (k : Slot) : (s.entry n k).dropped = false := by
  obtain ⟨-, -, -, -, -, drops⟩ := sound n
  refine Bool.eq_false_iff.mpr fun dropped => ?_
  have unlinking := (drops k dropped).1
  rw [State.isLinked_of_unlinking unlinking] at linked
  exact nomatch linked

/-- R101: the waiting dockets of the entry. -/
theorem State.commandUnlink_waiting (sound : DocketsSound s) (n : Svc) (k : Slot) :
    (s.commandUnlink.entry n k).state ≠ .pending ∧ (s.commandUnlink.entry n k).state ≠ .armed ∧
      ((s.entry n k).state = .pending ∨ (s.entry n k).state = .armed →
        s.commandUnlink.entry n k =
          { Entry.fresh with
            writes := (s.entry n k).writes
            handed := (s.entry n k).handed || !(s.entry n k).writes.isEmpty }) := by
  have entry := s.unlinkEntry_entry n k
  rw [State.entry_of_sched (State.commandUnlink_dockets linked).1]
  obtain ⟨pending, armed⟩ := State.unlinkDockets_not_waiting (s := s.unlinkEntry) n k
  refine ⟨pending, armed, fun waits => ?_⟩
  rw [State.unlinkDockets_waiting n (by rw [entry]; exact waits), entry, Entry.cleared,
    State.dropped_of_linked linked sound]
  rfl

theorem State.commandUnlink_openSlots (sound : DocketsSound s) (n : Svc) (l : Layer) :
    s.commandUnlink.sched[n].openSlot l = none := by
  rw [State.openSlot_of_sched (State.commandUnlink_dockets linked).1]
  refine State.unlinkDockets_openSlot n (fun m j hj => ?_) l
  rw [State.openSlot_of_sched (s.unlinkEntry_touches .sched (by decide))] at hj
  unfold State.standsOpen
  rw [s.unlinkEntry_entry]
  exact sound.openSlotsStand n m j hj

/-- R53, R101, R150: the OPEN dockets of the entry. -/
theorem State.commandUnlink_open (sound : DocketsSound s) (n : Svc) (k : Slot) (ho : (s.entry n k).state = .opened)
    (hs : (s.entry n k).snapshot.isSome = true) :
    let t := s.commandUnlink
    (t.entry n k).state = (if (s.entry n k).context.isSome then .closing else .closed) ∧
      (t.entry n k).flags.unlinkClose = true ∧ (t.entry n k).closeStamp = some s.feed[n].time ∧
      ((t.entry n k).writes.map SlotWrite.content =
        (s.entry n k).writes.map SlotWrite.content ++ if (s.entry n k).dropped then [] else closeWrites n k t) ∧
      (QueueSound s → ∀ b, (s.entry n k).body = some b → SegmentEnds n k b (s.sheetOf n) s t) := by
  intro t
  obtain ⟨-, -, -, bodies, -⟩ := sound n
  obtain ⟨b, hb, -⟩ := bodies k ho
  obtain ⟨e, he⟩ : ∃ e, e = s.unlinkEntry := ⟨_, rfl⟩
  have entry : e.entry n k = s.entry n k := by rw [he]; exact s.unlinkEntry_entry n k
  have touches : Touches [.ctl, .panel, .devPanel, .live, .header, .alert] s e := by rw [he]; exact s.unlinkEntry_touches
  have feed : e.feed = s.feed := touches .feed (by decide)
  have carries : e.carries = true := by rw [he]; exact State.unlinkEntry_carries
  obtain ⟨sched, pool, integ⟩ := State.commandUnlink_dockets linked
  have docket := State.unlinkDockets_open n carries (k := k) (by rw [entry]; exact ho) (by rw [entry, hb]; rfl)
    (by rw [entry]; exact hs)
  dsimp only at docket
  have same : t.entry n k = e.unlinkDockets.entry n k := by rw [he]; exact State.entry_of_sched sched n k
  rw [closeWrites_eq] at docket ⊢
  rw [same]
  rw [entry, feed] at docket
  obtain ⟨state, flag, stamp, writes⟩ := docket
  refine ⟨state, flag, stamp, writes, fun queue b hb => ?_⟩
  have own (m : Svc) : OpenOwn m e := (queue.openOwn m).of_runsOn (by rw [touches .sched (by decide)]) fun _ c _ _ => by
    rw [touches .pool (by decide)]
    exact .refl _
  have ends := State.unlinkDockets_segmentEnds n own (k := k) (by rw [entry]; exact ho) (by rw [entry]; exact hb)
  have sheet : e.sheetOf n = s.sheetOf n := by
    unfold State.sheetOf
    rw [touches .sheet (by decide)]
  rw [sheet] at ends
  have begun := ends.of_same entry (touches .pool (by decide)) (touches .integ (by decide)) (touches .recorder (by decide))
  rw [he] at begun
  have marks := s.unlinkEntry.unlinkDockets.moverUnlink_marks n
  rw [← State.commandUnlink_eq linked] at marks
  exact begun.of_after pool integ marks

/-- R157: the fills of the entry, unless a unit write is let end. -/
theorem State.commandUnlink_fills (turn : ∀ n, s.mover.work ≠ .unitWrite n) :
    let t := s.commandUnlink
    t.mover.work = .idle ∧ t.mover.retests = [] ∧ t.mover.late = s.mover.work.reading ∧
      (∀ n : Svc,
        t.recorder[n].state = .ready ∧ t.recorder[n].current = none ∧ t.recorder[n].cursor = none ∧
        t.recorder[n].owed = none) ∧
      ∀ (n : Svc) (x : ExtId), s.recorder[n].current = some x →
        t.extents[x] = { s.extents[x] with state := .full, cause := some .unlink } ∧
        ⟨x, t.extents[x], false⟩ ∈ t.mover.updates := by
  intro t
  have touches := s.unlinkEntry_touches
  have ends := State.commandUnlink_eq linked
  obtain ⟨e, he⟩ : ∃ e, e = s.unlinkEntry := ⟨_, rfl⟩
  rw [← he] at touches ends
  have dockets := e.unlinkDockets_touches
  have current (n : Svc) : e.unlinkDockets.recorder[n].current = s.recorder[n].current := by
    rw [State.unlinkDockets_current, touches .recorder (by decide)]
  obtain ⟨d, hd⟩ : ∃ d, d = e.unlinkDockets := ⟨_, rfl⟩
  rw [← hd] at dockets ends current
  have mover : d.mover = s.mover := Eq.trans (dockets .mover (by decide)) (touches .mover (by decide))
  have extents : d.extents = s.extents := Eq.trans (dockets .extents (by decide)) (touches .extents (by decide))
  have fills : t = d.unlinkFills := ends.trans (d.moverUnlink_fills (by rw [mover]; exact turn))
  obtain ⟨us, moved⟩ := d.unlinkFills_mover
  rw [fills]
  refine ⟨by rw [moved], by rw [moved], by rw [moved, mover], fun n => ?_, fun n x hx => ?_⟩
  · rw [State.unlinkFills_recorder]
    exact ⟨rfl, rfl, rfl, rfl⟩
  · obtain ⟨shut, handed⟩ := d.unlinkFills_current (by rw [current]; exact hx)
    refine ⟨?_, handed⟩
    rw [shut, extents]
    rfl

end

/-- Settles O50: the entry to UNLINKING by its queued writes (`State.unlinkEntry_live`, `State.unlinkEntry_header`), its
dockets (`State.commandUnlink_open`, `State.commandUnlink_waiting`) and its fills (`State.commandUnlink_fills`); the end by
`State.completeUnlink_done`. -/
theorem unlink : Obligations.Unlink := by
  refine ⟨fun s power linked sound => ⟨s.commandUnlink, exec_effectOf .unlink power nofun, ?_⟩,
    fun s power unlinking slots work updates => ⟨_, exec_effectOf .unlinkComplete power nofun, ?_⟩,
    fun s power other => ?_⟩
  · have hushed := State.commandUnlink_hushed linked
    obtain ⟨progress, sent⟩ := s.unlinkEntry_alert
    refine ⟨hushed.ctl.trans s.unlinkEntry_ctl, by rw [hushed.alert, progress], by rw [hushed.alert, sent],
      State.commandUnlink_conds linked, fun n => ?_, hushed.header.trans s.unlinkEntry_header, by simp,
      State.commandUnlink_waiting linked sound,
      fun n => ⟨State.commandUnlink_openSlots linked sound n .outer, State.commandUnlink_openSlots linked sound n .inner⟩,
      State.commandUnlink_open linked sound, State.commandUnlink_fills linked⟩
    rw [hushed.live]
    exact s.unlinkEntry_live n
  · exact State.completeUnlink_done (State.unlinkReady_iff.mpr ⟨unlinking, slots, work, updates⟩)
  · rw [exec_effectOf .unlinkComplete power nofun]
    have waits : ¬ s.unlinkReady = true := by
      rw [State.unlinkReady_iff]
      rintro ⟨unlinking, slots, work, updates⟩
      rcases other with h | ⟨n, k, h⟩ | h | h
      · exact h unlinking
      · exact h.elim (slots n k).1 fun some => some (slots n k).2
      · exact h work
      · exact h updates
    exact congrArg _ (if_neg waits)

end Sys2Proof.Machine

namespace Sys2Proof.Machine

/-! ### The end of a turn (R153) -/

theorem walkOrder_nil (cursor : Option ExtId) : walkOrder [] cursor = [] := by
  unfold walkOrder
  cases cursor <;> rfl

section
variable (s : State)

/-- A service that is not STALLED, or without a chain, is passed over in the re-test list. -/
theorem State.nextRetest_skip {n : Svc} (skip : s.recorder[n].state ≠ .stalled ∨ (s.sheetOf n).chain = [])
    (ns : List Svc) : s.nextRetest (n :: ns) = s.nextRetest ns := by
  rw [State.nextRetest]
  rcases skip with state | chain
  · rw [decide_eq_false state]
  · rw [chain, walkOrder_nil]
    cases decide (s.recorder[n].state = .stalled) <;> rfl

theorem State.nextRetest_skips {ms : List Svc}
    (skip : ∀ n ∈ ms, s.recorder[n].state ≠ .stalled ∨ (s.sheetOf n).chain = []) (ns : List Svc) :
    s.nextRetest (ms ++ ns) = s.nextRetest ns := by
  induction ms with
  | nil => rfl
  | cons n ms ih =>
    rw [List.cons_append, s.nextRetest_skip (skip n List.mem_cons_self)]
    exact ih fun m hm => skip m (List.mem_cons_of_mem n hm)

theorem State.nextRetest_walk {n : Svc} {x : ExtId} {xs : List ExtId} (stalled : s.recorder[n].state = .stalled)
    (order : walkOrder (s.sheetOf n).chain s.recorder[n].cursor = x :: xs) (ns : List Svc) :
    s.nextRetest (n :: ns) = (s.modMover fun m => { m with retests := ns }).beginWalk n true x xs := by
  rw [State.nextRetest, order, decide_eq_true stalled]

theorem State.beginWalk_recorder (n : Svc) (retest : Bool) (x : ExtId) (rest : List ExtId) (m : Svc) :
    (s.beginWalk n retest x rest).recorder[m] =
      if m = n then
        { s.recorder[m] with walkChain := (s.sheetOf n).chain, walkOverwrite := (s.sheetOf n).overwrite }
      else s.recorder[m] := by
  unfold State.beginWalk State.setWork
  exact upd_get ..

/-- R139, R153: the end of a turn leaves a recorder all but the chain and the policy of its walk. -/
theorem State.nextRetest_recorder (ns : List Svc) (m : Svc) :
    ∃ chain ow, (s.nextRetest ns).recorder[m] = { s.recorder[m] with walkChain := chain, walkOverwrite := ow } := by
  induction ns with
  | nil => exact ⟨_, _, rfl⟩
  | cons n ns ih =>
    by_cases stalled : s.recorder[n].state = .stalled
    · cases order : walkOrder (s.sheetOf n).chain s.recorder[n].cursor with
      | nil =>
        rw [State.nextRetest, order]
        simpa using ih
      | cons x xs =>
        rw [s.nextRetest_walk stalled order, State.beginWalk_recorder]
        split <;> exact ⟨_, _, rfl⟩
    · rw [s.nextRetest_skip (.inl stalled)]
      exact ih

theorem State.turnEnd_recorder (m : Svc) :
    ∃ chain ow, s.turnEnd.recorder[m] = { s.recorder[m] with walkChain := chain, walkOverwrite := ow } :=
  s.nextRetest_recorder s.mover.retests m

theorem State.turnEnd_kept (m : Svc) :
    s.turnEnd.recorder[m].state = s.recorder[m].state ∧ s.turnEnd.recorder[m].cursor = s.recorder[m].cursor ∧
      s.turnEnd.recorder[m].owed = s.recorder[m].owed ∧ s.turnEnd.recorder[m].boundary = s.recorder[m].boundary := by
  obtain ⟨chain, ow, same⟩ := s.turnEnd_recorder m
  rw [same]
  exact ⟨rfl, rfl, rfl, rfl⟩

theorem State.turnEnd_sheetOf (m : Svc) : s.turnEnd.sheetOf m = s.sheetOf m := by
  have sheet : s.turnEnd.sheet = s.sheet := by simp
  unfold State.sheetOf
  rw [sheet]

/-- R153: at the end of a turn the first STALLED service of the re-test list that has a chain is walked. -/
theorem State.turnEnd_ended : TurnEnded s.mover s.turnEnd := by
  have skips {ms : List Svc}
      (skip : ∀ n ∈ ms, s.turnEnd.recorder[n].state ≠ .stalled ∨ (s.turnEnd.sheetOf n).chain = []) :
      ∀ n ∈ ms, s.recorder[n].state ≠ .stalled ∨ (s.sheetOf n).chain = [] := fun n hn => by
    have := skip n hn
    rwa [(s.turnEnd_kept n).1, s.turnEnd_sheetOf] at this
  refine ⟨fun skip => ?_, fun as n ms x xs retests skip stalled order => ?_⟩
  · have ends := s.nextRetest_skips (skips skip) []
    rw [List.append_nil] at ends
    unfold State.turnEnd
    rw [ends]
    rfl
  · rw [(s.turnEnd_kept n).1] at stalled
    rw [s.turnEnd_sheetOf, (s.turnEnd_kept n).2.1] at order
    have ends := s.nextRetest_skips (skips skip) (n :: ms)
    have walks : s.turnEnd = (s.modMover fun m => { m with retests := ms }).beginWalk n true x xs := by
      unfold State.turnEnd
      rw [retests, ends, s.nextRetest_walk stalled order]
    rw [s.turnEnd_sheetOf, walks, State.beginWalk_recorder, if_pos rfl]
    exact ⟨rfl, rfl, rfl⟩

theorem State.turnEnd_idle (none : s.mover.retests = []) : s.turnEnd.mover = { s.mover with work := .idle } := by
  rw [s.turnEnd_ended.1 (by rw [none]; exact fun _ h => nomatch h), ← none]

end

/-! ### The last-block test after a failure (R152) -/

section
variable (s : State) (n : Svc) (x : ExtId)

theorem State.endLastBlock_false (found : Bool) :
    ∃ v, s.endLastBlock n x found false = State.turnEnd v ∧ v.mover = s.mover ∧ v.recorder = s.recorder := by
  refine ⟨_, rfl, ?_, ?_⟩ <;> cases found <;> simp

theorem State.endLastBlock_parts (found write : Bool) :
    (s.endLastBlock n x found write).extents[x] = { s.extents[x] with lastBlock := true } ∧
      (s.endLastBlock n x found write).raises n .extentWarning =
        s.raises n .extentWarning + (if found then 0 else 1) ∧
      if write then (s.endLastBlock n x found write).mover = { s.mover with work := .unitWrite n }
      else TurnEnded s.mover (s.endLastBlock n x found write) := by
  obtain ⟨m, hm⟩ : ∃ m, m = s.modExtent x fun e => { e with lastBlock := true } := ⟨_, rfl⟩
  obtain ⟨v, hv⟩ : ∃ v, v = if found then m else m.raise n .extentWarning := ⟨_, rfl⟩
  have ends : s.endLastBlock n x found write = v.goOn n write := by rw [hv, hm]; rfl
  have extents : v.extents[x] = { s.extents[x] with lastBlock := true } := by
    have kept : v.extents = m.extents := by rw [hv]; split <;> simp
    rw [kept, hm]
    simp only [State.modExtent, upd_get, if_true]
  have mover : v.mover = s.mover := by
    have kept : v.mover = m.mover := by rw [hv]; split <;> simp
    rw [kept, hm]
    rfl
  have raises : v.raises n .extentWarning = s.raises n .extentWarning + (if found then 0 else 1) := by
    have same : m.raises n .extentWarning = s.raises n .extentWarning := by rw [hm]; rfl
    rw [hv, ← same]
    cases found
    · exact (m.raise_raises_service n .extentWarning .extentWarning).trans (by simp)
    · simp
  rw [ends]
  cases write
  · have panel : v.turnEnd.panel = v.panel := by simp
    have kept : v.turnEnd.extents = v.extents := by simp
    refine ⟨?_, (State.raises_of_panel panel _).trans raises, ?_⟩
    · change v.turnEnd.extents[x] = _
      simp only [kept, extents]
    · rw [← mover]
      exact v.turnEnd_ended
  · exact ⟨extents, raises, by rw [← mover]; rfl⟩

theorem State.stepLastBlock_owed (rest : List ExtId) (found : Bool) :
    (s.stepLastBlock n x rest found false).recorder[n].owed = s.recorder[n].owed := by
  cases rest with
  | nil =>
    obtain ⟨v, ends, -, recorder⟩ := s.endLastBlock_false n x found
    change (s.endLastBlock n x found false).recorder[n].owed = _
    rw [ends, (v.turnEnd_kept n).2.2.1, recorder]
  | cons y ys => rfl

end

end Sys2Proof.Machine

namespace Sys2Proof.Machine

/-! ### Failed accesses of the Mover (R134, R143, R147, R148, R152, R157) -/

theorem takeUpdate_first {x : ExtId} {w : DescUpdate} (hw : w.extent = x) :
    ∀ {us vs : List DescUpdate}, (∀ v ∈ us, v.extent ≠ x) → takeUpdate x (us ++ w :: vs) = some (w, us ++ vs)
  | [], vs, _ => by
    rw [List.nil_append, takeUpdate, if_pos hw]
    rfl
  | v :: us, vs, others => by
    rw [List.cons_append, takeUpdate, if_neg (others v List.mem_cons_self),
      takeUpdate_first hw fun y hy => others y (List.mem_cons_of_mem v hy)]
    rfl

section
variable {s : State} {x : ExtId} {w : DescUpdate} {us vs : List DescUpdate}

/-- The Mover's record without the update that has failed. -/
def State.withoutUpdate (s : State) (us : List DescUpdate) : State := s.modMover fun m => { m with updates := us }

variable (updates : s.mover.updates = us ++ w :: vs) (hw : w.extent = x) (first : ∀ v ∈ us, v.extent ≠ x)
include updates hw first

theorem State.updateFailed_eq :
    s.updateFailed x =
      if s.isLinked then (s.withoutUpdate (us ++ vs)).updateEnded x false
      else if w.again then s.withoutUpdate (us ++ vs)
      else (s.withoutUpdate (us ++ vs)).handUpdate x true := by
  unfold State.updateFailed
  rw [updates, takeUpdate_first hw first]
  rfl

/-- R157: while UNLINKING a failed update is made once more from its record as it then stands. -/
theorem State.updateFailed_unlinked (unlinked : s.isLinked = false) :
    let m := { s.mover with updates := us ++ vs }
    (s.updateFailed x).recorder = s.recorder ∧ (s.updateFailed x).extents = s.extents ∧
      (s.updateFailed x).mover = if w.again then m else { m with updates := us ++ vs ++ [⟨x, s.extents[x], true⟩] } := by
  rw [State.updateFailed_eq updates hw first, unlinked]
  cases w.again <;> exact ⟨rfl, rfl, rfl⟩

omit updates hw first in
/-- R147, R148, R152: what a failed update leaves of the work that waited for it. -/
theorem State.updateEnded_failed (u : State) (n : Svc) :
    (u.mover.work = .owedUpdate n x →
      (u.updateEnded x false).recorder[n].owed = u.recorder[n].owed ∧ TurnEnded u.mover (u.updateEnded x false)) ∧
    (∀ retest, u.mover.work = .openUpdate n x retest →
      (u.updateEnded x false).recorder[n].owed = some x ∧
        (u.extents[x].code ≠ 0 → TurnEnded u.mover (u.updateEnded x false))) ∧
    (u.mover.work = .boundaryUpdate n x →
      (u.updateEnded x false).recorder[n].owed = some x ∧
        (u.updateEnded x false).mover = { u.mover with work := .boundaryRead n x false }) ∧
    (u.mover.work = .closeUpdate n x →
      (u.updateEnded x false).recorder[n].owed = some x ∧ TurnEnded u.mover (u.updateEnded x false)) := by
  obtain ⟨v, hv⟩ : ∃ v, v = u.modRecorder n fun r => { r with owed := some x } := ⟨_, rfl⟩
  have owed : v.recorder[n].owed = some x := by
    rw [hv, State.modRecorder_recorder, upd_get, if_pos rfl]
  have mover : v.mover = u.mover := by rw [hv]; rfl
  have extents : v.extents = u.extents := by rw [hv]; rfl
  have ended := v.turnEnd_ended
  rw [mover] at ended
  refine ⟨fun work => ?_, fun retest work => ?_, fun work => ?_, fun work => ?_⟩
  · have ends : u.updateEnded x false = u.turnEnd := by
      unfold State.updateEnded
      rw [work]
      exact if_pos rfl
    rw [ends]
    exact ⟨(u.turnEnd_kept n).2.2.1, u.turnEnd_ended⟩
  · have opens : u.updateEnded x false = v.afterOpen n x false := by
      rw [hv]
      unfold State.updateEnded
      rw [work]
      exact if_pos rfl
    rw [opens]
    unfold State.afterOpen
    simp only [extents]
    split
    · next code =>
      refine ⟨?_, fun other => absurd code other⟩
      unfold State.startLastBlock
      rw [State.stepLastBlock_owed, owed]
    · exact ⟨(v.turnEnd_kept n).2.2.1.trans owed, fun _ => ended⟩
  · have reads : u.updateEnded x false = v.setWork (.boundaryRead n x false) := by
      rw [hv]
      unfold State.updateEnded
      rw [work]
      exact if_pos rfl
    rw [reads]
    exact ⟨owed, by rw [← mover]; rfl⟩
  · have ends : u.updateEnded x false = v.turnEnd := by
      rw [hv]
      unfold State.updateEnded
      rw [work]
      exact if_pos rfl
    rw [ends]
    exact ⟨(v.turnEnd_kept n).2.2.1.trans owed, ended⟩

theorem State.updateFailed_linked (linked : s.isLinked = true) (n : Svc) :
    let m := { s.mover with updates := us ++ vs }
    let t := s.updateFailed x
    (s.mover.work = .owedUpdate n x → t.recorder[n].owed = s.recorder[n].owed ∧ TurnEnded m t) ∧
    (∀ retest, s.mover.work = .openUpdate n x retest →
      t.recorder[n].owed = some x ∧ (s.extents[x].code ≠ 0 → TurnEnded m t)) ∧
    (s.mover.work = .boundaryUpdate n x →
      t.recorder[n].owed = some x ∧ t.mover = { m with work := .boundaryRead n x false }) ∧
    (s.mover.work = .closeUpdate n x → t.recorder[n].owed = some x ∧ TurnEnded m t) := by
  have failed := State.updateFailed_eq updates hw first
  rw [linked, if_pos rfl] at failed
  intro m t
  have ended := (s.withoutUpdate (us ++ vs)).updateEnded_failed (x := x) n
  rw [← failed] at ended
  exact ended

end

section
variable {s : State}

/-- R134: a failed unit write ends the turn; the unit stays. -/
theorem State.unitWriteFailed_linked (linked : s.isLinked = true) : s.unitWriteFailed = s.turnEnd := if_pos linked

theorem State.unitWriteFailed_unlinked (unlinked : s.isLinked = false) : s.unitWriteFailed = s.unlinkFills := by
  unfold State.unitWriteFailed
  rw [unlinked]
  rfl

theorem State.unitWriteFailed_proxy (s : State) : s.unitWriteFailed.proxy = s.proxy := by
  unfold State.unitWriteFailed
  split <;> simp

theorem State.descriptorReadFailed_unlinked (unlinked : s.isLinked = false) :
    s.descriptorReadFailed.mover = { s.mover with late := none } := by
  unfold State.descriptorReadFailed
  rw [unlinked]
  rfl

variable (linked : s.isLinked = true)
include linked

/-- R143, R148: a failed read of a walk, or of a block boundary, ends the turn. -/
theorem State.descriptorReadFailed_turn {n : Svc} {x : ExtId}
    (work : (∃ retest ow rest, s.mover.work = .walk n retest ow x rest) ∨
      ∃ resume, s.mover.work = .boundaryRead n x resume) :
    s.descriptorReadFailed = s.turnEnd := by
  have read : s.descriptorReadFailed = s.walkFailed := if_pos linked
  rw [read]
  unfold State.walkFailed
  rcases work with ⟨retest, ow, rest, work⟩ | ⟨resume, work⟩ <;> rw [work]

/-- R152: a failed read of the last-block test passes its extent over. -/
theorem State.descriptorReadFailed_lastBlock {n : Svc} {x y : ExtId} {rest : List ExtId} {found write : Bool}
    (work : s.mover.work = .lastBlock n x y rest found write) :
    s.descriptorReadFailed = s.stepLastBlock n x rest found write := by
  have read : s.descriptorReadFailed = s.walkFailed := if_pos linked
  rw [read]
  unfold State.walkFailed
  rw [work]

theorem State.descriptorReadFailed_linked :
    let t := s.descriptorReadFailed
    (∀ n retest ow x rest, s.mover.work = .walk n retest ow x rest → TurnEnded s.mover t ∧ t.extents = s.extents) ∧
    (∀ n x resume, s.mover.work = .boundaryRead n x resume →
      TurnEnded s.mover t ∧ t.extents = s.extents ∧ t.recorder[n].boundary = s.recorder[n].boundary) ∧
    ∀ n x y rest found write, s.mover.work = .lastBlock n x y rest found write →
      (∀ z zs, rest = z :: zs → t.mover = { s.mover with work := .lastBlock n x z zs found write }) ∧
      (rest = [] →
        t.extents[x] = { s.extents[x] with lastBlock := true } ∧
        t.raises n .extentWarning = s.raises n .extentWarning + (if found then 0 else 1) ∧
        if write then t.mover = { s.mover with work := .unitWrite n } else TurnEnded s.mover t) := by
  intro t
  have extents : s.turnEnd.extents = s.extents := by simp
  refine ⟨fun n retest ow x rest work => ?_, fun n x resume work => ?_, fun n x y rest found write work => ?_⟩
  · rw [show t = s.turnEnd from State.descriptorReadFailed_turn linked (.inl ⟨_, _, _, work⟩)]
    exact ⟨s.turnEnd_ended, extents⟩
  · rw [show t = s.turnEnd from State.descriptorReadFailed_turn linked (.inr ⟨_, work⟩)]
    exact ⟨s.turnEnd_ended, extents, (s.turnEnd_kept n).2.2.2⟩
  · rw [show t = s.stepLastBlock n x rest found write from State.descriptorReadFailed_lastBlock linked work]
    refine ⟨?_, ?_⟩
    · rintro z zs rfl
      rfl
    · rintro rfl
      exact s.endLastBlock_parts n x found write

end

end Sys2Proof.Machine

namespace Sys2Proof.Machine

/-! ### Failed writes of a queue (R169, R171, R204) -/

theorem findIdx_append_cons {α : Type} {p : α → Bool} {q rest : List α} {i : α} (before : q.any p = false)
    (hi : p i = true) : (q ++ i :: rest).findIdx p = q.length := by
  have none : ∀ x ∈ q, p x = false := fun x hx => Bool.eq_false_iff.mpr (List.any_eq_false.mp before x hx)
  induction q with
  | nil => rw [List.nil_append, List.findIdx_cons, hi]; rfl
  | cons x q ih =>
    rw [List.any_cons, Bool.or_eq_false_iff] at before
    rw [List.cons_append, List.findIdx_cons, none x List.mem_cons_self,
      ih before.2 fun y hy => none y (List.mem_cons_of_mem x hy)]
    rfl

/-- What the failure of a write leaves of those behind it: a piece of a periodic write breaks its end. -/
def LiveItem.breaks : LiveItem → List LiveItem → List LiveItem
  | .fields _, rest => breakMark rest
  | .entry _ true _, rest => breakMark rest
  | .entry _ false _, rest => rest
  | .count _, rest => rest
  | .late _ _, rest => rest
  | .mark w, rest => .mark w :: rest

theorem failItem_split (q rest : List LiveItem) (i : LiveItem) :
    failItem q.length (q ++ i :: rest) = q ++ i.breaks rest := by
  have take : (q ++ i :: rest).take q.length = q := List.take_left
  have drop : (q ++ i :: rest).drop (q.length + 1) = rest := by
    rw [← List.drop_drop, List.drop_left]
    rfl
  have at_ : (q ++ i :: rest)[q.length]? = some i := by simp
  unfold failItem
  rw [at_]
  cases i with
  | entry c part due => cases part <;> simp only [take, drop, LiveItem.breaks]
  | fields p => simp only [take, drop, LiveItem.breaks]
  | mark w => rfl
  | count v => simp only [take, drop, LiveItem.breaks]
  | late c ps => simp only [take, drop, LiveItem.breaks]

section
variable (s : State)

/-- R169: the Alert Unit once the write of an entry has failed. -/
def State.alertAfter (r : CondRef) : Alert :=
  if s.entryAbandons r then { s.alert with progress := none, abandoned := true } else s.alert

theorem State.abandons_eq (r : CondRef) :
    (if s.entryAbandons r then s.abandonAlert else s) = s.modAlert fun _ => s.alertAfter r := by
  unfold State.alertAfter
  by_cases abandons : s.entryAbandons r = true
  · have progress : s.alert.progress.isSome = true := by
      unfold State.entryAbandons at abandons
      cases h : s.alert.progress with
      | none => simp [h] at abandons
      | some a => rfl
    rw [if_pos abandons, if_pos abandons]
    unfold State.abandonAlert
    rw [if_pos progress]
    rfl
  · rw [if_neg abandons, if_neg abandons]
    rfl

theorem State.entryWriteFailed_eq (r : CondRef) :
    s.entryWriteFailed r = (s.modAlert fun _ => s.alertAfter r).entryWriteLost r := by
  unfold State.entryWriteFailed
  rw [State.abandons_eq]

/-- R169, R171: the failed write of a device condition's entry. -/
theorem State.entryWriteFailed_device (k : DevCond) :
    let t := s.entryWriteFailed (.device k)
    t.cond (.device k) =
        (if s.isLinked then { s.cond (.device k) with owed := true } else s.cond (.device k)) ∧
      t.header = s.header.filter (fun i => !i.isEntry k) ∧ t.alert = s.alertAfter (.device k) := by
  intro t
  obtain ⟨v, hv⟩ : ∃ v, v = (s.modAlert fun _ => s.alertAfter (.device k)).dropEntryWrite (.device k) := ⟨_, rfl⟩
  have linked : v.isLinked = s.isLinked := by rw [hv]; rfl
  have header : v.header = s.header.filter (fun i => !i.isEntry k) := by rw [hv]; rfl
  have cond : v.cond (.device k) = s.cond (.device k) := by rw [hv]; rfl
  have alert : v.alert = s.alertAfter (.device k) := by rw [hv]; rfl
  have gone : v.entryQueued (.device k) = false := by
    unfold State.entryQueued
    rw [header]
    simp
  have lost : t = if v.isLinked then v.modCond (.device k) fun e => { e with owed := true } else v := by
    change s.entryWriteFailed (.device k) = _
    rw [State.entryWriteFailed_eq]
    unfold State.entryWriteLost
    dsimp only
    rw [← hv, gone]
    rfl
  rw [lost, linked]
  split
  · exact ⟨by rw [State.modCond_get, if_pos rfl, cond], header, alert⟩
  · exact ⟨cond, header, alert⟩

variable {s} {n : Svc} {k : SvcCond} {q rest : List LiveItem}

/-- The part once the failed write of a service condition's entry has left its queue. -/
def State.entryDropped (s : State) (n : Svc) (k : SvcCond) : State :=
  (s.modAlert fun _ => s.alertAfter (.service n k)).dropEntryWrite (.service n k)

theorem State.entryDropped_queue {i : LiveItem} (queue : s.live[n].queue = q ++ i :: rest)
    (before : q.any (LiveItem.isEntry k) = false) (hi : i.isEntry k = true) :
    (s.entryDropped n k).live[n].queue = q ++ i.breaks rest := by
  have dropped : (s.entryDropped n k).live[n] =
      { s.live[n] with queue := failItem (s.live[n].queue.findIdx (LiveItem.isEntry k)) s.live[n].queue } :=
    upd_get .. |>.trans (if_pos rfl)
  rw [dropped, queue, findIdx_append_cons before hi, failItem_split]

theorem State.entryDropped_kept (s : State) (n : Svc) (k : SvcCond) :
    (s.entryDropped n k).isLinked = s.isLinked ∧ (s.entryDropped n k).svcCond n k = s.svcCond n k ∧
      (s.entryDropped n k).alert = s.alertAfter (.service n k) := ⟨rfl, rfl, rfl⟩

theorem State.entryWriteFailed_service (s : State) (n : Svc) (k : SvcCond) :
    s.entryWriteFailed (.service n k) =
      if s.isLinked then
        if (s.entryDropped n k).entryQueued (.service n k) then (s.entryDropped n k).queueEntry (.service n k)
        else (s.entryDropped n k).modCond (.service n k) fun e => { e with owed := true }
      else s.entryDropped n k :=
  s.entryWriteFailed_eq (.service n k)

theorem State.alertAfter_unlinked (unlinked : s.isLinked = false) (r : CondRef) : s.alertAfter r = s.alert := by
  unfold State.alertAfter State.entryAbandons
  rw [unlinked]
  rfl

/-- R197: while UNLINKING a failed entry write is not made again. -/
theorem State.entryWriteFailed_late (unlinked : s.isLinked = false) {ps : List Piece}
    (queue : s.live[n].queue = q ++ .late k ps :: rest) (before : q.any (LiveItem.isEntry k) = false) :
    let t := s.entryWriteFailed (.service n k)
    t.live[n].queue = q ++ rest ∧ t.svcCond n k = s.svcCond n k ∧ t.alert = s.alert := by
  have dropped := State.entryDropped_queue queue before (decide_eq_true rfl)
  obtain ⟨-, cond, alert⟩ := s.entryDropped_kept n k
  rw [State.alertAfter_unlinked unlinked] at alert
  rw [State.entryWriteFailed_service, unlinked]
  exact ⟨dropped, cond, alert⟩

/-- R171: a failed entry write leaves the entry owed, by a write queued behind it or waiting. -/
theorem State.entryWriteFailed_entry (linked : s.isLinked = true) {part due : Bool}
    (queue : s.live[n].queue = q ++ .entry k part due :: rest) (before : q.any (LiveItem.isEntry k) = false) :
    let t := s.entryWriteFailed (.service n k)
    let left := q ++ (if part then breakMark rest else rest)
    (left.any (LiveItem.isEntry k) = true → t.live[n].queue = dueFirst k left ∧ t.svcCond n k = s.svcCond n k) ∧
      (left.any (LiveItem.isEntry k) = false →
        t.live[n].queue = left ∧ t.svcCond n k = { s.svcCond n k with owed := true }) ∧
      t.alert = s.alertAfter (.service n k) := by
  intro t left
  have dropped := State.entryDropped_queue queue before (decide_eq_true rfl)
  obtain ⟨link, cond, alert⟩ := s.entryDropped_kept n k
  have failed := s.entryWriteFailed_service n k
  obtain ⟨v, hv⟩ : ∃ v, v = s.entryDropped n k := ⟨_, rfl⟩
  have rest_eq : v.live[n].queue = left := by
    rw [hv, dropped]
    cases part <;> rfl
  have queued : v.entryQueued (.service n k) = left.any (LiveItem.isEntry k) := by rw [← rest_eq]; rfl
  rw [← hv] at link cond alert failed
  rw [linked, if_pos rfl, queued] at failed
  rw [show t = _ from failed]
  by_cases any : left.any (LiveItem.isEntry k) = true
  · have again : v.queueEntry (.service n k) = v.modLive n fun l => { l with queue := dueFirst k l.queue } :=
      if_pos (link.trans linked)
    have live : (v.modLive n fun l => { l with queue := dueFirst k l.queue }).live[n] =
        { v.live[n] with queue := dueFirst k v.live[n].queue } := upd_get .. |>.trans (if_pos rfl)
    rw [if_pos any, again]
    refine ⟨fun _ => ⟨?_, cond⟩, fun other => ?_, alert⟩
    · rw [live, rest_eq]
    · rw [any] at other
      exact nomatch other
  · rw [if_neg any]
    refine ⟨fun other => absurd other any, fun _ => ⟨rest_eq, ?_⟩, alert⟩
    rw [← cond]
    exact (v.modCond_get (.service n k) (.service n k) _).trans (if_pos rfl)

/-- R204: the failed write of a live block's item leaves the others queued. -/
theorem State.failItem_live (s : State) (n : Svc) (f : List LiveItem → Nat) :
    (s.modLive n fun l => { l with queue := failItem (f l.queue) l.queue }).live[n] =
      { s.live[n] with queue := failItem (f s.live[n].queue) s.live[n].queue } := upd_get .. |>.trans (if_pos rfl)

end

theorem eraseP_commit {q rest : List HeaderItem} {v : Nat} (before : q.any HeaderItem.isCommit = false) :
    (q ++ .commit v :: rest).eraseP HeaderItem.isCommit = q ++ rest := by
  have none : ∀ i ∈ q, ¬ HeaderItem.isCommit i = true := fun i hi => List.any_eq_false.mp before i hi
  rw [List.eraseP_append_right _ none, List.eraseP_cons]
  rfl

end Sys2Proof.Machine

namespace Sys2Proof.Machine

/-! ### The completions stated before a failure (R168, R171, R195, R196, R198) -/

section
variable (s : State)

theorem State.handAlert_kept :
    s.handAlert.ctl = s.ctl ∧ s.handAlert.alert = s.alert ∧ s.handAlert.host = s.host := by simp

/-- R168 step 2: the cause of an alert is no entry whose write is owed. -/
theorem State.handCause_entryOwes : s.handCause.entryOwes = s.entryOwes := by
  funext r
  have cond := s.handCause_cond r
  unfold State.entryOwes
  rw [cond]
  cases r with
  | service n c => rfl
  | device c =>
    have header : s.handCause.header.contains (.entry c) = s.header.contains (.entry c) := by
      rw [State.handCause_header, State.handedHeader]
      split <;> simp
    simp only [header]

theorem AlertTrimmed.of_same {s t u : State} (h : AlertTrimmed t u) (same : t.alert = s.alert) : AlertTrimmed s u := by
  unfold AlertTrimmed at *
  rw [h, same]

theorem State.causeReady_iff :
    s.causeReady = true ↔
      s.isLinked = true ∧ (s.alert.progress.map AlertRun.waits) = some [] ∧ HeaderItem.alert ∉ s.header := by
  unfold State.causeReady
  cases s.alert.progress with
  | none => simp
  | some a => simp [and_assoc]

/-- What follows the writes that complete: a row of failures ends, and the alert in progress hands what it can. -/
def State.completes (s : State) : State := s.accessDone.trimWaits.handCause

theorem State.completes_parts :
    s.completes.host = s.host ∧ s.completes.live = s.live ∧ s.completes.ctl = { s.ctl with consecutive := 0 } ∧
      (∀ r, s.completes.cond r = s.cond r) ∧ AlertTrimmed s s.completes ∧
      s.completes.header =
        if s.isLinked = true ∧ (s.completes.alert.progress.map AlertRun.waits) = some [] ∧
            HeaderItem.alert ∉ s.header then
          s.header ++ [.alert]
        else s.header := by
  obtain ⟨w, hw⟩ : ∃ w, w = s.accessDone.trimWaits := ⟨_, rfl⟩
  have completes : s.completes = w.handCause := by rw [hw]; rfl
  have owes : w.entryOwes = s.entryOwes := by
    rw [hw]
    funext r
    cases r <;> rfl
  have ready := w.causeReady_iff
  rw [completes]
  refine ⟨by rw [hw]; rfl, by rw [hw]; rfl, by rw [hw]; rfl, fun r => ?_, ?_, ?_⟩
  · rw [State.handCause_cond, hw]
    cases r <;> rfl
  · unfold AlertTrimmed
    rw [State.handCause_entryOwes, owes]
    rw [hw]
    rfl
  · have linked : w.isLinked = s.isLinked := by rw [hw]; rfl
    have header : w.header = s.header := by rw [hw]; rfl
    have alert : w.handCause.alert = w.alert := rfl
    rw [linked, header] at ready
    rw [State.handCause_header, State.handedHeader, header, alert]
    simp only [ready]

end

section
variable {s : State} (d : Completions)

theorem State.completed_none (none : s.handAlert.anyCompleted d = false) : s.completed d = s.handAlert := by
  unfold State.completed
  dsimp only
  rw [none]
  rfl

theorem State.completed_any (any : s.handAlert.anyCompleted d = true) :
    s.completed d = (s.handAlert.landCompleted d).completes := by
  unfold State.completed State.completes
  dsimp only
  rw [if_pos any]

/-- How many of the writes queued for the header are among the completions. -/
def State.headerTaken (s : State) (d : Completions) : Nat :=
  min d.header (if s.isLinked then s.handAlert.header.idxOf .alert else s.handAlert.header.length)

theorem State.handAlert_headerFree :
    s.handAlert.headerFree =
      if s.isLinked then s.handAlert.header.idxOf .alert else s.handAlert.header.length := by
  unfold State.headerFree
  rw [State.isLinked_of_ctl s.handAlert_kept.1]

theorem State.landCompleted_carries (carries : s.carries = true) :
    s.handAlert.landCompleted d = s.handAlert.landAll (fun n _ => d.live[n]) (s.headerTaken d) := by
  have carries' : s.handAlert.carries = true := by
    unfold State.carries at carries ⊢
    rwa [s.handAlert_kept.1]
  unfold State.landCompleted State.landQueued State.headerTaken
  rw [if_pos carries', State.handAlert_headerFree]
  rfl

theorem State.isLinked_of_dark (dark : s.carries = false) : s.isLinked = false :=
  Bool.eq_false_iff.mpr fun linked => by
    rw [State.carries_of_linked linked] at dark
    exact nomatch dark

theorem State.landCompleted_dark (dark : s.carries = false) : s.handAlert.landCompleted d = s.landStep d.link := by
  rw [State.handAlert_unlinked (State.isLinked_of_dark dark)]
  unfold State.landCompleted
  rw [dark]
  rfl

theorem State.landStep_host (k : Nat) : (s.landStep k).host = s.host.writePieces (s.stepLeft.take k).flatten := rfl

theorem State.completedPieces_carries (any : s.handAlert.anyCompleted d = true) (carries : s.carries = true) :
    s.completedPieces d = s.handAlert.landPieces (fun n _ => d.live[n]) (s.headerTaken d) := by
  have carries' : s.handAlert.carries = true := by
    unfold State.carries at carries ⊢
    rwa [s.handAlert_kept.1]
  unfold State.completedPieces
  dsimp only
  rw [if_pos any, if_pos carries', State.handAlert_headerFree]
  rfl

theorem State.completedPieces_dark (any : s.handAlert.anyCompleted d = true) (dark : s.carries = false) :
    s.completedPieces d = (s.stepLeft.take d.link).flatten := by
  unfold State.completedPieces
  dsimp only
  rw [if_pos any, State.handAlert_unlinked (State.isLinked_of_dark dark), dark]
  rfl

/-- R196: the completions land. -/
theorem State.completed_host : (s.completed d).host = s.host.writePieces (s.completedPieces d) := by
  by_cases any : s.handAlert.anyCompleted d = true
  · rw [State.completed_any d any, (State.completes_parts _).1]
    by_cases carries : s.carries = true
    · rw [State.landCompleted_carries d carries, State.completedPieces_carries d any carries, State.landAll_host,
        s.handAlert_kept.2.2]
    · have dark := Bool.eq_false_iff.mpr carries
      rw [State.landCompleted_dark d dark, State.completedPieces_dark d any dark, State.landStep_host]
  · rw [State.completed_none d (Bool.eq_false_iff.mpr any), s.handAlert_kept.2.2]
    unfold State.completedPieces
    dsimp only
    rw [if_neg any]
    rfl

theorem State.completed_cond (r : CondRef) : (s.completed d).cond r = s.handAlert.cond r := by
  by_cases any : s.handAlert.anyCompleted d = true
  · rw [State.completed_any d any, (State.completes_parts _).2.2.2.1]
    by_cases carries : s.carries = true
    · rw [State.landCompleted_carries d carries]
      have touches := s.handAlert.landAll_touches (fun n _ => d.live[n]) (s.headerTaken d)
      exact State.cond_of_panels (touches .panel (by decide)) (touches .devPanel (by decide)) r
    · have dark := Bool.eq_false_iff.mpr carries
      rw [State.landCompleted_dark d dark, State.handAlert_unlinked (State.isLinked_of_dark dark)]
      cases r <;> rfl
  · rw [State.completed_none d (Bool.eq_false_iff.mpr any)]

/-- R168, R171, R196, R198: the completions while the controller carries writes. -/
theorem State.completed_carries (any : s.handAlert.anyCompleted d = true) (carries : s.carries = true) :
    let v := s.handAlert
    let u := s.completed d
    u.ctl = { s.ctl with consecutive := 0 } ∧ AlertTrimmed s u ∧
      (let left := v.header.drop (s.headerTaken d)
       u.header =
         if s.isLinked = true ∧ (u.alert.progress.map AlertRun.waits) = some [] ∧ .alert ∉ left then left ++ [.alert]
         else left) ∧
      ∀ n : Svc,
        u.live[n] =
          { s.live[n] with
            queue := (v.live[n].queue.take d.live[n]).filter LiveItem.isMark ++ v.live[n].queue.drop d.live[n] } := by
  intro v u
  have completed : u = (s.handAlert.landCompleted d).completes := State.completed_any d any
  rw [State.landCompleted_carries d carries] at completed
  obtain ⟨handedCtl, handedAlert, -⟩ := s.handAlert_kept
  have touches := v.landAll_touches (fun n _ => d.live[n]) (s.headerTaken d)
  have header := v.landAll_header (fun n _ => d.live[n]) (s.headerTaken d)
  have lives := v.landAll_live (fun n _ => d.live[n]) (s.headerTaken d)
  obtain ⟨l, hl⟩ : ∃ l, l = v.landAll (fun n _ => d.live[n]) (s.headerTaken d) := ⟨_, rfl⟩
  rw [← hl] at completed touches header lives
  have ctl : l.ctl = s.ctl := Eq.trans (touches .ctl (by decide)) handedCtl
  have alert : l.alert = s.alert := Eq.trans (touches .alert (by decide)) handedAlert
  obtain ⟨-, live, ctl', -, trimmed, header'⟩ := l.completes_parts
  rw [← completed] at live ctl' trimmed header'
  rw [header, State.isLinked_of_ctl ctl] at header'
  refine ⟨by rw [ctl', ctl], trimmed.of_same alert, header', fun n => ?_⟩
  have same := lives n
  rw [live, same, LiveWrite.after, s.handAlert_count n]

/-- R195, R198: the completions of a link step. -/
theorem State.completed_dark (any : s.handAlert.anyCompleted d = true) (dark : s.carries = false) :
    let u := s.completed d
    u.ctl = { s.ctl with consecutive := 0, stepDone := s.ctl.stepDone + min d.link s.stepLeft.length } ∧
      u.live = s.live ∧ u.header = s.header ∧ u.panel = s.panel ∧ u.devPanel = s.devPanel := by
  intro u
  have completed : u = (s.handAlert.landCompleted d).completes := State.completed_any d any
  have still : (s.landStep d.link).accessDone.trimWaits.isLinked = false := State.isLinked_of_dark (s := s) dark
  rw [State.landCompleted_dark d dark, State.completes, State.handCause_unlinked still] at completed
  rw [completed]
  exact ⟨rfl, rfl, rfl, rfl, rfl⟩

theorem State.completed_ctl :
    ∃ row done, (s.completed d).ctl = { s.ctl with consecutive := row, stepDone := done } := by
  by_cases any : s.handAlert.anyCompleted d = true
  · by_cases carries : s.carries = true
    · rw [(State.completed_carries d any carries).1]
      exact ⟨_, _, rfl⟩
    · rw [(State.completed_dark d any (Bool.eq_false_iff.mpr carries)).1]
      exact ⟨_, _, rfl⟩
  · rw [State.completed_none d (Bool.eq_false_iff.mpr any), s.handAlert_kept.1]
    exact ⟨_, _, rfl⟩

/-- No completion ends an alert or begins one. -/
theorem State.completed_progress : (s.completed d).alert.progress.isSome = s.alert.progress.isSome := by
  obtain ⟨-, handed, -⟩ := s.handAlert_kept
  have trims (u : State) : u.completes.alert.progress.isSome = u.alert.progress.isSome := by
    obtain ⟨-, -, -, -, trimmed, -⟩ := u.completes_parts
    rw [trimmed]
    exact Option.isSome_map
  have lands : (s.handAlert.landCompleted d).alert = s.handAlert.alert := by simp
  by_cases any : s.handAlert.anyCompleted d = true
  · rw [State.completed_any d any, trims, lands, handed]
  · rw [State.completed_none d (Bool.eq_false_iff.mpr any), handed]

theorem State.completed_svcCond_raises (n : Svc) (c : SvcCond) : (s.completed d).raises n c = s.raises n c := by
  have same := State.completed_cond (s := s) d (.service n c)
  obtain ⟨timer, owed, fields⟩ := s.handAlert_cond (.service n c)
  unfold State.raises State.svcCond
  rw [same, fields]

end

end Sys2Proof.Machine

namespace Sys2Proof.Machine

/-! ### The fault unlink (R102, R157, R199) -/

/-- R102: the Schedulers of all services at a fault unlink. -/
def State.faultDockets (s : State) : State := allServices.foldl (fun s n => s.schedFault n) s

/-- R165, R169, R171, R199: no timer, no owed entry, no alert in progress and no queued write is left. -/
def State.silenced (s : State) : State :=
  (allServices.foldl (fun s n => s.modLive n fun l => { l with queue := [] }) s.stopReminders.dropOwed.dropAlert).modHeader
    fun _ => []

section
variable (s : State)

/-- The link state and the mark that a fault unlink sets. -/
def State.faulted (s : State) : State := s.modCtl fun c => { c with link := .unlinked, faultMark := true }

theorem State.faultUnlink_eq : s.faultUnlink = s.faulted.faultDockets.moverFault.silenced := rfl

theorem State.silenced_touches : Touches [.panel, .devPanel, .alert, .live, .header] s s.silenced := by
  simp [State.silenced]

theorem State.silenced_cond (r : CondRef) : (s.silenced.cond r).timer = none ∧ (s.silenced.cond r).owed = false := by
  have header (u : State) : (u.modHeader fun _ => []).cond r = u.cond r := by cases r <;> rfl
  have dropped (u : State) : u.dropAlert.cond r = u.cond r := by cases r <;> rfl
  unfold State.silenced
  rw [header, State.modLives_cond (fun _ l => { l with queue := [] }), dropped, State.dropOwed_cond,
    State.stopReminders_cond]
  exact ⟨rfl, rfl⟩

theorem State.silenced_live (n : Svc) : s.silenced.live[n] = { LiveWrite.reset with count := s.live[n].count } := by
  have header (u : State) : (u.modHeader fun _ => []).live[n] = u.live[n] := rfl
  have kept : s.stopReminders.dropOwed.dropAlert.live = s.live := by simp
  unfold State.silenced
  rw [header, State.modLives_live fun _ l => { l with queue := [] }]
  simp only [kept]
  rfl

theorem State.silenced_alert : s.silenced.alert.progress = none ∧ s.silenced.header = [] := by
  refine ⟨?_, rfl⟩
  have emptied := congrArg State.alert
    (s.stopReminders.dropOwed.dropAlert.modLives_frame fun _ l => { l with queue := [] })
  have header (u : State) : (u.modHeader fun _ => []).alert = u.alert := rfl
  unfold State.silenced
  rw [header, emptied]
  rfl

theorem State.schedFault_aside (u : State) {m n : Svc} (other : n ≠ m) : Aside n u (u.schedFault m) :=
  (u.schedFault_closesAll m).aside other

theorem State.faultDockets_touches : Touches closedParts s s.faultDockets :=
  foldl_keeps (Touches closedParts s) _
    (fun u n h => (State.schedFault_touch closedParts s u n (List.Subset.refl _)).mpr h) allServices s (.refl _ s)

theorem State.faultDockets_current (n : Svc) : s.faultDockets.recorder[n].current = s.recorder[n].current :=
  foldl_same (fun u : State => u.recorder[n].current) (fun u m => u.schedFault m)
    (fun u m => (u.schedFault_closesAll m).current n) allServices s

/-- R102: the docket lists are emptied. -/
theorem State.faultDockets_sched (n : Svc) :
    s.faultDockets.sched[n] = { Sched.reset with unmatched := s.sched[n].unmatched } := by
  obtain ⟨u, before, after⟩ := Aside.of_fold State.schedFault_aside s n
  have own : s.faultDockets.sched[n] = (u.schedFault n).sched[n] := after.sched
  rw [own, State.schedFault_sched, before.sched]

variable {s} in
theorem State.faultDockets_segmentEnds (own : ∀ m, OpenOwn m s) {n : Svc} {k : Slot} {b : Body}
    (ho : (s.entry n k).state = .opened) (hb : (s.entry n k).body = some b) :
    SegmentEnds n k b (s.sheetOf n) s s.faultDockets := by
  obtain ⟨u, before, after⟩ := Aside.of_fold State.schedFault_aside s n
  exact (u.schedFault_closesAll n).segmentEnds before after own ho hb

/-- The blocks that the last step of a fault unlink leaves alone. -/
theorem State.faultUnlink_blocks :
    let f := s.faulted.faultDockets
    s.faultUnlink.sched = f.sched ∧ s.faultUnlink.pool = f.pool ∧ s.faultUnlink.integ = f.integ ∧
      s.faultUnlink.recorder = f.moverFault.recorder ∧ s.faultUnlink.extents = f.moverFault.extents ∧
      s.faultUnlink.mover = f.moverFault.mover := by
  intro f
  have touches := f.moverFault.silenced_touches
  have sched : f.moverFault.sched = f.sched := by simp
  have pool : f.moverFault.pool = f.pool := by simp
  have integ : f.moverFault.integ = f.integ := by simp
  rw [State.faultUnlink_eq]
  exact ⟨Eq.trans (touches .sched (by decide)) sched, Eq.trans (touches .pool (by decide)) pool,
    Eq.trans (touches .integ (by decide)) integ, touches .recorder (by decide), touches .extents (by decide),
    touches .mover (by decide)⟩

theorem State.faultUnlink_ctl : s.faultUnlink.ctl = { s.ctl with link := .unlinked, faultMark := true } := by
  have fault := s.faulted.faultDockets.moverFault.silenced_touches .ctl (by decide)
  have mover : s.faulted.faultDockets.moverFault.ctl = s.faulted.faultDockets.ctl := by simp
  have dockets := s.faulted.faultDockets_touches .ctl (by decide)
  rw [State.faultUnlink_eq]
  exact Eq.trans fault (mover.trans dockets)

theorem State.faultUnlink_live (n : Svc) :
    s.faultUnlink.live[n] = { LiveWrite.reset with count := s.live[n].count } := by
  have unlinked : s.faulted.isLinked = false := rfl
  have hushed : Hushed s.faulted s.faulted.faultDockets :=
    .foldl (fun _ unlinked n => State.schedFault_hushed unlinked n) unlinked allServices
  have mover : s.faulted.faultDockets.moverFault.live = s.faulted.faultDockets.live := by simp
  have live : s.faulted.faultDockets.moverFault.live = s.live := mover.trans hushed.live
  rw [State.faultUnlink_eq, State.silenced_live, live]

/-- R157, R199: the fills close in their records. -/
theorem State.faultUnlink_fills :
    s.faultUnlink.mover.work = .idle ∧ s.faultUnlink.mover.updates = [] ∧ s.faultUnlink.mover.late = none ∧
      (∀ n : Svc, s.faultUnlink.recorder[n].current = none ∧ s.faultUnlink.recorder[n].state = .ready) ∧
      ∀ (n : Svc) (x : ExtId), s.recorder[n].current = some x → s.faultUnlink.extents[x] = s.extents[x].unlinked := by
  obtain ⟨-, -, -, recorder, extents, mover⟩ := s.faultUnlink_blocks
  have kept : s.faulted.faultDockets.extents = s.extents := s.faulted.faultDockets_touches .extents (by decide)
  have current := s.faulted.faultDockets_current
  refine ⟨by rw [mover]; rfl, by rw [mover]; rfl, by rw [mover]; rfl, fun n => ?_, fun n x hx => ?_⟩
  · rw [recorder, State.moverFault_recorder]
    exact ⟨rfl, rfl⟩
  · rw [extents, State.moverFault_current _ ((current n).trans hx), kept]

theorem Recorder.unlinked_marks (r : Recorder) : r.unlinked.marks = r.marks ∧ r.unlinked.lostMarks = r.lostMarks :=
  ⟨rfl, rfl⟩

/-- R53, R102, R150: every OPEN segment ends. -/
theorem State.faultUnlink_segmentEnds {s : State} (queue : QueueSound s) {n : Svc} {k : Slot} {b : Body}
    (ho : (s.entry n k).state = .opened) (hb : (s.entry n k).body = some b) :
    SegmentEnds n k b (s.sheetOf n) s s.faultUnlink := by
  obtain ⟨-, pool, integ, recorder, -⟩ := s.faultUnlink_blocks
  have own (m : Svc) : OpenOwn m s.faulted := queue.openOwn m
  have ends : SegmentEnds n k b (s.sheetOf n) s s.faulted.faultDockets := State.faultDockets_segmentEnds own ho hb
  refine ends.of_after pool integ ?_
  rw [recorder, State.moverFault_recorder]
  exact Recorder.unlinked_marks _

end

end Sys2Proof.Machine

namespace Sys2Proof.Machine

/-! ### What the owner of a failed access does (R77, R198, R204) -/

section
variable (s : State)

theorem State.failOwner_docketBody (n : Svc) (k : Slot) :
    (s.failOwner (.docketBody n k)).entry n k = { s.entry n k with validating := none } :=
  (s.modEntry_get n k k _).trans (if_pos rfl)

/-- R77: a failed slot write. -/
theorem State.failOwner_slotWrite (n : Svc) (k : Slot) :
    (s.failOwner (.slotWrite n k)).entry n k = (s.entry n k).writeFailed s.isLinked :=
  (s.modEntry_get n k k _).trans (if_pos rfl)

theorem Entry.writeFailed_linked (e : Entry) :
    e.writeFailed true =
      { e with
        writes := e.writes.map fun w => { w with owed := true }
        handed := false } := rfl

theorem Entry.writeFailed_unlinked {e : Entry} {w : SlotWrite} {ws : List SlotWrite} (writes : e.writes = w :: ws) :
    e.writeFailed false =
      if w.owed then { e with writes := [], handed := false, dropped := true }
      else { e with writes := (w :: ws).map fun v => { v with owed := true } } := by
  unfold Entry.writeFailed
  rw [writes]
  rfl

/-- R204: a failed piece of a periodic write. -/
theorem State.failOwner_livePiece (n : Svc) (i : Nat)
    (fields : (s.live[n].queue[i]?.map LiveItem.isFields).getD false = true) :
    (s.failOwner (.livePiece n i)).live[n] =
      { s.live[n] with queue := s.live[n].queue.take i ++ breakMark (s.live[n].queue.drop (i + 1)) } := by
  have item : ∃ p, s.live[n].queue[i]? = some (.fields p) := by
    cases at_ : s.live[n].queue[i]? with
    | none => rw [at_] at fields; exact nomatch fields
    | some j =>
      rw [at_] at fields
      cases j with
      | fields p => exact ⟨p, rfl⟩
      | entry c part due => exact nomatch fields
      | mark w => exact nomatch fields
      | count v => exact nomatch fields
      | late c ps => exact nomatch fields
  obtain ⟨p, item⟩ := item
  have failed := s.failItem_live n fun _ => i
  rw [failItem_piece _ _ p item] at failed
  exact failed

/-- R204: a failed write of the write count. -/
theorem State.failOwner_writeCount {n : Svc} {q rest : List LiveItem} {v : BitVec 32}
    (queue : s.live[n].queue = q ++ .count v :: rest) (before : q.any LiveItem.isCount = false) :
    (s.failOwner (.writeCount n)).live[n] = { s.live[n] with queue := q ++ rest } := by
  have failed := s.failItem_live n (List.findIdx LiveItem.isCount)
  rw [queue, findIdx_append_cons before rfl, failItem_split] at failed
  exact failed

theorem State.failOwner_commitCount {q rest : List HeaderItem} {v : Nat} (header : s.header = q ++ .commit v :: rest)
    (before : q.any HeaderItem.isCommit = false) : (s.failOwner .commitCount).header = q ++ rest := by
  have failed : (s.failOwner .commitCount).header = s.header.eraseP HeaderItem.isCommit := rfl
  rw [failed, header, eraseP_commit before]

/-- R169: a failed write of an alert's cause abandons the alert. -/
theorem State.failOwner_alertCause :
    (s.failOwner .alertCause).header = s.header.filter (fun i => !i.isCause) ∧
      (s.failOwner .alertCause).alert =
        if s.alert.progress.isSome then { s.alert with progress := none, abandoned := true } else s.alert := by
  have failed : s.failOwner .alertCause = (s.modHeader (List.filter fun i => !i.isCause)).abandonAlert := rfl
  have alert : (s.modHeader (List.filter fun i => !i.isCause)).alert = s.alert := rfl
  rw [failed]
  unfold State.abandonAlert
  rw [alert]
  split <;> exact ⟨rfl, rfl⟩

/-- The controller at a failure below the limit: only a sheet's failed read is noted. -/
theorem State.failOwner_ctl (a : AccessRef) :
    ∃ sheets, (s.failOwner a).ctl = { s.ctl with failedSheets := sheets } ∧
      ∀ n, a = .linkSheet n → sheets = s.ctl.failedSheets ++ [n] := by
  have same {t : State} (ctl : t.ctl = s.ctl) (other : ∀ n, a ≠ .linkSheet n) :
      ∃ sheets, t.ctl = { s.ctl with failedSheets := sheets } ∧
        ∀ n, a = .linkSheet n → sheets = s.ctl.failedSheets ++ [n] :=
    ⟨_, ctl, fun n h => absurd h (other n)⟩
  cases a with
  | linkSheet n => exact ⟨_, rfl, fun m h => by cases h; rfl⟩
  | commandWord n k => exact same rfl nofun
  | docketBody n k => exact same rfl nofun
  | slotWrite n k => exact same rfl nofun
  | sheetRead n => exact same rfl nofun
  | ackCount r => exact same rfl nofun
  | captureAck n => exact same rfl nofun
  | devicePriorities => exact same rfl nofun
  | linkHeader => exact same rfl nofun
  | linkWrite => exact same rfl nofun
  | livePiece n i => exact same rfl nofun
  | writeCount n => exact same rfl nofun
  | commitCount => exact same rfl nofun
  | descriptorRead => exact same (by simp [State.failOwner]) nofun
  | descriptorUpdate x => exact same (by simp [State.failOwner]) nofun
  | unitWrite => exact same (by simp [State.failOwner]) nofun
  | entryWrite r => exact same (by simp [State.failOwner]) nofun
  | alertCause => exact same (by simp [State.failOwner]) nofun

end

/-! ### A failure counted (R198, R199) -/

/-- The count of a failure leaves the queues, the panels, the Alert Unit and host memory alone. -/
theorem State.countFailure_kept (s : State) :
    s.countFailure.live = s.live ∧ s.countFailure.header = s.header ∧ s.countFailure.alert = s.alert ∧
      s.countFailure.host = s.host ∧ ∀ r, s.countFailure.cond r = s.cond r :=
  ⟨rfl, rfl, rfl, rfl, s.modCtl_cond _⟩

theorem State.countFailure_ctl (s : State) :
    s.countFailure.ctl =
      { s.ctl with
        consecutive := satInc 8 s.ctl.consecutive
        total := satInc 65535 s.ctl.total } := rfl

theorem State.failFlying_counted (s : State) (a : AccessRef) :
    s.failFlying a =
      if satInc 8 s.ctl.consecutive = 8 then s.countFailure.faultUnlink else s.countFailure.failOwner a := by
  unfold State.failFlying
  dsimp only
  rw [State.countFailure_ctl]
  rfl

/-- The part once the completions stated and the failure itself have been counted. -/
def State.failing (s : State) (d : Completions) : State := (s.completed d).countFailure

section
variable (s : State) (d : Completions)

theorem State.failing_touches :
    Touches [.host, .live, .header, .panel, .devPanel, .alert, .ctl] s (s.failing d) :=
  Touches.trans ((s.completed_touches d).mono (by decide)) ((s.completed d).countFailure_touches.mono (by decide))

theorem State.failing_ctl :
    (s.failing d).ctl =
      { (s.completed d).ctl with
        consecutive := satInc 8 (s.completed d).ctl.consecutive
        total := satInc 65535 s.ctl.total } := by
  obtain ⟨row, done, ctl⟩ := State.completed_ctl (s := s) d
  have total : (s.completed d).ctl.total = s.ctl.total := by rw [ctl]
  rw [← total]
  exact (s.completed d).countFailure_ctl

theorem State.failing_link :
    (s.failing d).ctl.link = s.ctl.link ∧ (s.failing d).ctl.faultMark = s.ctl.faultMark ∧
      (s.failing d).ctl.failedSheets = s.ctl.failedSheets ∧ (s.failing d).isLinked = s.isLinked := by
  obtain ⟨row, done, ctl⟩ := State.completed_ctl (s := s) d
  have counted := s.failing_ctl d
  rw [ctl] at counted
  refine ⟨by rw [counted], by rw [counted], by rw [counted], ?_⟩
  unfold State.isLinked
  rw [counted]

theorem State.failing_entry (n : Svc) (k : Slot) : (s.failing d).entry n k = s.entry n k :=
  State.entry_of_sched (s.failing_touches d .sched (by decide)) n k

theorem State.failing_completed :
    (s.failing d).live = (s.completed d).live ∧ (s.failing d).header = (s.completed d).header ∧
      (s.failing d).alert = (s.completed d).alert ∧ (s.failing d).host = (s.completed d).host ∧
      ∀ r, (s.failing d).cond r = (s.completed d).cond r :=
  (s.completed d).countFailure_kept

/-- R198, R199: the eighth failure in a row unlinks the part, one before it is its owner's. -/
theorem State.failFlying_eq (a : AccessRef) :
    (s.completed d).failFlying a =
      if satInc 8 (s.completed d).ctl.consecutive = 8 then (s.failing d).faultUnlink else (s.failing d).failOwner a :=
  (s.completed d).failFlying_counted a

theorem State.failFlying_parts (a : AccessRef) :
    let t := (s.completed d).failFlying a
    t.ctl.consecutive = satInc 8 (s.completed d).ctl.consecutive ∧ t.ctl.total = satInc 65535 s.ctl.total ∧
      t.host = (s.completed d).host := by
  have counted := s.failing_ctl d
  obtain ⟨-, -, -, host, -⟩ := s.failing_completed d
  obtain ⟨f, hf⟩ : ∃ f, f = s.failing d := ⟨_, rfl⟩
  dsimp only
  rw [s.failFlying_eq d a, ← hf]
  rw [← hf] at counted host
  have row : f.ctl.consecutive = satInc 8 (s.completed d).ctl.consecutive := by rw [counted]
  have total : f.ctl.total = satInc 65535 s.ctl.total := by rw [counted]
  rw [← row, ← total, ← host]
  split
  · rw [State.faultUnlink_ctl]
    exact ⟨rfl, rfl, by simp⟩
  · obtain ⟨sheets, ctl, -⟩ := f.failOwner_ctl a
    rw [ctl]
    exact ⟨rfl, rfl, by simp⟩

/-- R169: the alert in progress waits for an entry whose write fails. -/
theorem State.failing_alertAfter (r : CondRef) :
    (s.failing d).alertAfter r =
      if (s.isLinked && ((s.completed d).alert.progress.map fun run => run.waits.contains r).getD false) = true then
        { (s.completed d).alert with progress := none, abandoned := true }
      else (s.completed d).alert := by
  obtain ⟨-, -, -, linked⟩ := s.failing_link d
  obtain ⟨-, -, alert, -⟩ := s.failing_completed d
  unfold State.alertAfter State.entryAbandons
  rw [linked, alert]

theorem satInc_limit {row : Nat} (h : row < 7) : satInc 8 row ≠ 8 := by
  unfold satInc
  split <;> omega

theorem satInc_reaches {row : Nat} (h : 7 ≤ row) (top : row ≤ 8) : satInc 8 row = 8 := by
  unfold satInc
  split <;> omega

end

theorem breakMark_unmarked {q : List LiveItem} (none : ∀ i ∈ q, i.isEnd = false) : breakMark q = q := by
  induction q with
  | nil => rfl
  | cons i q ih =>
    rw [breakMark, none i List.mem_cons_self, ih fun j hj => none j (List.mem_cons_of_mem i hj)]
    rfl

end Sys2Proof.Machine

namespace Sys2Proof.Machine

/-! ### A failure below the limit (R77, R134, R143, R147, R148, R152, R169, R171, R204) -/

/-- The part f at which an access fails: the blocks are those of s, the queues, the panels and the Alert Unit those that the
completions have left in u. -/
structure Failing (s u f : State) : Prop where
  linked : f.isLinked = s.isLinked
  entry : ∀ n k, f.entry n k = s.entry n k
  mover : f.mover = s.mover
  extents : f.extents = s.extents
  recorder : f.recorder = s.recorder
  proxy : f.proxy = s.proxy
  live : f.live = u.live
  header : f.header = u.header
  alert : f.alert = u.alert
  cond : ∀ r, f.cond r = u.cond r
  raises : ∀ n c, f.raises n c = s.raises n c
  progress : u.alert.progress.isSome = s.alert.progress.isSome
  waited : ∀ r, f.alertAfter r =
    if (s.isLinked && (u.alert.progress.map fun run => run.waits.contains r).getD false) = true then
      { u.alert with progress := none, abandoned := true }
    else u.alert

theorem State.failing_fails (s : State) (d : Completions) : Failing s (s.completed d) (s.failing d) := by
  obtain ⟨-, -, -, linked⟩ := s.failing_link d
  obtain ⟨live, header, alert, -, cond⟩ := s.failing_completed d
  have touches := s.failing_touches d
  refine ⟨linked, s.failing_entry d, touches .mover (by decide), touches .extents (by decide), touches .recorder (by decide),
    touches .proxy (by decide), live, header, alert, cond, fun n c => ?_, State.completed_progress d,
    s.failing_alertAfter d⟩
  rw [← State.completed_svcCond_raises (s := s) d n c]
  exact congrArg CondEntry.raises (cond (.service n c))

section
variable {s u f : State} (h : Failing s u f)
include h

/-- R77: the docket of a failed body read, and the writes of a slot. -/
theorem Failing.dockets (n : Svc) (k : Slot) :
    (f.failOwner (.docketBody n k)).entry n k = { s.entry n k with validating := none } ∧
    (s.isLinked = true →
      (f.failOwner (.slotWrite n k)).entry n k =
        { s.entry n k with
          writes := (s.entry n k).writes.map fun w => { w with owed := true }
          handed := false }) ∧
    ∀ w ws, s.isLinked = false → (s.entry n k).writes = w :: ws →
      (f.failOwner (.slotWrite n k)).entry n k =
        if w.owed then { s.entry n k with writes := [], handed := false, dropped := true }
        else { s.entry n k with writes := (w :: ws).map fun v => { v with owed := true } } := by
  refine ⟨?_, fun linked => ?_, fun w ws unlinked writes => ?_⟩
  · rw [State.failOwner_docketBody, h.entry]
  · rw [State.failOwner_slotWrite, h.linked, linked, h.entry, Entry.writeFailed_linked]
  · rw [State.failOwner_slotWrite, h.linked, unlinked, h.entry, Entry.writeFailed_unlinked writes]

/-- R169, R171: the entry of a device condition. -/
theorem Failing.deviceEntry (k : DevCond) :
    let t := f.failOwner (.entryWrite (.device k))
    t.cond (.device k) = (if s.isLinked then { u.cond (.device k) with owed := true } else u.cond (.device k)) ∧
      t.header = u.header.filter (fun i => !i.isEntry k) ∧ t.alert = f.alertAfter (.device k) := by
  have failed := f.entryWriteFailed_device k
  dsimp only at failed
  rw [h.linked, h.cond, h.header] at failed
  exact failed

variable {n : Svc} {k : SvcCond} {q rest : List LiveItem}

theorem Failing.lateEntry (unlinked : s.isLinked = false) {ps : List Piece} (queue : u.live[n].queue = q ++ .late k ps :: rest)
    (before : q.any (LiveItem.isEntry k) = false) :
    let t := f.failOwner (.entryWrite (.service n k))
    t.live[n].queue = q ++ rest ∧ t.svcCond n k = u.svcCond n k ∧ t.alert = u.alert := by
  have failed := State.entryWriteFailed_late (s := f) (h.linked.trans unlinked) (by rw [h.live]; exact queue) before
  have cond : f.svcCond n k = u.svcCond n k := h.cond (.service n k)
  rw [cond, h.alert] at failed
  exact failed

theorem Failing.serviceEntry (linked : s.isLinked = true) {part due : Bool}
    (queue : u.live[n].queue = q ++ .entry k part due :: rest) (before : q.any (LiveItem.isEntry k) = false) :
    let t := f.failOwner (.entryWrite (.service n k))
    let left := q ++ (if part then breakMark rest else rest)
    (left.any (LiveItem.isEntry k) = true → t.live[n].queue = dueFirst k left ∧ t.svcCond n k = u.svcCond n k) ∧
      (left.any (LiveItem.isEntry k) = false →
        t.live[n].queue = left ∧ t.svcCond n k = { u.svcCond n k with owed := true }) ∧
      t.alert = f.alertAfter (.service n k) := by
  have failed := State.entryWriteFailed_entry (s := f) (h.linked.trans linked) (by rw [h.live]; exact queue) before
  have cond : f.svcCond n k = u.svcCond n k := h.cond (.service n k)
  rw [cond] at failed
  exact failed

/-- R204: a piece of a periodic write, and a write count. -/
theorem Failing.livePiece {i : Nat} (fields : (u.live[n].queue[i]?.map LiveItem.isFields).getD false = true) :
    (f.failOwner (.livePiece n i)).live[n] =
      { u.live[n] with queue := u.live[n].queue.take i ++ breakMark (u.live[n].queue.drop (i + 1)) } := by
  have failed := f.failOwner_livePiece n i (by simpa only [h.live] using fields)
  simpa only [h.live] using failed

theorem Failing.writeCount {v : BitVec 32} (queue : u.live[n].queue = q ++ .count v :: rest)
    (before : q.any LiveItem.isCount = false) :
    (f.failOwner (.writeCount n)).live[n] = { u.live[n] with queue := q ++ rest } := by
  have failed := f.failOwner_writeCount (n := n) (by rw [h.live]; exact queue) before
  rwa [h.live] at failed

theorem Failing.alertCause :
    (f.failOwner .alertCause).header = u.header.filter (fun i => !i.isCause) ∧
      (f.failOwner .alertCause).alert =
        if s.alert.progress.isSome then { u.alert with progress := none, abandoned := true } else u.alert := by
  have failed := f.failOwner_alertCause
  rwa [h.header, h.alert, h.progress] at failed

/-- R134, R157: a unit write. -/
theorem Failing.unitWrite (n : Svc) :
    let t := f.failOwner .unitWrite
    t.proxy = s.proxy ∧ (s.isLinked = true → TurnEnded s.mover t) ∧
      (s.isLinked = true → s.mover.retests = [] → t.mover = { s.mover with work := .idle }) ∧
      (s.isLinked = false → t.mover.work = .idle ∧ t.recorder[n].current = none ∧ t.recorder[n].state = .ready) := by
  have failed : f.failOwner .unitWrite = f.unitWriteFailed := rfl
  dsimp only
  rw [failed, ← h.mover]
  refine ⟨f.unitWriteFailed_proxy.trans h.proxy, fun linked => ?_, fun linked none => ?_, fun unlinked => ?_⟩
  · rw [State.unitWriteFailed_linked (h.linked.trans linked)]
    exact f.turnEnd_ended
  · rw [State.unitWriteFailed_linked (h.linked.trans linked)]
    exact f.turnEnd_idle none
  · obtain ⟨us, mover⟩ := f.unlinkFills_mover
    rw [State.unitWriteFailed_unlinked (h.linked.trans unlinked), mover, State.unlinkFills_recorder]
    exact ⟨rfl, rfl, rfl⟩

/-- R147, R148, R157: a descriptor update. -/
theorem Failing.descriptorUpdate {x : ExtId} {w : DescUpdate} {us vs : List DescUpdate}
    (updates : s.mover.updates = us ++ w :: vs) (hw : w.extent = x) (first : ∀ v ∈ us, v.extent ≠ x) :
    let t := f.failOwner (.descriptorUpdate x)
    let m := { s.mover with updates := us ++ vs }
    (s.isLinked = false →
      t.recorder = s.recorder ∧ t.extents = s.extents ∧
      t.mover = if w.again then m else { m with updates := us ++ vs ++ [⟨x, s.extents[x], true⟩] }) ∧
    (s.isLinked = true → ∀ n,
      (s.mover.work = .owedUpdate n x → t.recorder[n].owed = s.recorder[n].owed ∧ TurnEnded m t) ∧
      (∀ retest, s.mover.work = .openUpdate n x retest →
        t.recorder[n].owed = some x ∧ (s.extents[x].code ≠ 0 → TurnEnded m t)) ∧
      (s.mover.work = .boundaryUpdate n x →
        t.recorder[n].owed = some x ∧ t.mover = { m with work := .boundaryRead n x false }) ∧
      (s.mover.work = .closeUpdate n x → t.recorder[n].owed = some x ∧ TurnEnded m t)) := by
  have queued : f.mover.updates = us ++ w :: vs := by rw [h.mover]; exact updates
  refine ⟨fun unlinked => ?_, fun linked n => ?_⟩
  · have failed := State.updateFailed_unlinked queued hw first (h.linked.trans unlinked)
    dsimp only at failed
    rw [h.mover, h.recorder, h.extents] at failed
    exact failed
  · have failed := State.updateFailed_linked queued hw first (h.linked.trans linked) n
    dsimp only at failed
    rw [h.mover, h.recorder, h.extents] at failed
    exact failed

/-- R143, R148, R152: a read of a descriptor. -/
theorem Failing.descriptorRead (linked : s.isLinked = true) :
    let t := f.failOwner .descriptorRead
    (∀ n retest ow x rest, s.mover.work = .walk n retest ow x rest → TurnEnded s.mover t ∧ t.extents = s.extents) ∧
    (∀ n x resume, s.mover.work = .boundaryRead n x resume →
      TurnEnded s.mover t ∧ t.extents = s.extents ∧ t.recorder[n].boundary = s.recorder[n].boundary) ∧
    ∀ n x y rest found write, s.mover.work = .lastBlock n x y rest found write →
      (∀ z zs, rest = z :: zs → t.mover = { s.mover with work := .lastBlock n x z zs found write }) ∧
      (rest = [] →
        t.extents[x] = { s.extents[x] with lastBlock := true } ∧
        t.raises n .extentWarning = s.raises n .extentWarning + (if found then 0 else 1) ∧
        if write then t.mover = { s.mover with work := .unitWrite n } else TurnEnded s.mover t) := by
  have failed := State.descriptorReadFailed_linked (h.linked.trans linked)
  dsimp only at failed
  simp only [h.mover, h.recorder, h.extents, h.raises] at failed
  exact failed

end

/-! ### The eighth failure in a row (R102, R157, R199) -/

/-- R53, R102, R199: what a fault unlink leaves, read from the part at which the access fails. -/
theorem State.faultUnlink_leaves (f : State) :
    let t := f.faultUnlink
    t.ctl.link = .unlinked ∧ t.ctl.faultMark = true ∧ t.mover.work = .idle ∧ t.mover.updates = [] ∧
      t.mover.late = none ∧ t.alert.progress = none ∧ t.header = [] ∧
      (∀ r, (t.cond r).timer = none ∧ (t.cond r).owed = false) ∧
      ∀ n : Svc,
        t.sched[n] = { Sched.reset with unmatched := f.sched[n].unmatched } ∧ t.recorder[n].current = none ∧
        t.recorder[n].state = .ready ∧ t.live[n] = { LiveWrite.reset with count := f.live[n].count } := by
  intro t
  obtain ⟨work, updates, late, recorders, -⟩ := f.faultUnlink_fills
  obtain ⟨sched, -⟩ := f.faultUnlink_blocks
  obtain ⟨progress, header⟩ := f.faulted.faultDockets.moverFault.silenced_alert
  have ctl : t.ctl = _ := f.faultUnlink_ctl
  refine ⟨by rw [ctl], by rw [ctl], work, updates, late, progress, header,
    f.faulted.faultDockets.moverFault.silenced_cond,
    fun n => ⟨?_, (recorders n).1, (recorders n).2, f.faultUnlink_live n⟩⟩
  change f.faultUnlink.sched[n] = _
  rw [sched]
  exact f.faulted.faultDockets_sched n

end Sys2Proof.Machine

namespace Sys2Proof.Machine

section
variable {s : State} (d : Completions)

/-- R204: no completion counts a write of a live block. -/
theorem State.completed_count (n : Svc) : (s.completed d).live[n].count = s.live[n].count := by
  by_cases any : s.handAlert.anyCompleted d = true
  · by_cases carries : s.carries = true
    · obtain ⟨-, -, -, lives⟩ := State.completed_carries d any carries
      rw [lives n]
    · obtain ⟨-, live, -⟩ := State.completed_dark d any (Bool.eq_false_iff.mpr carries)
      simp only [live]
  · rw [State.completed_none d (Bool.eq_false_iff.mpr any)]
    exact s.handAlert_count n

/-- Only what an access in flight of a live block is can be a piece of its periodic write. -/
theorem State.inFlight_livePiece {n : Svc} {i : Nat} (flying : s.inFlight (.livePiece n i) = true) :
    (s.live[n].queue[i]?.map LiveItem.isFields).getD false = true := (Bool.and_eq_true_iff.mp flying).2

/-- R53, R102, R150: every OPEN segment ends with the eighth failure. -/
theorem State.failing_segmentEnds (queue : QueueSound s) {n : Svc} {k : Slot} {b : Body}
    (ho : (s.entry n k).state = .opened) (hb : (s.entry n k).body = some b) :
    SegmentEnds n k b (s.sheetOf n) s (s.failing d).faultUnlink := by
  have touches := s.failing_touches d
  have entry := s.failing_entry d
  obtain ⟨f, hf⟩ : ∃ f, f = s.failing d := ⟨_, rfl⟩
  rw [← hf] at touches entry ⊢
  have pool : f.pool = s.pool := touches .pool (by decide)
  have integ : f.integ = s.integ := touches .integ (by decide)
  have sheet : f.sheetOf n = s.sheetOf n := by
    unfold State.sheetOf
    rw [touches .sheet (by decide)]
  have sound : QueueSound f := by
    unfold QueueSound at *
    simpa only [pool, integ, entry] using queue
  have ends := State.faultUnlink_segmentEnds sound (n := n) (k := k) (by rw [entry]; exact ho) (by rw [entry]; exact hb)
  rw [sheet] at ends
  exact ends.of_same (entry n k) pool integ (touches .recorder (by decide))

/-- R102, R157, R199: the eighth failure in a row. -/
theorem State.failing_unlinks :
    let t := (s.failing d).faultUnlink
    t.ctl.link = .unlinked ∧ t.ctl.faultMark = true ∧ t.mover.work = .idle ∧ t.mover.updates = [] ∧
      t.mover.late = none ∧ t.alert.progress = none ∧ t.header = [] ∧
      (∀ r, (t.cond r).timer = none ∧ (t.cond r).owed = false) ∧
      (∀ n : Svc,
        t.sched[n] = { Sched.reset with unmatched := s.sched[n].unmatched } ∧ t.recorder[n].current = none ∧
        t.recorder[n].state = .ready ∧ t.live[n] = { LiveWrite.reset with count := s.live[n].count }) ∧
      (DocketsSound s → QueueSound s → ∀ (n : Svc) (k : Slot) (b : Body),
        (s.entry n k).state = .opened → (s.entry n k).body = some b → SegmentEnds n k b (s.sheetOf n) s t) ∧
      ∀ (n : Svc) (x : ExtId), s.recorder[n].current = some x →
        t.extents[x] = { s.extents[x] with state := .full, cause := some .unlink } := by
  have fails := s.failing_fails d
  have sched : (s.failing d).sched = s.sched := s.failing_touches d .sched (by decide)
  have count (n : Svc) : (s.failing d).live[n].count = s.live[n].count := by
    simp only [fails.live]
    exact State.completed_count d n
  obtain ⟨link, mark, work, updates, late, progress, header, conds, lanes⟩ := (s.failing d).faultUnlink_leaves
  obtain ⟨-, -, -, -, fills⟩ := (s.failing d).faultUnlink_fills
  refine ⟨link, mark, work, updates, late, progress, header, conds, fun n => ?_,
    fun _ queue n k b ho hb => State.failing_segmentEnds d queue ho hb, fun n x hx => ?_⟩
  · have lane := lanes n
    rw [sched, count] at lane
    exact lane
  · rw [fills n x (by rw [fails.recorder]; exact hx), fails.extents]
    rfl

end

theorem exec_failAccess {s : State} {a : AccessRef} {d : Completions} {c : Instr} (power : s.powered = true)
    (hc : c = .accessFailure ⟨a, d⟩ ∨ c = .accessTimeout ⟨a, d⟩) : exec c s = .next (s.failAccess a d) := by
  rcases hc with rfl | rfl
  · exact exec_effectOf (.accessFailure ⟨a, d⟩) power nofun
  · exact exec_effectOf (.accessTimeout ⟨a, d⟩) power nofun

/-- Settles O51: the completions (`State.completed_carries`, `State.completed_dark`), the failure counted
(`State.failFlying_parts`), its owner below the limit (`Failing`) and the fault unlink (`State.failing_unlinks`). -/
theorem accessFailure : Obligations.AccessFailure := by
  refine ⟨fun s a d c power hc quiet => ?_, fun s d => ?_, fun s a d c power hc flying => ?_, fun q rest whole none => ?_⟩
  · rw [exec_failAccess power hc, State.failAccess, quiet]
    rfl
  · exact ⟨(s.completed_touches d).mono (by decide), State.completed_cond d, State.completed_host d,
      .of_writePieces (State.completed_host d), State.completed_none d, State.completed_carries d,
      State.completed_dark d⟩
  · have effect : exec c s = .next ((s.completed d).failFlying a) := by
      rw [exec_failAccess power hc, State.failAccess, if_pos flying]
    obtain ⟨consecutive, total, host⟩ := s.failFlying_parts d a
    refine ⟨_, effect, consecutive, total, host, fun below => ?_, fun least most => ?_⟩
    · have owner := s.failFlying_eq d a
      rw [if_neg (satInc_limit below)] at owner
      rw [owner]
      have fails := s.failing_fails d
      have counted := s.failing_ctl d
      have same : s.failing d = { s.completed d with ctl := (s.failing d).ctl } := rfl
      rw [counted] at same
      obtain ⟨link, mark, sheets, -⟩ := s.failing_link d
      obtain ⟨f, hf⟩ : ∃ f, f = s.failing d := ⟨_, rfl⟩
      rw [← hf] at fails same link mark sheets ⊢
      obtain ⟨failed, ctl, noted⟩ := f.failOwner_ctl a
      refine ⟨by rw [ctl]; exact link, by rw [ctl]; exact mark,
        ?_, ?_, ?_, ?_, ?_, ?_, ?_, ?_, ?_, ?_, ?_, ?_, ?_, ?_, ?_, ?_⟩
      · rintro (⟨n, k, rfl⟩ | ⟨n, rfl⟩ | ⟨r, rfl⟩ | ⟨n, rfl⟩ | rfl | rfl | rfl) <;> exact same
      · rintro n k rfl
        exact (fails.dockets n k).1
      · rintro n k rfl linked
        exact (fails.dockets n k).2.1 linked
      · rintro n k w ws rfl unlinked writes
        exact (fails.dockets n k).2.2 w ws unlinked writes
      · rintro k rfl
        rw [← fails.waited]
        exact fails.deviceEntry k
      · rintro n k q rest ps rfl unlinked queue before
        exact fails.lateEntry unlinked queue before
      · rintro n k q rest part due rfl linked queue before
        rw [← fails.waited]
        exact fails.serviceEntry linked queue before
      · rintro n i rfl
        exact fails.livePiece (State.inFlight_livePiece flying)
      · rintro n q rest v rfl queue before
        exact fails.writeCount queue before
      · rintro q rest v rfl header before
        exact f.failOwner_commitCount (fails.header.trans header) before
      · rintro rfl
        exact fails.alertCause
      · intro n hn
        rw [ctl, ← sheets]
        exact noted n hn
      · rintro n rfl -
        exact fails.unitWrite n
      · rintro x w us vs rfl updates hw first
        exact fails.descriptorUpdate updates hw first
      · rintro rfl unlinked
        rw [← fails.mover]
        exact State.descriptorReadFailed_unlinked (fails.linked.trans unlinked)
      · rintro rfl linked
        exact fails.descriptorRead linked
    · have fault := s.failFlying_eq d a
      rw [if_pos (satInc_reaches least most)] at fault
      rw [fault]
      exact State.failing_unlinks d
  · exact ⟨breakMark_unmarked none, breakMark_behind q rest whole none⟩

end Sys2Proof.Machine
